-- ==== Sys2Proof/Word.lean ====
section
/-! DEFINITION. Sys2Proof/Word.lean: the words, bytes and small index types of the FY3264, and the plain-data shapes
(registers, fields, sparse maps) that the rest of the model is written with.

Registers are 32 bits wide unless their map states 64 (R12); every register is held here in one 64-bit word whose
upper half is 0 for a 32-bit register. -/
namespace Sys2Proof

/-- A 64-bit word: a general register of a Lens core, or the contents of one device register (R12). -/
abbrev Word := BitVec 64
/-- A byte (R9). -/
abbrev Byte := BitVec 8
/-- A 32-bit word. -/
abbrev Word32 := BitVec 32

/-- Bay index b, 0 to 31 (R10). -/
abbrev Bay := Fin 32
/-- Actuator index a within a bay, 0 or 1 (R10). -/
abbrev Act := Fin 2
/-- Slice index k = 2b + a, 0 to 63 (R10). -/
abbrev Slice := Fin 64
/-- Lens core number, 0 to 15 (R17). -/
abbrev Core := Fin 16
/-- General register number of a Lens core, 0 to 31. -/
abbrev GReg := Fin 32
/-- Lightpipe number, LP0 to LP1023. -/
abbrev Lp := Fin 1024
/-- Host port p, 0 or 1. -/
abbrev Port := Fin 2
/-- Session ID, 0 to 16,383. -/
abbrev Sid := BitVec 14

/-- One device register: its physical address and its value after cold reset (R16). -/
structure Reg where
  addr : Nat
  reset : Word
  deriving DecidableEq, Repr

/-- One field REGISTER.FIELD: the register it lies in, its lowest bit and its width. -/
structure Fld where
  reg : Reg
  lo : Nat
  width : Nat
  deriving DecidableEq, Repr

/-- The access codes of the Access codes table (R13). `vw` is the vital-word rule (R497), `gain` the gain-store rule (R177). -/
inductive Acc where
  | rw | ro | w1c | w1s | wo | rws | rwl | vw | gain
  deriving DecidableEq, Repr

/-- One field of a register map's row: lowest bit, width and access code. -/
structure FldRow where
  lo : Nat
  width : Nat
  acc : Acc
  deriving DecidableEq, Repr

/-- One row of a register layout table: the first register of the row, the (stride, count) of each of its indices
from the outermost in, whether it is 64 bits wide, its value after cold reset as a function of its indices, and its fields. -/
structure RegRow where
  base : Nat
  strides : List (Nat × Nat)
  wide : Bool
  reset : List Nat → Nat
  flds : List FldRow

/-- A sparse map from natural-number keys: pairs in strictly rising key order, no value equal to the default the
map is read with. An unlisted key reads as that default. -/
abbrev SMap (α : Type) := List (Nat × α)

end Sys2Proof
end

