-- ==== Sys2Proof/Operand.lean ====
section
/-! DEFINITION. Sys2Proof/Operand.lean: the shapes of the operands that commands carry from outside the block:
frames received, measurements taken, verdicts of cryptographic checks, descriptions of accesses. -/
namespace Sys2Proof

/-- The ordering codes of R1. -/
inductive Part where
  | fy3264s | fy3264x | fy3232s
  deriving DecidableEq, Repr

/-- The board's input clocks (R36). -/
inductive ClockIn where
  | sysref | brefclk | hrefclk
  deriving DecidableEq, Repr

/-- A requester of a register or memory access (R12, R38, R41). -/
inductive Agent where
  | core (c : Core)
  | dma (d : Fin 4) (i : Fin 16)
  | prism (e : Fin 8)
  | cipher (c : Fin 8)
  | hostPort (p : Port)
  | slice (k : Slice)
  | loupe
  deriving DecidableEq, Repr

/-- The three lanes of a Beam link (R73). -/
inductive Lane where
  | u0 | u1 | d
  deriving DecidableEq, Repr

/-- The bridge identity block (R103), the words that the device uses. -/
structure BridgeId where
  version : BitVec 32 := 0x00010000
  maker : BitVec 16 := 0
  model : BitVec 128 := 0
  serial : BitVec 128 := 0
  heads0 : Nat := 0
  heads1 : Nat := 0
  nw : Nat := 512
  poles : Nat := 0
  latSample : Nat := 0
  latWg : Nat := 0
  latLaser : Nat := 0
  latHeater : Nat := 0
  latHold : Nat := 0
  latAux : Nat := 0
  turn : Nat := 0
  inertia : Nat := 0
  vcmMa : Nat := 0
  laserUa : Nat := 0
  laserLim0 : Nat := 4095
  laserLim1 : Nat := 4095
  pcStepPs : Nat := 0
  chain : List Byte := []
  deriving DecidableEq, Repr

/-- What a completed training step measured (R100, R101). -/
inductive TrainMeasure where
  /-- Steps 2 and 3: signal, block lock and frame lock found on U0 and U1. -/
  | lock (signal blockLock frameLock : Bool)
  /-- Step 4: over 16 frames, the interval from the downstream frame start at D to the upstream frame start at U0 in
  UI, U1's start less U0's start in UI, and the TURN that the bridge declared. -/
  | rtt (intervals : List Nat) (skews : List Int) (turn : Nat)
  /-- Step 5: 16 frames checked at the exact expected position; the identity block that the bay unit takes as the
  link reaches IDENT (R454). -/
  | pad (exact : Bool) (id : BridgeId)
  deriving DecidableEq, Repr

/-- An upstream frame as received on U0 or U1 (R75, R76, R87): whether it began at its expected position and whether its 120
sync headers are valid, then its fields, bytes 956 to 959 among them. -/
structure UpFrame where
  posOk : Bool := true
  headersOk : Bool := true
  typ : Byte := 0xD2
  lane : BitVec 2 := 0
  wsafe : Bool := false
  flt : Bool := false
  dnbad : Bool := false
  fsn : BitVec 16 := 0
  ns : BitVec 11 := 0
  servo : List (BitVec 16) := [0, 0, 0, 0]
  phase : List (BitVec 16) := [0, 0, 0, 0]
  tlmIndex : Byte := 0
  tlmValid : Bool := false
  tlmValue : BitVec 32 := 0
  responses : List (BitVec 64) := []
  samp : List (BitVec 6) := []
  crc : BitVec 32 := 0
  /-- The frame's start lay one UI or more from its expected position (R102). -/
  slip : Bool := false
  deriving DecidableEq, Repr

/-- What the detector and the LDPC decoder make of a sector's samples (R131, steps 1 to 5, whose filters and tables are analog or
unstated): the 4,428 bytes of the codeword they end at, still scrambled, and the local iterations spent. Whether it is a
codeword, what it says and whether its CRC matches is the model's to find. -/
structure SectorRead where
  word : List Byte := []
  iters : Nat := 1
  deriving DecidableEq, Repr

/-- A Facet (R139): of channel slice k, of Reticle engine k, or of commutation engine b. -/
inductive FacetId where
  | slice (k : Slice)
  | reticle (k : Slice)
  | comm (b : Bay)
  deriving DecidableEq, Repr

/-- What an error-correcting code found on a read (R154, R492). -/
inductive CodeCheck where
  | clean | correctable | uncorrectable
  deriving DecidableEq, Repr

/-- A DMA channel: engine d, channel i. -/
structure DmaCh where
  d : Fin 4
  i : Fin 16
  deriving DecidableEq, Repr

/-- What the device reads from a bridge at attach (R223, R227, R231, R243): the public key of its leaf certificate, the 256 bytes
of the store header, copies A and B of the 32-byte head records by 16a + h, the 1,024-byte calibration sets by 16a + h, and
copies A and B of the 64-byte actuator records by a. -/
structure BridgeLife where
  pubKey : List Byte := []
  header : List Byte := []
  copyA : List (Nat × List Byte) := []
  copyB : List (Nat × List Byte) := []
  sets : List (Nat × List Byte) := []
  actA : List (Nat × List Byte) := []
  actB : List (Nat × List Byte) := []
  deriving DecidableEq, Repr

/-- The calibration types (R242). -/
inductive CalType where
  | skew | pesLin | heater | laser | writeCurrent | equaliser | plant | winding
  deriving DecidableEq, Repr

/-- What a calibration piece measured (R236, R242): whether its repeats agree, its values in the order of the table's
Values column, its table of points, taps or coefficients, and the touchdowns it made. For type 3 the third value is the
touchdown level; for type 6 the values are zone, threshold and baseline noise σ; for type 7 `nominal` holds the nominal
A and B from the declared VCM full scale. -/
structure CalResult where
  agreed : Bool := true
  values : List Int := []
  table : List Int := []
  nominal : List Int := []
  touchdowns : Nat := 0
  deriving DecidableEq, Repr

/-- A servo field as demodulated (R167): whether its SAM was found, whether both parity cells match, the decoded track
and the position error as bursts N and Q give it, before linearisation. -/
structure ServoSmp where
  found : Bool := true
  parityOk : Bool := true
  track : BitVec 24 := 0
  pes : BitVec 16 := 0
  deriving DecidableEq, Repr

/-- The condition lines of an engine that its datapath or its outside gives a Facet (R164): TSEL conditions by number
and the 4-bit dispatch source. Lines that follow from the device's state are taken from the state. -/
structure FacetEnv where
  conds : BitVec 16 := 0
  dispatch : BitVec 4 := 0
  deriving DecidableEq, Repr

/-! ### Redundancy (R266 to R303) -/

/-- A band set record (R266). `state`: 0 free, 1 filling, 2 sealed, 3 compacting; `live` in bytes; `members` are BANDs. -/
structure BandSet where
  layout : Nat := 0
  k : Nat := 0
  m : Nat := 0
  state : Nat := 0
  u : Nat := 256
  next : Nat := 0
  epoch : Nat := 0
  live : Nat := 0
  members : List Nat := []
  deriving DecidableEq, Repr

/-- An extent of an object (R268). -/
structure Extent where
  obj : BitVec 128 := 0
  off : Nat := 0
  len : Nat := 0
  addr : Nat := 0
  gen : Nat := 0
  deriving DecidableEq, Repr

/-- A metadata item with its new image, as a DELTA record carries it, and the change of an EPOCH record (R271, R275, R281). -/
inductive Delta where
  | band (entry : BitVec 256)
  | set (bsid : Nat) (x : Option BandSet)
  | index (obj : BitVec 128) (l : List Extent)
  | free (hport : Nat) (l : List Nat)
  | draws (layout n : Nat)
  | arms (ks : List Nat) (st : Nat)
  | reshape (old new k m ucode seed : Nat)
  | layoutEmpty (l : Nat)
  | key (obj : Nat) (wrapped : Option (BitVec 320))
  | format (hport : Nat)
  deriving DecidableEq, Repr

/-- A Mirror journal record (R275). `ty`: 1 INTENT, 2 DONE, 3 DELTA, 4 DEGRADED, 5 LOST, 6 EPOCH, 7 PAD. -/
structure JRec where
  jseq : Nat := 0
  ty : Nat := 0
  layout : Nat := 0
  filled : Nat := 0
  bsid : Nat := 0
  slot : Nat := 0
  lepoch : Nat := 0
  wseq : Nat := 0
  missing : Nat := 0
  prev : Nat := 0
  row0 : Nat := 0
  rows : Nat := 0
  item : Option Delta := none
  deriving DecidableEq, Repr

/-- A journal record as it is found, with its CRC (R275, R277). -/
structure FoundRec where
  body : JRec := {}
  crc : BitVec 32 := 0
  deriving DecidableEq, Repr

/-- A copy of a surface header (R253) with its CRC. -/
structure SurfHeader where
  hdaKey : BitVec 384 := 0
  hport : Nat := 0
  gen : Nat := 0
  t0 : Nat := 0
  step : Nat := 0
  sect : Nat := 0
  g : Nat := 0
  bands : Nat := 0
  crc : BitVec 32 := 0
  deriving DecidableEq, Repr

/-- A checkpoint root (R272): generation, ANG_WT, layout epoch, replay position, chunks, and the two (BAND, INDEX) copies of the
chunk directory. -/
structure Root where
  gen : Nat := 0
  wt : Nat := 0
  lepoch : Nat := 0
  replay : Nat := 0
  chunks : Nat := 0
  dir : (Nat × Nat) × (Nat × Nat) := ((0, 0), (0, 0))
  deriving DecidableEq, Repr

/-- A root as it is found on a ROOT ring, with its CRC, and which copies of each of its chunks can be read (R273). -/
structure RootFound where
  root : Root := {}
  crc : BitVec 32 := 0
  chunks : List (Bool × Bool) := []
  deriving DecidableEq, Repr

/-- What a checkpoint holds (R271): band map entries, band set records of 160 bytes (R266), extent records of 32 bytes by object
(R268), the free bands of each surface, the draws of each layout, and the next WSEQ when it was made. -/
structure CkptImage where
  bandMap : List (BitVec 256) := []
  sets : List (List Byte) := []
  extents : List (BitVec 128 × List Byte) := []
  free : List (Nat × List Nat) := []
  draws : List (Nat × Nat) := []
  keys : List (Nat × BitVec 320) := []
  wseq : Nat := 0
  deriving DecidableEq, Repr

/-- The header of a flush run (R406). -/
structure FlushHeader where
  plgen : Nat := 0
  hport : Nat := 0
  planned : Nat := 0
  wseq0 : Nat := 0
  jFirst : Nat := 0
  jLast : Nat := 0
  wt : Nat := 0
  lepoch : Nat := 0
  deriving DecidableEq, Repr

/-- A sector of a FLUSH area as recovery reads it (R406): its place after the header, KIND, OBJ, ADDR and WSEQ, whether its tag
verifies, and the journal records of a KIND 2 sector. -/
structure FlushSector where
  pos : Nat := 1
  kind : Nat := 3
  obj : BitVec 128 := 0
  addr : Nat := 0
  wseq : Nat := 0
  tagOk : Bool := true
  recs : List FoundRec := []
  deriving DecidableEq, Repr

/-- A flush run as recovery finds it: the header with its CRC, and the sectors after it. -/
structure FlushRunFound where
  head : FlushHeader := {}
  crc : BitVec 32 := 0
  sectors : List FlushSector := []
  deriving DecidableEq, Repr

/-- A sector of a band as recovery verifies it (R273): good, with the BAND, INDEX and WSEQ it carries. -/
structure BandSector where
  good : Bool := true
  band : Nat := 0
  index : Nat := 0
  wseq : Nat := 0
  deriving DecidableEq, Repr

/-- The member units of a stripe whose last INTENT has no DONE or LOST (R277): which data units read good, how many leading sectors
of each parity unit do, and whether CHECK finds a mismatch. -/
structure StripeFound where
  bsid : Nat := 0
  slot : Nat := 0
  data : List Bool := []
  parity : List Nat := []
  mismatch : Bool := false
  deriving DecidableEq, Repr

/-- A JRNL ring that could be read (R277): its surface, the sector after the last one written, the JSEQ of the first record of that
last one, and the last JSEQ of each of its sectors. -/
structure RingFound where
  hport : Nat := 0
  next : Nat := 16
  prev : Nat := 0
  ends : List Nat := []
  deriving DecidableEq, Repr

/-- What boot finds on the surfaces (R253, R273, R277): headers (copies A and B) by HPORT, roots, the checkpoint of each generation,
the surfaces whose JRNL ring could be read and the records on them, flush runs, the sectors of each OPEN band by its entry,
the stripes whose INTENT is unresolved, and the bits set in the newest valid copies of the bitmap's sectors (R290). -/
structure RecoveryFound where
  headers : List (Nat × SurfHeader × SurfHeader) := []
  roots : List RootFound := []
  images : List (Nat × CkptImage) := []
  rings : List RingFound := []
  records : List FoundRec := []
  runs : List FlushRunFound := []
  openBands : List (Nat × List BandSector) := []
  stripes : List StripeFound := []
  bitmap : List Nat := []
  deriving DecidableEq, Repr

/-- What policy chooses for its next jobs: a Prism engine, a cipher engine, where a descriptor goes, and where buffers begin; SRAM
or DRAM addresses (R30, R285). -/
structure Plan where
  prism : Fin 8 := 0
  cipher : Fin 8 := 0
  desc : BitVec 40 := 0
  pool : BitVec 40 := 0
  deriving DecidableEq, Repr

/-- The steps of a reshape (R302). -/
inductive ReshapeStep where
  | start (old new : Fin 8) (k m ucode : Nat) (seed : BitVec 64)
  | move (bsid : BitVec 31)
  | finish (old : Fin 8)
  deriving DecidableEq, Repr

/-! ### Host ports, sessions and object commands (R305 to R362) -/

/-- A datagram as a port received it: the network facts R306 and R307 judge, the packet prefix (R308), whether the body has its kind's
size, and its 16-byte GCM tag (R311). `src` is the sender's address × 2^16 + UDP port. -/
structure Pkt where
  port : Port := 0
  v6 : Bool := false
  udp : Nat := 24512
  udpOk : Bool := true
  fragment : Bool := false
  vlan : Option (BitVec 12) := none
  src : Nat := 0
  magic : Byte := 0xF3
  ver : BitVec 4 := 1
  kind : BitVec 4 := 0
  sized : Bool := true
  sid : Sid := 0
  epoch : BitVec 16 := 0
  plen : Nat := 0
  pn : Word := 0
  tag : BitVec 128 := 0
  deriving DecidableEq, Repr

/-- A HELLO (R309): the network facts, the packet prefix, and its segments, each with its 2-byte header. -/
structure HelloMsg where
  v6 : Bool := false
  udp : Nat := 24512
  udpOk : Bool := true
  fragment : Bool := false
  vlan : Option (BitVec 12) := none
  src : Nat := 0
  magic : Byte := 0xF3
  ver : BitVec 4 := 1
  kind : BitVec 4 := 8
  sid : BitVec 16 := 0
  epoch : BitVec 16 := 0
  plen : BitVec 16 := 0
  pn : Word := 0
  segs : List (List Byte) := []
  deriving DecidableEq, Repr

/-- A capsule: its header fields (R313), bytes 22 and 23 in `rsvd`, and its first data. -/
structure Capsule where
  seq : BitVec 32 := 1
  opc : Byte := 0
  flags : Byte := 0
  rsvd : BitVec 16 := 0
  obj : BitVec 128 := 0
  offset : Word := 0
  length : BitVec 32 := 0
  doff : BitVec 32 := 0
  arg : Word := 0
  data : List Byte := []
  deriving DecidableEq, Repr

/-! ### Security policy, profiles and images (R363 to R393, R470 to R475, R518 to R532) -/

/-- An ownership record (R371): its action, slot and DEVID, and the bytes of NEWPUB, SIGNEW and SIGCUR. -/
structure OwnerRec where
  action : Nat := 0
  slot : Nat := 0
  devId : BitVec 384 := 0
  newPub : List Byte := []
  sigNew : List Byte := []
  sigCur : List Byte := []
  deriving DecidableEq, Repr, Inhabited

/-- A tenant's entry in the security policy (R374): enabled, the rights Read, Write and Manage, and its host trust anchors, each
SHA-384 of a certificate. -/
structure TenantRow where
  index : Nat := 0
  enabled : Bool := true
  read : Bool := true
  write : Bool := true
  manage : Bool := false
  anchors : List (BitVec 384) := []
  deriving DecidableEq, Repr, Inhabited

/-- The security policy section of a profile (R374): `ownerPub` is the key's 97 bytes; `minSvn` by kind 1 to 4; `terase` by
tenant. -/
structure SecPolicy where
  ownerPub : List Byte := []
  ownRec : OwnerRec := {}
  tenants : List TenantRow := []
  hdaAnchors : List (BitVec 384) := []
  ownerOnly : Bool := false
  debugAllow : Bool := false
  loupeKill : Bool := false
  minSvn : List Nat := [0, 0, 0, 0]
  terase : SMap Nat := []
  deriving DecidableEq, Repr, Inhabited

/-- A register setting of a profile (R525). -/
structure Setting where
  addr : Nat := 0
  value : BitVec 32 := 0
  mask : BitVec 32 := 0
  deriving DecidableEq, Repr

/-- An entry of the members section (R525): the member's device ID, its IPv6 address, its role, 0 worker, 1 manager, 2 standby,
and its port. -/
structure Member where
  devId : BitVec 384 := 0
  ip : BitVec 128 := 0
  role : Nat := 0
  port : Nat := 0
  deriving DecidableEq, Repr

/-- An entry of an image's segment table (R471). -/
structure Segment where
  addr : Nat := 0
  len : Nat := 0
  foff : Nat := 0
  ty : Nat := 0
  access : Nat := 0
  deriving DecidableEq, Repr

/-- A profile as the image of a slot gives it (R525): the status of verifying the image (R474), its TARGET, whether its sections
are well formed (0x0103), and what they hold. `depths` are the lightpipe depths it sets (R22), `meas` the image's measurement
and `secHash` SHA-384 of its section 3 (R540). -/
structure Profile where
  status : Nat := 0
  target : Nat := 0
  sectionsOk : Bool := true
  settings : List Setting := []
  params : List (Nat × Nat) := []
  policy : SecPolicy := {}
  layout : List (BitVec 32) := []
  members : Option (List Member) := none
  policyData : Option (Nat × List Byte) := none
  depths : List (Nat × Nat) := []
  meas : BitVec 384 := 0
  secHash : BitVec 384 := 0
  deriving DecidableEq, Repr

/-- What a Loupe function does once unlocked (R389). Register `n` of a Facet: 0 micro-PC, 1 loop counter, 2 accumulator,
3 + i datapath register i. -/
inductive LoupeOp where
  | haltCore (c : Core)
  | stepCore (c : Core)
  | resumeCore (c : Core)
  | readReg (c : Core) (r : GReg)
  | writeReg (c : Core) (r : GReg) (v : Word)
  | readPc (c : Core)
  | writePc (c : Core) (v : Word)
  | readCr (c : Core) (n : BitVec 7)
  | writeCr (c : Core) (n : BitVec 7) (v : Word)
  | haltFacet (f : FacetId)
  | stepFacet (f : FacetId) (env : FacetEnv)
  | resumeFacet (f : FacetId)
  | readFacet (f : FacetId) (n : Fin 67)
  | writeFacet (f : FacetId) (n : Fin 67) (v : BitVec 40)
  | brken (f : FacetId) (v : Bool)
  | readMem (addr : BitVec 40) (n : Fin 65)
  | writeMem (addr : BitVec 40) (bytes : List Byte)
  | trace
  deriving DecidableEq, Repr

/-! ### Boot, image switching, hierarchy and event recorder (R533 to R577) -/

/-- What boot meets at each of its steps (R569): at step 3 whether SFDP is valid with every required feature, the density in Mbit,
and the DRAM density read. -/
inductive BootStep where
  | aon
  | rom
  | flash (sfdpOk : Bool) (mbit : Nat) (dramRaw : BitVec 8)
  | firmware
  | profile
  | dramTrained
  | cleared
  | bays
  | chopper
  | spinUp
  | checkpoint
  | open_
  deriving DecidableEq, Repr

/-- A switch of images in service (R577). -/
inductive SwitchReq where
  | microcode (target : Fin 3)
  | policy
  | firmware
  | profile (n : Fin 4)
  deriving DecidableEq, Repr

/-- The body of a CENSUS frame and the tag in its header (R534). -/
structure CensusMsg where
  tag : BitVec 32 := 0
  digest : BitVec 384 := 0
  demand : BitVec 32 := 0
  gack : BitVec 32 := 0
  tokens : List Byte := []
  fenced : Bool := false
  expired : Bool := false
  deriving DecidableEq, Repr

/-- What starts a flush of the event recorder (R557). -/
inductive FlushTrigger where
  | pfail | shutdown | record | command
  deriving DecidableEq, Repr

end Sys2Proof
end

