-- ==== Sys2Proof/Syntax.lean ====
section
/-! DEFINITION. Sys2Proof/Syntax.lean: the commands of the block, one constructor per row of spec/opcode_table.json,
in the table's order. A Rilic instruction is a command that carries the Lens core it runs on beside its operands; an
event of the table (a frame received, a time-out, a completion) carries what the block learns from outside. -/
namespace Sys2Proof

/-- The commands of the FY3264. -/
inductive Instr where
  /-- REGISTER_WRITE (R13). -/
  | registerWrite (who : Agent) (addr : BitVec 40) (wide : Bool) (value : Word)
  /-- CLOCK_LOSS (R36). -/
  | clockLoss (c : ClockIn)
  /-- SYNC_MARK (R52). -/
  | syncMark (b : Bay) (a : Act) (w : BitVec 10)
  /-- MISS (R62). -/
  | miss (b : Bay)
  /-- ACTION_DUE (R59). -/
  | actionDue (b : Bay) (slot : Fin 64)
  /-- SNAPSHOT (R71). -/
  | snapshot
  /-- RACKSYNC_EDGE (R69). -/
  | racksyncEdge (widthMs : Nat)
  /-- RACKSYNC_HOLD (R70). -/
  | racksyncHold
  /-- DOWNSTREAM_FRAME (R84). -/
  | downstreamFrame (b : Bay)
  /-- UPSTREAM_FRAME (R87). -/
  | upstreamFrame (b : Bay) (lane : Act) (f : UpFrame)
  /-- LANE_DOWN (R95). -/
  | laneDown (b : Bay) (lane : Lane)
  /-- MANAGED_WORD (R86). -/
  | managedWord (b : Bay) (w : Word)
  /-- MANAGED_WORD_RETRY (R86). -/
  | managedWordRetry (b : Bay) (tag : Fin 16)
  /-- TRAINING_START (R100). -/
  | trainingStart (b : Bay)
  /-- TRAINING_STEP_DONE (R100). -/
  | trainingStepDone (b : Bay) (m : TrainMeasure)
  /-- TRAINING_TIMEOUT (R100). -/
  | trainingTimeout (b : Bay)
  /-- LINK_DISABLE (R106). -/
  | linkDisable (b : Bay)
  /-- SIGNAL_DETECT (R106). -/
  | signalDetect (b : Bay) (present : Bool)
  /-- CHALLENGE_TIMEOUT (R104). -/
  | challengeTimeout (b : Bay)
  /-- ATTACH (R105). -/
  | attach (b : Bay) (v : Bool)
  /-- MEDIA_READ (R255). -/
  | mediaRead (k : Slice)
  /-- MEDIA_WRITE (R255). -/
  | mediaWrite (k : Slice)
  /-- MEDIA_VERIFY (R255). -/
  | mediaVerify (k : Slice)
  /-- MEDIA_CANCEL (R255). -/
  | mediaCancel (k : Slice)
  /-- SCHEDULER_SELECT (R257). -/
  | schedulerSelect (k : Slice)
  /-- SLICE_HANDOVER (R258). -/
  | sliceHandover (k : Slice)
  /-- SECTOR_DECODE (R131). -/
  | sectorDecode (k : Slice) (r : SectorRead)
  /-- DEFERRED_DECODE (R132). -/
  | deferredDecode (k : Slice) (i : Nat) (r : SectorRead)
  /-- RETRY_STEP (R135). -/
  | retryStep (k : Slice) (rs : List SectorRead)
  /-- NO_ANGLE_TIMEOUT (R130). -/
  | noAngleTimeout (k : Slice)
  /-- SLICE_COMPLETION (R137). -/
  | sliceCompletion (k : Slice)
  /-- NEXT (R142). -/
  | facetNext (f : FacetId) (env : FacetEnv)
  /-- RET (R142). -/
  | facetRet (f : FacetId) (env : FacetEnv)
  /-- LOOP (R142). -/
  | facetLoop (f : FacetId) (env : FacetEnv)
  /-- BR (R142). -/
  | facetBr (f : FacetId) (env : FacetEnv)
  /-- JMP (R142). -/
  | facetJmp (f : FacetId) (env : FacetEnv)
  /-- CALL (R142). -/
  | facetCall (f : FacetId) (env : FacetEnv)
  /-- GOTO (R143). -/
  | facetGoto (f : FacetId) (env : FacetEnv)
  /-- BRT (R143). -/
  | facetBrt (f : FacetId) (env : FacetEnv)
  /-- NA_LOOP (R143). -/
  | facetNaLoop (f : FacetId) (env : FacetEnv)
  /-- DISPATCH (R143). -/
  | facetDispatch (f : FacetId) (env : FacetEnv)
  /-- MICRO_TRAP (R150). -/
  | microTrap (f : FacetId)
  /-- FACET_WATCHDOG (R149). -/
  | facetWatchdog (f : FacetId)
  /-- FACET_SCRUB (R155). -/
  | facetScrub (f : FacetId) (found : CodeCheck)
  /-- STORE_WINDOW_WRITE (R159). -/
  | storeWindowWrite (f : FacetId) (off : BitVec 14) (value : BitVec 32)
  /-- FACET_CLEAR (R157). -/
  | facetClear (f : FacetId)
  /-- FACET_CLEAR_DONE (R157). -/
  | facetClearDone (f : FacetId)
  /-- FACET_VERIFY (R160). -/
  | facetVerify (f : FacetId)
  /-- FACET_VERIFY_DONE (R160). -/
  | facetVerifyDone (f : FacetId)
  /-- SWAP_ARM (R161). -/
  | swapArm (f : FacetId) (armIt : Bool) (entry : BitVec 10)
  /-- BANK_SWITCH (R162). -/
  | bankSwitch (f : FacetId)
  /-- RUN_START (R163). -/
  | runStart (f : FacetId)
  /-- RUN_HALT (R153). -/
  | runHalt (f : FacetId)
  /-- DOORBELL (R149). -/
  | doorbell (f : FacetId)
  /-- SERVO_SAMPLE (R171). -/
  | servoSample (k : Slice) (smp : ServoSmp)
  /-- OUTPUT_DEADLINE (R172). -/
  | outputDeadline (k : Slice)
  /-- FOLLOWING_ERROR_TIMEOUT (R188). -/
  | followingErrorTimeout (k : Slice)
  /-- SEEK (R182). -/
  | servoSeek (k : Slice)
  /-- OFFSET (R182). -/
  | servoOffset (k : Slice)
  /-- PARK (R182). -/
  | servoPark (k : Slice)
  /-- LOAD (R182). -/
  | servoLoad (k : Slice)
  /-- SERVO_RESULT (R184). -/
  | servoResult (k : Slice)
  /-- SEEK_TIMEOUT (R183). -/
  | seekTimeout (k : Slice)
  /-- LOAD_TIMEOUT (R183). -/
  | loadTimeout (k : Slice)
  /-- SERVO_REACQ_TIMEOUT (R190). -/
  | servoReacqTimeout (k : Slice)
  /-- PARK_REQUEST (R191). -/
  | parkRequest (k : Slice)
  /-- PARK_DATA_PHASE_END (R192). -/
  | parkDataPhaseEnd (k : Slice)
  /-- PARK_RAMP_PHASE_END (R192). -/
  | parkRampPhaseEnd (k : Slice)
  /-- GAIN_COPY (R177). -/
  | gainCopy (k : Slice) (set : BitVec 6)
  /-- SERVO_ENABLE (R194). -/
  | servoEnable (k : Slice) (v : Bool)
  /-- SPINDLE_ENABLE (R197). -/
  | spindleEnable (b : Bay) (v : Bool)
  /-- START (R205). -/
  | spindleStart (b : Bay)
  /-- SPEED (R201). -/
  | spindleSpeed (b : Bay)
  /-- STOP (R210). -/
  | spindleStop (b : Bay)
  /-- REGEN (R213). -/
  | spindleRegen (b : Bay)
  /-- REGEN_END (R215). -/
  | spindleRegenEnd (b : Bay)
  /-- COAST (R201). -/
  | spindleCoast (b : Bay)
  /-- ABORT (R200). -/
  | spindleAbort (b : Bay)
  /-- LISTEN_END (R205). -/
  | listenEnd (b : Bay) (found : Bool) (reverse : Bool) (rpm : BitVec 14)
  /-- PROBE_DONE (R205). -/
  | probeDone (b : Bay) (peaks : List Nat)
  /-- STEP_DRIVE_INTERVAL (R205). -/
  | stepDriveInterval (b : Bay) (rpm : BitVec 14)
  /-- PWM_PERIOD (R214). -/
  | pwmPeriod (b : Bay) (resid : BitVec 16) (rpm : BitVec 14)
  /-- PHASE_OUTPUT_DEADLINE (R212). -/
  | phaseOutputDeadline (b : Bay)
  /-- BACK_EMF_ZERO_CROSSING (R208). -/
  | backEmfZeroCrossing (b : Bay) (rpm : BitVec 14) (agrees : Bool)
  /-- SPINUP_TIMEOUT (R203). -/
  | spinupTimeout (b : Bay)
  /-- STOP_PARK_WAIT_TIMEOUT (R210). -/
  | stopParkWaitTimeout (b : Bay)
  /-- BRAKE_HOLD_END (R210). -/
  | brakeHoldEnd (b : Bay)
  /-- ROTOR_LOSS (R216). -/
  | rotorLoss (b : Bay)
  /-- REACQ_WINDOW_END (R216). -/
  | reacqWindowEnd (b : Bay)
  /-- REACQ_TIMEOUT (R216). -/
  | reacqTimeout (b : Bay)
  /-- COMMUTATION_HALT_PARK (R217). -/
  | commutationHaltPark (b : Bay)
  /-- VMOTOR_SAMPLE (R220). -/
  | vmotorSample (code : BitVec 12)
  /-- CHOPPER_TEST (R221). -/
  | chopperTest
  /-- CHOPPER_TEST_DONE (R221). -/
  | chopperTestDone (beforeMv : Nat) (pulseMv : Nat) (afterMv : Nat)
  /-- LIFE_FOLD (R226). -/
  | lifeFold
  /-- LIFE_RECORD_WRITE (R230). -/
  | lifeRecordWrite (b : Bay)
  /-- RECONCILIATION (R231). -/
  | reconciliation (b : Bay) (bridge : BridgeLife)
  /-- CALIBRATION_RUN (R239). -/
  | calibrationRun (k : Slice) (ty : CalType) (h : Fin 12)
  /-- CALIBRATION_RESULT (R237). -/
  | calibrationResult (k : Slice) (r : CalResult)
  /-- CALIBRATION_DEFER_EXPIRY (R241). -/
  | calibrationDeferExpiry (k : Slice) (ty : CalType) (h : Fin 12)
  /-- VREFIN_MEASURE (R245). -/
  | vrefinMeasure (avg : BitVec 16)
  /-- BRIDGE_RATIO (R246). -/
  | bridgeRatio (b : Bay) (ownMv : Nat) (bridgeMv : Nat)
  /-- BT_READ (R263). -/
  | btRead (idx : BitVec 25)
  /-- BT_WRITE (R263). -/
  | btWrite (idx : BitVec 25)
  /-- BT_OPEN (R263). -/
  | btOpen (idx : BitVec 25)
  /-- BT_CLOSE (R263). -/
  | btClose (idx : BitVec 25)
  /-- BT_CLEAN (R263). -/
  | btClean
  /-- BT_INVAL (R263). -/
  | btInval
  /-- BT_RESTORE (R263). -/
  | btRestore (idx : BitVec 25)
  /-- BT_INVALID_COMMAND (R263). -/
  | btInvalidCommand (op : BitVec 4) (idx : BitVec 25)
  /-- BT_FETCH (R262). -/
  | btFetch (k : Slice)
  /-- CHECKPOINT_START (R271). -/
  | checkpointStart
  /-- CHECKPOINT_COMMIT (R272). -/
  | checkpointCommit (surfaces : List (BitVec 10)) (chunks : List ((Nat × Nat) × (Nat × Nat))) (dir : (Nat × Nat) × (Nat × Nat))
  /-- RECOVERY (R273). -/
  | recovery (rec : RecoveryFound)
  /-- COMPACTION (R269). -/
  | compaction (bsid : BitVec 32) (plan : Plan)
  /-- ENCODE (R286). -/
  | prismEncode (e : Fin 8)
  /-- RECONSTRUCT (R286). -/
  | prismReconstruct (e : Fin 8)
  /-- CHECK (R286). -/
  | prismCheck (e : Fin 8)
  /-- PRISM_RESULT (R288). -/
  | prismResult (e : Fin 8)
  /-- JOURNAL_FLUSH (R276). -/
  | journalFlush (pair : Fin 16) (good0 : Bool) (good1 : Bool)
  /-- STRIPE_SEAL (R283). -/
  | stripeSeal (bsid : BitVec 32) (plan : Plan)
  /-- BITMAP_CLEAR (R291). -/
  | bitmapClear (region : BitVec 23)
  /-- SLOW_MEMBER (R295). -/
  | slowMember (k : Slice)
  /-- PROBATION (R296). -/
  | probation (k : Slice)
  /-- PROBATION_RESULT (R296). -/
  | probationResult (k : Slice) (wrote : Bool)
  /-- REATTACH_TIMEOUT (R294). -/
  | reattachTimeout (b : Bay)
  /-- REBUILD (R299). -/
  | rebuild (bsid : BitVec 32) (member : Fin 32) (plan : Plan)
  /-- RESHAPE (R302). -/
  | reshape (step : ReshapeStep) (plan : Plan)
  /-- HELLO (R310). -/
  | hello (p : Port) (m : HelloMsg)
  /-- CMD (R313). -/
  | hostCmd (pkt : Pkt) (c : Capsule)
  /-- DATA (R314). -/
  | hostData (pkt : Pkt) (seq : BitVec 32) (doff : BitVec 32) (bytes : List Byte)
  /-- ACK (R317). -/
  | hostAck (pkt : Pkt) (largest : Word) (map : BitVec 256) (win : BitVec 32)
  /-- SESSION_RESET (R330). -/
  | sessionReset (pkt : Pkt) (ctag : BitVec 16) (close : Bool)
  /-- LOG_READ (R326). -/
  | logRead (pkt : Pkt) (ctag : BitVec 16) (entry : Word)
  /-- RESTART_RESUME (R329). -/
  | restartResume (pkt : Pkt) (ctag : BitVec 16)
  /-- RESTART_DISCARD (R329). -/
  | restartDiscard (pkt : Pkt) (ctag : BitVec 16)
  /-- ARP_REQUEST (R306). -/
  | arpRequest (p : Port) (target : BitVec 32)
  /-- NEIGHBOUR_DISCOVERY (R306). -/
  | neighbourDiscovery (p : Port) (target : BitVec 128)
  /-- ECHO_REQUEST (R306). -/
  | echoRequest (p : Port) (v6 : Bool) (payload : List Byte)
  /-- ACK_DELAY (R317). -/
  | ackDelay (sid : Sid)
  /-- RETRANSMISSION_TIMEOUT (R318). -/
  | retransmissionTimeout (sid : Sid) (pn : Word)
  /-- DATA_T_TIMEOUT (R315). -/
  | dataTTimeout (sid : Sid) (seq : BitVec 32)
  /-- IDLE_TIMEOUT (R336). -/
  | idleTimeout (sid : Sid)
  /-- OLD_EPOCH_KEY_EXPIRY (R335). -/
  | oldEpochKeyExpiry (sid : Sid)
  /-- PORT_LINK_CHANGE (R305). -/
  | portLinkChange (p : Port) (up : Bool)
  /-- EVALUATION_POINT (R352). -/
  | evaluationPoint (sid : Sid) (seq : BitVec 32)
  /-- COMMAND_COMMIT (R322). -/
  | commandCommit (sid : Sid) (seq : BitVec 32)
  /-- PUT (R345). -/
  | objPut (sid : Sid) (seq : BitVec 32) (plan : Plan)
  /-- WRITE (R346). -/
  | objWrite (sid : Sid) (seq : BitVec 32) (plan : Plan)
  /-- APPEND (R347). -/
  | objAppend (sid : Sid) (seq : BitVec 32) (plan : Plan)
  /-- GET (R343). -/
  | objGet (sid : Sid) (seq : BitVec 32) (plan : Plan)
  /-- STAT (R349). -/
  | objStat (sid : Sid) (seq : BitVec 32)
  /-- DELETE (R348). -/
  | objDelete (sid : Sid) (seq : BitVec 32)
  /-- LIST (R349). -/
  | objList (sid : Sid) (seq : BitVec 32)
  /-- COMMIT (R350). -/
  | objCommit (sid : Sid) (seq : BitVec 32)
  /-- PART_SET_TIMEOUT (R350). -/
  | partSetTimeout (obj : BitVec 128) (setId : Word)
  /-- DESCRIBE (R357). -/
  | describe (sid : Sid) (seq : BitVec 32)
  /-- POWER_HINT (R358). -/
  | powerHint (sid : Sid) (seq : BitVec 32)
  /-- POWER_HINT_EXPIRY (R358). -/
  | powerHintExpiry
  /-- ATTEST (R388). -/
  | attest (sid : Sid) (seq : BitVec 32)
  /-- PROFILE_SELECT (R529). -/
  | profileSelect (sid : Sid) (seq : BitVec 32)
  /-- IMAGE_STAGE (R361). -/
  | imageStage (sid : Sid) (seq : BitVec 32)
  /-- SEAL (R378). -/
  | cipherSeal (c : Fin 8)
  /-- OPEN (R380). -/
  | cipherOpen (c : Fin 8)
  /-- GENKEY (R377). -/
  | cipherGenkey (c : Fin 8)
  /-- LOADKEY (R377). -/
  | cipherLoadkey (c : Fin 8)
  /-- EVICT (R383). -/
  | cipherEvict (c : Fin 8)
  /-- SESSION_JOB (R380). -/
  | sessionJob (c : Fin 8)
  /-- CIPHER_RESULT (R381). -/
  | cipherResult (c : Fin 8)
  /-- DRBG_RESEED (R368). -/
  | drbgReseed
  /-- RESEED (R368). -/
  | reseed
  /-- ENTROPY_HEALTH_FAILURE (R368). -/
  | entropyHealthFailure
  /-- CLAIM (R372). -/
  | claim (r : OwnerRec) (readBackOk : Bool)
  /-- TRANSFER (R372). -/
  | transfer (r : OwnerRec) (readBackOk : Bool)
  /-- DECOMMISSION (R372). -/
  | decommission (r : OwnerRec)
  /-- LOUPE_UNLOCK (R390). -/
  | loupeUnlock (key sig : List Byte) (drained : Bool)
  /-- LOUPE_KILL (R391). -/
  | loupeKill
  /-- SVN_RAISE (R387). -/
  | svnRaise (kind : BitVec 4)
  /-- EXTEST (R604). -/
  | extest (cells : BitVec 412)
  /-- IDCODE (R604). -/
  | idcode
  /-- SAMPLE_PRELOAD (R604). -/
  | samplePreload (cells : BitVec 412)
  /-- BYPASS (R604). -/
  | bypass (code : BitVec 8)
  /-- LOUPE_FUNCTION (R389). -/
  | loupeFunction (code : BitVec 4) (f : LoupeOp)
  /-- LEDGER_UPDATE (R396). -/
  | ledgerUpdate (vholdCode : BitVec 12)
  /-- DEBIT_ADMITTED (R398). -/
  | debitAdmitted
  /-- DEBIT_WAIT_EVENT (R398). -/
  | debitWaitEvent (handle : BitVec 16)
  /-- APERTURE_FILL (R401). -/
  | apertureFill
  /-- POWER_LOSS_FLUSH (R405). -/
  | powerLossFlush
  /-- FLUSH_END (R407). -/
  | flushEnd (timedOut : Bool) (written : List (Slice × Nat))
  /-- FLUSH_BRAKE (R407). -/
  | flushBrake
  /-- POWER_RETURN (R408). -/
  | powerReturn (afterFlush : Bool)
  /-- IDLE_TIMER_EXPIRY (R411). -/
  | idleTimerExpiry (b : Bay) (n : Fin 4)
  /-- POWER_STATE_EXIT (R411). -/
  | powerStateExit (b : Bay)
  /-- THERMAL_STEP (R413). -/
  | thermalStep
  /-- THERMAL_SHUTDOWN (R418). -/
  | thermalShutdown
  /-- CASE_TEMPERATURE_WRITE (R415). -/
  | caseTemperatureWrite (t : BitVec 16)
  /-- CASE_VALIDITY_EXPIRY (R415). -/
  | caseValidityExpiry
  /-- TRIM (R416). -/
  | trim
  /-- TRIM_DONE (R416). -/
  | trimDone (measured : BitVec 16) (predicted : BitVec 16)
  /-- ADD (R434). -/
  | add (c : Core) (rd rs1 rs2 : GReg)
  /-- ADD_N (R434). -/
  | addN (c : Core) (rd rs1 rs2 : GReg)
  /-- SUB (R434). -/
  | sub (c : Core) (rd rs1 rs2 : GReg)
  /-- SUB_N (R434). -/
  | subN (c : Core) (rd rs1 rs2 : GReg)
  /-- AND (R434). -/
  | and (c : Core) (rd rs1 rs2 : GReg)
  /-- IOR (R434). -/
  | ior (c : Core) (rd rs1 rs2 : GReg)
  /-- EOR (R434). -/
  | eor (c : Core) (rd rs1 rs2 : GReg)
  /-- ANDC (R434). -/
  | andc (c : Core) (rd rs1 rs2 : GReg)
  /-- IORC (R434). -/
  | iorc (c : Core) (rd rs1 rs2 : GReg)
  /-- SHL (R434). -/
  | shl (c : Core) (rd rs1 rs2 : GReg)
  /-- SHL_N (R434). -/
  | shlN (c : Core) (rd rs1 rs2 : GReg)
  /-- SHR (R434). -/
  | shr (c : Core) (rd rs1 rs2 : GReg)
  /-- SHR_N (R434). -/
  | shrN (c : Core) (rd rs1 rs2 : GReg)
  /-- SAR (R434). -/
  | sar (c : Core) (rd rs1 rs2 : GReg)
  /-- SAR_N (R434). -/
  | sarN (c : Core) (rd rs1 rs2 : GReg)
  /-- ROR (R434). -/
  | ror (c : Core) (rd rs1 rs2 : GReg)
  /-- ROR_N (R434). -/
  | rorN (c : Core) (rd rs1 rs2 : GReg)
  /-- CMPS (R434). -/
  | cmps (c : Core) (rd rs1 rs2 : GReg)
  /-- CMPU (R434). -/
  | cmpu (c : Core) (rd rs1 rs2 : GReg)
  /-- MINS (R434). -/
  | mins (c : Core) (rd rs1 rs2 : GReg)
  /-- MAXS (R434). -/
  | maxs (c : Core) (rd rs1 rs2 : GReg)
  /-- MINU (R434). -/
  | minu (c : Core) (rd rs1 rs2 : GReg)
  /-- MAXU (R434). -/
  | maxu (c : Core) (rd rs1 rs2 : GReg)
  /-- EXTU (R434). -/
  | extu (c : Core) (rd rs1 rs2 : GReg)
  /-- EXTS (R434). -/
  | exts (c : Core) (rd rs1 rs2 : GReg)
  /-- CNTLZ (R434). -/
  | cntlz (c : Core) (rd rs1 : GReg)
  /-- CNTTZ (R434). -/
  | cnttz (c : Core) (rd rs1 : GReg)
  /-- CNTONE (R434). -/
  | cntone (c : Core) (rd rs1 : GReg)
  /-- REVB (R434). -/
  | revb (c : Core) (rd rs1 : GReg)
  /-- ADDI (R435). -/
  | addi (c : Core) (rd rs1 : GReg) (imm : BitVec 16)
  /-- ANDI (R435). -/
  | andi (c : Core) (rd rs1 : GReg) (imm : BitVec 16)
  /-- IORI (R435). -/
  | iori (c : Core) (rd rs1 : GReg) (imm : BitVec 16)
  /-- EORI (R435). -/
  | eori (c : Core) (rd rs1 : GReg) (imm : BitVec 16)
  /-- CMPSI (R435). -/
  | cmpsi (c : Core) (rd rs1 : GReg) (imm : BitVec 16)
  /-- CMPUI (R435). -/
  | cmpui (c : Core) (rd rs1 : GReg) (imm : BitVec 16)
  /-- ADDI_N (R435). -/
  | addiN (c : Core) (rd rs1 : GReg) (imm : BitVec 16)
  /-- SHI (R435). -/
  | shi (c : Core) (rd rs1 : GReg) (imm : BitVec 16)
  /-- SETQ (R435). -/
  | setq (c : Core) (rd : GReg) (q : Fin 4) (imm : BitVec 16)
  /-- ADDPC (R435). -/
  | addpc (c : Core) (rd : GReg) (imm : BitVec 16)
  /-- MLO (R436). -/
  | mlo (c : Core) (rd rs1 rs2 : GReg)
  /-- MLO_N (R436). -/
  | mloN (c : Core) (rd rs1 rs2 : GReg)
  /-- MHI (R436). -/
  | mhi (c : Core) (rd rs1 rs2 : GReg)
  /-- MHIU (R436). -/
  | mhiu (c : Core) (rd rs1 rs2 : GReg)
  /-- MHISU (R436). -/
  | mhisu (c : Core) (rd rs1 rs2 : GReg)
  /-- QUO (R436). -/
  | quo (c : Core) (rd rs1 rs2 : GReg)
  /-- QUO_N (R436). -/
  | quoN (c : Core) (rd rs1 rs2 : GReg)
  /-- QUOU (R436). -/
  | quou (c : Core) (rd rs1 rs2 : GReg)
  /-- QUOU_N (R436). -/
  | quouN (c : Core) (rd rs1 rs2 : GReg)
  /-- REM (R436). -/
  | rem (c : Core) (rd rs1 rs2 : GReg)
  /-- REM_N (R436). -/
  | remN (c : Core) (rd rs1 rs2 : GReg)
  /-- REMU (R436). -/
  | remu (c : Core) (rd rs1 rs2 : GReg)
  /-- REMU_N (R436). -/
  | remuN (c : Core) (rd rs1 rs2 : GReg)
  /-- MOD (R436). -/
  | mod (c : Core) (rd rs1 rs2 : GReg)
  /-- MOD_N (R436). -/
  | modN (c : Core) (rd rs1 rs2 : GReg)
  /-- LB (R437). -/
  | lb (c : Core) (rd rs1 : GReg) (imm : BitVec 16)
  /-- LH (R437). -/
  | lh (c : Core) (rd rs1 : GReg) (imm : BitVec 16)
  /-- LW (R437). -/
  | lw (c : Core) (rd rs1 : GReg) (imm : BitVec 16)
  /-- LD (R437). -/
  | ld (c : Core) (rd rs1 : GReg) (imm : BitVec 16)
  /-- LBU (R437). -/
  | lbu (c : Core) (rd rs1 : GReg) (imm : BitVec 16)
  /-- LHU (R437). -/
  | lhu (c : Core) (rd rs1 : GReg) (imm : BitVec 16)
  /-- LWU (R437). -/
  | lwu (c : Core) (rd rs1 : GReg) (imm : BitVec 16)
  /-- SB (R437). -/
  | sb (c : Core) (rs2 rs1 : GReg) (imm : BitVec 16)
  /-- SH (R437). -/
  | sh (c : Core) (rs2 rs1 : GReg) (imm : BitVec 16)
  /-- SW (R437). -/
  | sw (c : Core) (rs2 rs1 : GReg) (imm : BitVec 16)
  /-- SD (R437). -/
  | sd (c : Core) (rs2 rs1 : GReg) (imm : BitVec 16)
  /-- BEQ (R438). -/
  | beq (c : Core) (rs1 rs2 : GReg) (off : BitVec 16)
  /-- BNE (R438). -/
  | bne (c : Core) (rs1 rs2 : GReg) (off : BitVec 16)
  /-- BLT (R438). -/
  | blt (c : Core) (rs1 rs2 : GReg) (off : BitVec 16)
  /-- BGE (R438). -/
  | bge (c : Core) (rs1 rs2 : GReg) (off : BitVec 16)
  /-- BLTU (R438). -/
  | bltu (c : Core) (rs1 rs2 : GReg) (off : BitVec 16)
  /-- BGEU (R438). -/
  | bgeu (c : Core) (rs1 rs2 : GReg) (off : BitVec 16)
  /-- J (R438). -/
  | j (c : Core) (off : BitVec 26)
  /-- JL (R438). -/
  | jl (c : Core) (off : BitVec 26)
  /-- JLR (R438). -/
  | jlr (c : Core) (rd rs1 : GReg) (imm : BitVec 16)
  /-- LL (R439). -/
  | ll (c : Core) (rd rs1 rs2 : GReg) (dbl : Bool)
  /-- SC (R439). -/
  | sc (c : Core) (rd rs1 rs2 : GReg) (dbl : Bool)
  /-- SWAP (R439). -/
  | swap (c : Core) (rd rs1 rs2 : GReg) (dbl : Bool)
  /-- ATOMIC_ADD (R439). -/
  | atomicAdd (c : Core) (rd rs1 rs2 : GReg) (dbl : Bool)
  /-- ATOMIC_AND (R439). -/
  | atomicAnd (c : Core) (rd rs1 rs2 : GReg) (dbl : Bool)
  /-- ATOMIC_OR (R439). -/
  | atomicOr (c : Core) (rd rs1 rs2 : GReg) (dbl : Bool)
  /-- ATOMIC_XOR (R439). -/
  | atomicXor (c : Core) (rd rs1 rs2 : GReg) (dbl : Bool)
  /-- ATOMIC_MIN (R439). -/
  | atomicMin (c : Core) (rd rs1 rs2 : GReg) (dbl : Bool)
  /-- ATOMIC_MAX (R439). -/
  | atomicMax (c : Core) (rd rs1 rs2 : GReg) (dbl : Bool)
  /-- ATOMIC_MINU (R439). -/
  | atomicMinu (c : Core) (rd rs1 rs2 : GReg) (dbl : Bool)
  /-- ATOMIC_MAXU (R439). -/
  | atomicMaxu (c : Core) (rd rs1 rs2 : GReg) (dbl : Bool)
  /-- CAS (R439). -/
  | cas (c : Core) (rd rs1 rs2 : GReg) (dbl : Bool)
  /-- FENCE (R441). -/
  | fence (c : Core)
  /-- RESERVED_OPCODE (R433). -/
  | reservedOpcode (c : Core) (w : BitVec 32)
  /-- POSTED_STORE_ERROR (R442). -/
  | postedStoreError (c : Core)
  /-- INTERRUPT_TAKEN (R446). -/
  | interruptTaken (c : Core)
  /-- TIMECMP_REACHED (R446). -/
  | timecmpReached (c : Core)
  /-- PUSH (R448). -/
  | push (c : Core) (r : GReg) (lp : Lp) (gs : GReg)
  /-- PUSHT (R448). -/
  | pusht (c : Core) (r : GReg) (lp : Lp) (gs : GReg)
  /-- POP (R448). -/
  | pop (c : Core) (r : GReg) (lp : Lp) (gs : GReg)
  /-- POPT (R448). -/
  | popt (c : Core) (r : GReg) (lp : Lp) (gs : GReg)
  /-- COUNT (R448). -/
  | count (c : Core) (r : GReg) (lp : Lp)
  /-- RESV (R449). -/
  | resv (c : Core) (lp : Lp) (n : BitVec 8)
  /-- RELS (R448). -/
  | rels (c : Core) (lp : Lp) (n : BitVec 8)
  /-- NOTE (R452). -/
  | note (c : Core) (lp : Lp) (kind : Bool) (thr : BitVec 7)
  /-- LIGHTPIPE_WAIT_GRANTED (R450). -/
  | lightpipeWaitGranted (c : Core)
  /-- NOTIFICATION_FIRE (R452). -/
  | notificationFire (c : Core)
  /-- ARM (R455). -/
  | armAction (c : Core) (rd rs1 rs2 : GReg)
  /-- ACANCEL (R453). -/
  | acancel (c : Core) (rd rs1 : GReg)
  /-- ASTAT (R456). -/
  | astat (c : Core) (rd rs1 : GReg)
  /-- RDANG (R453). -/
  | rdang (c : Core) (rd rs1 : GReg)
  /-- RDWT (R453). -/
  | rdwt (c : Core) (rd : GReg)
  /-- DEBIT (R458). -/
  | debit (c : Core) (rd rs1 rs2 : GReg) (noWait : Bool)
  /-- CREDIT (R459). -/
  | credit (c : Core) (rd rs1 rs2 : GReg)
  /-- WITHDRAW (R459). -/
  | withdraw (c : Core) (rd rs1 : GReg)
  /-- LQUERY (R457). -/
  | lquery (c : Core) (rd rs1 : GReg)
  /-- ADEBIT (R461). -/
  | adebit (c : Core) (rd rs1 : GReg) (class1 : Bool)
  /-- ADEBIT_GRANTED (R461). -/
  | adebitGranted (c : Core)
  /-- CRR (R462). -/
  | crr (c : Core) (rd : GReg) (cr : BitVec 7)
  /-- CRW (R463). -/
  | crw (c : Core) (rd rs1 : GReg) (cr : BitVec 7)
  /-- CRS (R463). -/
  | crs (c : Core) (rd rs1 : GReg) (cr : BitVec 7)
  /-- CRC (R463). -/
  | crc (c : Core) (rd rs1 : GReg) (cr : BitVec 7)
  /-- TRET (R464). -/
  | tret (c : Core)
  /-- SYSCALL (R462). -/
  | syscall (c : Core) (arg : BitVec 12)
  /-- BREAK (R462). -/
  | brk (c : Core)
  /-- ICINV (R465). -/
  | icinv (c : Core) (rs1 : GReg) (line : Bool)
  /-- WSEQ (R466). -/
  | wseq (c : Core) (rd : GReg)
  /-- WAIT (R467). -/
  | wait (c : Core)
  /-- WAIT_RESUME (R467). -/
  | waitResume (c : Core)
  /-- IMGVER (R468). -/
  | imgver (c : Core) (rd rs1 : GReg) (act : Bool)
  /-- CACHE_FILL (R478). -/
  | cacheFill (addr : BitVec 40) (found : CodeCheck)
  /-- WAY_LOCK (R481). -/
  | wayLock (mask : BitVec 16)
  /-- CLEAN (R482). -/
  | rangeClean (inclLocked : Bool)
  /-- INVALIDATE (R482). -/
  | rangeInvalidate (inclLocked : Bool)
  /-- CLEAN_INV (R482). -/
  | rangeCleanInv (inclLocked : Bool)
  /-- PRELOAD (R482). -/
  | rangePreload (inclLocked : Bool) (way : Fin 16)
  /-- RANGE_OPERATION_DONE (R483). -/
  | rangeOperationDone
  /-- WAY_GROUP_OFF (R485). -/
  | wayGroupOff (g : Fin 4)
  /-- WAY_GROUP_ON (R485). -/
  | wayGroupOn (g : Fin 4)
  /-- WAY_GROUP_CHANGE_DONE (R485). -/
  | wayGroupChangeDone
  /-- CACHE_DISABLE (R486). -/
  | cacheDisable
  /-- CACHE_DISABLE_DONE (R486). -/
  | cacheDisableDone
  /-- CACHE_ENABLE (R487). -/
  | cacheEnable
  /-- CACHE_ENABLE_DONE (R487). -/
  | cacheEnableDone
  /-- MEMORY_SCRUB (R494). -/
  | memoryScrub (addr : BitVec 40) (found : CodeCheck)
  /-- VITAL_WORD_CHECK (R497). -/
  | vitalWordCheck
  /-- JSEQ_WRITE (R498). -/
  | jseqWrite (v : Word)
  /-- RESERVATION_COMMIT (R498). -/
  | reservationCommit (jseq : Bool)
  /-- DMA_ARM (R504). -/
  | dmaArm (ch : DmaCh)
  /-- DMA_DESCRIPTOR_POP (R504). -/
  | dmaDescriptorPop (ch : DmaCh)
  /-- SHADOW_LOAD (R503). -/
  | shadowLoad (ch : DmaCh)
  /-- COPY (R505). -/
  | dmaCopy (ch : DmaCh)
  /-- FILL (R505). -/
  | dmaFill (ch : DmaCh)
  /-- DMA_BURST_GRANT (R514). -/
  | dmaBurstGrant (d : Fin 4) (req : BitVec 32)
  /-- DMA_BUS_ERROR (R509). -/
  | dmaBusError (ch : DmaCh) (write : Bool) (addr : BitVec 40)
  /-- DMA_COMPLETION (R515). -/
  | dmaCompletion (ch : DmaCh)
  /-- DMA_COMPLETION_PUSH (R515). -/
  | dmaCompletionPush (ch : DmaCh)
  /-- DMA_ERR_CLEAR (R511). -/
  | dmaErrClear (ch : DmaCh)
  /-- DMA_CHANNEL_DISABLE (R516). -/
  | dmaChannelDisable (ch : DmaCh)
  /-- DMA_ENGINE_DISABLE (R516). -/
  | dmaEngineDisable (d : Fin 4)
  /-- FLASH_READ (R521). -/
  | flashRead
  /-- PROGRAM (R521). -/
  | flashProgram
  /-- ERASE (R521). -/
  | flashErase
  /-- SFDP_READ (R518). -/
  | sfdpRead
  /-- FLASH_OPERATION_DONE (R521). -/
  | flashOperationDone (devError : Bool)
  /-- ENABLE_CHECK (R530). -/
  | enableCheck
  /-- CFG_DISABLE (R530). -/
  | cfgDisable
  /-- BOOT (R569). -/
  | boot (step : BootStep)
  /-- IMAGE_SWITCH (R577). -/
  | imageSwitch (r : SwitchReq)
  /-- HIERARCHY_TICK (R534). -/
  | hierarchyTick
  /-- BEACON (R535). -/
  | beacon (term : BitVec 32) (epoch : BitVec 16) (digests : List (BitVec 384))
  /-- CENSUS (R534). -/
  | census (m : Fin 64) (c : CensusMsg)
  /-- GRANT (R538). -/
  | grant (term : BitVec 32) (mw : BitVec 32) (gseq : BitVec 32)
  /-- TOKEN_REQ (R539). -/
  | tokenReq (m : Fin 64) (b : Bay)
  /-- TOKEN (R539). -/
  | token (id : BitVec 8) (b : Bay)
  /-- TOKEN_RET (R539). -/
  | tokenRet (m : Fin 64) (id : BitVec 8)
  /-- TAKEOVER (R535). -/
  | takeover
  /-- BEACON_LOSS_FENCE (R536). -/
  | beaconLossFence
  /-- TOKEN_LEASE_EXPIRY (R539). -/
  | tokenLeaseExpiry (id : BitVec 8)
  /-- PUBLISH (R542). -/
  | publish
  /-- EVENT_ENTRY (R548). -/
  | eventEntry (ch : Fin 32)
  /-- SUMMARY (R553). -/
  | evrSummary
  /-- LOST (R554). -/
  | evrLost (ch : Fin 32)
  /-- FREEZE (R555). -/
  | freeze (v : Bool)
  /-- FREEZE_TIMEOUT (R555). -/
  | freezeTimeout
  /-- LOG_DRAIN (R556). -/
  | logDrain (good : Bool)
  /-- EVENT_FLUSH (R557). -/
  | eventFlush (trigger : FlushTrigger)
  /-- EVENT_FLUSH_DONE (R557). -/
  | eventFlushDone
  /-- MAC_VERIFY (R559). -/
  | macVerify
  /-- QUIESCE (R572). -/
  | quiesce (who : Agent) (dom : BitVec 8)
  /-- RESET (R571). -/
  | domReset (who : Agent) (dom : BitVec 8)
  /-- OFF (R571). -/
  | domOff (who : Agent) (dom : BitVec 8)
  /-- ON (R571). -/
  | domOn (who : Agent) (dom : BitVec 8)
  /-- RETURN (R571). -/
  | domReturn (who : Agent) (dom : BitVec 8)
  /-- DRAIN_DONE (R572). -/
  | drainDone (dom : BitVec 8)
  /-- DRAIN_TIMEOUT (R572). -/
  | drainTimeout (dom : BitVec 8)
  /-- CORE_RELEASE (R574). -/
  | coreRelease (mask : BitVec 16)
  /-- COLD_RESET (R565). -/
  | coldReset (role : BitVec 2) (profile : BitVec 2)
  /-- WARM_RESET (R567). -/
  | warmReset (smbus : Bool)
  /-- FORCED_WARM_RESET (R568). -/
  | forcedWarmReset (smbus : Bool)
  /-- WARM_RESET_DRAIN_TIMEOUT (R567). -/
  | warmResetDrainTimeout
  /-- WATCHDOG (R568). -/
  | watchdog
  /-- KICK (R568). -/
  | kick
  /-- SMBUS_READ (R578). -/
  | smbusRead (off : BitVec 8)
  /-- SMBUS_WRITE (R578). -/
  | smbusWrite (off : BitVec 8) (v : Byte)
  /-- SMBUS_ALERT_RESPONSE (R599). -/
  | smbusAlertResponse
  /-- START_BRAKE_END (R205). -/
  | startBrakeEnd (b : Bay)
  /-- DATA_HOLD_EXPIRY (R314). -/
  | dataHoldExpiry (sid : Sid) (seq : BitVec 32)
  /-- REGISTER_READ (R12). -/
  | registerRead (who : Agent) (addr : BitVec 40) (wide : Bool)
  /-- FUSE_COMMAND_DONE (R392). -/
  | fuseCommandDone (readBackOk : Bool)
  /-- ENTROPY_FAULT_CLEAR (R368). -/
  | entropyFaultClear
  /-- POR_N_LOW (R566). -/
  | porNLow
  /-- CLOCK_RETURN (R36). -/
  | clockReturn (c : ClockIn)
  /-- BT_COMMAND_DONE (R263). -/
  | btCommandDone
  /-- ENABLE_CHECK_DONE (R530). -/
  | enableCheckDone
  /-- SERVICE_TIME_HALVING (R257). -/
  | serviceTimeHalving
  deriving DecidableEq, Repr

end Sys2Proof
end

