-- ==== Sys2Proof/Config.lean ====
section
/-! DEFINITION. Sys2Proof/Config.lean: what the spec leaves to an implementation and the free values. An `opaque`
constant has no body that a proof can see: a claim that holds in this model holds whatever its value is. -/
namespace Sys2Proof

/-- The events that units record and whose code number the spec leaves to "the event code list issued with each
Melwick firmware release" (R547). -/
inductive EvKind where
  | storePoison | clockLoss | lockLost | wallSet
  | laneDown | linkSlip | mwFail | bridgeFault | authFail | chain
  | writeFault | facetTrap | facetUe
  | servoFault | servoPark | spindleFault | chopperFault
  | lifeWarn | lifeLimit | lifeRecord | calibration | bridgeRatio
  | bandTable | recovery | prismLost | rebuild
  | session | authBurst | entropy | ownership | loupe | fuse
  | ledger | debitWait | aperture
  | trap | cacheError | memoryError | vitalWord | image | domain
  deriving DecidableEq, Repr

/-- A soft error in one of the stores that carry a code: of word `w` of the `i`-th entry of a lightpipe (R18), of a word of a
Facet's stores (R154), of a data word or the tag of a Lens-cache line (R488, R489), of a level-1 line (R480), of a granule
of memory (R491), of one copy of a vital word (R497). `double` says that the code cannot correct it. -/
inductive Upset where
  | none
  | lightpipe (lp i : Nat) (w : Fin 4) (double : Bool)
  | facet (f : Nat) (bank1 : Bool) (key : Nat) (double : Bool)
  | cacheData (key : Nat) (w : Fin 8) (double : Bool)
  | cacheTag (key : Nat)
  | level1 (c : Nat) (instr : Bool) (line : Nat)
  | granule (addr : Nat) (double : Bool)
  | vital (i copy : Nat) (v : Word)
  deriving DecidableEq, Repr, Inhabited

namespace Config

/-- The number n − 3 of an event's code on its channel (R547: n = 3 to 31). -/
opaque eventCode : EvKind → Fin 29
/-- The argument bytes of an event, which the spec leaves to the event code list (R547); one value per event raised. -/
opaque eventArg : Nat → BitVec 176
/-- The argument bytes of an event of a kind whose arguments the spec names: the event code list lays them out (R547). -/
opaque eventArgOf : EvKind → List Nat → BitVec 176
/-- A byte of memory or buffer whose contents the spec leaves unknown, one value per use. -/
opaque freeByte : Nat → Byte
/-- A word that the spec leaves unstated, one value per use. -/
opaque freeWord : Nat → Word
/-- A natural number that the spec leaves unstated, one value per use. -/
opaque freeNat : Nat → Nat
/-- A yes-or-no choice that the spec leaves unstated, one value per use. -/
opaque freeBool : Nat → Bool
/-- The soft error that strikes as a nanosecond passes, if any: nothing in the spec says when one does. -/
opaque upset : Nat → Upset
/-- Bits drawn with the DRBG (R368), one value per draw. -/
opaque cryptoBytes : Nat → BitVec 512
/-- The sign of a VCM hold that drives an actuator outward, towards the ramp (R192 does not state it): true if negative. -/
opaque vcmOutwardNegative : Bool

/-- Sideband byte 0x10 (R578): the bay count and the grade (true: extended) as packed into one byte, whose packing the spec
does not state. -/
opaque baysGrade : Nat → Bool → Byte

/-- Byte `i` of the LDPC parity of a sector's information bytes (R111 gives the code's shape and not its matrix). -/
opaque ldpcParity : List Byte → Nat → Byte
/-- Bits of the fixed patterns of the track format whose values the spec does not state (R109, Sector slot table): the sync mark,
the mark of a resync field, the place in its period at which a 2T pattern begins, and what is driven in the gap. -/
opaque syncMark : Nat → Bool
opaque resyncMark : Nat → Bool
opaque twoTPhase : Nat
opaque gapBit : Nat → Bool
/-- What the linearisation of PES makes of a value that the bursts gave, by the 32 points of SRV_PESLIN (R167, R244): the spec gives
the points and not the function between them. -/
opaque pesLin : List (BitVec 16) → BitVec 16 → BitVec 16
/-- Words of a Facet's stores that no write has defined since the contents were lost (R157): microword, nanoword, and what the
check bits of a word say (0 matching, 1 correctable, 2 not). -/
opaque storeMicro : Nat → Nat → BitVec 20
opaque storeNano : Nat → Nat → BitVec 96
opaque storeErr : Nat → Nat → Fin 3
/-- Check bits of a word of a Facet's stores by the state of its code (R154 gives the codes' sizes and not their matrices). -/
opaque microCheck : Nat → BitVec 20 → BitVec 6
opaque nanoCheck : Nat → BitVec 96 → BitVec 8
/-- The MAC operation codes of a nanoword that multiply and accumulate, and the class number and slot of the engine's own eight
that a value of a slice's action field arms (R164 states neither encoding). -/
opaque macAdds : BitVec 6 → Bool
opaque sliceArm : BitVec 4 → Option (Nat × Nat)
/-- Byte `i` of a training frame that the device sends, after its type. -/
opaque trainingByte : Nat → Byte
/-- Byte `i` of a sector's raw samples as a deferral slot holds them (R132): the packing of 6-bit samples and erasures is not
stated. -/
opaque sampleByte : List (Option (BitVec 6)) → Nat → Byte
/-- A byte of the boot ROM, by address (R38): the ROM's contents are the maker's. -/
opaque romByte : Nat → Byte

/-- The estimate of a seek's time from the last seeks, as distance and time, grouped by distance (R257); how they are grouped
and what is taken of a group is unstated. -/
opaque seekEstimate : List (Nat × Nat) → Nat → Nat
/-- FDS, the fused device secret (R363): 256 bytes that only the key deriver reads. -/
opaque fds : BitVec 256
/-- TS(t) as drawn from the DRBG, by the security record, the tenant and the erases of the tenant since (R364, R372, R384). -/
opaque tenantSalt : Nat → Nat → Nat → BitVec 256
/-- AES-256-GCM (R311, R378): byte `i` of the key stream of a key and a nonce, and the tag of additional data and ciphertext. -/
opaque gcmStream : BitVec 256 → List Byte → Nat → Byte
opaque gcmTag : BitVec 256 → List Byte → List Byte → List Byte → BitVec 128
/-- AES-256 key wrap (SP 800-38F) and its inverse, none where the integrity check fails (R377). -/
opaque keyWrap : BitVec 256 → BitVec 256 → BitVec 320
opaque keyUnwrap : BitVec 256 → BitVec 320 → Option (BitVec 256)
/-- AES-256-XTS (R382): byte `i` of the ciphertext of a 64-byte line under a key, with the line's address as tweak. -/
opaque xts : BitVec 512 → Nat → List Byte → Nat → Byte
/-- Bytes 48 to 123 of a journal record (R275): the encoding of items and of LOST rows is not stated. -/
opaque recordBody : JRec → Nat → Byte
/-- A surface header (R253) and a root (R272) but for their CRCs: their fields are listed and given no places. -/
opaque headerBody : SurfHeader → List Byte
opaque rootBody : Root → List Byte
/-- What the bytes of a security policy section say: R374 gives its fields and not their places. -/
opaque secPolicy : List Byte → SecPolicy
/-- The lightpipe depths that a profile's sections set: R22 gives the profile that and R525 no section for it. -/
opaque profileDepths : List (Nat × List Byte) → List (Nat × Nat)
/-- The least size, in blocks of 64 KiB, of a flash region by the type byte of its entry in the flash header: R519 gives the regions
and not their type codes. -/
opaque regionMin : Byte → Nat
/-- The measurement of a Facet microcode set made of the measurements of its images by target (R388 does not say how). -/
opaque microcodeSet : List (BitVec 384) → BitVec 384
/-- The leaf's public key of a chain of DER X.509 v3 certificates, leaf first, where the chain verifies to one of the given anchors,
each SHA-384 of a certificate (R104, R310, R374): X.509 verification is outside the spec. -/
opaque chainKey : List Byte → List (BitVec 384) → Option (List Byte)
/-- The anchors of Melwick's own root, to which a member's chain verifies (R366, R534): the spec gives no value of them. -/
opaque melwickRoots : List (BitVec 384)
/-- DIK's ECDSA P-384 signature, r then s, over a digest (R309, R367, R388): the scalar is in fuses that only the signing unit
reads. -/
opaque dikSign : List Byte → List Byte
/-- DIK's public key as an uncompressed point (R366). -/
opaque dikPub : List Byte
/-- The certificate chain that the identity area of SPI flash holds, and its leaf's public key (R366): the area's layout is
not stated. -/
opaque identityChain : List Byte → Option (List Byte)
opaque leafKey : List Byte → Option (List Byte)
/-- The digest that the receipt of a Loupe unlock signs (R367, R390), of its nonce: the receipt's format is stated nowhere. -/
opaque receiptDigest : BitVec 384 → List Byte

end Config

end Sys2Proof
end

