-- ==== Sys2Proof/Machine/RegMap.lean ====
section
/-! DEFINITION. Sys2Proof/Machine/RegMap.lean: the register map. One definition per register and per field of the
spec's register tables (R72, R107, R138, R166, R195, R222, R247, R274, R304, R340, R392, R421, R472, R490, R500, R517,
R545, R560, R579, R601), named as the spec names them with '_' for '.', and the same tables as rows for bus accesses.

A field's reset value is the Reset column; where that column holds X (undefined until written, R16) the model's value
is 0 (DESIGN CHOICE, log entry 2). -/
namespace Sys2Proof.Machine

/-- C_i (mJ/°C) in the low half and R_i (0.001 °C/W) in the high half of THM_PARAM(i) (R414, Thermal nodes). -/
def thmParamReset (i : Nat) : Nat :=
  match i with
  | 0 => 60 + 65536 * 400
  | 1 => 40 + 65536 * 600
  | 2 => 40 + 65536 * 600
  | 3 => 30 + 65536 * 800
  | 4 => 20 + 65536 * 900
  | 5 => 30 + 65536 * 700
  | 6 => 40 + 65536 * 500
  | 7 => 25000 + 65536 * 50
  | _ => 0

/-- The default of parameter `i` (R527, Parameters). IDs with no row read 0. -/
def cfgParamReset (i : Nat) : Nat :=
  match i with
  | 0 => 24 | 1 => 2000000 | 2 => 90 | 3 => 20000 | 4 => 20000 | 5 => 600000 | 6 => 60 | 7 => 50
  | 8 => 5 | 9 => 60 | 10 => 50 | 11 => 8 | 12 => 30 | 13 => 60 | 14 => 50 | 15 => 16 | 16 => 0
  | 17 => 200000 | 18 => 400000 | 19 => 8 | 20 => 150 | 21 => 10
  | i => if 64 ≤ i ∧ i < 96 then 7200 else 0

/-- PWR_DOM(n) after cold reset: OPERATING (2), but 0 for Lens cores 1 to 15 (R579). -/
def pwrDomReset (n : Nat) : Nat := if 97 ≤ n ∧ n ≤ 111 then 0 else 2

/-- ANG_CTL (R72). -/
def ANG_CTL (b : Nat) : Reg := ⟨0x20f00000 + b * 0x200, 0x1033200⟩
def ANG_CTL_WIN (b : Nat) : Fld := ⟨ANG_CTL b, 19, 8⟩
def ANG_CTL_REACQ (b : Nat) : Fld := ⟨ANG_CTL b, 16, 3⟩
def ANG_CTL_COAST_MAX (b : Nat) : Fld := ⟨ANG_CTL b, 12, 4⟩
def ANG_CTL_NW (b : Nat) : Fld := ⟨ANG_CTL b, 0, 11⟩
/-- ANG_STAT (R72). -/
def ANG_STAT (b : Nat) : Reg := ⟨0x20f00004 + b * 0x200, 0⟩
def ANG_STAT_COLL (b : Nat) : Fld := ⟨ANG_STAT b, 19, 1⟩
def ANG_STAT_LATE (b : Nat) : Fld := ⟨ANG_STAT b, 18, 1⟩
def ANG_STAT_REBASED (b : Nat) : Fld := ⟨ANG_STAT b, 17, 1⟩
def ANG_STAT_LOST (b : Nat) : Fld := ⟨ANG_STAT b, 16, 1⟩
def ANG_STAT_GOOD (b : Nat) : Fld := ⟨ANG_STAT b, 10, 4⟩
def ANG_STAT_COAST (b : Nat) : Fld := ⟨ANG_STAT b, 4, 6⟩
def ANG_STAT_WOK (b : Nat) : Fld := ⟨ANG_STAT b, 3, 1⟩
def ANG_STAT_SPD_OK (b : Nat) : Fld := ⟨ANG_STAT b, 2, 1⟩
def ANG_STAT_SRC (b : Nat) : Fld := ⟨ANG_STAT b, 0, 2⟩
/-- ANG_CNT (R72). -/
def ANG_CNT (b : Nat) : Reg := ⟨0x20f00008 + b * 0x200, 0⟩
def ANG_CNT_VALUE (b : Nat) : Fld := ⟨ANG_CNT b, 0, 32⟩
/-- ANG_PERIOD (R72). -/
def ANG_PERIOD (b : Nat) : Reg := ⟨0x20f0000c + b * 0x200, 0⟩
def ANG_PERIOD_NS (b : Nat) : Fld := ⟨ANG_PERIOD b, 0, 32⟩
/-- ANG_UPLAT (R72). -/
def ANG_UPLAT (b : Nat) : Reg := ⟨0x20f00010 + b * 0x200, 0⟩
def ANG_UPLAT_NS (b : Nat) : Fld := ⟨ANG_UPLAT b, 0, 32⟩
/-- ANG_DNLAT (R72). -/
def ANG_DNLAT (b : Nat) : Reg := ⟨0x20f00014 + b * 0x200, 0⟩
def ANG_DNLAT_NS (b : Nat) : Fld := ⟨ANG_DNLAT b, 0, 32⟩
/-- ANG_ERR (R72). -/
def ANG_ERR (b : Nat) : Reg := ⟨0x20f00018 + b * 0x200, 0⟩
def ANG_ERR_AU (b : Nat) : Fld := ⟨ANG_ERR b, 0, 16⟩
/-- ANG_TOL (R72). -/
def ANG_TOL (b : Nat) : Reg := ⟨0x20f0001c + b * 0x200, 0x40⟩
def ANG_TOL_TOL (b : Nat) : Fld := ⟨ANG_TOL b, 0, 11⟩
/-- ANG_MISS (R72). -/
def ANG_MISS (b : Nat) : Reg := ⟨0x20f00020 + b * 0x200, 0⟩
def ANG_MISS_COUNT (b : Nat) : Fld := ⟨ANG_MISS b, 0, 32⟩
/-- ANG_REBASE (R72). -/
def ANG_REBASE (b : Nat) : Reg := ⟨0x20f00024 + b * 0x200, 0⟩
def ANG_REBASE_DELTA (b : Nat) : Fld := ⟨ANG_REBASE b, 0, 32⟩
/-- ANG_SLOTS (R72). -/
def ANG_SLOTS (b : Nat) : Reg := ⟨0x20f00028 + b * 0x200, 0⟩
def ANG_SLOTS_ARMED (b : Nat) : Fld := ⟨ANG_SLOTS b, 0, 7⟩
/-- ANG_SNAP_CNT (R72). -/
def ANG_SNAP_CNT (b : Nat) : Reg := ⟨0x20f0002c + b * 0x200, 0⟩
def ANG_SNAP_CNT_VALUE (b : Nat) : Fld := ⟨ANG_SNAP_CNT b, 0, 32⟩
/-- ANG_SKEW (R72). -/
def ANG_SKEW (b a h : Nat) : Reg := ⟨0x20f00100 + b * 0x200 + a * 0x40 + h * 4, 0⟩
def ANG_SKEW_AU (b a h : Nat) : Fld := ⟨ANG_SKEW b a h, 0, 16⟩
/-- ANG_WT (R72). -/
def ANG_WT : Reg := ⟨0x20f0f000, 0⟩
def ANG_WT_NS : Fld := ⟨ANG_WT, 0, 64⟩
/-- ANG_WT_STAT (R72). -/
def ANG_WT_STAT : Reg := ⟨0x20f0f008, 0⟩
def ANG_WT_STAT_CRCERR : Fld := ⟨ANG_WT_STAT, 3, 1⟩
def ANG_WT_STAT_SLEW : Fld := ⟨ANG_WT_STAT, 2, 1⟩
def ANG_WT_STAT_HOLD : Fld := ⟨ANG_WT_STAT, 1, 1⟩
def ANG_WT_STAT_EPOCH : Fld := ⟨ANG_WT_STAT, 0, 1⟩
/-- ANG_SNAP (R72). -/
def ANG_SNAP : Reg := ⟨0x20f0f00c, 0⟩
def ANG_SNAP_GO : Fld := ⟨ANG_SNAP, 0, 1⟩
/-- ANG_SNAP_WT (R72). -/
def ANG_SNAP_WT : Reg := ⟨0x20f0f010, 0⟩
def ANG_SNAP_WT_NS : Fld := ⟨ANG_SNAP_WT, 0, 64⟩
/-- ANG_RS_SEC (R72). -/
def ANG_RS_SEC : Reg := ⟨0x20f0f018, 0⟩
def ANG_RS_SEC_S : Fld := ⟨ANG_RS_SEC, 0, 40⟩
/-- BL_CTL (R107). -/
def BL_CTL (b : Nat) : Reg := ⟨0x20400000 + b * 0x10000, 0x32032⟩
def BL_CTL_ATTACHED (b : Nat) : Fld := ⟨BL_CTL b, 20, 1⟩
def BL_CTL_TRIES (b : Nat) : Fld := ⟨BL_CTL b, 16, 4⟩
def BL_CTL_DOWNN (b : Nat) : Fld := ⟨BL_CTL b, 8, 8⟩
def BL_CTL_RETRY (b : Nat) : Fld := ⟨BL_CTL b, 4, 4⟩
def BL_CTL_SAFE_REQ (b : Nat) : Fld := ⟨BL_CTL b, 2, 1⟩
def BL_CTL_AUTORT (b : Nat) : Fld := ⟨BL_CTL b, 1, 1⟩
def BL_CTL_EN (b : Nat) : Fld := ⟨BL_CTL b, 0, 1⟩
/-- BL_STAT (R107). -/
def BL_STAT (b : Nat) : Reg := ⟨0x20400004 + b * 0x10000, 0⟩
def BL_STAT_FCAUSE (b : Nat) : Fld := ⟨BL_STAT b, 16, 4⟩
def BL_STAT_AUTHFAIL (b : Nat) : Fld := ⟨BL_STAT b, 15, 1⟩
def BL_STAT_DOWN (b : Nat) : Fld := ⟨BL_STAT b, 14, 1⟩
def BL_STAT_MWFAIL (b : Nat) : Fld := ⟨BL_STAT b, 13, 1⟩
def BL_STAT_MWOVF (b : Nat) : Fld := ⟨BL_STAT b, 12, 1⟩
def BL_STAT_MWFULL (b : Nat) : Fld := ⟨BL_STAT b, 11, 1⟩
def BL_STAT_SLIP (b : Nat) : Fld := ⟨BL_STAT b, 10, 1⟩
def BL_STAT_FLT (b : Nat) : Fld := ⟨BL_STAT b, 9, 1⟩
def BL_STAT_WSAFE (b : Nat) : Fld := ⟨BL_STAT b, 8, 1⟩
def BL_STAT_DUP (b : Nat) : Fld := ⟨BL_STAT b, 7, 1⟩
def BL_STAT_U1UP (b : Nat) : Fld := ⟨BL_STAT b, 6, 1⟩
def BL_STAT_U0UP (b : Nat) : Fld := ⟨BL_STAT b, 5, 1⟩
def BL_STAT_PRESENT (b : Nat) : Fld := ⟨BL_STAT b, 4, 1⟩
def BL_STAT_STATE (b : Nat) : Fld := ⟨BL_STAT b, 0, 4⟩
/-- BL_LAT (R107). -/
def BL_LAT (b : Nat) : Reg := ⟨0x20400008 + b * 0x10000, 0⟩
def BL_LAT_RTT_RAW (b : Nat) : Fld := ⟨BL_LAT b, 0, 13⟩
def BL_LAT_U1SKEW (b : Nat) : Fld := ⟨BL_LAT b, 13, 3⟩
def BL_LAT_TURN (b : Nat) : Fld := ⟨BL_LAT b, 16, 16⟩
/-- BL_PAD (R107). -/
def BL_PAD (b : Nat) : Reg := ⟨0x2040000c + b * 0x10000, 0⟩
def BL_PAD_PAD_DN (b : Nat) : Fld := ⟨BL_PAD b, 0, 12⟩
def BL_PAD_PAD_UP (b : Nat) : Fld := ⟨BL_PAD b, 16, 12⟩
/-- BL_DNERR (R107). -/
def BL_DNERR (b : Nat) : Reg := ⟨0x20400020 + b * 0x10000, 0⟩
def BL_DNERR_COUNT (b : Nat) : Fld := ⟨BL_DNERR b, 0, 32⟩
/-- BL_MWRETRY (R107). -/
def BL_MWRETRY (b : Nat) : Reg := ⟨0x20400024 + b * 0x10000, 0⟩
def BL_MWRETRY_COUNT (b : Nat) : Fld := ⟨BL_MWRETRY b, 0, 32⟩
/-- BL_FAULT (R107). -/
def BL_FAULT (b : Nat) : Reg := ⟨0x20400028 + b * 0x10000, 0⟩
def BL_FAULT_LAST (b : Nat) : Fld := ⟨BL_FAULT b, 0, 32⟩
/-- BL_MW (R107). -/
def BL_MW (b : Nat) : Reg := ⟨0x20400030 + b * 0x10000, 0⟩
def BL_MW_WORD (b : Nat) : Fld := ⟨BL_MW b, 0, 64⟩
/-- BL_SRATE (R107). -/
def BL_SRATE (b a : Nat) : Reg := ⟨0x20400010 + b * 0x10000 + a * 4, 0⟩
def BL_SRATE_SRATE (b a : Nat) : Fld := ⟨BL_SRATE b a, 0, 17⟩
/-- BL_UPERR (R107). -/
def BL_UPERR (b a : Nat) : Reg := ⟨0x20400018 + b * 0x10000 + a * 4, 0⟩
def BL_UPERR_COUNT (b a : Nat) : Fld := ⟨BL_UPERR b a, 0, 32⟩
/-- BL_TLM (R107). -/
def BL_TLM (b i : Nat) : Reg := ⟨0x20400040 + b * 0x10000 + i * 4, 0⟩
def BL_TLM_VALUE (b i : Nat) : Fld := ⟨BL_TLM b i, 0, 32⟩
/-- CS_CTL (R138). -/
def CS_CTL (k : Nat) : Reg := ⟨0x20000000 + k * 0x10000, 0x50a0000⟩
def CS_CTL_OVS (k : Nat) : Fld := ⟨CS_CTL k, 24, 8⟩
def CS_CTL_LMTOL (k : Nat) : Fld := ⟨CS_CTL k, 16, 8⟩
def CS_CTL_EN (k : Nat) : Fld := ⟨CS_CTL k, 0, 1⟩
/-- CS_STAT (R138). -/
def CS_STAT (k : Nat) : Reg := ⟨0x20000004 + k * 0x10000, 0⟩
def CS_STAT_DEFER_USED (k : Nat) : Fld := ⟨CS_STAT k, 8, 7⟩
def CS_STAT_LASER_ON (k : Nat) : Fld := ⟨CS_STAT k, 3, 1⟩
def CS_STAT_READING (k : Nat) : Fld := ⟨CS_STAT k, 2, 1⟩
def CS_STAT_WRITING (k : Nat) : Fld := ⟨CS_STAT k, 1, 1⟩
def CS_STAT_BUSY (k : Nat) : Fld := ⟨CS_STAT k, 0, 1⟩
/-- CS_HAMR0 (R138). -/
def CS_HAMR0 (k : Nat) : Reg := ⟨0x20000008 + k * 0x10000, 0x7d003e8⟩
def CS_HAMR0_T_HTR (k : Nat) : Fld := ⟨CS_HAMR0 k, 0, 16⟩
def CS_HAMR0_T_LBIAS (k : Nat) : Fld := ⟨CS_HAMR0 k, 16, 16⟩
/-- CS_HAMR1 (R138). -/
def CS_HAMR1 (k : Nat) : Reg := ⟨0x2000000c + k * 0x10000, 0x100a2850⟩
def CS_HAMR1_T_LRAMP (k : Nat) : Fld := ⟨CS_HAMR1 k, 0, 8⟩
def CS_HAMR1_T_LSET (k : Nat) : Fld := ⟨CS_HAMR1 k, 8, 8⟩
def CS_HAMR1_T_LTAIL (k : Nat) : Fld := ⟨CS_HAMR1 k, 16, 8⟩
def CS_HAMR1_MERGE (k : Nat) : Fld := ⟨CS_HAMR1 k, 24, 8⟩
/-- CS_RETRY (R138). -/
def CS_RETRY (k : Nat) : Reg := ⟨0x20000010 + k * 0x10000, 0xc0600d7⟩
def CS_RETRY_MAXSTEP (k : Nat) : Fld := ⟨CS_RETRY k, 0, 3⟩
def CS_RETRY_MAXREV (k : Nat) : Fld := ⟨CS_RETRY k, 4, 8⟩
def CS_RETRY_OFF1 (k : Nat) : Fld := ⟨CS_RETRY k, 16, 8⟩
def CS_RETRY_OFF2 (k : Nat) : Fld := ⟨CS_RETRY k, 24, 8⟩
/-- CS_DEC (R138). -/
def CS_DEC (k : Nat) : Reg := ⟨0x20000014 + k * 0x10000, 0x3062⟩
def CS_DEC_OTF_GLOBAL (k : Nat) : Fld := ⟨CS_DEC k, 0, 4⟩
def CS_DEC_OTF_LOCAL (k : Nat) : Fld := ⟨CS_DEC k, 4, 4⟩
def CS_DEC_DEF_ITER (k : Nat) : Fld := ⟨CS_DEC k, 8, 8⟩
/-- CS_DEFER (R138). -/
def CS_DEFER (k : Nat) : Reg := ⟨0x20000018 + k * 0x10000, 0x20⟩
def CS_DEFER_SLOTS (k : Nat) : Fld := ⟨CS_DEFER k, 0, 7⟩
/-- CS_DEFER_BASE (R138). -/
def CS_DEFER_BASE (k : Nat) : Reg := ⟨0x20000020 + k * 0x10000, 0⟩
def CS_DEFER_BASE_ADDR (k : Nat) : Fld := ⟨CS_DEFER_BASE k, 0, 40⟩
/-- CS_RD_SECT (R138). -/
def CS_RD_SECT (k : Nat) : Reg := ⟨0x20000028 + k * 0x10000, 0⟩
def CS_RD_SECT_COUNT (k : Nat) : Fld := ⟨CS_RD_SECT k, 0, 32⟩
/-- CS_WR_SECT (R138). -/
def CS_WR_SECT (k : Nat) : Reg := ⟨0x2000002c + k * 0x10000, 0⟩
def CS_WR_SECT_COUNT (k : Nat) : Fld := ⟨CS_WR_SECT k, 0, 32⟩
/-- CS_UNC (R138). -/
def CS_UNC (k : Nat) : Reg := ⟨0x20000030 + k * 0x10000, 0⟩
def CS_UNC_COUNT (k : Nat) : Fld := ⟨CS_UNC k, 0, 32⟩
/-- CS_WFAULT (R138). -/
def CS_WFAULT (k : Nat) : Reg := ⟨0x20000034 + k * 0x10000, 0⟩
def CS_WFAULT_LAST (k : Nat) : Fld := ⟨CS_WFAULT k, 0, 4⟩
def CS_WFAULT_COUNT (k : Nat) : Fld := ⟨CS_WFAULT k, 8, 24⟩
/-- CS_SCH_CTL (R274). -/
def CS_SCH_CTL (k : Nat) : Reg := ⟨0x20006000 + k * 0x10000, 0x24ac8⟩
def CS_SCH_CTL_AGE (k : Nat) : Fld := ⟨CS_SCH_CTL k, 0, 8⟩
def CS_SCH_CTL_W_HOST (k : Nat) : Fld := ⟨CS_SCH_CTL k, 8, 4⟩
def CS_SCH_CTL_W_REB (k : Nat) : Fld := ⟨CS_SCH_CTL k, 12, 4⟩
def CS_SCH_CTL_W_BKG (k : Nat) : Fld := ⟨CS_SCH_CTL k, 16, 4⟩
/-- CS_SCH_STAT (R274). -/
def CS_SCH_STAT (k : Nat) : Reg := ⟨0x20006004 + k * 0x10000, 0⟩
def CS_SCH_STAT_QUEUED (k : Nat) : Fld := ⟨CS_SCH_STAT k, 0, 9⟩
def CS_SCH_STAT_MISSWAIT (k : Nat) : Fld := ⟨CS_SCH_STAT k, 16, 1⟩
def CS_SCH_STAT_HELD (k : Nat) : Fld := ⟨CS_SCH_STAT k, 17, 1⟩
/-- CS_SCH_LZ (R274). -/
def CS_SCH_LZ (k : Nat) : Reg := ⟨0x20006008 + k * 0x10000, 0x24810⟩
def CS_SCH_LZ_T0 (k : Nat) : Fld := ⟨CS_SCH_LZ k, 0, 10⟩
def CS_SCH_LZ_STEP (k : Nat) : Fld := ⟨CS_SCH_LZ k, 10, 3⟩
def CS_SCH_LZ_GIB (k : Nat) : Fld := ⟨CS_SCH_LZ k, 13, 4⟩
def CS_SCH_LZ_G (k : Nat) : Fld := ⟨CS_SCH_LZ k, 17, 3⟩
/-- CS_SCH_REJ (R274). -/
def CS_SCH_REJ (k : Nat) : Reg := ⟨0x2000600c + k * 0x10000, 0⟩
def CS_SCH_REJ_COUNT (k : Nat) : Fld := ⟨CS_SCH_REJ k, 0, 32⟩
/-- CS_STEPCNT (R138). -/
def CS_STEPCNT (k i : Nat) : Reg := ⟨0x20000040 + k * 0x10000 + i * 4, 0⟩
def CS_STEPCNT_COUNT (k i : Nat) : Fld := ⟨CS_STEPCNT k i, 0, 32⟩
/-- CS_HLASER (R138). -/
def CS_HLASER (k h : Nat) : Reg := ⟨0x20000100 + k * 0x10000 + h * 0x10, 0⟩
def CS_HLASER_LWRITE (k h : Nat) : Fld := ⟨CS_HLASER k h, 0, 12⟩
def CS_HLASER_LBIAS (k h : Nat) : Fld := ⟨CS_HLASER k h, 16, 12⟩
/-- CS_HHTR (R138). -/
def CS_HHTR (k h : Nat) : Reg := ⟨0x20000104 + k * 0x10000 + h * 0x10, 0⟩
def CS_HHTR_HWRITE (k h : Nat) : Fld := ⟨CS_HHTR k h, 0, 10⟩
def CS_HHTR_HREAD (k h : Nat) : Fld := ⟨CS_HHTR k h, 16, 10⟩
/-- CS_HWRITE (R138). -/
def CS_HWRITE (k h : Nat) : Reg := ⟨0x20000108 + k * 0x10000 + h * 0x10, 0⟩
def CS_HWRITE_WCUR (k h : Nat) : Fld := ⟨CS_HWRITE k h, 0, 8⟩
def CS_HWRITE_OVSHOOT (k h : Nat) : Fld := ⟨CS_HWRITE k h, 8, 8⟩
def CS_HWRITE_PCSTEP (k h : Nat) : Fld := ⟨CS_HWRITE k h, 16, 8⟩
/-- CS_HFMT (R138). -/
def CS_HFMT (k h : Nat) : Reg := ⟨0x2000010c + k * 0x10000 + h * 0x10, 0⟩
def CS_HFMT_SFW (k h : Nat) : Fld := ⟨CS_HFMT k h, 0, 8⟩
def CS_HFMT_NZONES (k h : Nat) : Fld := ⟨CS_HFMT k h, 8, 5⟩
def CS_HFMT_LMON (k h : Nat) : Fld := ⟨CS_HFMT k h, 16, 16⟩
/-- CS_LASER_ACC (R138). -/
def CS_LASER_ACC (k h : Nat) : Reg := ⟨0x20000200 + k * 0x10000 + h * 0x10, 0⟩
def CS_LASER_ACC_ACC (k h : Nat) : Fld := ⟨CS_LASER_ACC k h, 0, 64⟩
/-- CS_WPO (R138). -/
def CS_WPO (k h : Nat) : Reg := ⟨0x20000208 + k * 0x10000 + h * 0x10, 0⟩
def CS_WPO_NS (k h : Nat) : Fld := ⟨CS_WPO k h, 0, 64⟩
/-- CS_ZONE0 (R138). -/
def CS_ZONE0 (k h z : Nat) : Reg := ⟨0x20001000 + k * 0x10000 + h * 0x200 + z * 0x10, 0⟩
def CS_ZONE0_START_TRACK (k h z : Nat) : Fld := ⟨CS_ZONE0 k h z, 0, 24⟩
/-- CS_ZONE1 (R138). -/
def CS_ZONE1 (k h z : Nat) : Reg := ⟨0x20001004 + k * 0x10000 + h * 0x200 + z * 0x10, 0⟩
def CS_ZONE1_BPR (k h z : Nat) : Fld := ⟨CS_ZONE1 k h z, 0, 26⟩
/-- CS_ZONE2 (R138). -/
def CS_ZONE2 (k h z : Nat) : Reg := ⟨0x20001008 + k * 0x10000 + h * 0x200 + z * 0x10, 0⟩
def CS_ZONE2_SPT (k h z : Nat) : Fld := ⟨CS_ZONE2 k h z, 0, 12⟩
def CS_ZONE2_TSKEW (k h z : Nat) : Fld := ⟨CS_ZONE2 k h z, 16, 12⟩
/-- CS_ZONE3 (R138). -/
def CS_ZONE3 (k h z : Nat) : Reg := ⟨0x2000100c + k * 0x10000 + h * 0x200 + z * 0x10, 0⟩
/-- CS_CAL (R247). -/
def CS_CAL (k h w : Nat) : Reg := ⟨0x2000c000 + k * 0x10000 + h * 0x400 + w * 4, 0⟩
def CS_CAL_WORD (k h w : Nat) : Fld := ⟨CS_CAL k h w, 0, 32⟩
/-- FCT_CTL (R165). -/
def FCT_CTL (f : Nat) : Reg := ⟨f + 0, 0⟩
def FCT_CTL_BRKEN (f : Nat) : Fld := ⟨FCT_CTL f, 8, 1⟩
def FCT_CTL_CLR (f : Nat) : Fld := ⟨FCT_CTL f, 7, 1⟩
def FCT_CTL_ATTN (f : Nat) : Fld := ⟨FCT_CTL f, 6, 1⟩
def FCT_CTL_NAMODE (f : Nat) : Fld := ⟨FCT_CTL f, 5, 1⟩
def FCT_CTL_RUN (f : Nat) : Fld := ⟨FCT_CTL f, 0, 1⟩
/-- FCT_STAT (R165). -/
def FCT_STAT (f : Nat) : Reg := ⟨f + 4, 0⟩
def FCT_STAT_TRAPACT (f : Nat) : Fld := ⟨FCT_STAT f, 15, 1⟩
def FCT_STAT_HALT (f : Nat) : Fld := ⟨FCT_STAT f, 14, 1⟩
def FCT_STAT_LDERR (f : Nat) : Fld := ⟨FCT_STAT f, 12, 1⟩
def FCT_STAT_BUSY (f : Nat) : Fld := ⟨FCT_STAT f, 11, 1⟩
def FCT_STAT_NAMODE (f : Nat) : Fld := ⟨FCT_STAT f, 10, 1⟩
def FCT_STAT_BANK (f : Nat) : Fld := ⟨FCT_STAT f, 9, 1⟩
def FCT_STAT_WAITING (f : Nat) : Fld := ⟨FCT_STAT f, 8, 1⟩
def FCT_STAT_HCAUSE (f : Nat) : Fld := ⟨FCT_STAT f, 4, 4⟩
def FCT_STAT_LASTTRAP (f : Nat) : Fld := ⟨FCT_STAT f, 0, 4⟩
/-- FCT_START (R165). -/
def FCT_START (f : Nat) : Reg := ⟨f + 8, 0⟩
def FCT_START_ADDR (f : Nat) : Fld := ⟨FCT_START f, 0, 10⟩
/-- FCT_SWAP (R165). -/
def FCT_SWAP (f : Nat) : Reg := ⟨f + 0xc, 0⟩
def FCT_SWAP_ARM (f : Nat) : Fld := ⟨FCT_SWAP f, 31, 1⟩
def FCT_SWAP_COUNT (f : Nat) : Fld := ⟨FCT_SWAP f, 16, 8⟩
def FCT_SWAP_ENTRY (f : Nat) : Fld := ⟨FCT_SWAP f, 0, 10⟩
/-- FCT_TMASK (R165). -/
def FCT_TMASK (f : Nat) : Reg := ⟨f + 0x10, 0⟩
def FCT_TMASK_MASK (f : Nat) : Fld := ⟨FCT_TMASK f, 4, 12⟩
/-- FCT_TPEND (R165). -/
def FCT_TPEND (f : Nat) : Reg := ⟨f + 0x14, 0⟩
def FCT_TPEND_PEND (f : Nat) : Fld := ⟨FCT_TPEND f, 0, 16⟩
/-- FCT_SHADOW (R165). -/
def FCT_SHADOW (f : Nat) : Reg := ⟨f + 0x18, 0⟩
def FCT_SHADOW_UPC (f : Nat) : Fld := ⟨FCT_SHADOW f, 0, 10⟩
def FCT_SHADOW_LC (f : Nat) : Fld := ⟨FCT_SHADOW f, 10, 8⟩
def FCT_SHADOW_FLAGS (f : Nat) : Fld := ⟨FCT_SHADOW f, 18, 4⟩
/-- FCT_UPC (R165). -/
def FCT_UPC (f : Nat) : Reg := ⟨f + 0x1c, 0⟩
def FCT_UPC_UPC (f : Nat) : Fld := ⟨FCT_UPC f, 0, 10⟩
def FCT_UPC_LC (f : Nat) : Fld := ⟨FCT_UPC f, 10, 8⟩
def FCT_UPC_FLAGS (f : Nat) : Fld := ⟨FCT_UPC f, 18, 4⟩
def FCT_UPC_SP (f : Nat) : Fld := ⟨FCT_UPC f, 22, 3⟩
/-- FCT_ECC (R165). -/
def FCT_ECC (f : Nat) : Reg := ⟨f + 0x20, 0⟩
def FCT_ECC_MCE (f : Nat) : Fld := ⟨FCT_ECC f, 0, 16⟩
def FCT_ECC_NCE (f : Nat) : Fld := ⟨FCT_ECC f, 16, 16⟩
/-- FCT_ECCADDR (R165). -/
def FCT_ECCADDR (f : Nat) : Reg := ⟨f + 0x24, 0⟩
def FCT_ECCADDR_ADDR (f : Nat) : Fld := ⟨FCT_ECCADDR f, 0, 10⟩
def FCT_ECCADDR_STORE (f : Nat) : Fld := ⟨FCT_ECCADDR f, 16, 1⟩
def FCT_ECCADDR_UE (f : Nat) : Fld := ⟨FCT_ECCADDR f, 17, 1⟩
/-- FCT_WDOG (R165). -/
def FCT_WDOG (f : Nat) : Reg := ⟨f + 0x28, 0x100000⟩
def FCT_WDOG_LIMIT (f : Nat) : Fld := ⟨FCT_WDOG f, 0, 24⟩
/-- FCT_VERIFY (R165). -/
def FCT_VERIFY (f : Nat) : Reg := ⟨f + 0x2c, 0⟩
def FCT_VERIFY_GO (f : Nat) : Fld := ⟨FCT_VERIFY f, 0, 1⟩
/-- FCT_VCRC (R165). -/
def FCT_VCRC (f : Nat) : Reg := ⟨f + 0x30, 0⟩
def FCT_VCRC_CRC (f : Nat) : Fld := ⟨FCT_VCRC f, 0, 32⟩
/-- FCT_CYC (R165). -/
def FCT_CYC (f : Nat) : Reg := ⟨f + 0x38, 0⟩
def FCT_CYC_COUNT (f : Nat) : Fld := ⟨FCT_CYC f, 0, 64⟩
/-- FCT_TRAPCNT (R165). -/
def FCT_TRAPCNT (f : Nat) : Reg := ⟨f + 0x40, 0⟩
def FCT_TRAPCNT_COUNT (f : Nat) : Fld := ⟨FCT_TRAPCNT f, 0, 32⟩
/-- SRV_CTL (R195). -/
def SRV_CTL (k : Nat) : Reg := ⟨0x20400100 + k / 2 * 0x10000 + k % 2 * 0x80, 0x5000⟩
def SRV_CTL_PARK (k : Nat) : Fld := ⟨SRV_CTL k, 16, 1⟩
def SRV_CTL_DLPCT (k : Nat) : Fld := ⟨SRV_CTL k, 8, 7⟩
def SRV_CTL_EN (k : Nat) : Fld := ⟨SRV_CTL k, 0, 1⟩
/-- SRV_STAT (R195). -/
def SRV_STAT (k : Nat) : Reg := ⟨0x20400104 + k / 2 * 0x10000 + k % 2 * 0x80, 0x20⟩
def SRV_STAT_PREASON (k : Nat) : Fld := ⟨SRV_STAT k, 24, 8⟩
def SRV_STAT_CFGERR (k : Nat) : Fld := ⟨SRV_STAT k, 19, 1⟩
def SRV_STAT_SUPFLT (k : Nat) : Fld := ⟨SRV_STAT k, 18, 1⟩
def SRV_STAT_SHOCK (k : Nat) : Fld := ⟨SRV_STAT k, 17, 1⟩
def SRV_STAT_OVR (k : Nat) : Fld := ⟨SRV_STAT k, 16, 1⟩
def SRV_STAT_ST (k : Nat) : Fld := ⟨SRV_STAT k, 8, 2⟩
def SRV_STAT_WINH (k : Nat) : Fld := ⟨SRV_STAT k, 5, 1⟩
def SRV_STAT_ONTRK (k : Nat) : Fld := ⟨SRV_STAT k, 4, 1⟩
def SRV_STAT_BUSY (k : Nat) : Fld := ⟨SRV_STAT k, 1, 1⟩
/-- SRV_POS (R195). -/
def SRV_POS (k : Nat) : Reg := ⟨0x20400108 + k / 2 * 0x10000 + k % 2 * 0x80, 0xc0000000⟩
def SRV_POS_TRACK (k : Nat) : Fld := ⟨SRV_POS k, 0, 24⟩
def SRV_POS_ZONE (k : Nat) : Fld := ⟨SRV_POS k, 24, 2⟩
def SRV_POS_BAND (k : Nat) : Fld := ⟨SRV_POS k, 26, 2⟩
def SRV_POS_REGION (k : Nat) : Fld := ⟨SRV_POS k, 30, 2⟩
/-- SRV_PES (R195). -/
def SRV_PES (k : Nat) : Reg := ⟨0x2040010c + k / 2 * 0x10000 + k % 2 * 0x80, 0⟩
def SRV_PES_PES (k : Nat) : Fld := ⟨SRV_PES k, 0, 16⟩
def SRV_PES_E (k : Nat) : Fld := ⟨SRV_PES k, 16, 16⟩
/-- SRV_ZB (R195). -/
def SRV_ZB (k i : Nat) : Reg := ⟨0x20400110 + k / 2 * 0x10000 + k % 2 * 0x80 + i * 4, 0⟩
def SRV_ZB_TRACK (k i : Nat) : Fld := ⟨SRV_ZB k i, 0, 24⟩
/-- SRV_TB (R195). -/
def SRV_TB (k : Nat) : Reg := ⟨0x2040011c + k / 2 * 0x10000 + k % 2 * 0x80, 0x4372814⟩
def SRV_TB_T1 (k : Nat) : Fld := ⟨SRV_TB k, 0, 8⟩
def SRV_TB_T2 (k : Nat) : Fld := ⟨SRV_TB k, 8, 8⟩
def SRV_TB_T3 (k : Nat) : Fld := ⟨SRV_TB k, 16, 8⟩
def SRV_TB_HYST (k : Nat) : Fld := ⟨SRV_TB k, 24, 4⟩
/-- SRV_SEEK (R195). -/
def SRV_SEEK (k : Nat) : Reg := ⟨0x20400120 + k / 2 * 0x10000 + k % 2 * 0x80, 0x404b0180⟩
def SRV_SEEK_AMAX (k : Nat) : Fld := ⟨SRV_SEEK k, 0, 12⟩
def SRV_SEEK_VMAX (k : Nat) : Fld := ⟨SRV_SEEK k, 12, 16⟩
def SRV_SEEK_SETTLE_DIST (k : Nat) : Fld := ⟨SRV_SEEK k, 28, 4⟩
/-- SRV_SETTLE (R195). -/
def SRV_SETTLE (k : Nat) : Reg := ⟨0x20400124 + k / 2 * 0x10000 + k % 2 * 0x80, 0x419032⟩
def SRV_SETTLE_WIN_WR (k : Nat) : Fld := ⟨SRV_SETTLE k, 0, 10⟩
def SRV_SETTLE_WIN_RD (k : Nat) : Fld := ⟨SRV_SETTLE k, 10, 10⟩
def SRV_SETTLE_N (k : Nat) : Fld := ⟨SRV_SETTLE k, 20, 8⟩
/-- SRV_WI (R195). -/
def SRV_WI (k : Nat) : Reg := ⟨0x20400128 + k / 2 * 0x10000 + k % 2 * 0x80, 0x41e050⟩
def SRV_WI_LIM_PREV (k : Nat) : Fld := ⟨SRV_WI k, 0, 10⟩
def SRV_WI_LIM_NEXT (k : Nat) : Fld := ⟨SRV_WI k, 10, 10⟩
def SRV_WI_HOLD (k : Nat) : Fld := ⟨SRV_WI k, 20, 8⟩
/-- SRV_SUP (R195). -/
def SRV_SUP (k : Nat) : Reg := ⟨0x2040012c + k / 2 * 0x10000 + k % 2 * 0x80, 0x1a32000⟩
def SRV_SUP_RLIM (k : Nat) : Fld := ⟨SRV_SUP k, 0, 16⟩
def SRV_SUP_RN (k : Nat) : Fld := ⟨SRV_SUP k, 16, 4⟩
def SRV_SUP_CURTOL (k : Nat) : Fld := ⟨SRV_SUP k, 20, 8⟩
def SRV_SUP_MODE (k : Nat) : Fld := ⟨SRV_SUP k, 31, 1⟩
/-- SRV_FE (R195). -/
def SRV_FE (k : Nat) : Reg := ⟨0x20400130 + k / 2 * 0x10000 + k % 2 * 0x80, 0x7d04000⟩
def SRV_FE_FE_LIM (k : Nat) : Fld := ⟨SRV_FE k, 0, 16⟩
def SRV_FE_FE_TIME (k : Nat) : Fld := ⟨SRV_FE k, 16, 16⟩
/-- SRV_SHOCK (R195). -/
def SRV_SHOCK (k : Nat) : Reg := ⟨0x20400134 + k / 2 * 0x10000 + k % 2 * 0x80, 0x10258032⟩
def SRV_SHOCK_WLIM (k : Nat) : Fld := ⟨SRV_SHOCK k, 0, 12⟩
def SRV_SHOCK_PLIM (k : Nat) : Fld := ⟨SRV_SHOCK k, 12, 12⟩
def SRV_SHOCK_SHOLD (k : Nat) : Fld := ⟨SRV_SHOCK k, 24, 8⟩
/-- SRV_PARK (R195). -/
def SRV_PARK (k : Nat) : Reg := ⟨0x20400138 + k / 2 * 0x10000 + k % 2 * 0x80, 0x14142040⟩
def SRV_PARK_DATA_I (k : Nat) : Fld := ⟨SRV_PARK k, 0, 8⟩
def SRV_PARK_RAMP_I (k : Nat) : Fld := ⟨SRV_PARK k, 8, 8⟩
def SRV_PARK_DATA_T (k : Nat) : Fld := ⟨SRV_PARK k, 16, 8⟩
def SRV_PARK_RAMP_T (k : Nat) : Fld := ⟨SRV_PARK k, 24, 8⟩
/-- SRV_TMO (R195). -/
def SRV_TMO (k : Nat) : Reg := ⟨0x2040013c + k / 2 * 0x10000 + k % 2 * 0x80, 0x512c32⟩
def SRV_TMO_SEEK (k : Nat) : Fld := ⟨SRV_TMO k, 0, 8⟩
def SRV_TMO_LOAD (k : Nat) : Fld := ⟨SRV_TMO k, 8, 10⟩
def SRV_TMO_REACQ (k : Nat) : Fld := ⟨SRV_TMO k, 18, 8⟩
/-- SRV_OVR (R195). -/
def SRV_OVR (k : Nat) : Reg := ⟨0x20400140 + k / 2 * 0x10000 + k % 2 * 0x80, 0⟩
def SRV_OVR_CONSEC (k : Nat) : Fld := ⟨SRV_OVR k, 0, 4⟩
def SRV_OVR_TOTAL (k : Nat) : Fld := ⟨SRV_OVR k, 16, 16⟩
/-- SRV_BADS (R195). -/
def SRV_BADS (k : Nat) : Reg := ⟨0x20400144 + k / 2 * 0x10000 + k % 2 * 0x80, 0⟩
def SRV_BADS_COUNT (k : Nat) : Fld := ⟨SRV_BADS k, 0, 32⟩
/-- SRV_OUT (R195). -/
def SRV_OUT (k : Nat) : Reg := ⟨0x20400148 + k / 2 * 0x10000 + k % 2 * 0x80, 0⟩
def SRV_OUT_VCM (k : Nat) : Fld := ⟨SRV_OUT k, 0, 16⟩
def SRV_OUT_MA (k : Nat) : Fld := ⟨SRV_OUT k, 16, 16⟩
/-- SRV_RESID (R195). -/
def SRV_RESID (k : Nat) : Reg := ⟨0x2040014c + k / 2 * 0x10000 + k % 2 * 0x80, 0⟩
def SRV_RESID_R (k : Nat) : Fld := ⟨SRV_RESID k, 0, 16⟩
/-- SRV_MA (R195). -/
def SRV_MA (k : Nat) : Reg := ⟨0x20400150 + k / 2 * 0x10000 + k % 2 * 0x80, 0x6666⟩
def SRV_MA_MA_LIM (k : Nat) : Fld := ⟨SRV_MA k, 0, 16⟩
/-- SRV_GCOPY (R195). -/
def SRV_GCOPY (k : Nat) : Reg := ⟨0x20400154 + k / 2 * 0x10000 + k % 2 * 0x80, 0⟩
def SRV_GCOPY_SET (k : Nat) : Fld := ⟨SRV_GCOPY k, 0, 6⟩
def SRV_GCOPY_GO (k : Nat) : Fld := ⟨SRV_GCOPY k, 31, 1⟩
/-- SRV_MAXTRK (R195). -/
def SRV_MAXTRK (k : Nat) : Reg := ⟨0x20400158 + k / 2 * 0x10000 + k % 2 * 0x80, 0⟩
def SRV_MAXTRK_TRACK (k : Nat) : Fld := ⟨SRV_MAXTRK k, 0, 24⟩
/-- SRV_PARKCNT (R195). -/
def SRV_PARKCNT (k : Nat) : Reg := ⟨0x2040015c + k / 2 * 0x10000 + k % 2 * 0x80, 0⟩
def SRV_PARKCNT_COUNT (k : Nat) : Fld := ⟨SRV_PARKCNT k, 0, 32⟩
/-- SRV_GSTAGE (R195). -/
def SRV_GSTAGE (k i : Nat) : Reg := ⟨0x20400200 + k / 2 * 0x10000 + k % 2 * 0x80 + i * 4, 0⟩
def SRV_GSTAGE_WORD (k i : Nat) : Fld := ⟨SRV_GSTAGE k i, 0, 32⟩
/-- SRV_GAIN (R195). -/
def SRV_GAIN (k i : Nat) : Reg := ⟨0x20401000 + k / 2 * 0x10000 + k % 2 * 0x1800 + i * 4, 0⟩
def SRV_GAIN_WORD (k i : Nat) : Fld := ⟨SRV_GAIN k i, 0, 32⟩
/-- SRV_PESLIN (R247). -/
def SRV_PESLIN (b a h w : Nat) : Reg := ⟨0x20400400 + b * 0x10000 + a * 0x400 + h * 0x40 + w * 4, 0⟩
def SRV_PESLIN_WORD (b a h w : Nat) : Fld := ⟨SRV_PESLIN b a h w, 0, 32⟩
/-- SPN_CTL (R222). -/
def SPN_CTL (b : Nat) : Reg := ⟨0x20400300 + b * 0x10000, 0x100⟩
def SPN_CTL_ABORT (b : Nat) : Fld := ⟨SPN_CTL b, 16, 1⟩
def SPN_CTL_REGEN_EN (b : Nat) : Fld := ⟨SPN_CTL b, 8, 1⟩
def SPN_CTL_TOKEN (b : Nat) : Fld := ⟨SPN_CTL b, 1, 1⟩
def SPN_CTL_EN (b : Nat) : Fld := ⟨SPN_CTL b, 0, 1⟩
/-- SPN_STAT (R222). -/
def SPN_STAT (b : Nat) : Reg := ⟨0x20400304 + b * 0x10000, 0⟩
def SPN_STAT_FCODE (b : Nat) : Fld := ⟨SPN_STAT b, 24, 8⟩
def SPN_STAT_CFGERR (b : Nat) : Fld := ⟨SPN_STAT b, 20, 1⟩
def SPN_STAT_RLOST (b : Nat) : Fld := ⟨SPN_STAT b, 19, 1⟩
def SPN_STAT_COASTEV (b : Nat) : Fld := ⟨SPN_STAT b, 18, 1⟩
def SPN_STAT_OVR (b : Nat) : Fld := ⟨SPN_STAT b, 17, 1⟩
def SPN_STAT_OVSTOP (b : Nat) : Fld := ⟨SPN_STAT b, 16, 1⟩
def SPN_STAT_OBSLOSS (b : Nat) : Fld := ⟨SPN_STAT b, 15, 1⟩
def SPN_STAT_ST (b : Nat) : Fld := ⟨SPN_STAT b, 8, 4⟩
def SPN_STAT_VLIM (b : Nat) : Fld := ⟨SPN_STAT b, 7, 1⟩
def SPN_STAT_INWIN (b : Nat) : Fld := ⟨SPN_STAT b, 6, 1⟩
def SPN_STAT_OBSOK (b : Nat) : Fld := ⟨SPN_STAT b, 5, 1⟩
def SPN_STAT_REGEN (b : Nat) : Fld := ⟨SPN_STAT b, 4, 1⟩
def SPN_STAT_BUSY (b : Nat) : Fld := ⟨SPN_STAT b, 1, 1⟩
/-- SPN_SPEED (R222). -/
def SPN_SPEED (b : Nat) : Reg := ⟨0x20400308 + b * 0x10000, 0⟩
def SPN_SPEED_RPM (b : Nat) : Fld := ⟨SPN_SPEED b, 0, 14⟩
def SPN_SPEED_TARGET (b : Nat) : Fld := ⟨SPN_SPEED b, 16, 14⟩
/-- SPN_ILIM (R222). -/
def SPN_ILIM (b : Nat) : Reg := ⟨0x2040030c + b * 0x10000, 0⟩
def SPN_ILIM_ILIM (b : Nat) : Fld := ⟨SPN_ILIM b, 0, 12⟩
def SPN_ILIM_LEVEL (b : Nat) : Fld := ⟨SPN_ILIM b, 12, 4⟩
def SPN_ILIM_ADV (b : Nat) : Fld := ⟨SPN_ILIM b, 16, 4⟩
/-- SPN_SPD (R222). -/
def SPN_SPD (b : Nat) : Reg := ⟨0x20400310 + b * 0x10000, 0x80505⟩
def SPN_SPD_BAND (b : Nat) : Fld := ⟨SPN_SPD b, 0, 8⟩
def SPN_SPD_WIN (b : Nat) : Fld := ⟨SPN_SPD b, 8, 8⟩
def SPN_SPD_DWELL (b : Nat) : Fld := ⟨SPN_SPD b, 16, 8⟩
/-- SPN_START (R222). -/
def SPN_START (b : Nat) : Reg := ⟨0x20400314 + b * 0x10000, 0x40030414⟩
def SPN_START_LISTEN (b : Nat) : Fld := ⟨SPN_START b, 0, 8⟩
def SPN_START_STEP_T (b : Nat) : Fld := ⟨SPN_START b, 8, 8⟩
def SPN_START_PMARGIN (b : Nat) : Fld := ⟨SPN_START b, 16, 6⟩
def SPN_START_PDUTY (b : Nat) : Fld := ⟨SPN_START b, 22, 10⟩
/-- SPN_OBS (R222). -/
def SPN_OBS (b : Nat) : Reg := ⟨0x20400318 + b * 0x10000, 0x41000⟩
def SPN_OBS_RBAND (b : Nat) : Fld := ⟨SPN_OBS b, 0, 16⟩
def SPN_OBS_RN (b : Nat) : Fld := ⟨SPN_OBS b, 16, 4⟩
/-- SPN_REACQ (R222). -/
def SPN_REACQ (b : Nat) : Reg := ⟨0x2040031c + b * 0x10000, 0x40cc8⟩
def SPN_REACQ_TMO (b : Nat) : Fld := ⟨SPN_REACQ b, 0, 10⟩
def SPN_REACQ_EREVS (b : Nat) : Fld := ⟨SPN_REACQ b, 10, 4⟩
def SPN_REACQ_RAMP (b : Nat) : Fld := ⟨SPN_REACQ b, 14, 8⟩
/-- SPN_EOFS (R222). -/
def SPN_EOFS (b : Nat) : Reg := ⟨0x20400320 + b * 0x10000, 0⟩
def SPN_EOFS_AU (b : Nat) : Fld := ⟨SPN_EOFS b, 0, 20⟩
/-- SPN_REGEN (R222). -/
def SPN_REGEN (b : Nat) : Reg := ⟨0x20400324 + b * 0x10000, 0x1e⟩
def SPN_REGEN_MINSPD (b : Nat) : Fld := ⟨SPN_REGEN b, 0, 7⟩
/-- SPN_KIN (R222). -/
def SPN_KIN (b : Nat) : Reg := ⟨0x20400328 + b * 0x10000, 0⟩
def SPN_KIN_MJ (b : Nat) : Fld := ⟨SPN_KIN b, 0, 32⟩
/-- SPN_MOTOR (R222). -/
def SPN_MOTOR (b : Nat) : Reg := ⟨0x2040032c + b * 0x10000, 0⟩
def SPN_MOTOR_P (b : Nat) : Fld := ⟨SPN_MOTOR b, 0, 4⟩
def SPN_MOTOR_INERTIA (b : Nat) : Fld := ⟨SPN_MOTOR b, 8, 24⟩
/-- SPN_TMO (R222). -/
def SPN_TMO (b : Nat) : Reg := ⟨0x20400330 + b * 0x10000, 0x1f41e⟩
def SPN_TMO_SPINUP (b : Nat) : Fld := ⟨SPN_TMO b, 0, 7⟩
def SPN_TMO_BRAKE_T (b : Nat) : Fld := ⟨SPN_TMO b, 8, 13⟩
/-- SPN_BRK (R222). -/
def SPN_BRK (b : Nat) : Reg := ⟨0x20400334 + b * 0x10000, 0x14⟩
def SPN_BRK_HOLD_T (b : Nat) : Fld := ⟨SPN_BRK b, 0, 8⟩
/-- SPN_OVR (R222). -/
def SPN_OVR (b : Nat) : Reg := ⟨0x20400338 + b * 0x10000, 0⟩
def SPN_OVR_COUNT (b : Nat) : Fld := ⟨SPN_OVR b, 0, 32⟩
/-- APR_BUS_CTL (R222). -/
def APR_BUS_CTL : Reg := ⟨0x20c00400, 0x1414328c⟩
def APR_BUS_CTL_OV : Fld := ⟨APR_BUS_CTL, 0, 8⟩
def APR_BUS_CTL_OVHYST : Fld := ⟨APR_BUS_CTL, 8, 8⟩
def APR_BUS_CTL_CHOP_DV : Fld := ⟨APR_BUS_CTL, 16, 8⟩
def APR_BUS_CTL_CHOP_DT : Fld := ⟨APR_BUS_CTL, 24, 8⟩
/-- APR_BUS_REGEN (R222). -/
def APR_BUS_REGEN : Reg := ⟨0x20c00404, 0xa6c70⟩
def APR_BUS_REGEN_VSET : Fld := ⟨APR_BUS_REGEN, 0, 8⟩
def APR_BUS_REGEN_VFLOOR : Fld := ⟨APR_BUS_REGEN, 8, 8⟩
def APR_BUS_REGEN_VBAND : Fld := ⟨APR_BUS_REGEN, 16, 8⟩
/-- APR_BUS_STAT (R222). -/
def APR_BUS_STAT : Reg := ⟨0x20c00408, 0⟩
def APR_BUS_STAT_VMOT : Fld := ⟨APR_BUS_STAT, 0, 16⟩
def APR_BUS_STAT_OV : Fld := ⟨APR_BUS_STAT, 16, 1⟩
def APR_BUS_STAT_CHOPON : Fld := ⟨APR_BUS_STAT, 17, 1⟩
def APR_BUS_STAT_CHOPFLT : Fld := ⟨APR_BUS_STAT, 18, 1⟩
def APR_BUS_STAT_TESTOK : Fld := ⟨APR_BUS_STAT, 19, 1⟩
def APR_BUS_STAT_OVEV : Fld := ⟨APR_BUS_STAT, 20, 1⟩
/-- APR_CHOP_TEST (R222). -/
def APR_CHOP_TEST : Reg := ⟨0x20c0040c, 0xa280⟩
def APR_CHOP_TEST_GO : Fld := ⟨APR_CHOP_TEST, 0, 1⟩
def APR_CHOP_TEST_BUSY : Fld := ⟨APR_CHOP_TEST, 1, 1⟩
def APR_CHOP_TEST_DIP : Fld := ⟨APR_CHOP_TEST, 4, 8⟩
def APR_CHOP_TEST_PULSE : Fld := ⟨APR_CHOP_TEST, 12, 8⟩
def APR_CHOP_TEST_LASTDIP : Fld := ⟨APR_CHOP_TEST, 20, 12⟩
/-- THM_REF_CTL (R247). -/
def THM_REF_CTL : Reg := ⟨0x20c10f00, 0x1e⟩
def THM_REF_CTL_PLAUS : Fld := ⟨THM_REF_CTL, 0, 8⟩
/-- THM_REF_STAT (R247). -/
def THM_REF_STAT : Reg := ⟨0x20c10f04, 0⟩
def THM_REF_STAT_VREF : Fld := ⟨THM_REF_STAT, 0, 16⟩
def THM_REF_STAT_REFFLT : Fld := ⟨THM_REF_STAT, 16, 1⟩
def THM_REF_STAT_REFEV : Fld := ⟨THM_REF_STAT, 17, 1⟩
/-- THM_REF_GAIN (R247). -/
def THM_REF_GAIN : Reg := ⟨0x20c10f08, 0x10000⟩
def THM_REF_GAIN_GAIN : Fld := ⟨THM_REF_GAIN, 0, 18⟩
/-- THM_REF_BRFLT (R247). -/
def THM_REF_BRFLT : Reg := ⟨0x20c10f0c, 0⟩
def THM_REF_BRFLT_BAY : Fld := ⟨THM_REF_BRFLT, 0, 32⟩
/-- THM_REF_BRG (R247). -/
def THM_REF_BRG (b : Nat) : Reg := ⟨0x20c10f40 + b * 4, 0x2710⟩
def THM_REF_BRG_RATIO (b : Nat) : Fld := ⟨THM_REF_BRG b, 0, 16⟩
/-- MEM_BT_CTL (R274). -/
def MEM_BT_CTL : Reg := ⟨0x20b08000, 0⟩
def MEM_BT_CTL_EN : Fld := ⟨MEM_BT_CTL, 0, 1⟩
/-- MEM_BT_CMD (R274). -/
def MEM_BT_CMD : Reg := ⟨0x20b08004, 0⟩
def MEM_BT_CMD_INDEX : Fld := ⟨MEM_BT_CMD, 0, 25⟩
def MEM_BT_CMD_OP : Fld := ⟨MEM_BT_CMD, 28, 4⟩
/-- MEM_BT_STAT (R274). -/
def MEM_BT_STAT : Reg := ⟨0x20b08008, 0⟩
def MEM_BT_STAT_BUSY : Fld := ⟨MEM_BT_STAT, 0, 1⟩
def MEM_BT_STAT_ERR : Fld := ⟨MEM_BT_STAT, 1, 3⟩
def MEM_BT_STAT_PINFULL : Fld := ⟨MEM_BT_STAT, 4, 1⟩
def MEM_BT_STAT_CRCERR : Fld := ⟨MEM_BT_STAT, 5, 1⟩
def MEM_BT_STAT_WBERR : Fld := ⟨MEM_BT_STAT, 6, 1⟩
/-- MEM_BT_BASE (R274). -/
def MEM_BT_BASE : Reg := ⟨0x20b08010, 0⟩
def MEM_BT_BASE_ADDR : Fld := ⟨MEM_BT_BASE, 0, 40⟩
/-- MEM_BT_HIT (R274). -/
def MEM_BT_HIT : Reg := ⟨0x20b08040, 0⟩
def MEM_BT_HIT_COUNT : Fld := ⟨MEM_BT_HIT, 0, 32⟩
/-- MEM_BT_MISS (R274). -/
def MEM_BT_MISS : Reg := ⟨0x20b08044, 0⟩
def MEM_BT_MISS_COUNT : Fld := ⟨MEM_BT_MISS, 0, 32⟩
/-- MEM_BT_DATA (R274). -/
def MEM_BT_DATA (w : Nat) : Reg := ⟨0x20b08020 + w * 4, 0⟩
def MEM_BT_DATA_WORD (w : Nat) : Fld := ⟨MEM_BT_DATA w, 0, 32⟩
/-- PRZ_CTL (R304). -/
def PRZ_CTL (e : Nat) : Reg := ⟨0x20600000 + e * 0x10000, 0⟩
def PRZ_CTL_EN (e : Nat) : Fld := ⟨PRZ_CTL e, 0, 1⟩
/-- PRZ_STAT (R304). -/
def PRZ_STAT (e : Nat) : Reg := ⟨0x20600004 + e * 0x10000, 0⟩
def PRZ_STAT_BUSY (e : Nat) : Fld := ⟨PRZ_STAT e, 0, 1⟩
def PRZ_STAT_LAST (e : Nat) : Fld := ⟨PRZ_STAT e, 8, 8⟩
/-- PRZ_JOBS (R304). -/
def PRZ_JOBS (e : Nat) : Reg := ⟨0x20600008 + e * 0x10000, 0⟩
def PRZ_JOBS_COUNT (e : Nat) : Fld := ⟨PRZ_JOBS e, 0, 32⟩
/-- PRZ_LOSTROWS (R304). -/
def PRZ_LOSTROWS (e : Nat) : Reg := ⟨0x2060000c + e * 0x10000, 0⟩
def PRZ_LOSTROWS_COUNT (e : Nat) : Fld := ⟨PRZ_LOSTROWS e, 0, 32⟩
/-- PRZ_SRCBYTES (R304). -/
def PRZ_SRCBYTES (e : Nat) : Reg := ⟨0x20600010 + e * 0x10000, 0⟩
def PRZ_SRCBYTES_COUNT (e : Nat) : Fld := ⟨PRZ_SRCBYTES e, 0, 64⟩
/-- PRZ_GCTL (R304). -/
def PRZ_GCTL : Reg := ⟨0x20608000, 1⟩
def PRZ_GCTL_SLOWEN : Fld := ⟨PRZ_GCTL, 0, 1⟩
/-- PRZ_TMO (R304). -/
def PRZ_TMO : Reg := ⟨0x20608004, 0xf09c4⟩
def PRZ_TMO_TMO : Fld := ⟨PRZ_TMO, 0, 15⟩
def PRZ_TMO_REATTACH : Fld := ⟨PRZ_TMO, 15, 10⟩
/-- PRZ_PROB (R304). -/
def PRZ_PROB : Reg := ⟨0x20608008, 0x190cc810⟩
def PRZ_PROB_N : Fld := ⟨PRZ_PROB, 0, 8⟩
def PRZ_PROB_PTMO : Fld := ⟨PRZ_PROB, 8, 10⟩
def PRZ_PROB_PMAX : Fld := ⟨PRZ_PROB, 18, 4⟩
def PRZ_PROB_DELAY : Fld := ⟨PRZ_PROB, 22, 10⟩
/-- PRZ_LEPOCH (R304). -/
def PRZ_LEPOCH : Reg := ⟨0x2060800c, 0⟩
def PRZ_LEPOCH_EPOCH : Fld := ⟨PRZ_LEPOCH, 0, 32⟩
/-- PRZ_BMAP_BASE (R304). -/
def PRZ_BMAP_BASE : Reg := ⟨0x20608010, 0⟩
def PRZ_BMAP_BASE_ADDR : Fld := ⟨PRZ_BMAP_BASE, 0, 40⟩
/-- PRZ_JRNL_BASE (R304). -/
def PRZ_JRNL_BASE : Reg := ⟨0x20608018, 0⟩
def PRZ_JRNL_BASE_ADDR : Fld := ⟨PRZ_JRNL_BASE, 0, 40⟩
/-- PRZ_JCTL (R304). -/
def PRZ_JCTL : Reg := ⟨0x20608020, 0x832⟩
def PRZ_JCTL_JFLUSH : Fld := ⟨PRZ_JCTL, 0, 8⟩
def PRZ_JCTL_JPAIRS : Fld := ⟨PRZ_JCTL, 8, 5⟩
/-- PRZ_FILL (R304). -/
def PRZ_FILL : Reg := ⟨0x20608024, 0x2814⟩
def PRZ_FILL_FILL_T : Fld := ⟨PRZ_FILL, 0, 10⟩
def PRZ_FILL_BMAP_IDLE : Fld := ⟨PRZ_FILL, 10, 8⟩
/-- PRZ_REB (R304). -/
def PRZ_REB : Reg := ⟨0x20608028, 0x19⟩
def PRZ_REB_REB_COMPACT : Fld := ⟨PRZ_REB, 0, 7⟩
/-- PRZ_LAYOUT0 (R304). -/
def PRZ_LAYOUT0 (l : Nat) : Reg := ⟨0x20608100 + l * 0x10, 0⟩
def PRZ_LAYOUT0_K (l : Nat) : Fld := ⟨PRZ_LAYOUT0 l, 0, 5⟩
def PRZ_LAYOUT0_M (l : Nat) : Fld := ⟨PRZ_LAYOUT0 l, 8, 3⟩
def PRZ_LAYOUT0_UCODE (l : Nat) : Fld := ⟨PRZ_LAYOUT0 l, 12, 3⟩
def PRZ_LAYOUT0_STATE (l : Nat) : Fld := ⟨PRZ_LAYOUT0 l, 16, 2⟩
/-- PRZ_LAYOUT1 (R304). -/
def PRZ_LAYOUT1 (l : Nat) : Reg := ⟨0x20608104 + l * 0x10, 0⟩
def PRZ_LAYOUT1_SEED (l : Nat) : Fld := ⟨PRZ_LAYOUT1 l, 0, 32⟩
/-- PRZ_LAYOUT2 (R304). -/
def PRZ_LAYOUT2 (l : Nat) : Reg := ⟨0x20608108 + l * 0x10, 0⟩
def PRZ_LAYOUT2_SEED (l : Nat) : Fld := ⟨PRZ_LAYOUT2 l, 0, 32⟩
/-- PRZ_LAYOUT3 (R304). -/
def PRZ_LAYOUT3 (l : Nat) : Reg := ⟨0x2060810c + l * 0x10, 0⟩
def PRZ_LAYOUT3_CEPOCH (l : Nat) : Fld := ⟨PRZ_LAYOUT3 l, 0, 32⟩
/-- PRZ_ARM (R304). -/
def PRZ_ARM (k : Nat) : Reg := ⟨0x20608200 + k * 4, 4⟩
def PRZ_ARM_STATE (k : Nat) : Fld := ⟨PRZ_ARM k, 0, 3⟩
def PRZ_ARM_PROBCNT (k : Nat) : Fld := ⟨PRZ_ARM k, 4, 4⟩
def PRZ_ARM_SLOW (k : Nat) : Fld := ⟨PRZ_ARM k, 8, 1⟩
def PRZ_ARM_TMOCNT (k : Nat) : Fld := ⟨PRZ_ARM k, 16, 16⟩
/-- HPT_GCTL (R338). -/
def HPT_GCTL : Reg := ⟨0x20900000, 0x5fc0⟩
def HPT_GCTL_UDP : Fld := ⟨HPT_GCTL, 0, 16⟩
def HPT_GCTL_EN : Fld := ⟨HPT_GCTL, 16, 1⟩
/-- HPT_GSTAT (R338). -/
def HPT_GSTAT : Reg := ⟨0x20900004, 0⟩
def HPT_GSTAT_SESSIONS : Fld := ⟨HPT_GSTAT, 0, 15⟩
def HPT_GSTAT_INFLIGHT : Fld := ⟨HPT_GSTAT, 16, 14⟩
/-- HPT_TMO (R338). -/
def HPT_TMO : Reg := ⟨0x20900008, 0x12c07d0⟩
def HPT_TMO_DATA_T : Fld := ⟨HPT_TMO, 0, 15⟩
def HPT_TMO_IDLE : Fld := ⟨HPT_TMO, 16, 12⟩
/-- HPT_RTO (R338). -/
def HPT_RTO : Reg := ⟨0x2090000c, 0x84000c8⟩
def HPT_RTO_MIN : Fld := ⟨HPT_RTO, 0, 14⟩
def HPT_RTO_MAX : Fld := ⟨HPT_RTO, 16, 8⟩
def HPT_RTO_RETRIES : Fld := ⟨HPT_RTO, 24, 4⟩
/-- HPT_ACK (R338). -/
def HPT_ACK : Reg := ⟨0x20900010, 0x1014⟩
def HPT_ACK_DELAY : Fld := ⟨HPT_ACK, 0, 8⟩
def HPT_ACK_NPKT : Fld := ⟨HPT_ACK, 8, 8⟩
/-- HPT_CRED (R338). -/
def HPT_CRED : Reg := ⟨0x20900014, 0x100⟩
def HPT_CRED_MAXCRED : Fld := ⟨HPT_CRED, 0, 9⟩
/-- HPT_PCTL (R338). -/
def HPT_PCTL (p : Nat) : Reg := ⟨0x20900100 + p * 0x100, 0x3c⟩
def HPT_PCTL_EN (p : Nat) : Fld := ⟨HPT_PCTL p, 0, 1⟩
def HPT_PCTL_SPEED (p : Nat) : Fld := ⟨HPT_PCTL p, 1, 1⟩
def HPT_PCTL_AN (p : Nat) : Fld := ⟨HPT_PCTL p, 2, 1⟩
def HPT_PCTL_JUMBO (p : Nat) : Fld := ⟨HPT_PCTL p, 3, 1⟩
def HPT_PCTL_V4EN (p : Nat) : Fld := ⟨HPT_PCTL p, 4, 1⟩
def HPT_PCTL_V6EN (p : Nat) : Fld := ⟨HPT_PCTL p, 5, 1⟩
def HPT_PCTL_DSCP (p : Nat) : Fld := ⟨HPT_PCTL p, 8, 6⟩
def HPT_PCTL_VLAN (p : Nat) : Fld := ⟨HPT_PCTL p, 16, 12⟩
/-- HPT_PSTAT (R338). -/
def HPT_PSTAT (p : Nat) : Reg := ⟨0x20900104 + p * 0x100, 0⟩
def HPT_PSTAT_LINK (p : Nat) : Fld := ⟨HPT_PSTAT p, 0, 1⟩
def HPT_PSTAT_ANDONE (p : Nat) : Fld := ⟨HPT_PSTAT p, 1, 1⟩
def HPT_PSTAT_FECLOCK (p : Nat) : Fld := ⟨HPT_PSTAT p, 2, 1⟩
def HPT_PSTAT_DOWNEV (p : Nat) : Fld := ⟨HPT_PSTAT p, 3, 1⟩
/-- HPT_RXOK (R338). -/
def HPT_RXOK (p : Nat) : Reg := ⟨0x20900108 + p * 0x100, 0⟩
def HPT_RXOK_COUNT (p : Nat) : Fld := ⟨HPT_RXOK p, 0, 32⟩
/-- HPT_AUTHF (R338). -/
def HPT_AUTHF (p : Nat) : Reg := ⟨0x2090010c + p * 0x100, 0⟩
def HPT_AUTHF_COUNT (p : Nat) : Fld := ⟨HPT_AUTHF p, 0, 32⟩
/-- HPT_DUP (R338). -/
def HPT_DUP (p : Nat) : Reg := ⟨0x20900110 + p * 0x100, 0⟩
def HPT_DUP_COUNT (p : Nat) : Fld := ⟨HPT_DUP p, 0, 32⟩
/-- HPT_OLDEP (R338). -/
def HPT_OLDEP (p : Nat) : Reg := ⟨0x20900114 + p * 0x100, 0⟩
def HPT_OLDEP_COUNT (p : Nat) : Fld := ⟨HPT_OLDEP p, 0, 32⟩
/-- HPT_DROP (R338). -/
def HPT_DROP (p : Nat) : Reg := ⟨0x20900118 + p * 0x100, 0⟩
def HPT_DROP_COUNT (p : Nat) : Fld := ⟨HPT_DROP p, 0, 32⟩
/-- HPT_RETX (R338). -/
def HPT_RETX (p : Nat) : Reg := ⟨0x2090011c + p * 0x100, 0⟩
def HPT_RETX_COUNT (p : Nat) : Fld := ⟨HPT_RETX p, 0, 32⟩
/-- HPT_FECCOR (R338). -/
def HPT_FECCOR (p : Nat) : Reg := ⟨0x20900120 + p * 0x100, 0⟩
def HPT_FECCOR_COUNT (p : Nat) : Fld := ⟨HPT_FECCOR p, 0, 32⟩
/-- HPT_FECUNC (R338). -/
def HPT_FECUNC (p : Nat) : Reg := ⟨0x20900124 + p * 0x100, 0⟩
def HPT_FECUNC_COUNT (p : Nat) : Fld := ⟨HPT_FECUNC p, 0, 32⟩
/-- HPT_IP4 (R338). -/
def HPT_IP4 (p : Nat) : Reg := ⟨0x20900128 + p * 0x100, 0⟩
def HPT_IP4_ADDR (p : Nat) : Fld := ⟨HPT_IP4 p, 0, 32⟩
/-- HPT_MAC (R338). -/
def HPT_MAC (p : Nat) : Reg := ⟨0x20900130 + p * 0x100, 0⟩
def HPT_MAC_ADDR (p : Nat) : Fld := ⟨HPT_MAC p, 0, 48⟩
/-- HPT_IP6 (R338). -/
def HPT_IP6 (p w : Nat) : Reg := ⟨0x20900140 + p * 0x100 + w * 4, 0⟩
def HPT_IP6_ADDR (p w : Nat) : Fld := ⟨HPT_IP6 p w, 0, 32⟩
/-- SEC_STAT (R393). -/
def SEC_STAT : Reg := ⟨0x21100000, 0x3c⟩
def SEC_STAT_OWN : Fld := ⟨SEC_STAT, 0, 2⟩
def SEC_STAT_SLOT : Fld := ⟨SEC_STAT, 2, 4⟩
def SEC_STAT_USED : Fld := ⟨SEC_STAT, 6, 4⟩
def SEC_STAT_LOUPE_DEAD : Fld := ⟨SEC_STAT, 10, 1⟩
def SEC_STAT_LOUPE_USED : Fld := ⟨SEC_STAT, 11, 1⟩
def SEC_STAT_KEYSOFF : Fld := ⟨SEC_STAT, 12, 1⟩
def SEC_STAT_ENTFLT : Fld := ⟨SEC_STAT, 13, 1⟩
def SEC_STAT_CHAINBAD : Fld := ⟨SEC_STAT, 14, 1⟩
def SEC_STAT_VFUSE : Fld := ⟨SEC_STAT, 15, 1⟩
/-- SEC_CTL (R393). -/
def SEC_CTL : Reg := ⟨0x21100004, 0⟩
def SEC_CTL_RESEED : Fld := ⟨SEC_CTL, 0, 1⟩
/-- SEC_FUSE_CMD (R393). -/
def SEC_FUSE_CMD : Reg := ⟨0x21100008, 0⟩
def SEC_FUSE_CMD_OP : Fld := ⟨SEC_FUSE_CMD, 0, 4⟩
def SEC_FUSE_CMD_KIND : Fld := ⟨SEC_FUSE_CMD, 4, 4⟩
/-- SEC_FUSE_STAT (R393). -/
def SEC_FUSE_STAT : Reg := ⟨0x2110000c, 0⟩
def SEC_FUSE_STAT_BUSY : Fld := ⟨SEC_FUSE_STAT, 0, 1⟩
def SEC_FUSE_STAT_ERR : Fld := ⟨SEC_FUSE_STAT, 1, 3⟩
/-- SEC_WSEQ (R393). -/
def SEC_WSEQ : Reg := ⟨0x21100010, 0⟩
def SEC_WSEQ_NEXT : Fld := ⟨SEC_WSEQ, 0, 64⟩
/-- SEC_BOOTCNT (R393). -/
def SEC_BOOTCNT : Reg := ⟨0x21100018, 0⟩
def SEC_BOOTCNT_COUNT : Fld := ⟨SEC_BOOTCNT, 0, 32⟩
/-- SEC_DRBG (R393). -/
def SEC_DRBG : Reg := ⟨0x2110001c, 0⟩
def SEC_DRBG_HEALTHFAIL : Fld := ⟨SEC_DRBG, 0, 16⟩
def SEC_DRBG_RESEEDS : Fld := ⟨SEC_DRBG, 16, 16⟩
/-- SEC_SVN (R393). -/
def SEC_SVN : Reg := ⟨0x21100020, 0⟩
def SEC_SVN_FW : Fld := ⟨SEC_SVN, 0, 8⟩
def SEC_SVN_POLICY : Fld := ⟨SEC_SVN, 8, 8⟩
def SEC_SVN_UCODE : Fld := ⟨SEC_SVN, 16, 8⟩
def SEC_SVN_PROFILE : Fld := ⟨SEC_SVN, 24, 8⟩
/-- SEC_DEVID (R393). -/
def SEC_DEVID (w : Nat) : Reg := ⟨0x21100030 + w * 4, 0⟩
def SEC_DEVID_WORD (w : Nat) : Fld := ⟨SEC_DEVID w, 0, 32⟩
/-- SEC_OWNHASH (R393). -/
def SEC_OWNHASH (w : Nat) : Reg := ⟨0x21100060 + w * 4, 0⟩
def SEC_OWNHASH_WORD (w : Nat) : Fld := ⟨SEC_OWNHASH w, 0, 32⟩
/-- APR_CTL (R421). -/
def APR_CTL : Reg := ⟨0x20c00000, 0x50325500⟩
def APR_CTL_EN : Fld := ⟨APR_CTL, 0, 1⟩
def APR_CTL_LEN : Fld := ⟨APR_CTL, 1, 1⟩
def APR_CTL_DERATE : Fld := ⟨APR_CTL, 8, 8⟩
def APR_CTL_KCF : Fld := ⟨APR_CTL, 16, 8⟩
def APR_CTL_REGEFF : Fld := ⟨APR_CTL, 24, 8⟩
/-- APR_STAT (R421). -/
def APR_STAT : Reg := ⟨0x20c00004, 0⟩
def APR_STAT_PFAIL : Fld := ⟨APR_STAT, 0, 1⟩
def APR_STAT_FROZEN : Fld := ⟨APR_STAT, 1, 1⟩
def APR_STAT_DEFICIT : Fld := ⟨APR_STAT, 2, 1⟩
def APR_STAT_OVER : Fld := ⟨APR_STAT, 3, 1⟩
def APR_STAT_FLUSHING : Fld := ⟨APR_STAT, 4, 1⟩
def APR_STAT_FLUSHED : Fld := ⟨APR_STAT, 5, 1⟩
def APR_STAT_PRET : Fld := ⟨APR_STAT, 6, 1⟩
def APR_STAT_WAITING : Fld := ⟨APR_STAT, 16, 16⟩
/-- APR_GRANT (R421). -/
def APR_GRANT : Reg := ⟨0x20c00008, 0⟩
def APR_GRANT_MW : Fld := ⟨APR_GRANT, 0, 32⟩
/-- APR_GEFF (R421). -/
def APR_GEFF : Reg := ⟨0x20c0000c, 0⟩
def APR_GEFF_MW : Fld := ⟨APR_GEFF, 0, 32⟩
/-- APR_BUCKET (R421). -/
def APR_BUCKET : Reg := ⟨0x20c00010, 0⟩
def APR_BUCKET_UJ : Fld := ⟨APR_BUCKET, 0, 32⟩
/-- APR_PWR (R421). -/
def APR_PWR : Reg := ⟨0x20c00014, 0⟩
def APR_PWR_AVG10 : Fld := ⟨APR_PWR, 0, 32⟩
/-- APR_BANK (R421). -/
def APR_BANK : Reg := ⟨0x20c00018, 0x5a000000⟩
def APR_BANK_C : Fld := ⟨APR_BANK, 0, 24⟩
def APR_BANK_EFF : Fld := ⟨APR_BANK, 24, 8⟩
/-- APR_BANKV (R421). -/
def APR_BANKV : Reg := ⟨0x20c0001c, 0x640⟩
def APR_BANKV_VMIN : Fld := ⟨APR_BANKV, 0, 16⟩
def APR_BANKV_VHOLD : Fld := ⟨APR_BANKV, 16, 16⟩
/-- APR_E_BANK (R421). -/
def APR_E_BANK : Reg := ⟨0x20c00020, 0⟩
def APR_E_BANK_MJ : Fld := ⟨APR_E_BANK, 0, 32⟩
/-- APR_E_KIN (R421). -/
def APR_E_KIN : Reg := ⟨0x20c00024, 0⟩
def APR_E_KIN_MJ : Fld := ⟨APR_E_KIN, 0, 32⟩
/-- APR_USABLE (R421). -/
def APR_USABLE : Reg := ⟨0x20c00028, 0⟩
def APR_USABLE_MJ : Fld := ⟨APR_USABLE, 0, 32⟩
/-- APR_OUT (R421). -/
def APR_OUT : Reg := ⟨0x20c0002c, 0⟩
def APR_OUT_MJ : Fld := ⟨APR_OUT, 0, 32⟩
/-- APR_RETR (R421). -/
def APR_RETR : Reg := ⟨0x20c00030, 0⟩
def APR_RETR_MJ : Fld := ⟨APR_RETR, 0, 32⟩
/-- APR_FIXED (R421). -/
def APR_FIXED : Reg := ⟨0x20c00034, 0x9c40⟩
def APR_FIXED_MJ : Fld := ⟨APR_FIXED, 0, 32⟩
/-- APR_HEAD (R421). -/
def APR_HEAD : Reg := ⟨0x20c00038, 0⟩
def APR_HEAD_MJ : Fld := ⟨APR_HEAD, 0, 32⟩
/-- APR_FLUSH (R421). -/
def APR_FLUSH : Reg := ⟨0x20c0003c, 0xc8019078⟩
def APR_FLUSH_SECT_UJ : Fld := ⟨APR_FLUSH, 0, 12⟩
def APR_FLUSH_SEEK_MJ : Fld := ⟨APR_FLUSH, 12, 12⟩
def APR_FLUSH_TMAX : Fld := ⟨APR_FLUSH, 24, 8⟩
/-- APR_STAGE (R421). -/
def APR_STAGE : Reg := ⟨0x20c00040, 0x4000⟩
def APR_STAGE_LIMIT : Fld := ⟨APR_STAGE, 0, 15⟩
def APR_STAGE_STAGED : Fld := ⟨APR_STAGE, 16, 15⟩
/-- APR_SPIN (R421). -/
def APR_SPIN : Reg := ⟨0x20c00060, 4⟩
def APR_SPIN_LOCAL : Fld := ⟨APR_SPIN, 0, 4⟩
def APR_SPIN_HELD : Fld := ⟨APR_SPIN, 8, 4⟩
/-- APR_PLGEN (R421). -/
def APR_PLGEN : Reg := ⟨0x20c00064, 0⟩
def APR_PLGEN_GEN : Fld := ⟨APR_PLGEN, 0, 32⟩
/-- APR_EST (R421). -/
def APR_EST (i : Nat) : Reg := ⟨0x20c00050 + i * 4, BitVec.ofNat 64 (if i = 1 then 0x04B00064 else 0x03200064)⟩
def APR_EST_BASE (i : Nat) : Fld := ⟨APR_EST i, 0, 16⟩
def APR_EST_PERSECT (i : Nat) : Fld := ⟨APR_EST i, 16, 16⟩
/-- APR_PS (R421). -/
def APR_PS (b : Nat) : Reg := ⟨0x20c00100 + b * 4, 4⟩
def APR_PS_STATE (b : Nat) : Fld := ⟨APR_PS b, 0, 3⟩
def APR_PS_DEEPEST (b : Nat) : Fld := ⟨APR_PS b, 4, 3⟩
def APR_PS_HOLD (b : Nat) : Fld := ⟨APR_PS b, 8, 1⟩
def APR_PS_RWHOLD (b : Nat) : Fld := ⟨APR_PS b, 9, 1⟩
/-- APR_IDLE (R421). -/
def APR_IDLE (n : Nat) : Reg := ⟨0x20c00180 + n * 4, BitVec.ofNat 64 (if n = 0 then 0xA else if n = 1 then 0x1D4C0 else if n = 2 then 0x124F80 else 0)⟩
def APR_IDLE_MS (n : Nat) : Fld := ⟨APR_IDLE n, 0, 32⟩
/-- THM_CTL (R422). -/
def THM_CTL : Reg := ⟨0x20c10000, 0x73285f01⟩
def THM_CTL_EN : Fld := ⟨THM_CTL, 0, 1⟩
def THM_CTL_TRIM : Fld := ⟨THM_CTL, 1, 1⟩
def THM_CTL_ONSET : Fld := ⟨THM_CTL, 8, 8⟩
def THM_CTL_SLOPE : Fld := ⟨THM_CTL, 16, 8⟩
def THM_CTL_SHUT : Fld := ⟨THM_CTL, 24, 8⟩
/-- THM_STAT (R422). -/
def THM_STAT : Reg := ⟨0x20c10004, 0x10⟩
def THM_STAT_THROT : Fld := ⟨THM_STAT, 0, 1⟩
def THM_STAT_SHUT : Fld := ⟨THM_STAT, 1, 1⟩
def THM_STAT_TRIMOK : Fld := ⟨THM_STAT, 2, 1⟩
def THM_STAT_TRIMBAD : Fld := ⟨THM_STAT, 3, 1⟩
def THM_STAT_CASEDFLT : Fld := ⟨THM_STAT, 4, 1⟩
def THM_STAT_TJ : Fld := ⟨THM_STAT, 16, 16⟩
/-- THM_CASE (R422). -/
def THM_CASE : Reg := ⟨0x20c10008, 0⟩
def THM_CASE_T : Fld := ⟨THM_CASE, 0, 16⟩
/-- THM_TRIM (R422). -/
def THM_TRIM : Reg := ⟨0x20c1000c, 0x4000⟩
def THM_TRIM_K : Fld := ⟨THM_TRIM, 0, 16⟩
/-- THM_WWIN (R422). -/
def THM_WWIN : Reg := ⟨0x20c10010, 0x41003c05⟩
def THM_WWIN_WLO : Fld := ⟨THM_WWIN, 0, 8⟩
def THM_WWIN_WHI : Fld := ⟨THM_WWIN, 8, 8⟩
def THM_WWIN_RLO : Fld := ⟨THM_WWIN, 16, 8⟩
def THM_WWIN_RHI : Fld := ⟨THM_WWIN, 24, 8⟩
/-- THM_RLAT (R422). -/
def THM_RLAT : Reg := ⟨0x20c10060, 0x5dc⟩
def THM_RLAT_R : Fld := ⟨THM_RLAT, 0, 16⟩
/-- THM_NODE (R422). -/
def THM_NODE (i : Nat) : Reg := ⟨0x20c10020 + i * 4, 0⟩
def THM_NODE_T (i : Nat) : Fld := ⟨THM_NODE i, 0, 16⟩
def THM_NODE_P (i : Nat) : Fld := ⟨THM_NODE i, 16, 16⟩
/-- THM_PARAM (R422). -/
def THM_PARAM (i : Nat) : Reg := ⟨0x20c10040 + i * 4, BitVec.ofNat 64 (thmParamReset i)⟩
def THM_PARAM_C (i : Nat) : Fld := ⟨THM_PARAM i, 0, 16⟩
def THM_PARAM_R (i : Nat) : Fld := ⟨THM_PARAM i, 16, 16⟩
/-- LC_CTL (R499). -/
def LC_CTL : Reg := ⟨0x20a00000, 0⟩
def LC_CTL_EN : Fld := ⟨LC_CTL, 0, 1⟩
/-- LC_STAT (R499). -/
def LC_STAT : Reg := ⟨0x20a00004, 2⟩
def LC_STAT_BUSY : Fld := ⟨LC_STAT, 0, 1⟩
def LC_STAT_BYPASS : Fld := ⟨LC_STAT, 1, 1⟩
def LC_STAT_CTLERR : Fld := ⟨LC_STAT, 2, 1⟩
def LC_STAT_LOCKERR : Fld := ⟨LC_STAT, 3, 1⟩
def LC_STAT_PWRERR : Fld := ⟨LC_STAT, 4, 1⟩
def LC_STAT_RERR : Fld := ⟨LC_STAT, 5, 1⟩
def LC_STAT_SKIPEV : Fld := ⟨LC_STAT, 6, 1⟩
def LC_STAT_DATAUE : Fld := ⟨LC_STAT, 7, 1⟩
def LC_STAT_TAGUE : Fld := ⟨LC_STAT, 8, 1⟩
/-- LC_LOCK (R499). -/
def LC_LOCK : Reg := ⟨0x20a00008, 0⟩
def LC_LOCK_MASK : Fld := ⟨LC_LOCK, 0, 16⟩
/-- LC_PWR (R499). -/
def LC_PWR : Reg := ⟨0x20a0000c, 0⟩
def LC_PWR_OFF : Fld := ⟨LC_PWR, 0, 4⟩
def LC_PWR_STATE : Fld := ⟨LC_PWR, 8, 4⟩
def LC_PWR_PBUSY : Fld := ⟨LC_PWR, 12, 1⟩
/-- LC_RANGE (R499). -/
def LC_RANGE : Reg := ⟨0x20a00010, 0⟩
def LC_RANGE_OP : Fld := ⟨LC_RANGE, 0, 3⟩
def LC_RANGE_INCL_LOCKED : Fld := ⟨LC_RANGE, 3, 1⟩
def LC_RANGE_WAY : Fld := ⟨LC_RANGE, 4, 4⟩
def LC_RANGE_BUSY : Fld := ⟨LC_RANGE, 30, 1⟩
def LC_RANGE_GO : Fld := ⟨LC_RANGE, 31, 1⟩
/-- LC_RANGE_SKIP (R499). -/
def LC_RANGE_SKIP : Reg := ⟨0x20a00014, 0⟩
def LC_RANGE_SKIP_COUNT : Fld := ⟨LC_RANGE_SKIP, 0, 32⟩
/-- LC_RANGE_BASE (R499). -/
def LC_RANGE_BASE : Reg := ⟨0x20a00018, 0⟩
def LC_RANGE_BASE_ADDR : Fld := ⟨LC_RANGE_BASE, 0, 40⟩
/-- LC_RANGE_LEN (R499). -/
def LC_RANGE_LEN : Reg := ⟨0x20a00020, 0⟩
def LC_RANGE_LEN_BYTES : Fld := ⟨LC_RANGE_LEN, 0, 40⟩
/-- LC_CE (R499). -/
def LC_CE : Reg := ⟨0x20a00028, 0⟩
def LC_CE_DATA : Fld := ⟨LC_CE, 0, 16⟩
def LC_CE_TAG : Fld := ⟨LC_CE, 16, 8⟩
def LC_CE_L1 : Fld := ⟨LC_CE, 24, 8⟩
/-- LC_ERR (R499). -/
def LC_ERR : Reg := ⟨0x20a0002c, 0⟩
def LC_ERR_SET : Fld := ⟨LC_ERR, 0, 13⟩
def LC_ERR_WAY : Fld := ⟨LC_ERR, 13, 4⟩
def LC_ERR_KIND : Fld := ⟨LC_ERR, 17, 1⟩
def LC_ERR_UE : Fld := ⟨LC_ERR, 18, 1⟩
/-- LC_HIT (R499). -/
def LC_HIT : Reg := ⟨0x20a00030, 0⟩
def LC_HIT_COUNT : Fld := ⟨LC_HIT, 0, 64⟩
/-- LC_MISS (R499). -/
def LC_MISS : Reg := ⟨0x20a00038, 0⟩
def LC_MISS_COUNT : Fld := ⟨LC_MISS, 0, 64⟩
/-- MEM_STAT (R500). -/
def MEM_STAT : Reg := ⟨0x20b00000, 0⟩
def MEM_STAT_TRAINED : Fld := ⟨MEM_STAT, 0, 1⟩
def MEM_STAT_CEEV : Fld := ⟨MEM_STAT, 1, 1⟩
def MEM_STAT_UEEV : Fld := ⟨MEM_STAT, 2, 1⟩
def MEM_STAT_VWCE : Fld := ⟨MEM_STAT, 3, 1⟩
def MEM_STAT_VWUE : Fld := ⟨MEM_STAT, 4, 1⟩
/-- MEM_DRAM (R500). -/
def MEM_DRAM : Reg := ⟨0x20b00004, 0⟩
def MEM_DRAM_SIZE : Fld := ⟨MEM_DRAM, 0, 8⟩
def MEM_DRAM_RAW : Fld := ⟨MEM_DRAM, 8, 8⟩
def MEM_DRAM_RATE : Fld := ⟨MEM_DRAM, 16, 16⟩
/-- MEM_SCRUB (R500). -/
def MEM_SCRUB : Reg := ⟨0x20b00008, 0x180101⟩
def MEM_SCRUB_EN : Fld := ⟨MEM_SCRUB, 0, 1⟩
def MEM_SCRUB_SRAM_S : Fld := ⟨MEM_SCRUB, 8, 8⟩
def MEM_SCRUB_DRAM_H : Fld := ⟨MEM_SCRUB, 16, 8⟩
/-- MEM_CE (R500). -/
def MEM_CE : Reg := ⟨0x20b0000c, 0⟩
def MEM_CE_SRAM : Fld := ⟨MEM_CE, 0, 16⟩
def MEM_CE_DRAM : Fld := ⟨MEM_CE, 16, 16⟩
/-- MEM_UE (R500). -/
def MEM_UE : Reg := ⟨0x20b00010, 0⟩
def MEM_UE_SRAM : Fld := ⟨MEM_UE, 0, 16⟩
def MEM_UE_DRAM : Fld := ⟨MEM_UE, 16, 16⟩
/-- MEM_MERGE_REF (R500). -/
def MEM_MERGE_REF : Reg := ⟨0x20b00014, 0⟩
def MEM_MERGE_REF_COUNT : Fld := ⟨MEM_MERGE_REF, 0, 32⟩
/-- MEM_ERRADDR (R500). -/
def MEM_ERRADDR : Reg := ⟨0x20b00018, 0⟩
def MEM_ERRADDR_ADDR : Fld := ⟨MEM_ERRADDR, 0, 40⟩
def MEM_ERRADDR_SRC : Fld := ⟨MEM_ERRADDR, 40, 2⟩
def MEM_ERRADDR_UE : Fld := ⟨MEM_ERRADDR, 63, 1⟩
/-- MEM_VW_STAT (R500). -/
def MEM_VW_STAT : Reg := ⟨0x20b00020, 0⟩
def MEM_VW_STAT_CE : Fld := ⟨MEM_VW_STAT, 0, 16⟩
def MEM_VW_STAT_LAST : Fld := ⟨MEM_VW_STAT, 16, 6⟩
/-- MEM_VW (R500). -/
def MEM_VW (i : Nat) : Reg := ⟨0x20b01000 + i * 8, 0⟩
def MEM_VW_VALUE (i : Nat) : Fld := ⟨MEM_VW i, 0, 64⟩
/-- DMA_ENG_CTL (R517). -/
def DMA_ENG_CTL (d : Nat) : Reg := ⟨0x20800000 + d * 0x10000, 0⟩
def DMA_ENG_CTL_EN (d : Nat) : Fld := ⟨DMA_ENG_CTL d, 0, 1⟩
/-- DMA_ENG_STAT (R517). -/
def DMA_ENG_STAT (d : Nat) : Reg := ⟨0x20800004 + d * 0x10000, 0⟩
def DMA_ENG_STAT_ACTIVE (d : Nat) : Fld := ⟨DMA_ENG_STAT d, 0, 16⟩
def DMA_ENG_STAT_OUTST (d : Nat) : Fld := ⟨DMA_ENG_STAT d, 16, 4⟩
/-- DMA_BYTES (R517). -/
def DMA_BYTES (d : Nat) : Reg := ⟨0x20800008 + d * 0x10000, 0⟩
def DMA_BYTES_COUNT (d : Nat) : Fld := ⟨DMA_BYTES d, 0, 64⟩
/-- DMA_CH_CTL (R517). -/
def DMA_CH_CTL (d i : Nat) : Reg := ⟨0x20800100 + d * 0x10000 + i * 0x80, 0⟩
def DMA_CH_CTL_EN (d i : Nat) : Fld := ⟨DMA_CH_CTL d i, 0, 1⟩
def DMA_CH_CTL_LPQ (d i : Nat) : Fld := ⟨DMA_CH_CTL d i, 1, 1⟩
def DMA_CH_CTL_ARM (d i : Nat) : Fld := ⟨DMA_CH_CTL d i, 2, 1⟩
/-- DMA_CH_STAT (R517). -/
def DMA_CH_STAT (d i : Nat) : Reg := ⟨0x20800104 + d * 0x10000 + i * 0x80, 0x20⟩
def DMA_CH_STAT_DONE (d i : Nat) : Fld := ⟨DMA_CH_STAT d i, 0, 1⟩
def DMA_CH_STAT_ERR (d i : Nat) : Fld := ⟨DMA_CH_STAT d i, 1, 1⟩
def DMA_CH_STAT_SHV (d i : Nat) : Fld := ⟨DMA_CH_STAT d i, 2, 1⟩
def DMA_CH_STAT_SHERR (d i : Nat) : Fld := ⟨DMA_CH_STAT d i, 3, 1⟩
def DMA_CH_STAT_CPLWAIT (d i : Nat) : Fld := ⟨DMA_CH_STAT d i, 4, 1⟩
def DMA_CH_STAT_IDLE (d i : Nat) : Fld := ⟨DMA_CH_STAT d i, 5, 1⟩
def DMA_CH_STAT_REQ (d i : Nat) : Fld := ⟨DMA_CH_STAT d i, 6, 1⟩
def DMA_CH_STAT_LASTST (d i : Nat) : Fld := ⟨DMA_CH_STAT d i, 8, 2⟩
/-- DMA_CNT (R517). -/
def DMA_CNT (d i : Nat) : Reg := ⟨0x20800108 + d * 0x10000 + i * 0x80, 0⟩
def DMA_CNT_BYTES (d i : Nat) : Fld := ⟨DMA_CNT d i, 0, 32⟩
/-- DMA_CFG (R517). -/
def DMA_CFG (d i : Nat) : Reg := ⟨0x2080010c + d * 0x10000 + i * 0x80, 0⟩
def DMA_CFG_CFG (d i : Nat) : Fld := ⟨DMA_CFG d i, 0, 32⟩
/-- DMA_SRC (R517). -/
def DMA_SRC (d i : Nat) : Reg := ⟨0x20800110 + d * 0x10000 + i * 0x80, 0⟩
def DMA_SRC_ADDR (d i : Nat) : Fld := ⟨DMA_SRC d i, 0, 64⟩
/-- DMA_DST (R517). -/
def DMA_DST (d i : Nat) : Reg := ⟨0x20800118 + d * 0x10000 + i * 0x80, 0⟩
def DMA_DST_ADDR (d i : Nat) : Fld := ⟨DMA_DST d i, 0, 40⟩
/-- DMA_TAG (R517). -/
def DMA_TAG (d i : Nat) : Reg := ⟨0x20800120 + d * 0x10000 + i * 0x80, 0⟩
def DMA_TAG_TAG (d i : Nat) : Fld := ⟨DMA_TAG d i, 0, 64⟩
/-- DMA_ERRADDR (R517). -/
def DMA_ERRADDR (d i : Nat) : Reg := ⟨0x20800128 + d * 0x10000 + i * 0x80, 0⟩
def DMA_ERRADDR_ADDR (d i : Nat) : Fld := ⟨DMA_ERRADDR d i, 0, 40⟩
/-- DMA_SH_CNT (R517). -/
def DMA_SH_CNT (d i : Nat) : Reg := ⟨0x20800130 + d * 0x10000 + i * 0x80, 0⟩
def DMA_SH_CNT_BYTES (d i : Nat) : Fld := ⟨DMA_SH_CNT d i, 0, 32⟩
/-- DMA_SH_CFG (R517). -/
def DMA_SH_CFG (d i : Nat) : Reg := ⟨0x20800134 + d * 0x10000 + i * 0x80, 0⟩
def DMA_SH_CFG_CFG (d i : Nat) : Fld := ⟨DMA_SH_CFG d i, 0, 32⟩
/-- DMA_SH_SRC (R517). -/
def DMA_SH_SRC (d i : Nat) : Reg := ⟨0x20800138 + d * 0x10000 + i * 0x80, 0⟩
def DMA_SH_SRC_SRC (d i : Nat) : Fld := ⟨DMA_SH_SRC d i, 0, 64⟩
/-- DMA_SH_DST (R517). -/
def DMA_SH_DST (d i : Nat) : Reg := ⟨0x20800140 + d * 0x10000 + i * 0x80, 0⟩
def DMA_SH_DST_DST (d i : Nat) : Fld := ⟨DMA_SH_DST d i, 0, 64⟩
/-- DMA_SH_TAG (R517). -/
def DMA_SH_TAG (d i : Nat) : Reg := ⟨0x20800148 + d * 0x10000 + i * 0x80, 0⟩
def DMA_SH_TAG_TAG (d i : Nat) : Fld := ⟨DMA_SH_TAG d i, 0, 64⟩
/-- DMA_DONECNT (R517). -/
def DMA_DONECNT (d i : Nat) : Reg := ⟨0x20800150 + d * 0x10000 + i * 0x80, 0⟩
def DMA_DONECNT_COUNT (d i : Nat) : Fld := ⟨DMA_DONECNT d i, 0, 32⟩
/-- CFG_ENABLE (R545). -/
def CFG_ENABLE : Reg := ⟨0x21000000, 0⟩
def CFG_ENABLE_EN : Fld := ⟨CFG_ENABLE, 0, 1⟩
/-- CFG_STATUS (R545). -/
def CFG_STATUS : Reg := ⟨0x21000004, 0⟩
def CFG_STATUS_REASON : Fld := ⟨CFG_STATUS, 0, 16⟩
def CFG_STATUS_BUSY : Fld := ⟨CFG_STATUS, 16, 1⟩
def CFG_STATUS_PROFILE : Fld := ⟨CFG_STATUS, 17, 2⟩
def CFG_STATUS_SLOT : Fld := ⟨CFG_STATUS, 19, 1⟩
def CFG_STATUS_BOOTERR : Fld := ⟨CFG_STATUS, 20, 3⟩
/-- CFG_BOOTSEL (R545). -/
def CFG_BOOTSEL : Reg := ⟨0x21000008, 0⟩
def CFG_BOOTSEL_PROFILE : Fld := ⟨CFG_BOOTSEL, 0, 2⟩
def CFG_BOOTSEL_VALID : Fld := ⟨CFG_BOOTSEL, 2, 1⟩
/-- CFG_STRAP (R545). -/
def CFG_STRAP : Reg := ⟨0x2100000c, 0⟩
def CFG_STRAP_ROLE : Fld := ⟨CFG_STRAP, 0, 2⟩
def CFG_STRAP_PROFILE : Fld := ⟨CFG_STRAP, 2, 2⟩
/-- CFG_FL_CTL (R545). -/
def CFG_FL_CTL : Reg := ⟨0x21000100, 0⟩
def CFG_FL_CTL_OP : Fld := ⟨CFG_FL_CTL, 0, 3⟩
def CFG_FL_CTL_GO : Fld := ⟨CFG_FL_CTL, 31, 1⟩
/-- CFG_FL_STAT (R545). -/
def CFG_FL_STAT : Reg := ⟨0x21000104, 0⟩
def CFG_FL_STAT_BUSY : Fld := ⟨CFG_FL_STAT, 0, 1⟩
def CFG_FL_STAT_ERR : Fld := ⟨CFG_FL_STAT, 1, 2⟩
def CFG_FL_STAT_OVF : Fld := ⟨CFG_FL_STAT, 3, 1⟩
/-- CFG_FL_ADDR (R545). -/
def CFG_FL_ADDR : Reg := ⟨0x21000108, 0⟩
def CFG_FL_ADDR_ADDR : Fld := ⟨CFG_FL_ADDR, 0, 32⟩
/-- CFG_FL_LEN (R545). -/
def CFG_FL_LEN : Reg := ⟨0x2100010c, 0⟩
def CFG_FL_LEN_BYTES : Fld := ⟨CFG_FL_LEN, 0, 28⟩
/-- CFG_FL_RXF (R545). -/
def CFG_FL_RXF : Reg := ⟨0x21000110, 0⟩
def CFG_FL_RXF_DATA : Fld := ⟨CFG_FL_RXF, 0, 64⟩
/-- CFG_FL_TXF (R545). -/
def CFG_FL_TXF : Reg := ⟨0x21000118, 0⟩
def CFG_FL_TXF_DATA : Fld := ⟨CFG_FL_TXF, 0, 64⟩
/-- CFG_FL_SIZE (R545). -/
def CFG_FL_SIZE : Reg := ⟨0x21000120, 0⟩
def CFG_FL_SIZE_MBIT : Fld := ⟨CFG_FL_SIZE, 0, 12⟩
/-- HIE_STAT (R545). -/
def HIE_STAT : Reg := ⟨0x21008000, 0⟩
def HIE_STAT_ACTING : Fld := ⟨HIE_STAT, 0, 1⟩
def HIE_STAT_FENCED : Fld := ⟨HIE_STAT, 1, 1⟩
def HIE_STAT_EXPIRED : Fld := ⟨HIE_STAT, 2, 1⟩
def HIE_STAT_NOMGR : Fld := ⟨HIE_STAT, 3, 1⟩
def HIE_STAT_TOKENS : Fld := ⟨HIE_STAT, 4, 5⟩
def HIE_STAT_MEMBERS : Fld := ⟨HIE_STAT, 9, 7⟩
/-- HIE_TAG (R545). -/
def HIE_TAG : Reg := ⟨0x21008004, 0⟩
def HIE_TAG_EPOCH : Fld := ⟨HIE_TAG, 16, 16⟩
def HIE_TAG_DIGEST : Fld := ⟨HIE_TAG, 0, 16⟩
/-- HIE_TERM (R545). -/
def HIE_TERM : Reg := ⟨0x21008008, 0⟩
def HIE_TERM_TERM : Fld := ⟨HIE_TERM, 0, 32⟩
/-- HIE_ASET_CTL (R545). -/
def HIE_ASET_CTL : Reg := ⟨0x2100800c, 0x10000⟩
def HIE_ASET_CTL_EPOCH : Fld := ⟨HIE_ASET_CTL, 0, 16⟩
def HIE_ASET_CTL_COUNT : Fld := ⟨HIE_ASET_CTL, 16, 3⟩
def HIE_ASET_CTL_PUBLISH : Fld := ⟨HIE_ASET_CTL, 31, 1⟩
/-- CFG_DIGEST (R545). -/
def CFG_DIGEST (w : Nat) : Reg := ⟨0x21000040 + w * 4, 0⟩
def CFG_DIGEST_WORD (w : Nat) : Fld := ⟨CFG_DIGEST w, 0, 32⟩
/-- CFG_PARAM (R545). -/
def CFG_PARAM (i : Nat) : Reg := ⟨0x21001000 + i * 8, BitVec.ofNat 64 (cfgParamReset i)⟩
def CFG_PARAM_VALUE (i : Nat) : Fld := ⟨CFG_PARAM i, 0, 64⟩
/-- HIE_ASET (R545). -/
def HIE_ASET (n w : Nat) : Reg := ⟨0x21008100 + n * 0x40 + w * 4, 0⟩
def HIE_ASET_WORD (n w : Nat) : Fld := ⟨HIE_ASET n w, 0, 32⟩
/-- HIE_MEMBER0 (R545). -/
def HIE_MEMBER0 (m : Nat) : Reg := ⟨0x21008400 + m * 0x10, 0⟩
def HIE_MEMBER0_TAG (m : Nat) : Fld := ⟨HIE_MEMBER0 m, 0, 32⟩
/-- HIE_MEMBER1 (R545). -/
def HIE_MEMBER1 (m : Nat) : Reg := ⟨0x21008404 + m * 0x10, 0⟩
def HIE_MEMBER1_DEMAND (m : Nat) : Fld := ⟨HIE_MEMBER1 m, 0, 32⟩
/-- HIE_MEMBER2 (R545). -/
def HIE_MEMBER2 (m : Nat) : Reg := ⟨0x21008408 + m * 0x10, 0⟩
def HIE_MEMBER2_GRANT (m : Nat) : Fld := ⟨HIE_MEMBER2 m, 0, 32⟩
/-- HIE_MEMBER3 (R545). -/
def HIE_MEMBER3 (m : Nat) : Reg := ⟨0x2100840c + m * 0x10, 0xffff0000⟩
def HIE_MEMBER3_TOKENS (m : Nat) : Fld := ⟨HIE_MEMBER3 m, 0, 8⟩
def HIE_MEMBER3_FENCED (m : Nat) : Fld := ⟨HIE_MEMBER3 m, 8, 1⟩
def HIE_MEMBER3_AGE (m : Nat) : Fld := ⟨HIE_MEMBER3 m, 16, 16⟩
/-- EVR_CTL (R560). -/
def EVR_CTL : Reg := ⟨0x20e00000, 0x6400⟩
def EVR_CTL_EN : Fld := ⟨EVR_CTL, 0, 1⟩
def EVR_CTL_FREEZE : Fld := ⟨EVR_CTL, 1, 1⟩
def EVR_CTL_FLUSH : Fld := ⟨EVR_CTL, 2, 1⟩
def EVR_CTL_FREEZE_MAX : Fld := ⟨EVR_CTL, 8, 8⟩
/-- EVR_STAT (R560). -/
def EVR_STAT : Reg := ⟨0x20e00004, 0⟩
def EVR_STAT_FLUSHING : Fld := ⟨EVR_STAT, 0, 1⟩
def EVR_STAT_FLUSHDONE : Fld := ⟨EVR_STAT, 1, 1⟩
def EVR_STAT_LOWSPACE : Fld := ⟨EVR_STAT, 2, 1⟩
def EVR_STAT_LOSTEV : Fld := ⟨EVR_STAT, 3, 1⟩
def EVR_STAT_HELD : Fld := ⟨EVR_STAT, 16, 9⟩
/-- EVR_RING_BASE (R560). -/
def EVR_RING_BASE : Reg := ⟨0x20e00008, 0⟩
def EVR_RING_BASE_ADDR : Fld := ⟨EVR_RING_BASE, 0, 40⟩
/-- EVR_HEAD (R560). -/
def EVR_HEAD : Reg := ⟨0x20e00010, 0⟩
def EVR_HEAD_SEQ : Fld := ⟨EVR_HEAD, 0, 32⟩
/-- EVR_DRAIN (R560). -/
def EVR_DRAIN : Reg := ⟨0x20e00014, 0⟩
def EVR_DRAIN_SEQ : Fld := ⟨EVR_DRAIN, 0, 32⟩
/-- EVR_LOST (R560). -/
def EVR_LOST : Reg := ⟨0x20e00018, 0⟩
def EVR_LOST_COUNT : Fld := ⟨EVR_LOST, 0, 32⟩
/-- EVR_FROUTE (R560). -/
def EVR_FROUTE : Reg := ⟨0x20e0001c, 1⟩
def EVR_FROUTE_MASK : Fld := ⟨EVR_FROUTE, 0, 16⟩
/-- EVR_LZSEQ (R560). -/
def EVR_LZSEQ : Reg := ⟨0x20e00020, 0⟩
def EVR_LZSEQ_SEQ : Fld := ⟨EVR_LZSEQ, 0, 64⟩
/-- EVR_VCTL (R560). -/
def EVR_VCTL : Reg := ⟨0x20e00070, 0⟩
def EVR_VCTL_GO : Fld := ⟨EVR_VCTL, 0, 1⟩
def EVR_VCTL_DONE : Fld := ⟨EVR_VCTL, 1, 1⟩
def EVR_VCTL_OK : Fld := ⟨EVR_VCTL, 2, 1⟩
/-- EVR_VBUF (R560). -/
def EVR_VBUF (w : Nat) : Reg := ⟨0x20e00040 + w * 4, 0⟩
def EVR_VBUF_WORD (w : Nat) : Fld := ⟨EVR_VBUF w, 0, 32⟩
/-- EVR_VPREV (R560). -/
def EVR_VPREV (w : Nat) : Reg := ⟨0x20e00060 + w * 4, 0⟩
def EVR_VPREV_WORD (w : Nat) : Fld := ⟨EVR_VPREV w, 0, 32⟩
/-- EVR_CODE (R560). -/
def EVR_CODE (c : Nat) : Reg := ⟨0x20e01000 + c * 4, 0x4010⟩
def EVR_CODE_RATE (c : Nat) : Fld := ⟨EVR_CODE c, 0, 8⟩
def EVR_CODE_BURST (c : Nat) : Fld := ⟨EVR_CODE c, 8, 8⟩
def EVR_CODE_UNLIM (c : Nat) : Fld := ⟨EVR_CODE c, 16, 1⟩
def EVR_CODE_FLUSH (c : Nat) : Fld := ⟨EVR_CODE c, 17, 1⟩
/-- PWR_CTL (R579). -/
def PWR_CTL : Reg := ⟨0x20d00000, 0x64⟩
def PWR_CTL_QTMO : Fld := ⟨PWR_CTL, 0, 8⟩
/-- PWR_STAT (R579). -/
def PWR_STAT : Reg := ⟨0x20d00004, 0⟩
def PWR_STAT_CAUSE : Fld := ⟨PWR_STAT, 0, 3⟩
def PWR_STAT_FORCED : Fld := ⟨PWR_STAT, 3, 1⟩
/-- PWR_CMD (R579). -/
def PWR_CMD : Reg := ⟨0x20d00008, 0⟩
def PWR_CMD_DOM : Fld := ⟨PWR_CMD, 0, 8⟩
def PWR_CMD_OP : Fld := ⟨PWR_CMD, 8, 3⟩
def PWR_CMD_GO : Fld := ⟨PWR_CMD, 31, 1⟩
/-- PWR_CMDSTAT (R579). -/
def PWR_CMDSTAT : Reg := ⟨0x20d0000c, 0⟩
def PWR_CMDSTAT_BUSY : Fld := ⟨PWR_CMDSTAT, 0, 1⟩
def PWR_CMDSTAT_ERR : Fld := ⟨PWR_CMDSTAT, 1, 3⟩
/-- PWR_RST (R579). -/
def PWR_RST : Reg := ⟨0x20d00010, 0⟩
def PWR_RST_WARM : Fld := ⟨PWR_RST, 0, 1⟩
def PWR_RST_FORCE : Fld := ⟨PWR_RST, 1, 1⟩
/-- PWR_WDOG (R579). -/
def PWR_WDOG : Reg := ⟨0x20d00014, 0⟩
def PWR_WDOG_LIMIT : Fld := ⟨PWR_WDOG, 0, 16⟩
def PWR_WDOG_KICK : Fld := ⟨PWR_WDOG, 16, 1⟩
/-- PWR_BOOTVEC (R579). -/
def PWR_BOOTVEC : Reg := ⟨0x20d00018, 0⟩
def PWR_BOOTVEC_ADDR : Fld := ⟨PWR_BOOTVEC, 0, 40⟩
/-- PWR_RELEASE (R579). -/
def PWR_RELEASE : Reg := ⟨0x20d00020, 1⟩
def PWR_RELEASE_CORE : Fld := ⟨PWR_RELEASE, 0, 16⟩
/-- PWR_SMB (R579). -/
def PWR_SMB : Reg := ⟨0x20d00024, 0⟩
def PWR_SMB_ADDR : Fld := ⟨PWR_SMB, 0, 2⟩
def PWR_SMB_OVF : Fld := ⟨PWR_SMB, 2, 1⟩
def PWR_SMB_UNF : Fld := ⟨PWR_SMB, 3, 1⟩
/-- PWR_SMB_RXF (R579). -/
def PWR_SMB_RXF : Reg := ⟨0x20d00028, 0⟩
def PWR_SMB_RXF_DATA : Fld := ⟨PWR_SMB_RXF, 0, 64⟩
/-- PWR_SMB_TXF (R579). -/
def PWR_SMB_TXF : Reg := ⟨0x20d00030, 0⟩
def PWR_SMB_TXF_DATA : Fld := ⟨PWR_SMB_TXF, 0, 64⟩
/-- PWR_GPIO_DIR (R601). -/
def PWR_GPIO_DIR : Reg := ⟨0x20d00400, 0⟩
def PWR_GPIO_DIR_OE : Fld := ⟨PWR_GPIO_DIR, 0, 16⟩
/-- PWR_GPIO_OUT (R601). -/
def PWR_GPIO_OUT : Reg := ⟨0x20d00404, 0⟩
def PWR_GPIO_OUT_LEVEL : Fld := ⟨PWR_GPIO_OUT, 0, 16⟩
/-- PWR_GPIO_IN (R601). -/
def PWR_GPIO_IN : Reg := ⟨0x20d00408, 0⟩
def PWR_GPIO_IN_LEVEL : Fld := ⟨PWR_GPIO_IN, 0, 16⟩
/-- PWR_GPIO_POL (R601). -/
def PWR_GPIO_POL : Reg := ⟨0x20d0040c, 0⟩
def PWR_GPIO_POL_REQ : Fld := ⟨PWR_GPIO_POL, 0, 16⟩
/-- PWR_DOM (R579). -/
def PWR_DOM (n : Nat) : Reg := ⟨0x20d00100 + n * 4, BitVec.ofNat 64 (pwrDomReset n)⟩
def PWR_DOM_STATE (n : Nat) : Fld := ⟨PWR_DOM n, 0, 3⟩
def PWR_DOM_FORCED (n : Nat) : Fld := ⟨PWR_DOM n, 3, 1⟩
def PWR_DOM_MW (n : Nat) : Fld := ⟨PWR_DOM n, 16, 16⟩

/-- Register rows of the ang window. -/
def angRows : List RegRow := [
  ⟨0x20f00000, [(0x200, 32)], false, fun _ => 0x1033200, [⟨19, 8, .rw⟩, ⟨16, 3, .rw⟩, ⟨12, 4, .rw⟩, ⟨0, 11, .rwl⟩]⟩,
  ⟨0x20f00004, [(0x200, 32)], false, fun _ => 0, [⟨19, 1, .w1c⟩, ⟨18, 1, .w1c⟩, ⟨17, 1, .w1c⟩, ⟨16, 1, .w1c⟩, ⟨10, 4, .ro⟩, ⟨4, 6, .ro⟩, ⟨3, 1, .ro⟩, ⟨2, 1, .ro⟩, ⟨0, 2, .ro⟩]⟩,
  ⟨0x20f00008, [(0x200, 32)], false, fun _ => 0, [⟨0, 32, .ro⟩]⟩,
  ⟨0x20f0000c, [(0x200, 32)], false, fun _ => 0, [⟨0, 32, .ro⟩]⟩,
  ⟨0x20f00010, [(0x200, 32)], false, fun _ => 0, [⟨0, 32, .ro⟩]⟩,
  ⟨0x20f00014, [(0x200, 32)], false, fun _ => 0, [⟨0, 32, .ro⟩]⟩,
  ⟨0x20f00018, [(0x200, 32)], false, fun _ => 0, [⟨0, 16, .ro⟩]⟩,
  ⟨0x20f0001c, [(0x200, 32)], false, fun _ => 0x40, [⟨0, 11, .rw⟩]⟩,
  ⟨0x20f00020, [(0x200, 32)], false, fun _ => 0, [⟨0, 32, .ro⟩]⟩,
  ⟨0x20f00024, [(0x200, 32)], false, fun _ => 0, [⟨0, 32, .ro⟩]⟩,
  ⟨0x20f00028, [(0x200, 32)], false, fun _ => 0, [⟨0, 7, .ro⟩]⟩,
  ⟨0x20f0002c, [(0x200, 32)], false, fun _ => 0, [⟨0, 32, .ro⟩]⟩,
  ⟨0x20f00100, [(0x200, 32), (0x40, 2), (4, 12)], false, fun _ => 0, [⟨0, 16, .rw⟩]⟩,
  ⟨0x20f0f000, [], true, fun _ => 0, [⟨0, 64, .ro⟩]⟩,
  ⟨0x20f0f008, [], false, fun _ => 0, [⟨3, 1, .w1c⟩, ⟨2, 1, .w1c⟩, ⟨1, 1, .ro⟩, ⟨0, 1, .ro⟩]⟩,
  ⟨0x20f0f00c, [], false, fun _ => 0, [⟨0, 1, .wo⟩]⟩,
  ⟨0x20f0f010, [], true, fun _ => 0, [⟨0, 64, .ro⟩]⟩,
  ⟨0x20f0f018, [], true, fun _ => 0, [⟨0, 40, .ro⟩]⟩]

/-- Register rows of the bay window. -/
def bayRows0 : List RegRow := [
  ⟨0x20400000, [(0x10000, 32)], false, fun _ => 0x32032, [⟨20, 1, .rw⟩, ⟨16, 4, .rw⟩, ⟨8, 8, .rw⟩, ⟨4, 4, .rw⟩, ⟨2, 1, .rw⟩, ⟨1, 1, .rw⟩, ⟨0, 1, .rw⟩]⟩,
  ⟨0x20400004, [(0x10000, 32)], false, fun _ => 0, [⟨16, 4, .ro⟩, ⟨15, 1, .w1c⟩, ⟨14, 1, .w1c⟩, ⟨13, 1, .w1c⟩, ⟨12, 1, .w1c⟩, ⟨11, 1, .ro⟩, ⟨10, 1, .w1c⟩, ⟨9, 1, .ro⟩, ⟨8, 1, .ro⟩, ⟨7, 1, .ro⟩, ⟨6, 1, .ro⟩, ⟨5, 1, .ro⟩, ⟨4, 1, .ro⟩, ⟨0, 4, .ro⟩]⟩,
  ⟨0x20400008, [(0x10000, 32)], false, fun _ => 0, [⟨0, 13, .ro⟩, ⟨13, 3, .ro⟩, ⟨16, 16, .ro⟩]⟩,
  ⟨0x2040000c, [(0x10000, 32)], false, fun _ => 0, [⟨0, 12, .ro⟩, ⟨16, 12, .ro⟩]⟩,
  ⟨0x20400020, [(0x10000, 32)], false, fun _ => 0, [⟨0, 32, .ro⟩]⟩,
  ⟨0x20400024, [(0x10000, 32)], false, fun _ => 0, [⟨0, 32, .ro⟩]⟩,
  ⟨0x20400028, [(0x10000, 32)], false, fun _ => 0, [⟨0, 32, .ro⟩]⟩,
  ⟨0x20400030, [(0x10000, 32)], true, fun _ => 0, [⟨0, 64, .wo⟩]⟩,
  ⟨0x20400010, [(0x10000, 32), (4, 2)], false, fun _ => 0, [⟨0, 17, .ro⟩]⟩,
  ⟨0x20400018, [(0x10000, 32), (4, 2)], false, fun _ => 0, [⟨0, 32, .ro⟩]⟩,
  ⟨0x20400040, [(0x10000, 32), (4, 10)], false, fun _ => 0, [⟨0, 32, .ro⟩]⟩,
  ⟨0x20400100, [(0x10000, 32), (0x80, 2)], false, fun _ => 0x5000, [⟨16, 1, .w1s⟩, ⟨8, 7, .rw⟩, ⟨0, 1, .rw⟩]⟩,
  ⟨0x20400104, [(0x10000, 32), (0x80, 2)], false, fun _ => 0x20, [⟨24, 8, .ro⟩, ⟨19, 1, .w1c⟩, ⟨18, 1, .w1c⟩, ⟨17, 1, .w1c⟩, ⟨16, 1, .w1c⟩, ⟨8, 2, .ro⟩, ⟨5, 1, .ro⟩, ⟨4, 1, .ro⟩, ⟨1, 1, .ro⟩]⟩,
  ⟨0x20400108, [(0x10000, 32), (0x80, 2)], false, fun _ => 0xc0000000, [⟨0, 24, .ro⟩, ⟨24, 2, .ro⟩, ⟨26, 2, .ro⟩, ⟨30, 2, .ro⟩]⟩,
  ⟨0x2040010c, [(0x10000, 32), (0x80, 2)], false, fun _ => 0, [⟨0, 16, .ro⟩, ⟨16, 16, .ro⟩]⟩,
  ⟨0x20400110, [(0x10000, 32), (0x80, 2), (4, 3)], false, fun _ => 0, [⟨0, 24, .rw⟩]⟩,
  ⟨0x2040011c, [(0x10000, 32), (0x80, 2)], false, fun _ => 0x4372814, [⟨0, 8, .rw⟩, ⟨8, 8, .rw⟩, ⟨16, 8, .rw⟩, ⟨24, 4, .rw⟩]⟩,
  ⟨0x20400120, [(0x10000, 32), (0x80, 2)], false, fun _ => 0x404b0180, [⟨0, 12, .rw⟩, ⟨12, 16, .rw⟩, ⟨28, 4, .rw⟩]⟩,
  ⟨0x20400124, [(0x10000, 32), (0x80, 2)], false, fun _ => 0x419032, [⟨0, 10, .rw⟩, ⟨10, 10, .rw⟩, ⟨20, 8, .rw⟩]⟩,
  ⟨0x20400128, [(0x10000, 32), (0x80, 2)], false, fun _ => 0x41e050, [⟨0, 10, .rw⟩, ⟨10, 10, .rw⟩, ⟨20, 8, .rw⟩]⟩,
  ⟨0x2040012c, [(0x10000, 32), (0x80, 2)], false, fun _ => 0x1a32000, [⟨0, 16, .rw⟩, ⟨16, 4, .rw⟩, ⟨20, 8, .rw⟩, ⟨31, 1, .rw⟩]⟩,
  ⟨0x20400130, [(0x10000, 32), (0x80, 2)], false, fun _ => 0x7d04000, [⟨0, 16, .rw⟩, ⟨16, 16, .rw⟩]⟩,
  ⟨0x20400134, [(0x10000, 32), (0x80, 2)], false, fun _ => 0x10258032, [⟨0, 12, .rw⟩, ⟨12, 12, .rw⟩, ⟨24, 8, .rw⟩]⟩,
  ⟨0x20400138, [(0x10000, 32), (0x80, 2)], false, fun _ => 0x14142040, [⟨0, 8, .rw⟩, ⟨8, 8, .rw⟩, ⟨16, 8, .rw⟩, ⟨24, 8, .rw⟩]⟩,
  ⟨0x2040013c, [(0x10000, 32), (0x80, 2)], false, fun _ => 0x512c32, [⟨0, 8, .rw⟩, ⟨8, 10, .rw⟩, ⟨18, 8, .rw⟩]⟩,
  ⟨0x20400140, [(0x10000, 32), (0x80, 2)], false, fun _ => 0, [⟨0, 4, .ro⟩, ⟨16, 16, .ro⟩]⟩,
  ⟨0x20400144, [(0x10000, 32), (0x80, 2)], false, fun _ => 0, [⟨0, 32, .ro⟩]⟩,
  ⟨0x20400148, [(0x10000, 32), (0x80, 2)], false, fun _ => 0, [⟨0, 16, .ro⟩, ⟨16, 16, .ro⟩]⟩,
  ⟨0x2040014c, [(0x10000, 32), (0x80, 2)], false, fun _ => 0, [⟨0, 16, .ro⟩]⟩,
  ⟨0x20400150, [(0x10000, 32), (0x80, 2)], false, fun _ => 0x6666, [⟨0, 16, .rw⟩]⟩]

/-- Register rows of the bay window. -/
def bayRows1 : List RegRow := [
  ⟨0x20400154, [(0x10000, 32), (0x80, 2)], false, fun _ => 0, [⟨0, 6, .rw⟩, ⟨31, 1, .w1s⟩]⟩,
  ⟨0x20400158, [(0x10000, 32), (0x80, 2)], false, fun _ => 0, [⟨0, 24, .rw⟩]⟩,
  ⟨0x2040015c, [(0x10000, 32), (0x80, 2)], false, fun _ => 0, [⟨0, 32, .ro⟩]⟩,
  ⟨0x20400200, [(0x10000, 32), (0x80, 2), (4, 32)], false, fun _ => 0, [⟨0, 32, .rw⟩]⟩,
  ⟨0x20401000, [(0x10000, 32), (0x1800, 2), (4, 1536)], false, fun _ => 0, [⟨0, 32, .gain⟩]⟩,
  ⟨0x20400400, [(0x10000, 32), (0x400, 2), (0x40, 12), (4, 16)], false, fun _ => 0, [⟨0, 32, .rw⟩]⟩,
  ⟨0x20400300, [(0x10000, 32)], false, fun _ => 0x100, [⟨16, 1, .w1s⟩, ⟨8, 1, .rw⟩, ⟨1, 1, .rw⟩, ⟨0, 1, .rw⟩]⟩,
  ⟨0x20400304, [(0x10000, 32)], false, fun _ => 0, [⟨24, 8, .ro⟩, ⟨20, 1, .w1c⟩, ⟨19, 1, .w1c⟩, ⟨18, 1, .w1c⟩, ⟨17, 1, .w1c⟩, ⟨16, 1, .w1c⟩, ⟨15, 1, .w1c⟩, ⟨8, 4, .ro⟩, ⟨7, 1, .ro⟩, ⟨6, 1, .ro⟩, ⟨5, 1, .ro⟩, ⟨4, 1, .ro⟩, ⟨1, 1, .ro⟩]⟩,
  ⟨0x20400308, [(0x10000, 32)], false, fun _ => 0, [⟨0, 14, .ro⟩, ⟨16, 14, .ro⟩]⟩,
  ⟨0x2040030c, [(0x10000, 32)], false, fun _ => 0, [⟨0, 12, .rw⟩, ⟨12, 4, .ro⟩, ⟨16, 4, .rw⟩]⟩,
  ⟨0x20400310, [(0x10000, 32)], false, fun _ => 0x80505, [⟨0, 8, .rw⟩, ⟨8, 8, .rw⟩, ⟨16, 8, .rw⟩]⟩,
  ⟨0x20400314, [(0x10000, 32)], false, fun _ => 0x40030414, [⟨0, 8, .rw⟩, ⟨8, 8, .rw⟩, ⟨16, 6, .rw⟩, ⟨22, 10, .rw⟩]⟩,
  ⟨0x20400318, [(0x10000, 32)], false, fun _ => 0x41000, [⟨0, 16, .rw⟩, ⟨16, 4, .rw⟩]⟩,
  ⟨0x2040031c, [(0x10000, 32)], false, fun _ => 0x40cc8, [⟨0, 10, .rw⟩, ⟨10, 4, .rw⟩, ⟨14, 8, .rw⟩]⟩,
  ⟨0x20400320, [(0x10000, 32)], false, fun _ => 0, [⟨0, 20, .ro⟩]⟩,
  ⟨0x20400324, [(0x10000, 32)], false, fun _ => 0x1e, [⟨0, 7, .rw⟩]⟩,
  ⟨0x20400328, [(0x10000, 32)], false, fun _ => 0, [⟨0, 32, .ro⟩]⟩,
  ⟨0x2040032c, [(0x10000, 32)], false, fun _ => 0, [⟨0, 4, .rw⟩, ⟨8, 24, .rw⟩]⟩,
  ⟨0x20400330, [(0x10000, 32)], false, fun _ => 0x1f41e, [⟨0, 7, .rw⟩, ⟨8, 13, .rw⟩]⟩,
  ⟨0x20400334, [(0x10000, 32)], false, fun _ => 0x14, [⟨0, 8, .rw⟩]⟩,
  ⟨0x20400338, [(0x10000, 32)], false, fun _ => 0, [⟨0, 32, .ro⟩]⟩]

/-- All register rows of the bay window. -/
def bayRows : List RegRow := bayRows0 ++ bayRows1

/-- Register rows of the slice window. -/
def sliceRows : List RegRow := [
  ⟨0x20000000, [(0x10000, 64)], false, fun _ => 0x50a0000, [⟨24, 8, .rw⟩, ⟨16, 8, .rw⟩, ⟨0, 1, .rw⟩]⟩,
  ⟨0x20000004, [(0x10000, 64)], false, fun _ => 0, [⟨8, 7, .ro⟩, ⟨3, 1, .ro⟩, ⟨2, 1, .ro⟩, ⟨1, 1, .ro⟩, ⟨0, 1, .ro⟩]⟩,
  ⟨0x20000008, [(0x10000, 64)], false, fun _ => 0x7d003e8, [⟨0, 16, .rw⟩, ⟨16, 16, .rw⟩]⟩,
  ⟨0x2000000c, [(0x10000, 64)], false, fun _ => 0x100a2850, [⟨0, 8, .rw⟩, ⟨8, 8, .rw⟩, ⟨16, 8, .rw⟩, ⟨24, 8, .rw⟩]⟩,
  ⟨0x20000010, [(0x10000, 64)], false, fun _ => 0xc0600d7, [⟨0, 3, .rw⟩, ⟨4, 8, .rw⟩, ⟨16, 8, .rw⟩, ⟨24, 8, .rw⟩]⟩,
  ⟨0x20000014, [(0x10000, 64)], false, fun _ => 0x3062, [⟨0, 4, .rw⟩, ⟨4, 4, .rw⟩, ⟨8, 8, .rw⟩]⟩,
  ⟨0x20000018, [(0x10000, 64)], false, fun _ => 0x20, [⟨0, 7, .rwl⟩]⟩,
  ⟨0x20000020, [(0x10000, 64)], true, fun _ => 0, [⟨0, 40, .rwl⟩]⟩,
  ⟨0x20000028, [(0x10000, 64)], false, fun _ => 0, [⟨0, 32, .ro⟩]⟩,
  ⟨0x2000002c, [(0x10000, 64)], false, fun _ => 0, [⟨0, 32, .ro⟩]⟩,
  ⟨0x20000030, [(0x10000, 64)], false, fun _ => 0, [⟨0, 32, .ro⟩]⟩,
  ⟨0x20000034, [(0x10000, 64)], false, fun _ => 0, [⟨0, 4, .ro⟩, ⟨8, 24, .ro⟩]⟩,
  ⟨0x20006000, [(0x10000, 64)], false, fun _ => 0x24ac8, [⟨0, 8, .rw⟩, ⟨8, 4, .rw⟩, ⟨12, 4, .rw⟩, ⟨16, 4, .rw⟩]⟩,
  ⟨0x20006004, [(0x10000, 64)], false, fun _ => 0, [⟨0, 9, .ro⟩, ⟨16, 1, .ro⟩, ⟨17, 1, .ro⟩]⟩,
  ⟨0x20006008, [(0x10000, 64)], false, fun _ => 0x24810, [⟨0, 10, .rwl⟩, ⟨10, 3, .rwl⟩, ⟨13, 4, .rwl⟩, ⟨17, 3, .rwl⟩]⟩,
  ⟨0x2000600c, [(0x10000, 64)], false, fun _ => 0, [⟨0, 32, .ro⟩]⟩,
  ⟨0x20000040, [(0x10000, 64), (4, 8)], false, fun _ => 0, [⟨0, 32, .ro⟩]⟩,
  ⟨0x20000100, [(0x10000, 64), (0x10, 12)], false, fun _ => 0, [⟨0, 12, .rw⟩, ⟨16, 12, .rw⟩]⟩,
  ⟨0x20000104, [(0x10000, 64), (0x10, 12)], false, fun _ => 0, [⟨0, 10, .rw⟩, ⟨16, 10, .rw⟩]⟩,
  ⟨0x20000108, [(0x10000, 64), (0x10, 12)], false, fun _ => 0, [⟨0, 8, .rw⟩, ⟨8, 8, .rw⟩, ⟨16, 8, .rw⟩]⟩,
  ⟨0x2000010c, [(0x10000, 64), (0x10, 12)], false, fun _ => 0, [⟨0, 8, .rw⟩, ⟨8, 5, .rw⟩, ⟨16, 16, .rw⟩]⟩,
  ⟨0x20000200, [(0x10000, 64), (0x10, 12)], true, fun _ => 0, [⟨0, 64, .ro⟩]⟩,
  ⟨0x20000208, [(0x10000, 64), (0x10, 12)], true, fun _ => 0, [⟨0, 64, .ro⟩]⟩,
  ⟨0x20001000, [(0x10000, 64), (0x200, 12), (0x10, 32)], false, fun _ => 0, [⟨0, 24, .rw⟩]⟩,
  ⟨0x20001004, [(0x10000, 64), (0x200, 12), (0x10, 32)], false, fun _ => 0, [⟨0, 26, .rw⟩]⟩,
  ⟨0x20001008, [(0x10000, 64), (0x200, 12), (0x10, 32)], false, fun _ => 0, [⟨0, 12, .rw⟩, ⟨16, 12, .rw⟩]⟩,
  ⟨0x2000100c, [(0x10000, 64), (0x200, 12), (0x10, 32)], false, fun _ => 0, []⟩,
  ⟨0x2000c000, [(0x10000, 64), (0x400, 12), (4, 256)], false, fun _ => 0, [⟨0, 32, .rw⟩]⟩]

/-- Register rows of the fctSlice Facet blocks (R139, R166). -/
def fctSliceRows : List RegRow := [
  ⟨0x20008000, [(0x10000, 64)], false, fun _ => 0, [⟨8, 1, .rw⟩, ⟨7, 1, .wo⟩, ⟨6, 1, .w1s⟩, ⟨5, 1, .rw⟩, ⟨0, 1, .rw⟩]⟩,
  ⟨0x20008004, [(0x10000, 64)], false, fun _ => 0, [⟨15, 1, .ro⟩, ⟨14, 1, .ro⟩, ⟨12, 1, .w1c⟩, ⟨11, 1, .ro⟩, ⟨10, 1, .ro⟩, ⟨9, 1, .ro⟩, ⟨8, 1, .ro⟩, ⟨4, 4, .ro⟩, ⟨0, 4, .ro⟩]⟩,
  ⟨0x20008008, [(0x10000, 64)], false, fun _ => 0, [⟨0, 10, .rw⟩]⟩,
  ⟨0x2000800c, [(0x10000, 64)], false, fun _ => 0, [⟨31, 1, .rw⟩, ⟨16, 8, .ro⟩, ⟨0, 10, .rw⟩]⟩,
  ⟨0x20008010, [(0x10000, 64)], false, fun _ => 0, [⟨4, 12, .rw⟩]⟩,
  ⟨0x20008014, [(0x10000, 64)], false, fun _ => 0, [⟨0, 16, .ro⟩]⟩,
  ⟨0x20008018, [(0x10000, 64)], false, fun _ => 0, [⟨0, 10, .ro⟩, ⟨10, 8, .ro⟩, ⟨18, 4, .ro⟩]⟩,
  ⟨0x2000801c, [(0x10000, 64)], false, fun _ => 0, [⟨0, 10, .ro⟩, ⟨10, 8, .ro⟩, ⟨18, 4, .ro⟩, ⟨22, 3, .ro⟩]⟩,
  ⟨0x20008020, [(0x10000, 64)], false, fun _ => 0, [⟨0, 16, .ro⟩, ⟨16, 16, .ro⟩]⟩,
  ⟨0x20008024, [(0x10000, 64)], false, fun _ => 0, [⟨0, 10, .ro⟩, ⟨16, 1, .ro⟩, ⟨17, 1, .w1c⟩]⟩,
  ⟨0x20008028, [(0x10000, 64)], false, fun _ => 0x100000, [⟨0, 24, .rw⟩]⟩,
  ⟨0x2000802c, [(0x10000, 64)], false, fun _ => 0, [⟨0, 1, .wo⟩]⟩,
  ⟨0x20008030, [(0x10000, 64)], false, fun _ => 0, [⟨0, 32, .ro⟩]⟩,
  ⟨0x20008038, [(0x10000, 64)], true, fun _ => 0, [⟨0, 64, .ro⟩]⟩,
  ⟨0x20008040, [(0x10000, 64)], false, fun _ => 0, [⟨0, 32, .ro⟩]⟩]

/-- Register rows of the fctReticle Facet blocks (R139, R166). -/
def fctReticleRows : List RegRow := [
  ⟨0x20404000, [(0x10000, 32), (0x4000, 2)], false, fun _ => 0, [⟨8, 1, .rw⟩, ⟨7, 1, .wo⟩, ⟨6, 1, .w1s⟩, ⟨5, 1, .rw⟩, ⟨0, 1, .rw⟩]⟩,
  ⟨0x20404004, [(0x10000, 32), (0x4000, 2)], false, fun _ => 0, [⟨15, 1, .ro⟩, ⟨14, 1, .ro⟩, ⟨12, 1, .w1c⟩, ⟨11, 1, .ro⟩, ⟨10, 1, .ro⟩, ⟨9, 1, .ro⟩, ⟨8, 1, .ro⟩, ⟨4, 4, .ro⟩, ⟨0, 4, .ro⟩]⟩,
  ⟨0x20404008, [(0x10000, 32), (0x4000, 2)], false, fun _ => 0, [⟨0, 10, .rw⟩]⟩,
  ⟨0x2040400c, [(0x10000, 32), (0x4000, 2)], false, fun _ => 0, [⟨31, 1, .rw⟩, ⟨16, 8, .ro⟩, ⟨0, 10, .rw⟩]⟩,
  ⟨0x20404010, [(0x10000, 32), (0x4000, 2)], false, fun _ => 0, [⟨4, 12, .rw⟩]⟩,
  ⟨0x20404014, [(0x10000, 32), (0x4000, 2)], false, fun _ => 0, [⟨0, 16, .ro⟩]⟩,
  ⟨0x20404018, [(0x10000, 32), (0x4000, 2)], false, fun _ => 0, [⟨0, 10, .ro⟩, ⟨10, 8, .ro⟩, ⟨18, 4, .ro⟩]⟩,
  ⟨0x2040401c, [(0x10000, 32), (0x4000, 2)], false, fun _ => 0, [⟨0, 10, .ro⟩, ⟨10, 8, .ro⟩, ⟨18, 4, .ro⟩, ⟨22, 3, .ro⟩]⟩,
  ⟨0x20404020, [(0x10000, 32), (0x4000, 2)], false, fun _ => 0, [⟨0, 16, .ro⟩, ⟨16, 16, .ro⟩]⟩,
  ⟨0x20404024, [(0x10000, 32), (0x4000, 2)], false, fun _ => 0, [⟨0, 10, .ro⟩, ⟨16, 1, .ro⟩, ⟨17, 1, .w1c⟩]⟩,
  ⟨0x20404028, [(0x10000, 32), (0x4000, 2)], false, fun _ => 0x100000, [⟨0, 24, .rw⟩]⟩,
  ⟨0x2040402c, [(0x10000, 32), (0x4000, 2)], false, fun _ => 0, [⟨0, 1, .wo⟩]⟩,
  ⟨0x20404030, [(0x10000, 32), (0x4000, 2)], false, fun _ => 0, [⟨0, 32, .ro⟩]⟩,
  ⟨0x20404038, [(0x10000, 32), (0x4000, 2)], true, fun _ => 0, [⟨0, 64, .ro⟩]⟩,
  ⟨0x20404040, [(0x10000, 32), (0x4000, 2)], false, fun _ => 0, [⟨0, 32, .ro⟩]⟩]

/-- Register rows of the fctComm Facet blocks (R139, R166). -/
def fctCommRows : List RegRow := [
  ⟨0x2040c000, [(0x10000, 32)], false, fun _ => 0, [⟨8, 1, .rw⟩, ⟨7, 1, .wo⟩, ⟨6, 1, .w1s⟩, ⟨5, 1, .rw⟩, ⟨0, 1, .rw⟩]⟩,
  ⟨0x2040c004, [(0x10000, 32)], false, fun _ => 0, [⟨15, 1, .ro⟩, ⟨14, 1, .ro⟩, ⟨12, 1, .w1c⟩, ⟨11, 1, .ro⟩, ⟨10, 1, .ro⟩, ⟨9, 1, .ro⟩, ⟨8, 1, .ro⟩, ⟨4, 4, .ro⟩, ⟨0, 4, .ro⟩]⟩,
  ⟨0x2040c008, [(0x10000, 32)], false, fun _ => 0, [⟨0, 10, .rw⟩]⟩,
  ⟨0x2040c00c, [(0x10000, 32)], false, fun _ => 0, [⟨31, 1, .rw⟩, ⟨16, 8, .ro⟩, ⟨0, 10, .rw⟩]⟩,
  ⟨0x2040c010, [(0x10000, 32)], false, fun _ => 0, [⟨4, 12, .rw⟩]⟩,
  ⟨0x2040c014, [(0x10000, 32)], false, fun _ => 0, [⟨0, 16, .ro⟩]⟩,
  ⟨0x2040c018, [(0x10000, 32)], false, fun _ => 0, [⟨0, 10, .ro⟩, ⟨10, 8, .ro⟩, ⟨18, 4, .ro⟩]⟩,
  ⟨0x2040c01c, [(0x10000, 32)], false, fun _ => 0, [⟨0, 10, .ro⟩, ⟨10, 8, .ro⟩, ⟨18, 4, .ro⟩, ⟨22, 3, .ro⟩]⟩,
  ⟨0x2040c020, [(0x10000, 32)], false, fun _ => 0, [⟨0, 16, .ro⟩, ⟨16, 16, .ro⟩]⟩,
  ⟨0x2040c024, [(0x10000, 32)], false, fun _ => 0, [⟨0, 10, .ro⟩, ⟨16, 1, .ro⟩, ⟨17, 1, .w1c⟩]⟩,
  ⟨0x2040c028, [(0x10000, 32)], false, fun _ => 0x100000, [⟨0, 24, .rw⟩]⟩,
  ⟨0x2040c02c, [(0x10000, 32)], false, fun _ => 0, [⟨0, 1, .wo⟩]⟩,
  ⟨0x2040c030, [(0x10000, 32)], false, fun _ => 0, [⟨0, 32, .ro⟩]⟩,
  ⟨0x2040c038, [(0x10000, 32)], true, fun _ => 0, [⟨0, 64, .ro⟩]⟩,
  ⟨0x2040c040, [(0x10000, 32)], false, fun _ => 0, [⟨0, 32, .ro⟩]⟩]

/-- Register rows of the apr window. -/
def aprRows : List RegRow := [
  ⟨0x20c00400, [], false, fun _ => 0x1414328c, [⟨0, 8, .rw⟩, ⟨8, 8, .rw⟩, ⟨16, 8, .rw⟩, ⟨24, 8, .rw⟩]⟩,
  ⟨0x20c00404, [], false, fun _ => 0xa6c70, [⟨0, 8, .rw⟩, ⟨8, 8, .rw⟩, ⟨16, 8, .rw⟩]⟩,
  ⟨0x20c00408, [], false, fun _ => 0, [⟨0, 16, .ro⟩, ⟨16, 1, .ro⟩, ⟨17, 1, .ro⟩, ⟨18, 1, .ro⟩, ⟨19, 1, .ro⟩, ⟨20, 1, .w1c⟩]⟩,
  ⟨0x20c0040c, [], false, fun _ => 0xa280, [⟨0, 1, .wo⟩, ⟨1, 1, .ro⟩, ⟨4, 8, .rw⟩, ⟨12, 8, .rw⟩, ⟨20, 12, .ro⟩]⟩,
  ⟨0x20c00000, [], false, fun _ => 0x50325500, [⟨0, 1, .rw⟩, ⟨1, 1, .rw⟩, ⟨8, 8, .rwl⟩, ⟨16, 8, .rwl⟩, ⟨24, 8, .rwl⟩]⟩,
  ⟨0x20c00004, [], false, fun _ => 0, [⟨0, 1, .ro⟩, ⟨1, 1, .ro⟩, ⟨2, 1, .ro⟩, ⟨3, 1, .ro⟩, ⟨4, 1, .ro⟩, ⟨5, 1, .ro⟩, ⟨6, 1, .w1c⟩, ⟨16, 16, .ro⟩]⟩,
  ⟨0x20c00008, [], false, fun _ => 0, [⟨0, 32, .rw⟩]⟩,
  ⟨0x20c0000c, [], false, fun _ => 0, [⟨0, 32, .ro⟩]⟩,
  ⟨0x20c00010, [], false, fun _ => 0, [⟨0, 32, .ro⟩]⟩,
  ⟨0x20c00014, [], false, fun _ => 0, [⟨0, 32, .ro⟩]⟩,
  ⟨0x20c00018, [], false, fun _ => 0x5a000000, [⟨0, 24, .rwl⟩, ⟨24, 8, .rwl⟩]⟩,
  ⟨0x20c0001c, [], false, fun _ => 0x640, [⟨0, 16, .rwl⟩, ⟨16, 16, .ro⟩]⟩,
  ⟨0x20c00020, [], false, fun _ => 0, [⟨0, 32, .ro⟩]⟩,
  ⟨0x20c00024, [], false, fun _ => 0, [⟨0, 32, .ro⟩]⟩,
  ⟨0x20c00028, [], false, fun _ => 0, [⟨0, 32, .ro⟩]⟩,
  ⟨0x20c0002c, [], false, fun _ => 0, [⟨0, 32, .ro⟩]⟩,
  ⟨0x20c00030, [], false, fun _ => 0, [⟨0, 32, .ro⟩]⟩,
  ⟨0x20c00034, [], false, fun _ => 0x9c40, [⟨0, 32, .rwl⟩]⟩,
  ⟨0x20c00038, [], false, fun _ => 0, [⟨0, 32, .ro⟩]⟩,
  ⟨0x20c0003c, [], false, fun _ => 0xc8019078, [⟨0, 12, .rwl⟩, ⟨12, 12, .rwl⟩, ⟨24, 8, .rwl⟩]⟩,
  ⟨0x20c00040, [], false, fun _ => 0x4000, [⟨0, 15, .rwl⟩, ⟨16, 15, .ro⟩]⟩,
  ⟨0x20c00060, [], false, fun _ => 4, [⟨0, 4, .rwl⟩, ⟨8, 4, .ro⟩]⟩,
  ⟨0x20c00064, [], false, fun _ => 0, [⟨0, 32, .ro⟩]⟩,
  ⟨0x20c00050, [(4, 3)], false, fun ix => let i := ix.getD 0 0; if i = 1 then 0x04B00064 else 0x03200064, [⟨0, 16, .rw⟩, ⟨16, 16, .rw⟩]⟩,
  ⟨0x20c00100, [(4, 32)], false, fun _ => 4, [⟨0, 3, .ro⟩, ⟨4, 3, .ro⟩, ⟨8, 1, .ro⟩, ⟨9, 1, .ro⟩]⟩,
  ⟨0x20c00180, [(4, 4)], false, fun ix => let n := ix.getD 0 0; if n = 0 then 0xA else if n = 1 then 0x1D4C0 else if n = 2 then 0x124F80 else 0, [⟨0, 32, .rwl⟩]⟩]

/-- Register rows of the thm window. -/
def thmRows : List RegRow := [
  ⟨0x20c10f00, [], false, fun _ => 0x1e, [⟨0, 8, .rw⟩]⟩,
  ⟨0x20c10f04, [], false, fun _ => 0, [⟨0, 16, .ro⟩, ⟨16, 1, .ro⟩, ⟨17, 1, .w1c⟩]⟩,
  ⟨0x20c10f08, [], false, fun _ => 0x10000, [⟨0, 18, .ro⟩]⟩,
  ⟨0x20c10f0c, [], false, fun _ => 0, [⟨0, 32, .w1c⟩]⟩,
  ⟨0x20c10f40, [(4, 32)], false, fun _ => 0x2710, [⟨0, 16, .ro⟩]⟩,
  ⟨0x20c10000, [], false, fun _ => 0x73285f01, [⟨0, 1, .rw⟩, ⟨1, 1, .wo⟩, ⟨8, 8, .ro⟩, ⟨16, 8, .ro⟩, ⟨24, 8, .ro⟩]⟩,
  ⟨0x20c10004, [], false, fun _ => 0x10, [⟨0, 1, .ro⟩, ⟨1, 1, .ro⟩, ⟨2, 1, .ro⟩, ⟨3, 1, .w1c⟩, ⟨4, 1, .ro⟩, ⟨16, 16, .ro⟩]⟩,
  ⟨0x20c10008, [], false, fun _ => 0, [⟨0, 16, .rw⟩]⟩,
  ⟨0x20c1000c, [], false, fun _ => 0x4000, [⟨0, 16, .ro⟩]⟩,
  ⟨0x20c10010, [], false, fun _ => 0x41003c05, [⟨0, 8, .rwl⟩, ⟨8, 8, .rwl⟩, ⟨16, 8, .rwl⟩, ⟨24, 8, .rwl⟩]⟩,
  ⟨0x20c10060, [], false, fun _ => 0x5dc, [⟨0, 16, .rwl⟩]⟩,
  ⟨0x20c10020, [(4, 8)], false, fun _ => 0, [⟨0, 16, .ro⟩, ⟨16, 16, .ro⟩]⟩,
  ⟨0x20c10040, [(4, 8)], false, fun ix => let i := ix.getD 0 0; thmParamReset i, [⟨0, 16, .rwl⟩, ⟨16, 16, .rwl⟩]⟩]

/-- Register rows of the mem window. -/
def memRows : List RegRow := [
  ⟨0x20b08000, [], false, fun _ => 0, [⟨0, 1, .rwl⟩]⟩,
  ⟨0x20b08004, [], false, fun _ => 0, [⟨0, 25, .rw⟩, ⟨28, 4, .rw⟩]⟩,
  ⟨0x20b08008, [], false, fun _ => 0, [⟨0, 1, .ro⟩, ⟨1, 3, .ro⟩, ⟨4, 1, .w1c⟩, ⟨5, 1, .w1c⟩, ⟨6, 1, .w1c⟩]⟩,
  ⟨0x20b08010, [], true, fun _ => 0, [⟨0, 40, .rwl⟩]⟩,
  ⟨0x20b08040, [], false, fun _ => 0, [⟨0, 32, .ro⟩]⟩,
  ⟨0x20b08044, [], false, fun _ => 0, [⟨0, 32, .ro⟩]⟩,
  ⟨0x20b08020, [(4, 8)], false, fun _ => 0, [⟨0, 32, .rw⟩]⟩,
  ⟨0x20b00000, [], false, fun _ => 0, [⟨0, 1, .ro⟩, ⟨1, 1, .w1c⟩, ⟨2, 1, .w1c⟩, ⟨3, 1, .w1c⟩, ⟨4, 1, .w1c⟩]⟩,
  ⟨0x20b00004, [], false, fun _ => 0, [⟨0, 8, .rwl⟩, ⟨8, 8, .ro⟩, ⟨16, 16, .ro⟩]⟩,
  ⟨0x20b00008, [], false, fun _ => 0x180101, [⟨0, 1, .rw⟩, ⟨8, 8, .rw⟩, ⟨16, 8, .rw⟩]⟩,
  ⟨0x20b0000c, [], false, fun _ => 0, [⟨0, 16, .ro⟩, ⟨16, 16, .ro⟩]⟩,
  ⟨0x20b00010, [], false, fun _ => 0, [⟨0, 16, .ro⟩, ⟨16, 16, .ro⟩]⟩,
  ⟨0x20b00014, [], false, fun _ => 0, [⟨0, 32, .ro⟩]⟩,
  ⟨0x20b00018, [], true, fun _ => 0, [⟨0, 40, .ro⟩, ⟨40, 2, .ro⟩, ⟨63, 1, .ro⟩]⟩,
  ⟨0x20b00020, [], false, fun _ => 0, [⟨0, 16, .ro⟩, ⟨16, 6, .ro⟩]⟩,
  ⟨0x20b01000, [(8, 64)], true, fun _ => 0, [⟨0, 64, .vw⟩]⟩]

/-- Register rows of the prz window. -/
def przRows : List RegRow := [
  ⟨0x20600000, [(0x10000, 8)], false, fun _ => 0, [⟨0, 1, .rw⟩]⟩,
  ⟨0x20600004, [(0x10000, 8)], false, fun _ => 0, [⟨0, 1, .ro⟩, ⟨8, 8, .ro⟩]⟩,
  ⟨0x20600008, [(0x10000, 8)], false, fun _ => 0, [⟨0, 32, .ro⟩]⟩,
  ⟨0x2060000c, [(0x10000, 8)], false, fun _ => 0, [⟨0, 32, .ro⟩]⟩,
  ⟨0x20600010, [(0x10000, 8)], true, fun _ => 0, [⟨0, 64, .ro⟩]⟩,
  ⟨0x20608000, [], false, fun _ => 1, [⟨0, 1, .rw⟩]⟩,
  ⟨0x20608004, [], false, fun _ => 0xf09c4, [⟨0, 15, .rw⟩, ⟨15, 10, .rw⟩]⟩,
  ⟨0x20608008, [], false, fun _ => 0x190cc810, [⟨0, 8, .rw⟩, ⟨8, 10, .rw⟩, ⟨18, 4, .rw⟩, ⟨22, 10, .rw⟩]⟩,
  ⟨0x2060800c, [], false, fun _ => 0, [⟨0, 32, .rw⟩]⟩,
  ⟨0x20608010, [], true, fun _ => 0, [⟨0, 40, .rwl⟩]⟩,
  ⟨0x20608018, [], true, fun _ => 0, [⟨0, 40, .rwl⟩]⟩,
  ⟨0x20608020, [], false, fun _ => 0x832, [⟨0, 8, .rw⟩, ⟨8, 5, .rwl⟩]⟩,
  ⟨0x20608024, [], false, fun _ => 0x2814, [⟨0, 10, .rw⟩, ⟨10, 8, .rw⟩]⟩,
  ⟨0x20608028, [], false, fun _ => 0x19, [⟨0, 7, .rw⟩]⟩,
  ⟨0x20608100, [(0x10, 8)], false, fun _ => 0, [⟨0, 5, .rw⟩, ⟨8, 3, .rw⟩, ⟨12, 3, .rw⟩, ⟨16, 2, .rw⟩]⟩,
  ⟨0x20608104, [(0x10, 8)], false, fun _ => 0, [⟨0, 32, .rw⟩]⟩,
  ⟨0x20608108, [(0x10, 8)], false, fun _ => 0, [⟨0, 32, .rw⟩]⟩,
  ⟨0x2060810c, [(0x10, 8)], false, fun _ => 0, [⟨0, 32, .rw⟩]⟩,
  ⟨0x20608200, [(4, 64)], false, fun _ => 4, [⟨0, 3, .rw⟩, ⟨4, 4, .ro⟩, ⟨8, 1, .w1c⟩, ⟨16, 16, .ro⟩]⟩]

/-- Register rows of the hpt window. -/
def hptRows : List RegRow := [
  ⟨0x20900000, [], false, fun _ => 0x5fc0, [⟨0, 16, .rwl⟩, ⟨16, 1, .rw⟩]⟩,
  ⟨0x20900004, [], false, fun _ => 0, [⟨0, 15, .ro⟩, ⟨16, 14, .ro⟩]⟩,
  ⟨0x20900008, [], false, fun _ => 0x12c07d0, [⟨0, 15, .rw⟩, ⟨16, 12, .rw⟩]⟩,
  ⟨0x2090000c, [], false, fun _ => 0x84000c8, [⟨0, 14, .rw⟩, ⟨16, 8, .rw⟩, ⟨24, 4, .rw⟩]⟩,
  ⟨0x20900010, [], false, fun _ => 0x1014, [⟨0, 8, .rw⟩, ⟨8, 8, .rw⟩]⟩,
  ⟨0x20900014, [], false, fun _ => 0x100, [⟨0, 9, .rw⟩]⟩,
  ⟨0x20900100, [(0x100, 2)], false, fun _ => 0x3c, [⟨0, 1, .rw⟩, ⟨1, 1, .rwl⟩, ⟨2, 1, .rwl⟩, ⟨3, 1, .rwl⟩, ⟨4, 1, .rwl⟩, ⟨5, 1, .rwl⟩, ⟨8, 6, .rw⟩, ⟨16, 12, .rwl⟩]⟩,
  ⟨0x20900104, [(0x100, 2)], false, fun _ => 0, [⟨0, 1, .ro⟩, ⟨1, 1, .ro⟩, ⟨2, 1, .ro⟩, ⟨3, 1, .w1c⟩]⟩,
  ⟨0x20900108, [(0x100, 2)], false, fun _ => 0, [⟨0, 32, .ro⟩]⟩,
  ⟨0x2090010c, [(0x100, 2)], false, fun _ => 0, [⟨0, 32, .ro⟩]⟩,
  ⟨0x20900110, [(0x100, 2)], false, fun _ => 0, [⟨0, 32, .ro⟩]⟩,
  ⟨0x20900114, [(0x100, 2)], false, fun _ => 0, [⟨0, 32, .ro⟩]⟩,
  ⟨0x20900118, [(0x100, 2)], false, fun _ => 0, [⟨0, 32, .ro⟩]⟩,
  ⟨0x2090011c, [(0x100, 2)], false, fun _ => 0, [⟨0, 32, .ro⟩]⟩,
  ⟨0x20900120, [(0x100, 2)], false, fun _ => 0, [⟨0, 32, .ro⟩]⟩,
  ⟨0x20900124, [(0x100, 2)], false, fun _ => 0, [⟨0, 32, .ro⟩]⟩,
  ⟨0x20900128, [(0x100, 2)], false, fun _ => 0, [⟨0, 32, .rwl⟩]⟩,
  ⟨0x20900130, [(0x100, 2)], true, fun _ => 0, [⟨0, 48, .rwl⟩]⟩,
  ⟨0x20900140, [(0x100, 2), (4, 4)], false, fun _ => 0, [⟨0, 32, .rwl⟩]⟩]

/-- Register rows of the sec window. -/
def secRows : List RegRow := [
  ⟨0x21100000, [], false, fun _ => 0x3c, [⟨0, 2, .ro⟩, ⟨2, 4, .ro⟩, ⟨6, 4, .ro⟩, ⟨10, 1, .ro⟩, ⟨11, 1, .ro⟩, ⟨12, 1, .ro⟩, ⟨13, 1, .ro⟩, ⟨14, 1, .ro⟩, ⟨15, 1, .ro⟩]⟩,
  ⟨0x21100004, [], false, fun _ => 0, [⟨0, 1, .wo⟩]⟩,
  ⟨0x21100008, [], false, fun _ => 0, [⟨0, 4, .wo⟩, ⟨4, 4, .wo⟩]⟩,
  ⟨0x2110000c, [], false, fun _ => 0, [⟨0, 1, .ro⟩, ⟨1, 3, .ro⟩]⟩,
  ⟨0x21100010, [], true, fun _ => 0, [⟨0, 64, .ro⟩]⟩,
  ⟨0x21100018, [], false, fun _ => 0, [⟨0, 32, .ro⟩]⟩,
  ⟨0x2110001c, [], false, fun _ => 0, [⟨0, 16, .ro⟩, ⟨16, 16, .ro⟩]⟩,
  ⟨0x21100020, [], false, fun _ => 0, [⟨0, 8, .ro⟩, ⟨8, 8, .ro⟩, ⟨16, 8, .ro⟩, ⟨24, 8, .ro⟩]⟩,
  ⟨0x21100030, [(4, 12)], false, fun _ => 0, [⟨0, 32, .ro⟩]⟩,
  ⟨0x21100060, [(4, 12)], false, fun _ => 0, [⟨0, 32, .ro⟩]⟩]

/-- Register rows of the lc window. -/
def lcRows : List RegRow := [
  ⟨0x20a00000, [], false, fun _ => 0, [⟨0, 1, .rw⟩]⟩,
  ⟨0x20a00004, [], false, fun _ => 2, [⟨0, 1, .ro⟩, ⟨1, 1, .ro⟩, ⟨2, 1, .w1c⟩, ⟨3, 1, .w1c⟩, ⟨4, 1, .w1c⟩, ⟨5, 1, .w1c⟩, ⟨6, 1, .w1c⟩, ⟨7, 1, .w1c⟩, ⟨8, 1, .w1c⟩]⟩,
  ⟨0x20a00008, [], false, fun _ => 0, [⟨0, 16, .rw⟩]⟩,
  ⟨0x20a0000c, [], false, fun _ => 0, [⟨0, 4, .rw⟩, ⟨8, 4, .ro⟩, ⟨12, 1, .ro⟩]⟩,
  ⟨0x20a00010, [], false, fun _ => 0, [⟨0, 3, .rw⟩, ⟨3, 1, .rw⟩, ⟨4, 4, .rw⟩, ⟨30, 1, .ro⟩, ⟨31, 1, .wo⟩]⟩,
  ⟨0x20a00014, [], false, fun _ => 0, [⟨0, 32, .ro⟩]⟩,
  ⟨0x20a00018, [], true, fun _ => 0, [⟨0, 40, .rw⟩]⟩,
  ⟨0x20a00020, [], true, fun _ => 0, [⟨0, 40, .rw⟩]⟩,
  ⟨0x20a00028, [], false, fun _ => 0, [⟨0, 16, .ro⟩, ⟨16, 8, .ro⟩, ⟨24, 8, .ro⟩]⟩,
  ⟨0x20a0002c, [], false, fun _ => 0, [⟨0, 13, .ro⟩, ⟨13, 4, .ro⟩, ⟨17, 1, .ro⟩, ⟨18, 1, .ro⟩]⟩,
  ⟨0x20a00030, [], true, fun _ => 0, [⟨0, 64, .ro⟩]⟩,
  ⟨0x20a00038, [], true, fun _ => 0, [⟨0, 64, .ro⟩]⟩]

/-- Register rows of the dma window. -/
def dmaRows : List RegRow := [
  ⟨0x20800000, [(0x10000, 4)], false, fun _ => 0, [⟨0, 1, .rw⟩]⟩,
  ⟨0x20800004, [(0x10000, 4)], false, fun _ => 0, [⟨0, 16, .ro⟩, ⟨16, 4, .ro⟩]⟩,
  ⟨0x20800008, [(0x10000, 4)], true, fun _ => 0, [⟨0, 64, .ro⟩]⟩,
  ⟨0x20800100, [(0x10000, 4), (0x80, 16)], false, fun _ => 0, [⟨0, 1, .rw⟩, ⟨1, 1, .rw⟩, ⟨2, 1, .w1s⟩]⟩,
  ⟨0x20800104, [(0x10000, 4), (0x80, 16)], false, fun _ => 0x20, [⟨0, 1, .w1c⟩, ⟨1, 1, .w1c⟩, ⟨2, 1, .ro⟩, ⟨3, 1, .w1c⟩, ⟨4, 1, .ro⟩, ⟨5, 1, .ro⟩, ⟨6, 1, .ro⟩, ⟨8, 2, .ro⟩]⟩,
  ⟨0x20800108, [(0x10000, 4), (0x80, 16)], false, fun _ => 0, [⟨0, 32, .ro⟩]⟩,
  ⟨0x2080010c, [(0x10000, 4), (0x80, 16)], false, fun _ => 0, [⟨0, 32, .ro⟩]⟩,
  ⟨0x20800110, [(0x10000, 4), (0x80, 16)], true, fun _ => 0, [⟨0, 64, .ro⟩]⟩,
  ⟨0x20800118, [(0x10000, 4), (0x80, 16)], true, fun _ => 0, [⟨0, 40, .ro⟩]⟩,
  ⟨0x20800120, [(0x10000, 4), (0x80, 16)], true, fun _ => 0, [⟨0, 64, .ro⟩]⟩,
  ⟨0x20800128, [(0x10000, 4), (0x80, 16)], true, fun _ => 0, [⟨0, 40, .ro⟩]⟩,
  ⟨0x20800130, [(0x10000, 4), (0x80, 16)], false, fun _ => 0, [⟨0, 32, .rw⟩]⟩,
  ⟨0x20800134, [(0x10000, 4), (0x80, 16)], false, fun _ => 0, [⟨0, 32, .rw⟩]⟩,
  ⟨0x20800138, [(0x10000, 4), (0x80, 16)], true, fun _ => 0, [⟨0, 64, .rw⟩]⟩,
  ⟨0x20800140, [(0x10000, 4), (0x80, 16)], true, fun _ => 0, [⟨0, 64, .rw⟩]⟩,
  ⟨0x20800148, [(0x10000, 4), (0x80, 16)], true, fun _ => 0, [⟨0, 64, .rw⟩]⟩,
  ⟨0x20800150, [(0x10000, 4), (0x80, 16)], false, fun _ => 0, [⟨0, 32, .ro⟩]⟩]

/-- Register rows of the cfg window. -/
def cfgRows : List RegRow := [
  ⟨0x21000000, [], false, fun _ => 0, [⟨0, 1, .rw⟩]⟩,
  ⟨0x21000004, [], false, fun _ => 0, [⟨0, 16, .ro⟩, ⟨16, 1, .ro⟩, ⟨17, 2, .ro⟩, ⟨19, 1, .ro⟩, ⟨20, 3, .ro⟩]⟩,
  ⟨0x21000008, [], false, fun _ => 0, [⟨0, 2, .rws⟩, ⟨2, 1, .rws⟩]⟩,
  ⟨0x2100000c, [], false, fun _ => 0, [⟨0, 2, .ro⟩, ⟨2, 2, .ro⟩]⟩,
  ⟨0x21000100, [], false, fun _ => 0, [⟨0, 3, .rw⟩, ⟨31, 1, .wo⟩]⟩,
  ⟨0x21000104, [], false, fun _ => 0, [⟨0, 1, .ro⟩, ⟨1, 2, .w1c⟩, ⟨3, 1, .w1c⟩]⟩,
  ⟨0x21000108, [], false, fun _ => 0, [⟨0, 32, .rw⟩]⟩,
  ⟨0x2100010c, [], false, fun _ => 0, [⟨0, 28, .rw⟩]⟩,
  ⟨0x21000110, [], true, fun _ => 0, [⟨0, 64, .ro⟩]⟩,
  ⟨0x21000118, [], true, fun _ => 0, [⟨0, 64, .wo⟩]⟩,
  ⟨0x21000120, [], false, fun _ => 0, [⟨0, 12, .ro⟩]⟩,
  ⟨0x21008000, [], false, fun _ => 0, [⟨0, 1, .ro⟩, ⟨1, 1, .ro⟩, ⟨2, 1, .ro⟩, ⟨3, 1, .ro⟩, ⟨4, 5, .ro⟩, ⟨9, 7, .ro⟩]⟩,
  ⟨0x21008004, [], false, fun _ => 0, [⟨16, 16, .ro⟩, ⟨0, 16, .ro⟩]⟩,
  ⟨0x21008008, [], false, fun _ => 0, [⟨0, 32, .ro⟩]⟩,
  ⟨0x2100800c, [], false, fun _ => 0x10000, [⟨0, 16, .ro⟩, ⟨16, 3, .rw⟩, ⟨31, 1, .w1s⟩]⟩,
  ⟨0x21000040, [(4, 12)], false, fun _ => 0, [⟨0, 32, .ro⟩]⟩,
  ⟨0x21001000, [(8, 96)], true, fun ix => let i := ix.getD 0 0; cfgParamReset i, [⟨0, 64, .ro⟩]⟩,
  ⟨0x21008100, [(0x40, 4), (4, 12)], false, fun _ => 0, [⟨0, 32, .rw⟩]⟩,
  ⟨0x21008400, [(0x10, 64)], false, fun _ => 0, [⟨0, 32, .ro⟩]⟩,
  ⟨0x21008404, [(0x10, 64)], false, fun _ => 0, [⟨0, 32, .ro⟩]⟩,
  ⟨0x21008408, [(0x10, 64)], false, fun _ => 0, [⟨0, 32, .ro⟩]⟩,
  ⟨0x2100840c, [(0x10, 64)], false, fun _ => 0xffff0000, [⟨0, 8, .ro⟩, ⟨8, 1, .ro⟩, ⟨16, 16, .ro⟩]⟩]

/-- Register rows of the evr window. -/
def evrRows : List RegRow := [
  ⟨0x20e00000, [], false, fun _ => 0x6400, [⟨0, 1, .rw⟩, ⟨1, 1, .rw⟩, ⟨2, 1, .wo⟩, ⟨8, 8, .rw⟩]⟩,
  ⟨0x20e00004, [], false, fun _ => 0, [⟨0, 1, .ro⟩, ⟨1, 1, .w1c⟩, ⟨2, 1, .ro⟩, ⟨3, 1, .w1c⟩, ⟨16, 9, .ro⟩]⟩,
  ⟨0x20e00008, [], true, fun _ => 0, [⟨0, 40, .rwl⟩]⟩,
  ⟨0x20e00010, [], false, fun _ => 0, [⟨0, 32, .ro⟩]⟩,
  ⟨0x20e00014, [], false, fun _ => 0, [⟨0, 32, .rw⟩]⟩,
  ⟨0x20e00018, [], false, fun _ => 0, [⟨0, 32, .ro⟩]⟩,
  ⟨0x20e0001c, [], false, fun _ => 1, [⟨0, 16, .rw⟩]⟩,
  ⟨0x20e00020, [], true, fun _ => 0, [⟨0, 64, .rw⟩]⟩,
  ⟨0x20e00070, [], false, fun _ => 0, [⟨0, 1, .wo⟩, ⟨1, 1, .ro⟩, ⟨2, 1, .ro⟩]⟩,
  ⟨0x20e00040, [(4, 8)], false, fun _ => 0, [⟨0, 32, .rw⟩]⟩,
  ⟨0x20e00060, [(4, 4)], false, fun _ => 0, [⟨0, 32, .rw⟩]⟩,
  ⟨0x20e01000, [(4, 1024)], false, fun _ => 0x4010, [⟨0, 8, .rw⟩, ⟨8, 8, .rw⟩, ⟨16, 1, .rw⟩, ⟨17, 1, .rw⟩]⟩]

/-- Register rows of the pwr window. -/
def pwrRows : List RegRow := [
  ⟨0x20d00000, [], false, fun _ => 0x64, [⟨0, 8, .rw⟩]⟩,
  ⟨0x20d00004, [], false, fun _ => 0, [⟨0, 3, .rws⟩, ⟨3, 1, .rws⟩]⟩,
  ⟨0x20d00008, [], false, fun _ => 0, [⟨0, 8, .rw⟩, ⟨8, 3, .rw⟩, ⟨31, 1, .w1s⟩]⟩,
  ⟨0x20d0000c, [], false, fun _ => 0, [⟨0, 1, .ro⟩, ⟨1, 3, .w1c⟩]⟩,
  ⟨0x20d00010, [], false, fun _ => 0, [⟨0, 1, .wo⟩, ⟨1, 1, .wo⟩]⟩,
  ⟨0x20d00014, [], false, fun _ => 0, [⟨0, 16, .rw⟩, ⟨16, 1, .wo⟩]⟩,
  ⟨0x20d00018, [], true, fun _ => 0, [⟨0, 40, .rw⟩]⟩,
  ⟨0x20d00020, [], false, fun _ => 1, [⟨0, 16, .w1s⟩]⟩,
  ⟨0x20d00024, [], false, fun _ => 0, [⟨0, 2, .rws⟩, ⟨2, 1, .w1c⟩, ⟨3, 1, .w1c⟩]⟩,
  ⟨0x20d00028, [], true, fun _ => 0, [⟨0, 64, .ro⟩]⟩,
  ⟨0x20d00030, [], true, fun _ => 0, [⟨0, 64, .wo⟩]⟩,
  ⟨0x20d00400, [], false, fun _ => 0, [⟨0, 16, .rw⟩]⟩,
  ⟨0x20d00404, [], false, fun _ => 0, [⟨0, 16, .rw⟩]⟩,
  ⟨0x20d00408, [], false, fun _ => 0, [⟨0, 16, .ro⟩]⟩,
  ⟨0x20d0040c, [], false, fun _ => 0, [⟨0, 16, .rw⟩]⟩,
  ⟨0x20d00100, [(4, 132)], false, fun ix => let n := ix.getD 0 0; pwrDomReset n, [⟨0, 3, .ro⟩, ⟨3, 1, .w1c⟩, ⟨16, 16, .ro⟩]⟩]

end Sys2Proof.Machine
end

