-- ==== Sys2Proof/Machine/State.lean ====
section
/-! DEFINITION. Sys2Proof/Machine/State.lean: the state of the FY3264 as plain data, and the state right after cold
reset. Registers are held in one map keyed by physical address; what a unit holds besides its registers stands in a
record of its own, in a sparse map keyed by the unit's index. -/
namespace Sys2Proof.Machine

/-! ### Lightpipes (R18 to R29) -/

/-- A lightpipe entry: 32 bytes (R18), byte 0 in the low bits; the 64-bit words of it that hold a single-bit error in the
store, which its SECDED corrects; and whether a word holds an uncorrectable one, so that popping the entry delivers it
poisoned (R20). -/
structure Entry where
  data : BitVec 256 := 0
  ce : BitVec 4 := 0
  poison : Bool := false
  deriving DecidableEq, Repr

/-- One lightpipe: the entries it holds, oldest first; the credits that no core has reserved; the credits that each
Lens core has reserved (R449). -/
structure LpSt where
  entries : List Entry := []
  free : Nat := 0
  resv : SMap Nat := []
  deriving DecidableEq, Repr

/-! ### Memory and the Lens cache (R476 to R498) -/

/-- One valid line of the Lens cache (R476): its tag, dirty bit, one poison bit per memory granule and its 64 bytes. -/
structure CacheLine where
  tag : Nat := 0
  dirty : Bool := false
  poison : BitVec 8 := 0
  data : BitVec 512 := 0
  deriving DecidableEq, Repr

/-- Errors in the arrays that hold a line of the Lens cache: its 64-bit data words with a single-bit and with a
double-bit error (R488), and whether its tag fails its parity (R489). -/
structure ArrayErr where
  ce : BitVec 8 := 0
  ue : BitVec 8 := 0
  tag : Bool := false
  deriving DecidableEq, Repr

/-- The three copies of a vital word (R497), and whether the word reads as a bus error until it is written. -/
structure VitalWord where
  c0 : Word := 0
  c1 : Word := 0
  c2 : Word := 0
  lost : Bool := false
  deriving DecidableEq, Repr

/-- What the Lens cache is busy with besides serving accesses: a disable clean (R486), the enable initialisation
(R487), or neither. -/
inductive CacheBusy where
  | idle | disabling | enabling
  deriving DecidableEq, Repr

/-! ### Angle time (R47 to R72) -/

/-- The classes of an action (R60, R454). -/
inductive ActionClass where
  | readGate | writeGate | laser | heater | servoSample | commutation
  deriving DecidableEq, Repr

/-- The outcomes of an action (R456). -/
inductive ActionOutcome where
  | fired | late | angleLost | notWok | rebase | cancelled | none
  deriving DecidableEq, Repr

/-- One of a bay's 64 action slots (R58, R454 to R456). -/
structure ActSlot where
  armed : Bool := false
  target : BitVec 32 := 0
  cls : ActionClass := .readGate
  hport : BitVec 10 := 0
  lateOk : Bool := false
  notify : Bool := false
  core : Core := 0
  payload : Word := 0
  /-- Position in the order of arming (R61). -/
  order : Nat := 0
  outcome : ActionOutcome := .none
  outcomeWt : BitVec 48 := 0
  deriving DecidableEq, Repr

/-- A sync mark with a decoded wedge number, seen while the counter cannot use it (R65): when it came, in ns since cold
reset, its wedge, its spindle angle, and its error against the running counter. -/
structure SeenMark where
  at_ : Nat := 0
  wedge : Nat := 0
  angle : Nat := 0
  err : Int := 0
  deriving DecidableEq, Repr

/-- What a bay's angle counter holds besides its registers. -/
structure AngSt where
  /-- Remainder of the counter's advance, in parts of ANG_PERIOD. -/
  frac : Nat := 0
  /-- Error still to be removed by adjusting the increment, in au (R52). -/
  corr : Int := 0
  /-- The last wedge intervals in ns, newest first, at most N_w of them (R66). -/
  intervals : List Nat := []
  /-- Time of the last mark, in ns since cold reset, and its wedge number. -/
  lastMark : Option (Nat × Nat) := none
  /-- The consecutive marks that agree so far (R65), newest first. -/
  agree : List SeenMark := []
  slots : SMap ActSlot := []
  nextOrder : Nat := 0
  deriving DecidableEq, Repr

/-- A RACKSYNC symbol (R68): 0, 1, the marker, or none of them. -/
inductive RsSymbol where
  | zero | one | marker | bad
  deriving DecidableEq, Repr

/-- What wall time holds besides its registers (R67 to R70). -/
structure WallSt where
  /-- Time still to be slewed, in ns, and the slew rate in ppm (R69). -/
  slew : Int := 0
  slewPpm : Nat := 0
  slewAcc : Nat := 0
  /-- The symbols of the frame being received, oldest first. -/
  frame : List RsSymbol := []
  /-- After a valid frame: the second number of the next edge to come. -/
  expect : Option Nat := none
  deriving DecidableEq, Repr

/-! ### Beam links (R73 to R107) -/

/-- A managed word outstanding on a bay (R86): the word, its retries so far, and the frames sent since it was sent. -/
structure ManagedOut where
  word : BitVec 64 := 0
  retries : Nat := 0
  deriving DecidableEq, Repr

/-- What a downstream frame carried that R85 and R125 need when upstream frame n comes back. -/
structure SentFrame where
  fsn : BitVec 16 := 0
  words : List (BitVec 64) := []
  /-- The writes, by serial number, whose symbols or edge words the frame carried for actuators 0 and 1. -/
  op0 : List Nat := []
  op1 : List Nat := []
  /-- The media angle at which the frame's write-symbol window begins (R113). -/
  media : Nat := 0
  deriving DecidableEq, Repr

/-- What a bay's Beam link holds besides its registers. -/
structure BeamSt where
  /-- Sequence number of the next downstream frame. -/
  fsn : BitVec 16 := 0
  /-- Words waiting for a control slot, oldest first (R84): safety words, timed words that fell due, state words to be
  re-sent, managed words to be retried, new managed words. -/
  safety : List (BitVec 64) := []
  timed : List (BitVec 64) := []
  resend : List (BitVec 64) := []
  mwRetry : List (BitVec 64) := []
  mwNew : List (BitVec 64) := []
  /-- Managed words outstanding, keyed by TAG, and the last word sent with each TAG (R86). -/
  mwOut : SMap ManagedOut := []
  mwLast : SMap (BitVec 64) := []
  /-- Frames sent whose upstream frame has not come back, newest first. -/
  sent : List SentFrame := []
  /-- Hold values (R78, R80): VCM0, VCM1, MA0, MA1 and PA, PB, PC. -/
  vcm0 : BitVec 16 := 0
  vcm1 : BitVec 16 := 0
  ma0 : BitVec 16 := 0
  ma1 : BitVec 16 := 0
  pa : BitVec 16 := 0
  pb : BitVec 16 := 0
  pc : BitVec 16 := 0
  /-- Consecutive bad frames on U0, U1 and D (R95). -/
  bad0 : Nat := 0
  bad1 : Nat := 0
  badD : Nat := 0
  /-- Sample accounting of the two upstream lanes (R89): the phase accumulator and the samples already taken. -/
  acc0 : Nat := 0
  acc1 : Nat := 0
  got0 : Nat := 0
  got1 : Nat := 0
  /-- Upstream frames seen of which one lane is still to come: FSN, and whether the lane seen was good (R94). -/
  upSeen : List (BitVec 16 × Bool) := []
  /-- RTT has been measured and the pads are set (R101). -/
  padSet : Bool := false
  /-- Failed training attempts and the cause of the last (R100). -/
  tries : Nat := 0
  cause : Nat := 0
  /-- The identity block taken when the link last reached IDENT (R454). -/
  id : BridgeId := {}
  /-- Last good servo values, whether they are stale, and the same of the phase slot (R94). -/
  servo0 : List (BitVec 16) := [0, 0, 0, 0]
  servo1 : List (BitVec 16) := [0, 0, 0, 0]
  servoStale0 : Bool := false
  servoStale1 : Bool := false
  phase0 : List (BitVec 16) := [0, 0, 0, 0]
  phase1 : List (BitVec 16) := [0, 0, 0, 0]
  phaseStale0 : Bool := false
  phaseStale1 : Bool := false
  /-- When HDA temperature (telemetry 0x00) was last valid, in ns since cold reset. -/
  tempAt : Option Nat := none
  /-- LIFE_PERIODs counted since attach, and whether FAULT 0x09 was reported in this attach period (R230). -/
  lifePeriods : Nat := 0
  storeFault : Bool := false
  /-- When bay power (telemetry 0x03) was last received (R402). -/
  powerAt : Option Nat := none
  /-- The nonce last sent in CHALLENGE chunks and the SIG chunks received of the challenge in progress, by number; challenges failed
  since the last success; and whether one verified (R104). -/
  nonce : SMap (List Byte) := []
  sigChunks : SMap (List Byte) := []
  challenge : Option (BitVec 4) := none
  chalFails : Nat := 0
  verified : Bool := false
  deriving DecidableEq, Repr

/-! ### Channel slices and actuator schedulers (R108 to R138, R255 to R259) -/

/-- What has become of one sector of a read, verify or write (R125, R131 to R135). -/
inductive SectorSt where
  | todo
  | good (step : Nat)
  | failing
  | deferred
  | reread
  | misdirected
  | unreadable
  deriving DecidableEq, Repr

/-- A media operation as an actuator scheduler holds it: its descriptor (R255), when it was popped, and whether it
waits for a Band Table fetch or is held by Aperture. -/
structure MediaOp where
  desc : Entry := {}
  since : Nat := 0
  missing : Bool := false
  held : Bool := false
  deriving DecidableEq, Repr

/-- The registers of a head and of the zone of a track as they stood when an operation started: later writes act on the next
operation that starts on the head (R110, R244). `precomp` is the precompensation table by 4 i + j. -/
structure OpFmt where
  zone : Nat := 0
  bpr : Nat := 0
  spt : Nat := 0
  tskew : Nat := 0
  sfw : Nat := 0
  lmon : Nat := 0
  lwrite : Nat := 0
  lbias : Nat := 0
  hwrite : Nat := 0
  hread : Nat := 0
  wcur : Nat := 0
  ovshoot : Nat := 0
  pcstep : Nat := 0
  precomp : List Int := []
  deriving DecidableEq, Repr

/-- An operation that the slice has taken (R137). -/
structure SliceOp where
  desc : Entry := {}
  /-- Its number among the operations of the slice. -/
  serial : Nat := 0
  fmt : OpFmt := {}
  /-- The spindle angle θ0 at which its first sector begins, and the ends of its sectors in au from θ0 (R109, R118). -/
  theta0 : BitVec 32 := 0
  /-- The head-frame angle of θ0 (R49). -/
  ha0 : Nat := 0
  ends : List Nat := []
  /-- Of a read: the au from θ0 at which the data field begins that holds each sector's first bit (R130). -/
  starts : List Nat := []
  sectors : List SectorSt := []
  /-- Of a read: the sectors found misdirected once (R133). Of a write: the first sector that a laser-monitor report out of
  tolerance met (R125). -/
  misdir : List Nat := []
  bad : Option Nat := none
  /-- The operation has ended; its completion waits its turn (R137) and, for reads, its deferred sectors. -/
  ended : Bool := false
  status : Nat := 0
  cause : Nat := 0
  adjSuspect : Bool := false
  reloc : Bool := false
  usedDefer : Bool := false
  lateRev : Bool := false
  /-- Highest retry step used, retry revolutions used, largest local iteration count. -/
  step : Nat := 0
  revs : Nat := 0
  iters : Nat := 0
  /-- Where the read stopped under R607. -/
  stopped : Bool := false
  /-- The bytes of a write's sectors as fetched (R115). -/
  data : List (List Byte) := []
  /-- When the operation was handed over, and when Aperture released it. -/
  began : Nat := 0
  released : Nat := 0
  /-- A power-loss flush began: the read ends at its next sector boundary (R405). -/
  cut : Bool := false
  /-- Where an error found at handover ends the operation: sector and status (R118, R119). -/
  stopAt : Option (Nat × Nat) := none
  /-- Time at which angle lock was lost during the read (R130). -/
  lostAt : Option Nat := none
  deriving DecidableEq, Repr

/-- An opening of the write gate (R113): the write, by its number, the track bit position of the next symbol, counted from the
revolution of θ0, and the position at which the gate closes, once that is known. -/
structure SymRun where
  op : Nat := 0
  next : Nat := 0
  stop : Option Nat := none
  deriving DecidableEq, Repr

/-- What a channel slice holds besides its registers. -/
structure SliceSt where
  /-- Operations taken and not yet posted, in the order they started. -/
  ops : List SliceOp := []
  /-- Gates, levels and the head selected, as last commanded to the bridge or the sample stream. -/
  writeGate : Bool := false
  readGate : Bool := false
  /-- Read-gate changes that have fallen due and that the samples tagged at or beyond their target still wait for: target
  and open (R56); servo sample windows opened by an action, by target (R60, R169). -/
  gateAt : List (BitVec 32 × Bool) := []
  servoAt : List (BitVec 32) := []
  /-- Additional servo windows that have opened (R169), whose samples a calibration piece takes. -/
  servoOpen : Nat := 0
  /-- Samples accepted through the read gate and not yet taken by a sector, oldest first: the media-angle tag of their group
  (R55) and the sample, none where it is an erasure (R89, R94). -/
  samples : List (BitVec 32 × Option (BitVec 6)) := []
  nextSerial : Nat := 0
  /-- Openings of the write gate whose symbols are still to be sent, oldest first (R113). -/
  symRuns : List SymRun := []
  /-- WRITE_PARAMS in effect at the bridge (R118). -/
  params : Option (BitVec 24) := none
  /-- Deferral slots in use: slot, the number of the operation and its sector (R132). -/
  defer : List (Nat × Nat × Nat) := []
  /-- The ANG_PERIOD at which SRATE was last set, and a new SRATE that waits for a servo field (R129). -/
  sratePer : Nat := 0
  sratePend : Option Nat := none
  laser : BitVec 12 := 0
  heater : BitVec 10 := 0
  head : Nat := 0
  /-- Time at which the laser took its present level (R123). -/
  laserSince : Nat := 0
  /-- Laser-monitor reports out of tolerance in a row (R122), and when the laser reached LWRITE. -/
  monBad : Nat := 0
  writeLevelAt : Option Nat := none
  /-- Spindle angle of the previous write's end θe, for the merge window (R120). -/
  lastEnd : Option (BitVec 32 × Nat) := none
  deriving DecidableEq, Repr

/-- What an actuator scheduler holds besides its registers. -/
structure SchedSt where
  /-- Operations popped and not yet released, oldest first. -/
  queue : List MediaOp := []
  /-- The operation released by Aperture and not yet handed to the slice (R258). -/
  released : Option MediaOp := none
  /-- When the released operation was released (R295). -/
  releasedAt : Nat := 0
  /-- Service totals of classes 0, 2 and 3 in ns (R257). -/
  serv0 : Nat := 0
  serv2 : Nat := 0
  serv3 : Nat := 0
  /-- Times of the last 256 seeks with their distances in tracks, newest first (R257). -/
  seeks : List (Nat × Nat) := []
  deriving DecidableEq, Repr

/-! ### Band Table (R261 to R265) -/

/-- A cached band entry: its 32 bytes, whether it differs from the map in DRAM, when it was last used, and whether a
write-back of it failed (R262). -/
structure BtLine where
  bytes : BitVec 256 := 0
  dirty : Bool := false
  used : Nat := 0
  wbFailed : Bool := false
  deriving DecidableEq, Repr

/-! ### Facet microsequencers (R139 to R165) -/

/-- One bank of a Facet (R158): its microstore and nanostore, the words whose check bits do not match (1 correctable, 2
uncorrectable; nanoword j under key 1,024 + j), and its sequencing mode. A word that is not listed is undefined where the
bank has lost its contents (R157; `lost` says for which time), and otherwise zero with matching check bits. -/
structure FctBank where
  lost : Option Nat := some 0
  micro : SMap (BitVec 20) := []
  nano : SMap (BitVec 96) := []
  err : SMap Nat := []
  na : Bool := false
  deriving DecidableEq, Repr

/-- What a Facet holds besides its registers: its two banks, the sequencer (micro-PC, loop counter, flags,
micro-stack), the datapath (40-bit accumulator and state registers), and its counters. -/
structure FctSt where
  bank0 : FctBank := {}
  bank1 : FctBank := {}
  upc : BitVec 10 := 0
  lc : BitVec 8 := 0
  z : Bool := false
  n : Bool := false
  v : Bool := false
  c : Bool := false
  stack : List (BitVec 10) := []
  acc : BitVec 40 := 0
  regs : SMap (BitVec 40) := []
  /-- Of a slice: its data RAM, and the stream controls of the last word (R164). -/
  ram : SMap (BitVec 32) := []
  stream : BitVec 4 := 0
  /-- Cycles since the last safe point (R163), the scrubber's next word (R155), and the verify or clear running (R157, R160). -/
  sinceSafe : Nat := 0
  scrubAt : Nat := 0
  clearing : Bool := false
  verifying : Bool := false
  deriving DecidableEq, Repr

/-! ### Reticle servo engines (R166 to R195) -/

/-- The two timed phases of a hardware park (R192). -/
inductive ParkPhase where
  | data | ramp
  deriving DecidableEq, Repr

/-- What a Reticle engine holds besides its registers. Positions and velocities are in 2^−15 track (R174). -/
structure ServoSt where
  /-- Head in use, and the head a SEEK asked for that no servo field has come from yet (R170). -/
  head : Nat := 0
  newHead : Option Nat := none
  /-- When the HEAD_SELECT for that head was known to have taken effect (R170). -/
  headAt : Option Nat := none
  /-- Target track, OFFSET (2^−15 track), and the flags of the entry that set them (R181). -/
  target : Nat := 0
  offset : Int := 0
  wr : Bool := false
  dir : Bool := false
  jit : Bool := false
  arrive : BitVec 32 := 0
  /-- The entry in progress, the sample periods it has run, and when it began. -/
  entry : Option Entry := none
  samples : Nat := 0
  began : Nat := 0
  /-- The measured track as the entry in progress began (R257). -/
  fromTrack : Nat := 0
  /-- The entry in progress is a LOAD that was popped while PARKED (R182, R183). -/
  fromPark : Bool := false
  /-- Results not yet pushed to LP 224 + b, oldest first (R184). -/
  results : List Entry := []
  /-- Servo lock is held; marks accepted while acquiring it; bad or missing samples in a row (R168, R182, R190). -/
  lock : Bool := false
  acquired : Nat := 0
  lostRun : Nat := 0
  reacqSince : Option Nat := none
  /-- Supervisor: p and v, and the VCM and MA holds of the last two periods (R186). -/
  pos : Int := 0
  vel : Int := 0
  u1 : Int := 0
  m1 : Int := 0
  m2 : Int := 0
  /-- Counts: settled samples (R179), samples without cause for inhibit (R185), supervision failures (R187), samples
  below WLIM still to come (R189). -/
  settled : Nat := 0
  quiet : Nat := 0
  supRun : Nat := 0
  shockLeft : Nat := 0
  /-- When |e| first exceeded FE_LIM in F2 mode (R188). -/
  feSince : Option Nat := none
  /-- A sample period is running; its VCM hold has been posted; its deadline has passed (R171, R172). -/
  inPeriod : Bool := false
  posted : Bool := false
  late : Bool := false
  /-- The gain set in effect, whether it is new this period (TSEL 14), and whether this period's sample is new (TSEL 9). -/
  gainSet : Nat := 0
  gainNew : Bool := false
  newSample : Bool := false
  /-- Shock was at or above WLIM at this period's sample (TSEL 13, R189). -/
  shock : Bool := false
  /-- The park running, its reason, and the windows without a servo field in a row (R192). -/
  park : Option ParkPhase := none
  parkReason : Nat := 0
  noField : Nat := 0
  /-- The microcode asked for write inhibit or a park through the output-post field (R164). -/
  mcInhibit : Bool := false
  /-- EN was written 0 and reads 1 until the park ends (R194). -/
  enClearing : Bool := false
  deriving DecidableEq, Repr

/-! ### Commutation engines (R196 to R222) -/

/-- What braking ends in (R205, R206, R210, R216). -/
inductive BrakeEnd where
  /-- STOP; the fault code that its result carries. -/
  | stop (fcode : Nat)
  /-- Start from rest: the brake of LISTEN (R205). -/
  | start
  /-- Nothing: an ABORT ended the entry that braked, and the spindle stays in BRAKE until a STOP (R200). -/
  | stay
  deriving DecidableEq, Repr

/-- What a commutation engine holds besides its registers. -/
structure SpinSt where
  /-- The entry in progress and when it was popped. -/
  entry : Option Entry := none
  began : Nat := 0
  /-- The state to return to from COAST, the current level held before the loss, and when COAST was entered (R216). -/
  before : Nat := 0
  levelBefore : Nat := 0
  coastAt : Option Nat := none
  /-- PWM periods since the last change of level (R208); rotation since |e| came within WIN (R209) and since the kinetic
  energy was computed (R219), in units of 1/(6 P N_w) revolution. -/
  dwell : Nat := 0
  inWinRevs : Nat := 0
  revPart : Nat := 0
  /-- Ambiguous probes in a row, step-drive intervals done, the probed electrical angle in sixths (R205, R206). -/
  ambiguous : Nat := 0
  steps : Nat := 0
  probed : Nat := 0
  /-- PWM periods with the residual in band and out of band in a row (R205, R216); late outputs in a row (R212); PWM
  periods counted (R214). -/
  inBand : Nat := 0
  outBand : Nat := 0
  lateRun : Nat := 0
  pwmCount : Nat := 0
  posted : Bool := false
  /-- The period's deadline has passed (R212). -/
  late : Bool := false
  /-- The start sequence goes on: a START was accepted, and neither an ABORT nor a failure has ended it (R200, R205). -/
  starting : Bool := false
  /-- The entry in progress needs TOKEN (R202). -/
  needsToken : Bool := false
  /-- When the probe under way began (R205). -/
  probeAt : Option Nat := none
  /-- The phase states that a stage over-current took off for the rest of its PWM period (R218). -/
  cutPhases : Option (BitVec 16 × BitVec 16 × BitVec 16) := none
  /-- Back-EMF zero crossings that agree in a row (R216). -/
  crossings : Nat := 0
  /-- Waiting for the actuators to park before braking (R210, R216), and what the brake will end in. -/
  parkWait : Bool := false
  brakeEnd : BrakeEnd := .stop 0
  /-- Times of the stage over-currents within the last 100 ms (R218). -/
  overCurrents : List Nat := []
  /-- Levels are held at 0 since an overvoltage (R220). -/
  ovHold : Bool := false
  /-- The position source of the PWM period is the wedges (R207). -/
  wedge : Bool := false
  /-- When the speed was last measured (R219), in ns since cold reset. -/
  measuredAt : Option Nat := none
  /-- REGEN was entered at the start of a power-loss flush (R213). -/
  byFlush : Bool := false
  /-- Periods left of the current ramp after reacquisition (R216). -/
  rampLeft : Nat := 0
  deriving DecidableEq, Repr

/-- The bus overvoltage path (R220, R221): when VMOTOR crossed VMOTOR_OV, the engines that were in REGEN then, and
whether the chopper test runs. -/
structure BusSt where
  crossedAt : Option Nat := none
  regenAt : List Nat := []
  declared : Bool := false
  /-- When the chopper test under way began (R221). -/
  testAt : Option Nat := none
  deriving DecidableEq, Repr

/-! ### Head life and calibration (R223 to R247) -/

/-- The record of one head (R225, R228), with the fold's last accumulator values and remainders (R226). -/
structure LifeRec where
  gen : Nat := 0
  laserE : Nat := 0
  wpoS : Nat := 0
  td : Nat := 0
  lul : Nat := 0
  retired : Bool := false
  reason : Nat := 0
  calFail : Nat := 0
  drvFlt : Nat := 0
  warn : BitVec 4 := 0
  lastA : Nat := 0
  lastW : Nat := 0
  remE : Nat := 0
  remW : Nat := 0
  /-- PFS of the head in 0.1 mW (R227), 0 if the head is absent or the header invalid. -/
  pfs : Nat := 0
  /-- The copy in the bridge store that holds the newer valid record is B; none where neither is valid (R229). -/
  newerB : Option Bool := none
  /-- A counter has changed since the record was last written (R230). -/
  changed : Bool := false
  /-- FAULT 0x02 or 0x04 has been reported for the head in this attach period (R233). -/
  faulted : Bool := false
  deriving DecidableEq, Repr

/-- The record the vital area keeps of one HDA (R223, R224): its key (maker and serial), the hash of its bridge's public
key, the bay it is attached to, when it was detached, and its heads' records by 16a + h. -/
structure HdaRec where
  key : Nat := 0
  keyHash : List Byte := []
  bay : Option Nat := none
  detached : Nat := 0
  heads : SMap LifeRec := []
  /-- Its calibration sets by 16a + h and its actuator records by a, as last accepted (R243). -/
  sets : SMap (List Byte) := []
  acts : SMap (List Byte) := []
  lifeUnknown : Bool := false
  deriving DecidableEq, Repr

/-- A calibration ramp (R238): type, head, the final values, the register values stepped, steps left, and the samples
or sectors left before the next step. -/
structure CalRamp where
  ty : Nat := 0
  head : Nat := 0
  finals : List Int := []
  left : Nat := 0
  wait : Nat := 0
  deriving DecidableEq, Repr

/-- What calibration holds for one actuator (R235 to R243). Keys of the maps are 16 × type + head. -/
structure CalSt where
  running : Option (Nat × Nat) := none
  lastEnd : Option Nat := none
  tLast : SMap Int := []
  valid : List Nat := []
  extra : List Nat := []
  failedAt : SMap Nat := []
  disagreed : List Nat := []
  ramps : List CalRamp := []
  /-- The values last accepted (for type 6 by 512 + 32 × head + zone: 16 taps and the threshold), and by head, with 16 for the
  actuator record, GEN and WT of the set that holds them (R243). -/
  vals : SMap (List Int) := []
  gens : SMap Nat := []
  wts : SMap Nat := []
  /-- The copy of the actuator record in the bridge store that is newer is B (R229). -/
  actNewerB : Option Bool := none
  /-- Read time by head since type 6 last fell due by it, in ns (R242). -/
  readNs : SMap Nat := []
  /-- Times of the retry-ladder steps 6 and of the cause-5 write faults, by head (R242). -/
  step6 : List (Nat × Nat) := []
  cause5 : List (Nat × Nat) := []
  /-- Observer resistance and inductance of type 8 (actuator 0 of the bay holds them). -/
  winding : List Int := []
  deriving DecidableEq, Repr

/-- The trace to VREFIN (R245): plausible and implausible averages in a row. -/
structure RefSt where
  good : Nat := 0
  bad : Nat := 0
  deriving DecidableEq, Repr

/-! ### Ledger, Aperture and thermal model (R394 to R419) -/

/-- A debit of the Ledger under one of its 65,536 handles (R398, R458): its segments and sectors, its cost in mJ, the
sectors and the µJ still debited, its tag, the core that issued it, whether it has been admitted, when it began to wait
and whether its 10 s event was recorded. -/
structure Debit where
  nSeg : Nat := 0
  nSect : Nat := 0
  cost : Nat := 0
  left : Nat := 0
  leftUj : Nat := 0
  tag : Word := 0
  core : Nat := 0
  admitted : Bool := false
  since : Nat := 0
  noted : Bool := false
  deriving DecidableEq, Repr

/-- The course of a power-loss or shutdown flush (R405 to R408, R418). -/
inductive FlushPhase where
  | none | writing | parking | done
  deriving DecidableEq, Repr

/-- A 4 KiB block of flush data (R406): object by tenant and ID, offset, the open part set it belongs to, its WSEQ and bytes. -/
structure FlushBlock where
  key : Nat := 0
  addr : Nat := 0
  part : Option Word := none
  wseq : Nat := 0
  bytes : List Byte := []
  deriving DecidableEq, Repr

/-- The flush run of an arm (R406): its header but for the count, the journal image if assigned, its blocks, and how many of its
sectors have been written good. -/
structure FlushArm where
  k : Nat := 0
  head : FlushHeader := {}
  journal : List (List JRec) := []
  blocks : List FlushBlock := []
  done : Nat := 0
  deriving DecidableEq, Repr

/-- What the Ledger, Aperture and the thermal model hold besides their registers. -/
structure EnergySt where
  debits : SMap Debit := []
  /-- Handles that wait, in arrival order (R398). -/
  waiting : List Nat := []
  /-- OUT in µJ (APR_OUT shows mJ, rounded up) and bytes staged. -/
  outUj : Nat := 0
  staged : Nat := 0
  /-- E_bank as last recomputed, in units of 1 / (2 × 10^8 × 2^56) mJ (R394). -/
  bank : Nat := 0
  /-- The bucket B in µJ, the tenths of a µJ carried, and the last samples of P_meas, newest first (R401, R402). -/
  bucket : Int := 0
  tenths : Nat := 0
  power : List Nat := []
  /-- Node temperatures in 2^−32 °C, T_J, and consecutive updates with T_J above 115 °C (R413, R418). -/
  nodes : List Int := List.replicate 8 (85 * 2 ^ 32)
  tj : Int := 85 * 2 ^ 32
  hot : Nat := 0
  /-- THM_CASE holds a value within its validity period (R415); a trim runs (R416). -/
  caseValid : Bool := false
  trimming : Bool := false
  /-- The flush, the cause of its unwritten ranges (R409), and that power returned before it ended (R408). -/
  flush : FlushPhase := .none
  flushCause : Nat := 0
  returned : Bool := false
  /-- The plan of the flush, blocks that no arm had room for, and the handle whose data a deficit's flush writes hold (R400, R406). -/
  plan : List FlushArm := []
  unplanned : List FlushBlock := []
  deficit : Option Nat := none
  /-- Bays whose power-state entry waits under HOLD, with the state wanted (R412); bays on their way back to A0 (R411). -/
  heldState : SMap Nat := []
  exiting : List Nat := []
  /-- Bays outside their write window and outside their read window (R419). -/
  writeOut : List Nat := []
  readOut : List Nat := []
  deriving DecidableEq, Repr

/-- An entry of the flush report (R409): object, offset, length and cause. -/
structure FlushLoss where
  obj : BitVec 128 := 0
  off : Nat := 0
  len : Nat := 0
  cause : Nat := 0
  deriving DecidableEq, Repr

/-- What the vital area in SPI flash holds (R498, R552 and the rules that write it). -/
structure VitalArea where
  plgen : Nat := 0
  bootCount : Nat := 0
  /-- The reservations V of vital words 26 and 27 (R498), and the reservation writes under way. -/
  resvW : Nat := 0
  resvJ : Nat := 0
  writingW : Bool := true
  writingJ : Bool := true
  /-- K of the die trim (R416). -/
  trimK : Option Nat := none
  /-- The surfaces of journal pairs and the bitmap homes (R276, R290), the HDA formatted in each bay (R253), and HDAs formatted. -/
  pairs : SMap (Nat × Nat) := []
  homes : List Nat := []
  members : SMap Nat := []
  formats : Nat := 0
  /-- The flush report (R409): its entries, at most 4,096, and the ranges it has no room for. -/
  report : List FlushLoss := []
  more : Nat := 0
  /-- The Ledger record written with it: OUT in µJ and bytes staged (R407). -/
  ledger : Nat × Nat := (0, 0)
  deriving DecidableEq, Repr

/-! ### Prism, the Mirror journal and rebuild (R266 to R303) -/

/-- What a Prism engine holds besides its registers: the result of the job taken and not yet pushed, and the lightpipe
served last (R288, R289). -/
structure PrismSt where
  result : Option Entry := none
  fromCheck : Bool := false
  deriving DecidableEq, Repr

/-- A journal pair (R276): its two surfaces (HPORTs), the records of its open sector, its next ring sector, the first JSEQ of the
sector written before (PREV), and the last JSEQ of each sector of the ring that may not be overwritten yet (R271). -/
structure JPair where
  s0 : Nat := 0
  s1 : Nat := 0
  sector : List JRec := []
  pos : Nat := 16
  prev : Nat := 0
  ends : List Nat := []
  /-- The Ledger handles of the open sectors, oldest first (R397). -/
  debits : List Nat := []
  deriving DecidableEq, Repr

/-- A data unit that stands in DRAM until it is on media (R30, R31): its member, its buffer of U sectors, its object by tenant
and ID, and the object offset of its first byte. -/
structure StagedUnit where
  j : Nat := 0
  buf : Nat := 0
  key : Nat := 0
  off : Nat := 0
  deriving DecidableEq, Repr

/-- A run of data units that data fills (R267, R283): layout address and bytes. -/
structure Run where
  addr : Nat := 0
  len : Nat := 0
  deriving DecidableEq, Repr

/-- The open stripe of a filling band set (R283): data units filled, its first WSEQ, and the units. -/
structure OpenStripe where
  filled : Nat := 0
  wseq : Nat := 0
  units : List StagedUnit := []
  deriving DecidableEq, Repr

/-- A member write of a sealed stripe (R278): its member, the operations sent, and whether it is a rewrite (R126, R259). -/
structure MemberWrite where
  j : Nat := 0
  ops : List Nat := []
  again : Bool := false
  deriving DecidableEq, Repr

/-- A sealed stripe on steps 6 to 8 of the write path (R30): its slot, first WSEQ and units; `bufs` are the buffers of its
members. Stage 0: sealed; 1: at a Prism engine; 2: at a cipher engine; 3: ready for its member writes; 4: written. `ops` are
the OPIDs waited for. -/
structure StripeJob where
  bsid : Nat := 0
  slot : Nat := 0
  wseq : Nat := 0
  units : List StagedUnit := []
  bufs : List Nat := []
  stage : Nat := 0
  ops : List Nat := []
  writes : List MemberWrite := []
  deriving DecidableEq, Repr

/-- Sectors of one unit on their way from media to DRAM (R33): slot, member, first row and rows, and the buffer. Stage 0: not
asked for; 1: being read; 2: being opened; 3: plain; 4: not to be had. `bad` are the rows marked as erased (R287); `single`
says that the sectors are opened one by one. -/
structure Piece where
  bsid : Nat := 0
  slot : Nat := 0
  j : Nat := 0
  row : Nat := 0
  rows : Nat := 0
  buf : Nat := 0
  stage : Nat := 0
  ops : List Nat := []
  bad : List Nat := []
  single : Bool := false
  deriving DecidableEq, Repr

/-- Data of one unit that is wanted (R33, R34, R299), with the object bytes it holds. Stage 0: read from its own member; 1:
reconstructed from the others, whole units at `pool`; 2: had; 3: lost; 4: not to be had now. `all` says that every other
member is to be read, `lost` the rows that cannot be reconstructed. -/
structure UnitFetch where
  want : Piece := {}
  off : Nat := 0
  len : Nat := 0
  pool : Nat := 0
  others : List Piece := []
  job : Option Nat := none
  all : Bool := false
  lost : List Nat := []
  stage : Nat := 0
  deriving DecidableEq, Repr

/-- The rebuild of one slot of a missing member (R299): stage 0 fetches the unit, 1 seals it, 2 writes it. -/
structure RebuildJob where
  fetch : UnitFetch := {}
  stage : Nat := 0
  ops : List Nat := []
  deriving DecidableEq, Repr

/-- Extents that are moved to new stripes (R269), each with the units fetched for it. -/
structure MoveJob where
  parts : List (Extent × List UnitFetch) := []
  deriving DecidableEq, Repr

/-- An entry of the rebuild report (R300): object, object offset, length and BSID. -/
structure LostRange where
  obj : BitVec 128 := 0
  off : Nat := 0
  len : Nat := 0
  bsid : Nat := 0
  deriving DecidableEq, Repr

/-- A probation test (R296): when it began, the OPIDs waited for, and its stage: 0 VERIFYs, 1 the 64 sectors are written, 2 they are
verified. -/
structure Probation where
  since : Nat := 0
  ops : List Nat := []
  stage : Nat := 0
  deriving DecidableEq, Repr

/-- What firmware keeps of bands, stripes and checkpoints (R266 to R303). -/
structure RedSt where
  sets : SMap BandSet := []
  opened : SMap OpenStripe := []
  /-- Journal records in the DRAM ring, oldest first (R276). -/
  journal : List JRec := []
  pairs : SMap JPair := []
  /-- Intents not yet followed by DONE or LOST (bsid, slot); intents written good on both surfaces (R278). -/
  open_ : List (Nat × Nat) := []
  ready : List (Nat × Nat) := []
  degraded : List JRec := []
  /-- Set bits of the dirty-region bitmap, its homes (HPORTs), and the slots awaiting resynchronisation (R290 to R292). -/
  dirty : List Nat := []
  homes : List Nat := []
  /-- Bays below A1, or on their way there: no surface of theirs carries a journal pair or a home (R412). -/
  asleep : List Nat := []
  /-- Generations of bitmap sectors, and sectors with cleared bits that have not reached the homes (R290, R291). -/
  bmapGen : SMap Nat := []
  bmapStale : List Nat := []
  /-- Recovery has run, or the device was formatted: journal pairs and homes are kept. Members (BSID, member) whose HDA was
  exchanged: missing (R576). -/
  up : Bool := false
  gone : List (Nat × Nat) := []
  resync : List (Nat × Nat) := []
  /-- Object indices (R268). -/
  extents : List Extent := []
  /-- Free bands of each surface, by HPORT, and the next surface in rotation of each arm (R282). -/
  free : SMap (List Nat) := []
  rotate : SMap Nat := []
  draws : SMap Nat := []
  /-- Bands that become FREE with the next checkpoint that is started after they were released (R270). -/
  releasing : List Nat := []
  /-- Checkpoint generation in progress with the bands and the journal position it takes in, and the newest committed one
  (R271, R272). -/
  running : Option (Nat × List Nat × Nat) := none
  committed : Nat := 0
  replayFrom : Nat := 0
  /-- When the last checkpoint was started, and the root of the newest committed one (R271, R272). -/
  ckptAt : Nat := 0
  root : Option Root := none
  /-- Surfaces whose header copies both fail their CRC: unformatted (R253). -/
  unformatted : List Nat := []
  /-- No root was valid at recovery (R273). -/
  noRoot : Bool := false
  /-- Replacement bands by 64 × BSID + member (R298), slots to be relocated, and rebuild report entries (R299, R300). -/
  replace : SMap Nat := []
  relocate : List (Nat × Nat) := []
  /-- Extents of abandoned slots whose data recovered flush sectors hold, to be written again (R277). -/
  rewrite : List Extent := []
  report : List LostRange := []
  /-- Sealed stripes not yet on media, the rebuild of each member (64 × BSID + member), moves and resynchronisations by BSID. -/
  stripes : List StripeJob := []
  rebuilds : SMap RebuildJob := []
  moves : SMap MoveJob := []
  checks : SMap (List Piece × Option Nat) := []
  /-- Policy's own operations: how many it has given, and the results it has taken (OPID, entry). -/
  ops : Nat := 0
  results : List (Nat × BitVec 256) := []
  /-- The probation tests under way, and when each arm's probations of late began (R296). -/
  probations : SMap Probation := []
  probAt : SMap (List Nat) := []
  deriving DecidableEq, Repr

/-! ### Sessions and objects (R305 to R362) -/

/-- A completion (R316). -/
structure Cpl where
  seq : BitVec 32 := 0
  status : Nat := 0
  flags : Nat := 0
  actlen : Nat := 0
  coll : Nat := 0
  clim : BitVec 32 := 0
  result : Nat := 0
  wt : Nat := 0
  deriving DecidableEq, Repr

/-- What a packet from the device carries after its prefix (R308, R309, R313, R316, R317, R324). -/
inductive TxBody where
  | cpl (c : Cpl)
  | data (seq : BitVec 32) (doff : Nat) (bytes : List Byte)
  | ack (largest : Nat) (map : BitVec 256) (clim : BitVec 32)
  | ctlr (ctag : BitVec 16) (op status : Nat) (body : List Byte)
  | hellor (body : List Byte)
  | frame (type member : Nat) (term : BitVec 32) (tag : BitVec 32) (seq : Nat) (body : List Byte)
  deriving DecidableEq, Repr

/-- A packet sent: its port, session, epoch, PN and content, the peer's address and UDP port, and the bytes of its datagram. -/
structure TxPkt where
  port : Nat := 0
  peer : Nat := 0
  sid : Nat := 0
  epoch : Nat := 0
  pn : Nat := 0
  body : TxBody := .cpl {}
  bytes : List Byte := []
  deriving DecidableEq, Repr

/-- A packet kept until it is acknowledged (R318): when it was sent, how often it has been resent, and its time-out in ns. -/
structure Unacked where
  pkt : TxPkt := {}
  at_ : Nat := 0
  retries : Nat := 0
  rto : Nat := 0
  deriving DecidableEq, Repr

/-- What a GET fixed at its evaluation point (R353): the object's size, VER, its bytes and its lost ranges then. -/
structure Snap where
  size : Nat := 0
  ver : Nat := 0
  bytes : SMap Byte := []
  lost : List (Nat × Nat) := []
  /-- The object's extents then (R268). -/
  ext : List Extent := []
  deriving DecidableEq, Repr

/-- A command received and not completed (R313 to R322, R341, R351). `chunks` holds its data as placed; `ticket` is 0
while it holds none; `fixed` is its status, ACTLEN and RESULT once they are fixed before its commit; `ready` says that a
write-class command has been staged and admitted under `handle`. -/
structure CmdSt where
  cap : Capsule := {}
  at_ : Nat := 0
  chunks : List (Nat × List Byte) := []
  excess : Bool := false
  resolved : Bool := false
  ticket : Nat := 0
  evaluated : Bool := false
  snap : Option Snap := none
  handle : Option Nat := none
  ready : Bool := false
  /-- The runs its data has been staged for, and its object offset (R30, R31); the units of a GET (R33). -/
  staged : Option (List Run) := none
  objOff : Nat := 0
  reads : Option (List UnitFetch) := none
  fixed : Option (Nat × Nat × Nat) := none
  info : Nat := 0
  /-- Read data still to be sent, by DOFF, and whether the first transmission of it has begun (R314, R321). -/
  toSend : List (Nat × List Byte) := []
  sending : Bool := false
  deriving DecidableEq, Repr

/-- An error-log entry of a session (R325). -/
structure LogEntry where
  seq : BitVec 32 := 0
  status : Nat := 0
  opc : Byte := 0
  obj : BitVec 128 := 0
  offset : Word := 0
  length : BitVec 32 := 0
  actlen : Nat := 0
  info : Nat := 0
  evcode : Nat := 0
  unit : Nat := 0
  coll : Nat := 0
  wt : Nat := 0
  deriving DecidableEq, Repr

/-- A session (R309 to R337). -/
structure SessSt where
  port : Nat := 0
  peer : Nat := 0
  tenant : Nat := 0
  /-- The member that a manager-worker session leads to (R534). -/
  member : Option Nat := none
  /-- PRK, held in the session table only (R311). -/
  prk : List Byte := []
  epoch : Nat := 1
  rxwin : Nat := 0
  reqcred : Nat := 1
  clim : BitVec 32 := 0
  /-- The SEQ of the last completed command, of the last committed one (W, R330) and of the next to be passed to policy. -/
  last : BitVec 32 := 0
  mark : BitVec 32 := 0
  markFailed : Bool := false
  next : BitVec 32 := 1
  cmds : List CmdSt := []
  /-- DATA packets whose SEQ names no received command: SEQ, DOFF, bytes, time (R314). -/
  early : List (BitVec 32 × Nat × List Byte × Nat) := []
  /-- PNs received in this epoch (at most the 1,024 highest), packets not yet acknowledged and since when (R317, R319). -/
  seen : List Nat := []
  ackDue : Nat := 0
  ackSince : Option Nat := none
  /-- Next PN of the device, packets kept, and the smoothed round-trip time in ns (R318). -/
  pn : Nat := 0
  unacked : List Unacked := []
  srtt : Nat := 0
  /-- FROZEN, with the failing SEQ (R328). -/
  frozen : Option (BitVec 32) := none
  log : List LogEntry := []
  /-- The CTAG of the last CTL answered and the stored response (R319). -/
  lastCtl : Option (BitVec 16 × TxBody) := none
  /-- Void SEQs: (first, last) of each DISCARD of this epoch (R329). -/
  void : List (BitVec 32 × BitVec 32) := []
  /-- After RESET-ACK: the old epoch, the CTAG of the RESET, the RESET-ACK and when it was sent (R335). -/
  old : Option (Nat × BitVec 16 × TxPkt × Nat) := none
  /-- When the last valid packet came (R336), and whether the session is dormant. -/
  heard : Nat := 0
  dormant : Bool := false
  /-- Packets that wait for a quiesced port, oldest first (R337). -/
  queued : List TxBody := []
  deriving DecidableEq, Repr

/-- An OPEN answered within the last 10 s (R310): body with its COOKIE, time and the segments of HELLOR. -/
structure HelloDone where
  body : List Byte := []
  at_ : Nat := 0
  answer : List TxPkt := []
  deriving DecidableEq, Repr

/-- The extent records, contents and facts of an object (R340, R349); bytes not listed are zero. -/
structure ObjSt where
  tenant : Nat := 0
  size : Nat := 0
  ver : Nat := 1
  created : Nat := 0
  changed : Nat := 0
  layout : Nat := 0
  bytes : SMap Byte := []
  lost : List (Nat × Nat) := []
  /-- Its key has been destroyed by a tenant erase (R384). -/
  keyDead : Bool := false
  deriving DecidableEq, Repr

/-- A part (R350): its offset, its bytes, and the runs they are staged for. -/
structure PartData where
  off : Nat := 0
  bytes : List Byte := []
  runs : List Run := []
  deriving DecidableEq, Repr

/-- An object's key (R377): the key slot that holds it, if any, and its wrapped form. -/
structure ObjKey where
  slot : Option Nat := none
  wrapped : BitVec 320 := 0
  deriving DecidableEq, Repr

/-- An open part set (R350): its object, ID, owning tenant, the parts in ticket order, and the time of its last part write. -/
structure PartSet where
  obj : BitVec 128 := 0
  id : Word := 0
  tenant : Nat := 0
  parts : List PartData := []
  at_ : Nat := 0
  deriving DecidableEq, Repr

/-- A power hint (R358): bay mask, deepest state, the time at which it ends. -/
structure Hint where
  mask : BitVec 32 := 0
  deepest : Nat := 0
  ends : Option Nat := none
  deriving DecidableEq, Repr

/-- A packet at a cipher engine to be sealed (R33): the OPID of its session job, its session and command, and the packet. -/
structure SealJob where
  opid : Nat := 0
  sid : Nat := 0
  seq : BitVec 32 := 0
  pkt : TxPkt := {}
  deriving DecidableEq, Repr

/-- A committed write whose data still needs flushing (R399, R406): its Ledger handle, its object by tenant and ID, its ranges
(offset and end), the part set it waits in, and the stripe slots (BSID, slot) whose DONE is awaited. -/
structure Commit where
  handle : Nat := 0
  key : Nat := 0
  ranges : List (Nat × Nat) := []
  part : Option Word := none
  slots : List (Nat × Nat) := []
  deriving DecidableEq, Repr

/-- What the host ports, the session table and the object layer hold besides their registers. -/
structure HostSt where
  /-- Completions that stand in LP384 to LP511, oldest first (R21): lightpipe, session and completion. -/
  cpls : List (Nat × Nat × Cpl) := []
  /-- Packets at the cipher engines, the session jobs given so far, and the engine of the next one. -/
  sealing : List SealJob := []
  sealOps : Nat := 0
  turn : Nat := 0
  sessions : SMap SessSt := []
  hellos : List HelloDone := []
  objects : SMap ObjSt := []
  /-- Keys by tenant and object (R377), key jobs under way (OPID, slot, address of the wrapped form), and slots to be evicted. -/
  objKeys : SMap ObjKey := []
  keyOps : SMap (Nat × Nat × Nat) := []
  evict : List Nat := []
  parts : List PartSet := []
  /-- Committed writes whose data still needs flushing, oldest first (R399, R406). -/
  commits : List Commit := []
  tickets : Nat := 0
  hint : Hint := {}
  deriving DecidableEq, Repr

/-! ### Security (R363 to R393) -/

/-- An ownership slot of the fuses (R370): its owner key hash and ownership secret; data bits blown; VALID; destroyed. -/
structure OwnSlot where
  hash : BitVec 384 := 0
  os : BitVec 256 := 0
  blown : Bool := false
  valid : Bool := false
  destroyed : Bool := false
  deriving DecidableEq, Repr

/-- A loaded cipher key slot (R363, R380): the object key and the tenant whose TK it is wrapped under. -/
structure KeySlot where
  tenant : Nat := 0
  key : BitVec 256 := 0
  deriving DecidableEq, Repr

/-- A fuse command under way (R391, R392): Loupe kill, or the SVN raise of a kind to a value. -/
inductive FuseCmd where
  | loupeKill
  | svn (kind value : Nat)
  deriving DecidableEq, Repr

/-- What the security unit and the cipher engines hold besides their registers. -/
structure SecSt where
  /-- The fuses: ownership slots, the Loupe fuse, the minimum security versions of kinds 1 to 4 (R370, R387, R391). -/
  slots : SMap OwnSlot := []
  loupeFuse : Bool := false
  svn : List Nat := [0, 0, 0, 0]
  /-- The security policy in force (R374), and its terase values as last activated (R384). -/
  policy : SecPolicy := {}
  terase : SMap Nat := []
  /-- Tenant salts drawn afresh, counted per tenant; security records written (R364, R372, R384). -/
  salts : SMap Nat := []
  records : Nat := 0
  /-- The security record since whose writing the salts stand but for those of erased tenants (R372, R384). -/
  saltBase : Nat := 0
  /-- The ownership slot under whose KREC the security record is sealed (R364, R373). -/
  sealedSlot : Option Nat := none
  /-- The four Melwick key hashes in the boot ROM, and which of their revocation fuses are blown (R386, R472). -/
  romKeys : List (BitVec 384) := [0, 0, 0, 0]
  revoked : List Bool := [false, false, false, false]
  /-- The DRAM key (R382), drawn at each cold reset. -/
  dramKey : BitVec 512 := 0
  /-- Object keys in slots 2 to 32,767 (R363). -/
  keys : SMap KeySlot := []
  /-- DRBG requests since the last reseed (R368). -/
  requests : Nat := 0
  /-- The Loupe is unlocked; cores it has halted (R389, R390); the boundary cells last captured or driven, EXTEST selected
  (R604). -/
  unlocked : Bool := false
  /-- The receipt of the last unlock, DIK's signature (R367, R390). -/
  receipt : List Byte := []
  halted : List Nat := []
  cells : BitVec 412 := 0
  extest : Bool := false
  tapCode : BitVec 8 := 0x01
  /-- A fuse command under way, and an SVN raise that waits for VFUSE (R387). -/
  fuse : Option FuseCmd := none
  /-- Results of each cipher engine not yet posted, in the order of their jobs (R381). -/
  results : SMap (List Entry) := []
  /-- The measurements of the active Melwick firmware, policy image and Facet microcode images by target (R388). -/
  firmware : BitVec 384 := 0
  policyMeas : BitVec 384 := 0
  microcode : List (BitVec 384) := [0, 0, 0]
  deriving DecidableEq, Repr

/-! ### SPI flash, image slots, profiles, boot and the hierarchy (R518 to R545, R569 to R577) -/

/-- An entry of the boot control record (R522): the ACTIVE slot; the other slot's state, 0 EMPTY, 1 WRITING, 2 STAGED,
3 TRIAL; TRIES; the two VERSIONs. -/
structure BootEntry where
  active : Option Nat := none
  other : Nat := 0
  tries : Nat := 0
  verActive : BitVec 32 := 0
  verOther : BitVec 32 := 0
  deriving DecidableEq, Repr

/-- A flash operation under way (R521): the OP, its address and length, bytes still to be moved. -/
structure FlashOp where
  op : Nat := 0
  addr : Nat := 0
  len : Nat := 0
  failed : Nat := 0
  deriving DecidableEq, Repr

/-- An enable check under way (R530): its reason code and the profile it judges, and whether a PROFILE SELECT runs it. -/
structure CheckRun where
  reason : Nat := 0
  profile : Profile := {}
  deriving DecidableEq, Repr

/-- What the flash controller and firmware keep of images and profiles. Sets j: 0 firmware, 1 policy, 2 to 4 microcode
targets 0 to 2, 5 to 8 profiles 0 to 3. -/
structure CfgSt where
  sets : SMap BootEntry := []
  /-- The image being staged in the other slot of a set: its chunks by offset, the last one first (R361). Microcode is kept under set 2
  until its header names the target. -/
  staging : SMap (List (Nat × List Byte)) := []
  /-- The generation of the boot control record, and whether copy B holds it (R229, R522). -/
  bootGen : Nat := 0
  bootB : Option Bool := none
  /-- The measurement of the active profile, the hash of its section 3, and its members section (R540, R525). -/
  profMeas : BitVec 384 := 0
  secHash : BitVec 384 := 0
  members : Option (List Member) := none
  /-- The check under way and the ownership action that follows it (R530, R372). -/
  check : Option CheckRun := none
  owner : Option OwnerRec := none
  /-- SPI flash bytes that differ from 0xFF, the operation under way, and the two FIFOs (R521). -/
  flash : SMap Byte := []
  flOp : Option FlashOp := none
  /-- Write point of the event log region, in bytes (R557). -/
  logNext : Nat := 0
  rxf : List Byte := []
  txf : List Byte := []
  /-- Boot step reached, and whether boot has stopped on a failure (R569, R570). -/
  step : Nat := 0
  stopped : Bool := false
  /-- O level is suspended on every core and host commits are held (R529, R577). -/
  hold : Bool := false
  deriving DecidableEq, Repr

/-- What the manager keeps of a member (R537 to R539): its last acknowledged and last sent grant, demand, the time of its
last census, the grant sequence sent. -/
structure MemberSt where
  acked : Nat := 0
  sent : Nat := 0
  demand : Nat := 0
  heard : Option Nat := none
  gseq : Nat := 0
  deriving DecidableEq, Repr

/-- A token the manager has granted (R539): its holder, its bay, when it was granted. -/
structure TokenOut where
  member : Nat := 0
  bay : Nat := 0
  at_ : Nat := 0
  deriving DecidableEq, Repr

/-- What the manager-worker hierarchy holds besides its registers. -/
structure HieSt where
  /-- The allowed set in force at this device and its epoch (R541, R543); when the last valid beacon came. -/
  allowed : List (BitVec 384) := []
  /-- The set that the acting manager publishes (R542). -/
  published : List (BitVec 384) := []
  lastBeacon : Option Nat := none
  /-- Acting manager until when no grant increase and no token is sent (R535). -/
  quietUntil : Nat := 0
  members : SMap MemberSt := []
  /-- Tokens granted by ID, requests waiting in arrival order (R539), and tokens this member holds by bay. -/
  tokens : SMap TokenOut := []
  requests : List (Nat × Nat) := []
  held : SMap Nat := []
  /-- Bays for which this device wants a token, and those whose request has been sent (R404). -/
  wanted : List Nat := []
  asked : List Nat := []
  selfIssued : Option Nat := none
  /-- Members to which this device has sent the HELLO of its session (R534). -/
  called : List Nat := []
  /-- The grant sequence last applied under the present TERM (R538), and the sequence number of the next frame (R534). -/
  gseqSeen : Option Nat := none
  frameSeq : Nat := 0
  /-- When the decay of the grant began and from which value (R536). -/
  decay : Option (Nat × Nat) := none
  /-- Aperture held an operation or set OVER in the present period (R537). -/
  pressed : Bool := false
  deriving DecidableEq, Repr


/-! ### DMA engines (R501 to R517) -/

/-- What a DMA channel holds besides its registers: bytes of the transfer already moved, whether the shadow set came from
a poisoned entry, and a completion entry that waits for credit (R504, R507, R515). -/
structure DmaChSt where
  moved : Nat := 0
  poison : Bool := false
  wait : Option Entry := none
  deriving DecidableEq, Repr

/-- The DMA engines: channels by 16d + i, and the channel each engine granted last (R514). -/
structure DmaSt where
  chans : SMap DmaChSt := []
  last : SMap Nat := []
  deriving DecidableEq, Repr

/-! ### Event recorder (R546 to R560) -/

/-- The token bucket of an event code (R552): tokens, and when it last gained one, in ns since cold reset. -/
structure CodeBucket where
  tokens : Nat := 64
  at_ : Nat := 0
  deriving DecidableEq, Repr

/-- A record as stamped (R549): its channel and its 32 bytes. -/
structure EvrRec where
  ch : Nat := 0
  data : BitVec 256 := 0
  deriving DecidableEq, Repr

/-- What the event recorder holds besides its registers. -/
structure EvrSt where
  /-- Token buckets by code once used, and whether each is still full and unused (absent) (R552). -/
  buckets : SMap CodeBucket := []
  /-- Suppressions in the present second by code (R553), drops by channel (R554). -/
  supp : SMap Nat := []
  drops : SMap Nat := []
  /-- The hold buffer, oldest first (R555). -/
  held : List EvrRec := []
  /-- The MAC of the last record written on each privileged channel (R550). -/
  macs : SMap (BitVec 128) := []
  /-- KEVR (R364, R550). -/
  kevr : BitVec 384 := 0
  /-- Privileged channels whose CHAIN_START is due (R547, R550). -/
  chainDue : List Nat := [1, 2, 3, 4]
  /-- A flush under way: the sequence it began at, and its limit of records (R557). -/
  flush : Option (Nat × Option Nat) := none
  deriving DecidableEq, Repr


/-! ### Lens cores (R423 to R475) -/

/-- What a Lens core waits for at its PC (R450, R461, R466, R467, R498): a lightpipe instruction with its operands, the
Aperture bucket, a WSEQ or JSEQ reservation, or an interrupt source. -/
inductive CoreWait where
  | none
  | push (r lp gs : Nat)
  | pop (r lp gs : Nat)
  | resv (lp n : Nat)
  | adebit (rd est : Nat)
  | wseq (rd : Nat)
  | jseq
  | interrupt
  deriving DecidableEq, Repr

/-- A Lens core (R423, R428, R469). Registers g1 to g31 by number. -/
structure CoreSt where
  /-- General registers g1 to g31 (R423). -/
  g : SMap Word := []
  /-- The PC (R423). -/
  pc : Word := 0
  /-- STATUS (R428): PRIV and PPRIV are true for M. -/
  priv : Bool := true
  ie : Bool := false
  ppriv : Bool := true
  pie : Bool := false
  ta : Bool := false
  ota : Bool := false
  /-- TPC, CAUSE, TVAL, TVEC, SCRATCH and TIMECMP (R428). -/
  tpc : Word := 0
  cause : Word := 0
  tval : Word := 0
  tvec : Word := 0
  scratch : Word := 0
  timecmp : Word := 0xFFFFFFFFFFFFFFFF
  /-- IEN sources 1 to 4, and the pending bits that are not read off other state: TIMER and FAULT (R428). -/
  ien : BitVec 4 := 0
  timer : Bool := false
  fault : Bool := false
  /-- ODELEG, OTVEC, OTPC, OCAUSE, OTVAL and OSCRATCH (R428). -/
  odeleg : Word := 0
  otvec : Word := 0
  otpc : Word := 0
  ocause : Word := 0
  otval : Word := 0
  oscratch : Word := 0
  /-- MPU_LO and MPU_HI by pair (R429). -/
  mpuLo : SMap Word := []
  mpuHi : SMap Word := []
  /-- LPNOTE (R469). -/
  noteLp : Nat := 0
  noteThr : Nat := 0
  noteKind : Bool := false
  noteArmed : Bool := false
  noteFired : Bool := false
  /-- INSTRET, and the time of the core's reset, from which CYCLE counts (R428). -/
  instret : Word := 0
  since : Nat := 0
  /-- Lines of the level-1 instruction cache by line number, as they were when they were filled (R44, R465). -/
  icache : List (Nat × BitVec 512) := []
  /-- The address of a posted store that met a bus error not yet raised (R442). -/
  postErr : Option Word := none
  /-- What the core waits for (R450, R461, R466, R467, R498). -/
  wait : CoreWait := .none
  /-- The address and size of the LL whose reservation the core holds (R439, R440). -/
  ll : Option (Nat × Nat) := none
  /-- Stopped by a double trap (R447); may run one instruction although the Loupe has halted it (R389). -/
  halted : Bool := false
  step : Bool := false
  deriving DecidableEq, Repr

/-! ### Power-domain controller, resets and sideband (R561 to R579, R599 to R601) -/

/-- What the power-domain controller, the resets and the sideband hold besides their registers (R561 to R579). -/
structure PwrSt where
  /-- The domain whose QUIESCE runs (R572). -/
  drain : Option Nat := none
  /-- A warm reset that is draining (R567): its CAUSE code. -/
  warm : Option Nat := none
  /-- A forced warm reset whose flush runs (R568): its CAUSE code. -/
  forced : Option Nat := none
  /-- Time of the last kick of the watchdog (R568). -/
  kicked : Nat := 0
  /-- POR_N is low (R566). -/
  porLow : Bool := false
  /-- The level of SPI_RST_N (R598): low until boot step 3. -/
  spiRstN : Bool := false
  /-- A PFAIL or a thermal shutdown bars ON, RESET and RETURN (R575). -/
  barred : Bool := false
  /-- The mailbox FIFOs of the sideband (R578). -/
  inbound : List Byte := []
  outbound : List Byte := []
  /-- The low byte of THM_CASE as written by the sideband (R415, R578). -/
  caseLow : Byte := 0
  deriving DecidableEq, Repr

/-! ### What leaves the block -/

/-- A frame, packet, record or answer that leaves the block. -/
inductive Out where
  /-- The 960 bytes of a frame on a bay's lane D (R75): an operating frame (R78) or a training frame (R100). -/
  | downFrame (bay : Nat) (bytes : List Byte)
  /-- Training frames or electrical idle on lane D from now on (R100, R106). -/
  | laneD (bay : Nat) (training : Bool)
  /-- The answer to a register read: the value, or none for a bus error (R40). -/
  | regAnswer (who : Agent) (value : Option Word)
  /-- The answer to a register write: true for a bus error. -/
  | regError (who : Agent)
  /-- A sector written good on a surface: HPORT, track, sector and its 4,160 bytes (R111, R126). -/
  | sector (hport track sector : Nat) (data : List Byte)
  /-- Bytes written to a bay's bridge store, its 32-bit words in order of address (R227, R229, R243). -/
  | bridgeStore (bay addr : Nat) (bytes : List Byte)
  /-- A head's life record (R228), a calibration set or an actuator record (R243) written to the vital area of a bay's HDA. -/
  | vitalArea (bay idx : Nat) (bytes : List Byte)
  /-- A landing-zone sector written by the device (R252): HPORT, sector and kind (R254). -/
  | landing (hport sector kind : Nat)
  /-- A log sector (R556): HPORT, sector, the log sector number in its metadata ADDR, and the 128 records that it holds. -/
  | logSector (hport sector addr : Nat) (records : List Byte)
  /-- A flush run (R406): its surface, header sector, journal sectors and blocks, from the first sector of the FLUSH area on. -/
  | flushRun (hport : Nat) (header : List Byte) (journal : List (List JRec)) (blocks : List FlushBlock)
  /-- A copy (0 or 1) of a surface's header (R253), written to its HDR area. -/
  | header (hport copy : Nat) (h : SurfHeader)
  /-- A run of landing-zone sectors of one kind: HPORT, first sector, number and kind. -/
  | landingRun (hport sector count kind : Nat)
  /-- A transport packet (R308). -/
  | packet (p : TxPkt)
  /-- A HELLO with TENANT bit 15 set goes to a member at its address and port (R534). -/
  | memberHello (m : Nat) (ip : BitVec 128) (port : Nat)
  /-- Answers of the network layer (R306): ARP, neighbour discovery, echo with its payload. -/
  | arpReply (port : Nat) (mac : Nat)
  | neighbourReply (port : Nat) (mac : Nat)
  | echoReply (port : Nat) (v6 : Bool) (payload : List Byte)
  /-- The TAP's data register of a length, as shifted out (R604). -/
  | tap (length value : Nat)
  /-- Bytes that a Loupe function read (R389). -/
  | loupe (bytes : List Byte)
  /-- A byte the sideband answered, and the address it gave to an Alert Response (R578, R599). -/
  | smbus (value : Byte)
  | smbusAddress (addr : Nat)
  deriving DecidableEq, Repr

/-! ### The whole machine -/

/-- The state of the FY3264. -/
structure State where
  /-- Commands waiting, first in, first out (the model's own field). -/
  pending : List Instr := []
  /-- The ordering code of the part (R1), fixed by fuse. -/
  part : Part := .fy3264s
  /-- Device registers that differ from their reset value, by physical address (R12, R38). -/
  regs : SMap Word := []
  /-- The high word latched by a 32-bit read of a 64-bit register's low word, per requester (R12). -/
  latches : List (Agent × Nat × BitVec 32) := []
  /-- Lightpipes by number (R21); their depths where the profile sets one (R22); pushes of hardware producers that
  wait for credit, oldest first (R25). -/
  lps : SMap LpSt := []
  lpDepth : SMap Nat := []
  stalled : List (Nat × Entry) := []
  /-- Correctable errors of the lightpipe store found on pops (R20). -/
  storeCorrected : Nat := 0
  /-- SRAM and DRAM behind the cache: bytes that differ from 0, and granules whose check bits do not match their data
  (1 correctable, 2 uncorrectable), by granule address (R491). -/
  mem : List Host.Cell := []
  memErr : SMap Nat := []
  /-- The Lens cache: valid lines keyed 16 × set + way, pseudo-LRU bits by set (R476, R477). -/
  cache : SMap CacheLine := []
  plru : SMap (BitVec 15) := []
  cacheBusy : CacheBusy := .idle
  /-- Errors in the arrays of valid lines, by the line's key (R488, R489). -/
  arrayErr : SMap ArrayErr := []
  /-- Lines that level-1 data caches hold, as (core, line number), newest first; lines of level-1 caches with a parity error,
  as (core, of the instruction cache, line number) (R44, R480). A data line's contents are those of the Lens cache's. -/
  l1d : List (Nat × Nat) := []
  l1Err : List (Nat × Bool × Nat) := []
  /-- Granules whose uncorrectable error the scrubber has already reported (R494). -/
  scrubSeen : List Nat := []
  /-- The reservation of each Lens core that holds one: the line address of its LL (R440). -/
  linked : SMap Nat := []
  /-- Vital words (R497). -/
  vital : SMap VitalWord := []
  /-- Input clocks present and within tolerance (R36). -/
  sysrefOk : Bool := true
  brefOk : Bool := true
  hrefOk : Bool := true
  /-- Nanoseconds since cold reset, from which wall time and every time-out are counted (R67). -/
  now : Nat := 0
  /-- Wall time (R67); angle time (R47) and Beam link (R73) by bay; slices (R108); schedulers by actuator (R255). -/
  wall : WallSt := {}
  ang : SMap AngSt := []
  beam : SMap BeamSt := []
  slices : SMap SliceSt := []
  scheds : SMap SchedSt := []
  /-- The Band Table cache by band entry, its use counter and its error code (R261 to R265). -/
  bt : SMap BtLine := []
  btClock : Nat := 0
  btErr : Nat := 0
  /-- Facets (R139), Reticle engines (R166), commutation engines by bay (R196) and the bus overvoltage path (R220). -/
  facets : SMap FctSt := []
  servos : SMap ServoSt := []
  spins : SMap SpinSt := []
  bus : BusSt := {}
  /-- Records of the heads of attached HDAs by HPORT; the vital area's records of HDAs (R224); calibration by actuator. -/
  life : SMap LifeRec := []
  hdas : List HdaRec := []
  cals : SMap CalSt := []
  /-- The trace to VREFIN (R245), the Ledger, Aperture and thermal model (R394, R401, R413), the vital area (R498). -/
  ref : RefSt := {}
  energy : EnergySt := {}
  va : VitalArea := {}
  /-- A JSEQ write held until its reservation has committed (R498). -/
  jseqHeld : List Word := []
  /-- Prism engines (R288), bands and stripes (R266), the host side (R305), security (R363), configuration (R521),
  the hierarchy (R533), DMA (R501), the event recorder (R546), the Lens cores (R423), power and resets (R561). -/
  prisms : SMap PrismSt := []
  red : RedSt := {}
  host : HostSt := {}
  sec : SecSt := {}
  cfg : CfgSt := {}
  hie : HieSt := {}
  dma : DmaSt := {}
  evr : EvrSt := {}
  cores : SMap CoreSt := []
  pwr : PwrSt := {}
  /-- Counter of the free values used (the model's own field, log entry 5). -/
  free : Nat := 0
  /-- What the block has sent out and answered, newest first (the model's own field, log entry 6). -/
  out : List Out := []
  deriving DecidableEq, Repr

/-- Why the machine stops with a fault. The spec gives the block no condition in which it stops taking commands: the one fault is a command that is not well formed. -/
inductive Fault where
  /-- A command that is not well formed (WellFormed.lean) was sent: raised by `exec` of RESERVED_OPCODE with a word
  that is no reserved instruction. Safe: the hardware never raises that event. -/
  | illFormed
  deriving DecidableEq, Repr

/-- Why a command is refused. -/
inductive Refusal where
  /-- The command has no meaning in this model yet. Safe. -/
  | notModelled (mnemonic : String)
  deriving DecidableEq, Repr

/-- The machine right after cold reset: every register at the value its map gives, queues, stores and lightpipes empty. -/
def State.reset : State := {}

end Sys2Proof.Machine
end

