-- ==== Sys2Proof/Machine/Ops.lean ====
section
/-! DEFINITION. Sys2Proof/Machine/Ops.lean: the named operations over the state that every unit's meanings are written
with: sparse maps, register fields, lightpipes with their credits, events, and the unit records. -/
namespace Sys2Proof.Machine
open Sys2Proof

/-- The result of a command: a next state, a fault or a refusal. -/
abbrev Result := Host.Outcome State Fault Refusal

/-- The command that met state `before` has its effect, which leaves `after`; no command acts on the queue of commands. -/
def done (before after : State) : Result := .next { after with pending := before.pending }

/-- The effect of a command on units whose clocks derive from SYSREF (R36): while that clock is lost they stand still. -/
def clocked (before after : State) : Result := done before (if before.sysrefOk then after else before)

/-- The effect of a command on a bay unit, whose clock derives from BREFCLK (R17, R36). -/
def linkClocked (before after : State) : Result := done before (if before.brefOk then after else before)

/-- The effect of a command on the host-port unit, whose ports run on HREFCLK and whose fabric side runs on SYSREF (R17,
R36). -/
def portClocked (before after : State) : Result := done before (if before.sysrefOk && before.hrefOk then after else before)

/-! ### Sparse maps -/

/-- The value of key `k`, or the default. -/
def smGet {α : Type} (d : α) : SMap α → Nat → α
  | [], _ => d
  | (k', v) :: r, k => if k' = k then v else smGet d r k

/-- Drop key `k`. -/
def smErase {α : Type} : SMap α → Nat → SMap α
  | [], _ => []
  | (k', v) :: r, k => if k' = k then smErase r k else (k', v) :: smErase r k

/-- Put `v` under key `k`, keeping keys rising. -/
def smPut {α : Type} : SMap α → Nat → α → SMap α
  | [], k, v => [(k, v)]
  | (k', v') :: r, k, v =>
    if k < k' then (k, v) :: (k', v') :: r
    else if k' = k then (k, v) :: r
    else (k', v') :: smPut r k v

/-- Write `v` under key `k`; writing the default removes the key. -/
def smSet {α : Type} [DecidableEq α] (d : α) (m : SMap α) (k : Nat) (v : α) : SMap α :=
  if v = d then smErase m k else smPut m k v

/-! ### Registers and fields -/

/-- The contents of a register. -/
def State.reg (s : State) (r : Reg) : Word := smGet r.reset s.regs r.addr

/-- Replace the contents of a register. -/
def State.setReg (s : State) (r : Reg) (v : Word) : State :=
  { s with regs := smSet r.reset s.regs r.addr v }

/-- Bits [lo + width − 1 : lo] of a word. -/
def bitsOf (w : Word) (lo width : Nat) : Nat := (w.extractLsb' lo width).toNat

/-- A word with bits [lo + width − 1 : lo] replaced by the low bits of `v`. -/
def putBits (w : Word) (lo width v : Nat) : Word :=
  (w &&& ~~~(BitVec.ofNat 64 (2 ^ width - 1) <<< lo)) ||| (BitVec.ofNat 64 (v % 2 ^ width) <<< lo)

/-- Read a field. -/
def State.rd (s : State) (f : Fld) : Nat := bitsOf (s.reg f.reg) f.lo f.width

/-- Write a field, leaving the register's other bits. -/
def State.wr (s : State) (f : Fld) (v : Nat) : State :=
  s.setReg f.reg (putBits (s.reg f.reg) f.lo f.width v)

/-- A one-bit field as a truth value. -/
def State.on (s : State) (f : Fld) : Bool := s.rd f == 1

/-- Set or clear a one-bit field. -/
def State.put (s : State) (f : Fld) (b : Bool) : State := s.wr f b.toNat

/-- Read a field as a two's-complement number. -/
def State.rdInt (s : State) (f : Fld) : Int :=
  let v := s.rd f
  if v < 2 ^ (f.width - 1) then v else (v : Int) - 2 ^ f.width

/-- Write a signed number into a field, modulo its width. -/
def State.wrInt (s : State) (f : Fld) (i : Int) : State := s.wr f (i % (2 ^ f.width : Int)).toNat

/-- Add to a counter that saturates at all ones. -/
def State.bump (s : State) (f : Fld) (n : Nat := 1) : State := s.wr f (min (s.rd f + n) (2 ^ f.width - 1))

/-- Add to a counter that wraps. -/
def State.bumpWrap (s : State) (f : Fld) (n : Nat := 1) : State := s.wr f (s.rd f + n)

/-- A field whose values outside [lo, hi] act as the nearer end. -/
def State.clamp (s : State) (f : Fld) (lo hi : Nat) : Nat := max lo (min hi (s.rd f))

/-- Wall time ANG_WT in ns (R67). -/
def State.wt (s : State) : Nat := s.rd ANG_WT_NS

/-- CFG_ENABLE reads 1 (R13, R530). -/
def State.enabled (s : State) : Bool := s.on CFG_ENABLE_EN

/-! ### Free values -/

/-- Use up one free value. -/
def State.draw (s : State) : State := { s with free := s.free + 1 }

/-! ### The part and its units (R1, R2) -/

/-- The number of bays of the part: 32, or 16 on the FY3232. -/
def State.bayCount (s : State) : Nat := if s.part = .fy3232s then 16 else 32

/-- Bay `b` is not fused off. -/
def State.bayOk (s : State) (b : Nat) : Bool := b < s.bayCount

/-- Slice and Reticle engine `k` are not fused off. -/
def State.sliceOk (s : State) (k : Nat) : Bool := k < 2 * s.bayCount

/-- The bay of slice k (R10). -/
def bayOf (k : Nat) : Nat := k / 2
/-- The actuator of slice k within its bay (R10). -/
def actOf (k : Nat) : Nat := k % 2

/-- HPORT of bay b, actuator a, head h (R11). -/
def hportOf (b a h : Nat) : Nat := b * 32 + a * 16 + h
/-- The bay, actuator and head of an HPORT (R11). -/
def hportBay (p : Nat) : Nat := p / 32 % 32
def hportAct (p : Nat) : Nat := p / 16 % 2
def hportHead (p : Nat) : Nat := p % 16
/-- The slice that serves an HPORT. -/
def hportSlice (p : Nat) : Nat := p / 16 % 64
/-- An HPORT whose h field is 12 to 15 names no head (R11). -/
def hportNamesHead (p : Nat) : Bool := p < 1024 && hportHead p < 12

/-! ### Power domains (R40, R571) -/

/-- PWR_DOM(n).STATE as a number. -/
def State.dom (s : State) (n : Nat) : Nat := s.rd (PWR_DOM_STATE n)

/-- The domain of a Facet's engine (R139, R561). -/
def facetDom : FacetId → Nat
  | .slice k => k.val
  | .reticle k => 64 + k.val / 2
  | .comm b => 64 + b.val

/-- The unit of domain `n` idles while K is trimmed (R416): every unit but Lens core 0 whose work heats the die; bay units keep
their bays under control (log entry 110). -/
def State.idled (s : State) (n : Nat) : Bool := s.energy.trimming && (decide (n < 64) || decide (97 ≤ n))

/-- `f` happens while domain `n` is ON: the unit takes new work (R572). -/
def State.whileOn (s : State) (n : Nat) (f : State → State) : State := if s.dom n = 2 ∧ ¬ s.idled n then f s else s

/-- `f` happens while domain `n` is ON or DRAINING: the unit works (R571, R572). -/
def State.whileRuns (s : State) (n : Nat) (f : State → State) : State := if s.dom n = 2 ∨ s.dom n = 3 then f s else s

/-- `f`, the effect of a register write, happens while the windows of domain `n` answer: ON or held in RESET (R40, R572). -/
def State.whileAnswers (s : State) (n : Nat) (f : State → State) : State := if s.dom n = 1 ∨ s.dom n = 2 then f s else s

/-- `f` happens while domain `n` has power: in any state but OFF and FUSED (R571). -/
def State.whilePowered (s : State) (n : Nat) (f : State → State) : State := if s.dom n = 0 ∨ s.dom n = 7 then s else f s

/-! ### Lightpipe entries -/

/-- Bits [lo + width − 1 : lo] of an entry as a number; byte i begins at bit 8 i (R9). -/
def Entry.at (e : Entry) (lo width : Nat) : Nat := (e.data.extractLsb' lo width).toNat

/-- An entry put together from fields (first bit, width, value). -/
def packEntry : List (Nat × Nat × Nat) → BitVec 256
  | [] => 0
  | (lo, w, v) :: r => packEntry r ||| (BitVec.ofNat 256 (v % 2 ^ w) <<< lo)

/-- An unpoisoned entry put together from fields (first bit, width, value). -/
def mkEntry (l : List (Nat × Nat × Nat)) : Entry := { data := packEntry l }

/-! ### Lightpipes (R18 to R29) -/

/-- The record of lightpipe `n`. -/
def State.lp (s : State) (n : Nat) : LpSt := smGet {} s.lps n
/-- Replace the record of lightpipe `n`. -/
def State.setLp (s : State) (n : Nat) (l : LpSt) : State := { s with lps := smSet {} s.lps n l }

/-- The depth of lightpipe `n`: 256 for LP0 to LP63, otherwise what the profile sets (16) (R22). -/
def State.depth (s : State) (n : Nat) : Nat := if n < 64 then 256 else smGet 16 s.lpDepth n

/-- A producer or consumer of lightpipe `n` is a unit that is fused off (R3). -/
def State.lpDead (s : State) (n : Nat) : Bool :=
  s.part == .fy3232s &&
    ((32 ≤ n && n < 64) || (96 ≤ n && n < 128) || (160 ≤ n && n < 192) || (208 ≤ n && n < 224) || (240 ≤ n && n < 256))

/-- Credits that cores hold reserved on a lightpipe. -/
def reservedOf (l : LpSt) : Nat := (l.resv.map Prod.snd).foldl (· + ·) 0

/-- Append an entry to lightpipe `n`, taking one free credit. -/
def State.lpAppend (s : State) (n : Nat) (e : Entry) : State :=
  let l := s.lp n
  s.setLp n { l with entries := l.entries ++ [e], free := l.free - 1 }

/-- Push by a hardware producer: without credit, or behind pushes that already wait, it waits and is not dropped (R25). -/
def State.hwPush (s : State) (n : Nat) (e : Entry) : State :=
  if 0 < (s.lp n).free ∧ ¬ s.stalled.any (fun p => p.1 == n) then s.lpAppend n e
  else { s with stalled := s.stalled ++ [(n, e)] }

/-- Take the first waiting push for lightpipe `n` out of a list of waiting pushes. -/
def takeStalled (n : Nat) : List (Nat × Entry) → Option (Entry × List (Nat × Entry))
  | [] => none
  | (m, e) :: r =>
    if m = n then some (e, r)
    else match takeStalled n r with
      | none => none
      | some (e', r') => some (e', (m, e) :: r')

/-- Grant free credits of lightpipe `n` to the pushes that wait for them, in the order they began to wait (at most `fuel`
of them). A returned credit goes to such a hardware push before a Lens core that waits for credit: the spec fixes no order
between them (DESIGN CHOICE, log entry 92). -/
def State.grantStalled (s : State) (n : Nat) : Nat → State
  | 0 => s
  | fuel + 1 =>
    if (s.lp n).free = 0 then s
    else match takeStalled n s.stalled with
      | none => s
      | some (e, r) => State.grantStalled ({ s with stalled := r }.lpAppend n e) n fuel

/-- Return one credit of lightpipe `n` to its producers, unless the lightpipe still holds its depth or more (R24). -/
def State.creditBack (s : State) (n : Nat) : State :=
  let l := s.lp n
  if l.entries.length + l.free + reservedOf l < s.depth n ∧ ¬ s.lpDead n then
    (s.setLp n { l with free := l.free + 1 }).grantStalled n 1
  else s

/-! ### Events (R547, R548) -/

/-- The CODE of an event of channel `ch` (R547). -/
def eventCodeOf (ch : Nat) (k : EvKind) : Nat := 32 * ch + 3 + (Config.eventCode k).val

/-- An event: a 32-byte entry with CODE, UNIT (class and index, R549) and arguments pushed to LP 640 + ch (R546, R548). -/
def State.event (s : State) (ch : Nat) (k : EvKind) (cls idx : Nat) : State :=
  ({ s with free := s.free + 1 }).hwPush (640 + ch)
    (mkEntry [(0, 16, eventCodeOf ch k), (16, 16, cls * 4096 + idx), (32, 176, (Config.eventArg s.free).toNat)])

/-- An event whose arguments the spec names: how they stand in the argument bytes is the event code list's (R547). -/
def State.eventWith (s : State) (ch : Nat) (k : EvKind) (cls idx : Nat) (args : List Nat) : State :=
  s.hwPush (640 + ch)
    (mkEntry [(0, 16, eventCodeOf ch k), (16, 16, cls * 4096 + idx), (32, 176, (Config.eventArgOf k args).toNat)])

/-- What popping an entry of lightpipe `n` finds in the store (R20): words with a single-bit error are corrected and
counted, an uncorrectable one raises a device-fault event. -/
def State.storeFound (s : State) (n : Nat) (e : Entry) : State :=
  let s1 : State := { s with storeCorrected := s.storeCorrected + ((List.range 4).filter e.ce.getLsbD).length }
  if e.poison then s1.event 0 .storePoison 0 n else s1

/-- Pop the oldest entry of lightpipe `n` as its hardware consumer does: errors of the store are handled (R20), and the
credit returns at the pop except for LP0 to LP63 (R24). -/
def State.hwPop (s : State) (n : Nat) : Option (Entry × State) :=
  match (s.lp n).entries with
  | [] => none
  | e :: r =>
    let s1 := s.setLp n { s.lp n with entries := r }
    let s2 := if n < 64 then s1 else s1.creditBack n
    some ({ e with ce := 0 }, s2.storeFound n e)

/-! ### Unit records -/

def State.angS (s : State) (b : Nat) : AngSt := smGet {} s.ang b
def State.setAng (s : State) (b : Nat) (v : AngSt) : State := { s with ang := smSet {} s.ang b v }
def State.beamS (s : State) (b : Nat) : BeamSt := smGet {} s.beam b
def State.setBeam (s : State) (b : Nat) (v : BeamSt) : State := { s with beam := smSet {} s.beam b v }
def State.sliceS (s : State) (k : Nat) : SliceSt := smGet {} s.slices k
def State.setSlice (s : State) (k : Nat) (v : SliceSt) : State := { s with slices := smSet {} s.slices k v }
def State.schedS (s : State) (k : Nat) : SchedSt := smGet {} s.scheds k
def State.setSched (s : State) (k : Nat) (v : SchedSt) : State := { s with scheds := smSet {} s.scheds k v }
/-- A Facet whose stores have lost their contents at time `n` (R157): each bank has undefined words of its own. -/
def FctSt.fresh (n : Nat) : FctSt := { bank0 := { lost := some (2 * n) }, bank1 := { lost := some (2 * n + 1) } }
/-- A Facet that has not been written since cold reset has undefined stores (R157). -/
def State.facetS (s : State) (f : Nat) : FctSt := smGet (FctSt.fresh f) s.facets f
def State.setFacet (s : State) (f : Nat) (v : FctSt) : State := { s with facets := smPut s.facets f v }

/-- Microword `i` and nanoword `j` of a bank, and what the check bits of word `key` say (R156, R157). -/
def FctBank.microAt (b : FctBank) (i : Nat) : BitVec 20 :=
  smGet (match b.lost with | some n => Config.storeMicro n i | none => 0) b.micro i
def FctBank.nanoAt (b : FctBank) (j : Nat) : BitVec 96 :=
  smGet (match b.lost with | some n => Config.storeNano n j | none => 0) b.nano j
def FctBank.errAt (b : FctBank) (key : Nat) : Nat :=
  smGet (match b.lost with | some n => (Config.storeErr n key).val | none => 0) b.err key

/-- Write a word of a bank; hardware computes its check bits (R154). -/
def FctBank.setErr (b : FctBank) (key e : Nat) : FctBank :=
  { b with err := if b.lost.isSome then smPut b.err key e else smSet 0 b.err key e }
def FctBank.setMicro (b : FctBank) (i : Nat) (w : BitVec 20) : FctBank :=
  ({ b with micro := if b.lost.isSome then smPut b.micro i w else smSet 0 b.micro i w } : FctBank).setErr i 0
def FctBank.setNano (b : FctBank) (j : Nat) (w : BitVec 96) : FctBank :=
  ({ b with nano := if b.lost.isSome then smPut b.nano j w else smSet 0 b.nano j w } : FctBank).setErr (1024 + j) 0

/-- What a Facet holds after a reset of its domain: its stores, which only lose their contents when the domain is switched off
(R157). -/
def FctSt.afterReset (v : FctSt) : FctSt := { bank0 := { v.bank0 with na := false }, bank1 := { v.bank1 with na := false } }

def State.servoS (s : State) (k : Nat) : ServoSt := smGet {} s.servos k
def State.setServo (s : State) (k : Nat) (v : ServoSt) : State := { s with servos := smSet {} s.servos k v }

def State.spinS (s : State) (b : Nat) : SpinSt := smGet {} s.spins b
def State.setSpin (s : State) (b : Nat) (v : SpinSt) : State := { s with spins := smSet {} s.spins b v }

def State.lifeR (s : State) (p : Nat) : LifeRec := smGet {} s.life p
def State.setLife (s : State) (p : Nat) (v : LifeRec) : State := { s with life := smSet {} s.life p v }
def State.calS (s : State) (k : Nat) : CalSt := smGet {} s.cals k
def State.setCal (s : State) (k : Nat) (v : CalSt) : State := { s with cals := smSet {} s.cals k v }

/-- Replace what the security unit and the cipher engines hold. -/
def State.setSec (s : State) (x : SecSt) : State := { s with sec := x }

/-- The DRBG reseeds (R368): SEC_DRBG.RESEEDS counts, wrapping. -/
def State.reseedDrbg (s : State) : State := (s.setSec { s.sec with requests := 0 }).bumpWrap SEC_DRBG_RESEEDS

/-- A DRBG request (R368): the DRBG reseeds after 2^20 of them. -/
def State.drbgDraw (s : State) : State :=
  let s := s.setSec { s.sec with requests := s.sec.requests + 1 }
  if s.sec.requests < 2 ^ 20 then s else s.reseedDrbg

/-- Something leaves the block. -/
def State.emit (s : State) (o : Out) : State := { s with out := o :: s.out }

/-! ### The CRC of R76 -/

/-- One byte into a reflected CRC-32C (polynomial 0x1EDC_6F41, reflected 0x82F6_3B78). -/
def crcByte (c : BitVec 32) (b : Byte) : BitVec 32 :=
  let step (x : BitVec 32) : BitVec 32 := if x.getLsbD 0 then (x >>> 1) ^^^ 0x82F63B78 else x >>> 1
  step (step (step (step (step (step (step (step (c ^^^ b.zeroExtend 32))))))))

/-- CRC-32C over a list of bytes, initial value and final XOR all ones (R76). -/
def crc32c (bs : List Byte) : BitVec 32 := (bs.foldl crcByte 0xFFFFFFFF) ^^^ 0xFFFFFFFF

/-- The bytes of a number, lowest first (R9). -/
def leBytes : Nat → Nat → List Byte
  | 0, _ => []
  | n + 1, v => BitVec.ofNat 8 v :: leBytes n (v / 256)

/-- The number that bytes spell, lowest first (R9). -/
def leNat : List Byte → Nat
  | [] => 0
  | b :: r => b.toNat + 256 * leNat r

/-- Count the true values of a list. -/
def countTrue (l : List Bool) : Nat := (l.filter id).length

/-- Apply `f` for every natural number below `n`, lowest first. -/
def forUpTo (n : Nat) (f : Nat → State → State) (s : State) : State := (List.range n).foldl (fun s i => f i s) s

end Sys2Proof.Machine
end

