-- ==== Sys2Proof/Machine/Memory.lean ====
section
/-! DEFINITION. Sys2Proof/Machine/Memory.lean: SRAM and DRAM with their codes, and the Lens cache in front of them, as
every agent's accesses see them (R42 to R46, R476 to R479, R488 to R493). An unlisted byte of memory reads as 0
(DESIGN CHOICE, log entry 3: the spec leaves memory undefined after power-on, R495). -/
namespace Sys2Proof.Machine
open Sys2Proof

/-! ### The canonical form of memory -/

/-- Keys rise strictly from `lo` on and no value equals the default. -/
def smWf {α : Type} [DecidableEq α] (d : α) : Option Nat → SMap α → Bool
  | _, [] => true
  | lo, (k, v) :: r =>
    (match lo with | none => true | some l => decide (l < k)) && decide (v ≠ d) && smWf d (some k) r

/-- Memory is in canonical form: addresses strictly rising, no byte listed that reads 0 anyway. -/
def Memory.wf (m : List Host.Cell) : Bool := smWf (0 : Byte) none m

/-- The byte of memory behind the cache at address `a`. -/
def State.memByte (s : State) (a : Nat) : Byte := smGet 0 s.mem a

/-- Write one byte of memory behind the cache. -/
def State.setMemByte (s : State) (a : Nat) (b : Byte) : State := { s with mem := smSet 0 s.mem a b }

/-- `n` bytes of memory behind the cache from address `a`. -/
def State.memBytes (s : State) (a n : Nat) : List Byte := (List.range n).map fun i => s.memByte (a + i)

/-- Byte `i` of the 64-byte line at `line` as the DRAM devices hold it (R382): the memory controllers encrypt every line under the
DRAM key with the line's address as tweak. `mem` is what a read through a controller gives. -/
def State.dramCell (s : State) (line i : Nat) : Byte := Config.xts s.sec.dramKey line (s.memBytes line 64) i

/-- Write bytes to memory behind the cache from address `a`. -/
def State.setMemBytes (s : State) (a : Nat) : List Byte → State
  | [] => s
  | b :: r => (s.setMemByte a b).setMemBytes (a + 1) r

/-! ### The address map (R38, R39) -/

/-- Base of SRAM and of DRAM. -/
def sramBase : Nat := 0x10000000
def dramBase : Nat := 0x1000000000

/-- The address lies in SRAM. -/
def isSram (a : Nat) : Bool := 0x10000000 ≤ a && a < 0x11800000

/-- The address lies in the DRAM range of the map, installed or not. -/
def inDramRange (a : Nat) : Bool := 0x1000000000 ≤ a && a < 0x2000000000

/-- The address lies in installed DRAM (R39, R491). -/
def State.isDram (s : State) (a : Nat) : Bool :=
  0x1000000000 ≤ a && a < 0x1000000000 + s.rd MEM_DRAM_SIZE * 2 ^ 30 && a < 0x2000000000

/-- The address can be cached: SRAM or installed DRAM (R476). -/
def State.isMem (s : State) (a : Nat) : Bool := isSram a || s.isDram a

/-- Granule size at an address: 8 bytes in SRAM, 32 in DRAM (R491). -/
def granSize (a : Nat) : Nat := if isSram a then 8 else 32

/-- The granule that holds an address. -/
def granBase (a : Nat) : Nat := a - a % granSize a

/-! ### Codes (R492, R493) -/

/-- Load MEM_ERRADDR for an error of granule `g` found by source `src` (R492). -/
def State.memErrAddr (s : State) (g src : Nat) (ue : Bool) : State :=
  ((s.wr MEM_ERRADDR_ADDR g).wr MEM_ERRADDR_SRC src).put MEM_ERRADDR_UE ue

/-- The effects of a corrected error of granule `g` (R492): the granule is rewritten. -/
def State.memCorrected (s : State) (g src : Nat) : State :=
  let s := { s with memErr := smErase s.memErr g }
  let s := if isSram g then s.bump MEM_CE_SRAM else s.bump MEM_CE_DRAM
  (s.put MEM_STAT_CEEV true).memErrAddr g src false

/-- The effects of finding granule `g` uncorrectable on a read (R492). -/
def State.memUncorrectable (s : State) (g src : Nat) : State :=
  let s := if isSram g then s.bump MEM_UE_SRAM else s.bump MEM_UE_DRAM
  ((s.put MEM_STAT_UEEV true).memErrAddr g src true).event 12 .memoryError 0 0

/-- Read granule `g` of memory: whether it could be read, and the effects of what its code shows (R492). -/
def State.memProbe (s : State) (g src : Nat) : Bool × State :=
  match smGet 0 s.memErr g with
  | 0 => (true, s)
  | 1 => (true, s.memCorrected g src)
  | _ => (false, s.memUncorrectable g src)

/-- Read `n` bytes at `a`, all within one granule, from memory. -/
def State.memReadPiece (s : State) (a n src : Nat) : Option (List Byte) × State :=
  match s.memProbe (granBase a) src with
  | (true, s') => (some (s'.memBytes a n), s')
  | (false, s') => (none, s')

/-- Write bytes at `a`, all within one granule, to memory: a whole granule with fresh check bits, a part of one through
the merge buffer, which refuses an uncorrectable granule (R493). -/
def State.memWritePiece (s : State) (a : Nat) (bs : List Byte) : Bool × State :=
  let g := granBase a
  if bs.length = granSize a then
    (true, { (s.setMemBytes a bs) with memErr := smErase s.memErr g })
  else
    match smGet 0 s.memErr g with
    | 0 => (true, s.setMemBytes a bs)
    | 1 => (true, (s.memCorrected g 1).setMemBytes a bs)
    | _ => (false, (((s.bump MEM_MERGE_REF_COUNT).put MEM_STAT_UEEV true).memErrAddr g 1 true).event 12 .memoryError 0 0)

/-! ### Lens cache lines (R476, R477) -/

/-- The set and tag of an address. -/
def cacheSet (a : Nat) : Nat := a / 64 % 8192
def cacheTag (a : Nat) : Nat := a / 2 ^ 19

/-- The address of the line held under key `16 × set + way` with a tag. -/
def lineAddr (key tag : Nat) : Nat := tag * 2 ^ 19 + key / 16 * 64

/-- The line under a key, if it is valid. -/
def State.lineAt (s : State) (key : Nat) : Option CacheLine := (s.cache.find? fun p => p.1 == key).map Prod.snd

/-- Put a valid line under a key. -/
def State.setLine (s : State) (key : Nat) (l : CacheLine) : State := { s with cache := smPut s.cache key l }

/-- Every level-1 data cache drops the line of address `a` (R44). -/
def State.dropL1 (s : State) (a : Nat) : State :=
  { s with l1d := s.l1d.filter (fun p => p.2 != a / 64), l1Err := s.l1Err.filter (fun p => p.2.1 || p.2.2 != a / 64) }

/-- Drop the line under a key; the Lens cache includes the level-1 data caches, which drop it too (R44). -/
def State.dropLine (s : State) (key : Nat) : State :=
  let s1 := match s.lineAt key with
    | none => s
    | some l => s.dropL1 (lineAddr key l.tag)
  { s1 with cache := smErase s.cache key, arrayErr := smErase s.arrayErr key }

/-- The way that holds the line of address `a`, if any. -/
def State.findWay (s : State) (a : Nat) : Option Nat :=
  (List.range 16).find? fun w =>
    match s.lineAt (cacheSet a * 16 + w) with
    | some l => l.tag == cacheTag a
    | none => false

/-- Way `w` may be chosen for allocation: its group is powered and stays so, and it is not locked (R477, R481, R485). -/
def State.allocable (s : State) (w : Nat) : Bool :=
  ! (s.rd LC_LOCK_MASK).testBit w && ! (s.rd LC_PWR_STATE).testBit (w / 4) && ! (s.rd LC_PWR_OFF).testBit (w / 4)

/-- The cache allocates: it is enabled, and neither being disabled nor initialised (R486, R487). -/
def State.cacheAllocates (s : State) : Bool :=
  s.on LC_CTL_EN && ! s.on LC_STAT_BYPASS && s.cacheBusy == .idle

/-- The pseudo-LRU walk from node `n` (R477): `fuel` levels remain; a subtree with no allocable way is passed over. -/
def plruWalk (bits : BitVec 15) (ok : Nat → Bool) : Nat → Nat → Nat
  | 0, n => n - 15
  | fuel + 1, n =>
    let size := 2 ^ fuel
    let first (m : Nat) : Nat := (m + 1) * 2 ^ fuel - 16
    let has (m : Nat) : Bool := (List.range size).any fun i => ok (first m + i)
    let want := if bits.getLsbD n then 2 * n + 2 else 2 * n + 1
    let other := if bits.getLsbD n then 2 * n + 1 else 2 * n + 2
    plruWalk bits ok fuel (if has want then want else other)

/-- The victim way of a set: the lowest-numbered invalid allocable way, or else the pseudo-LRU walk (R477). -/
def State.victim (s : State) (set : Nat) : Nat :=
  match (List.range 16).find? fun w => s.allocable w && (s.lineAt (set * 16 + w)).isNone with
  | some w => w
  | none => plruWalk (smGet 0 s.plru set) s.allocable 4 0

/-- The bits on a way's path, set to point away from it (R477). -/
def plruTouch (bits : BitVec 15) (w : Nat) : BitVec 15 :=
  let put (b : BitVec 15) (n : Nat) (v : Bool) : BitVec 15 := if v then b ||| ((1 : BitVec 15) <<< n) else b &&& ~~~((1 : BitVec 15) <<< n)
  let b0 := put bits 0 (w < 8)
  let b1 := put b0 (1 + w / 8) (w % 8 < 4)
  let b2 := put b1 (3 + w / 4) (w % 4 < 2)
  put b2 (7 + w / 2) (w % 2 < 1)

/-- Record a hit or a fill of way `w` of a set. -/
def State.touch (s : State) (set w : Nat) : State :=
  { s with plru := smSet 0 s.plru set (plruTouch (smGet 0 s.plru set) w) }

/-- Granules of a line at address `a`: their number and size. -/
def lineGrans (a : Nat) : Nat := if isSram a then 8 else 2

/-- Bytes of a line's data. -/
def lineBytes (l : CacheLine) (off n : Nat) : List Byte :=
  (List.range n).map fun i => l.data.extractLsb' (8 * (off + i)) 8

/-- A line's data with bytes replaced from offset `off`. -/
def putLineBytes (d : BitVec 512) (off : Nat) : List Byte → BitVec 512
  | [] => d
  | b :: r =>
    putLineBytes ((d &&& ~~~((255 : BitVec 512) <<< (8 * off))) ||| (b.zeroExtend 512 <<< (8 * off))) (off + 1) r

/-! ### Errors of the cache's arrays (R488, R489) -/

/-- The array errors of the line under a key. -/
def State.arrErr (s : State) (key : Nat) : ArrayErr := smGet {} s.arrayErr key

/-- The array errors of the line under a key become `e`. -/
def State.setArrErr (s : State) (key : Nat) (e : ArrayErr) : State := { s with arrayErr := smSet {} s.arrayErr key e }

/-- LC_ERR shows the last array error (R499): its set and way, tag or data, uncorrectable or not. -/
def State.noteArray (s : State) (key : Nat) (tag ue : Bool) : State :=
  (((s.wr LC_ERR_SET (key / 16)).wr LC_ERR_WAY (key % 16)).put LC_ERR_KIND tag).put LC_ERR_UE ue

/-- The tag under `key` fails its parity (R489): the line is dropped; a clean one is counted, a dirty one is lost, with
TAGUE and an event on the fault channel. -/
def State.tagError (s : State) (key : Nat) : State :=
  match s.lineAt key with
  | none => s.dropLine key
  | some l =>
    let s1 := (s.dropLine key).noteArray key true l.dirty
    if l.dirty then (s1.put LC_STAT_TAGUE true).event 0 .cacheError 0 0 else s1.bump LC_CE_TAG

/-- The granules of the line at `base` that hold the 64-bit words of a mask. -/
def granMask (base : Nat) (w : BitVec 8) : BitVec 8 :=
  if isSram base then w else (if w &&& 0x0F = 0 then 0 else 1) ||| (if w &&& 0xF0 = 0 then 0 else 2)

/-- The data words of a mask in the line under `key` are read (R488): single-bit errors are corrected and counted; a
double-bit error drops a clean line and poisons the granule of a dirty one, with DATAUE and an event. -/
def State.dataErrors (s : State) (key : Nat) (words : BitVec 8) : State :=
  match s.lineAt key with
  | none => s
  | some l =>
    let e := s.arrErr key
    let ue := e.ue &&& words
    let ce := e.ce &&& words &&& ~~~ue
    let s1 := s.setArrErr key { e with ce := e.ce &&& ~~~words, ue := e.ue &&& ~~~words }
    let s2 := if ce = 0 then s1 else (s1.bump LC_CE_DATA (countTrue ((List.range 8).map ce.getLsbD))).noteArray key false false
    if ue = 0 then s2
    else if ! l.dirty then (s2.dropLine key).noteArray key false true
    else
      (((s2.setLine key { l with poison := l.poison ||| granMask (lineAddr key l.tag) ue }).put LC_STAT_DATAUE true).noteArray
        key false true).event 12 .cacheError 0 0

/-- A mask of the eight 64-bit words of a line. -/
def wordMask (p : Nat → Bool) : BitVec 8 := (List.range 8).foldl (fun m i => if p i then m ||| (1 <<< i) else m) 0

/-- The 64-bit words of a line that an access of `n` bytes at `a` touches. -/
def wordsTouched (a n : Nat) : BitVec 8 :=
  wordMask fun i => decide (8 * i < a % 64 + n) && decide (a % 64 < 8 * i + 8)

/-- The 64-bit words of a line that an access of `n` bytes at `a` covers whole. -/
def wordsWhole (a n : Nat) : BitVec 8 :=
  wordMask fun i => decide (a % 64 ≤ 8 * i) && decide (8 * i + 8 ≤ a % 64 + n)

/-- An access to the set of `a` reads its tags and, in the line of `a`, some data words: their errors take effect (R488,
R489). -/
def State.settle (s : State) (a : Nat) (words : BitVec 8) : State :=
  if s.arrayErr.isEmpty then s
  else
    let s1 := (List.range 16).foldl (fun s w =>
      if (s.arrErr (cacheSet a * 16 + w)).tag then s.tagError (cacheSet a * 16 + w) else s) s
    match s1.findWay a with
    | none => s1
    | some w => s1.dataErrors (cacheSet a * 16 + w) words

/-- A dirty line about to be written back is read whole (R488, R489). -/
def State.settleLine (s : State) (key : Nat) : State :=
  if s.arrayErr.isEmpty then s
  else if (s.arrErr key).tag then s.tagError key
  else
    match s.lineAt key with
    | none => s
    | some l => if l.dirty then s.dataErrors key 0xFF else s

/-- Words of the line under `key` that are written whole lose their errors. -/
def State.freshWords (s : State) (key : Nat) (words : BitVec 8) : State :=
  if s.arrayErr.isEmpty then s
  else s.setArrErr key { s.arrErr key with ce := (s.arrErr key).ce &&& ~~~words, ue := (s.arrErr key).ue &&& ~~~words }

/-- Write one granule of a line back to memory; a poisoned granule takes the poison pattern (R490). -/
def State.writeBackGran (s : State) (base : Nat) (l : CacheLine) (i : Nat) : State :=
  let g := granSize base
  let a := base + i * g
  let s1 := s.setMemBytes a (lineBytes l (i * g) g)
  if l.poison.getLsbD i then { s1 with memErr := smSet 0 s1.memErr a 2 }
  else { s1 with memErr := smErase s1.memErr a }

/-- Write the line under `key` back to memory if it is dirty; it stays valid and clean (R482, R490). -/
def State.writeBack (s : State) (key : Nat) : State :=
  match s.lineAt key with
  | none => s
  | some l =>
    if l.dirty then
      (forUpTo (lineGrans (lineAddr key l.tag)) (fun i s => s.writeBackGran (lineAddr key l.tag) l i) s).setLine key
        { l with dirty := false }
    else s

/-- Clean a line: what its arrays show takes effect, then it is written back if it is dirty (R482, R488 to R490). -/
def State.cleanLine (s : State) (key : Nat) : State := (s.settleLine key).writeBack key

/-- Write a line back if dirty, then drop it. -/
def State.evictLine (s : State) (key : Nat) : State := (s.cleanLine key).dropLine key

/-- Read the granules of the line at `base` from memory for a fill: data and poison bits (R479). -/
def State.fillGrans (s : State) (base : Nat) : Nat → CacheLine × State
  | 0 => ({ tag := cacheTag base }, s)
  | n + 1 =>
    let (l, s1) := s.fillGrans base n
    let g := granSize base
    match s1.memReadPiece (base + n * g) g 3 with
    | (some bs, s2) => ({ l with data := putLineBytes l.data (n * g) bs }, s2)
    | (none, s2) => ({ l with poison := l.poison ||| (1 <<< n) }, s2)

/-- Fill the line of address `a` into way `w`, writing that way's line back first if dirty (R478, R479). -/
def State.fillInto (s : State) (a w : Nat) : State :=
  let base := a - a % 64
  let key := cacheSet a * 16 + w
  let s1 := s.evictLine key
  let (l, s2) := s1.fillGrans base (lineGrans base)
  (s2.setLine key l).touch (cacheSet a) w

/-- Allocate the line of address `a` on a Lens-core miss, where some way is allocable (R476, R477). -/
def State.cacheFill (s : State) (a : Nat) : State :=
  if s.cacheAllocates && (List.range 16).any s.allocable then s.fillInto a (s.victim (cacheSet a)) else s

/-! ### Accesses (R43, R45, R476) -/

/-- Cut an access into pieces, each within one granule. -/
def pieces : Nat → Nat → Nat → List (Nat × Nat)
  | 0, _, _ => []
  | fuel + 1, a, n =>
    if n = 0 then []
    else
      let m := min n (granSize a - a % granSize a)
      (a, m) :: pieces fuel (a + m) (n - m)

/-- Count a lookup, once for each line an access touches. -/
def State.countLookup (s : State) (hit first : Bool) (a : Nat) : State :=
  if first || a % 64 == 0 then (if hit then s.bumpWrap LC_HIT_COUNT else s.bumpWrap LC_MISS_COUNT) else s

/-- Read one piece through the enabled cache: from the line that holds it, or else from memory; a Lens-core miss
allocates (R43, R476, R479). -/
def State.cachedRead (s : State) (alloc first : Bool) (a n : Nat) : Option (List Byte) × State :=
  let go (s : State) : Option (List Byte) × State :=
    match s.findWay a with
    | none => s.memReadPiece a n 0
    | some w =>
      match s.lineAt (cacheSet a * 16 + w) with
      | none => (none, s)
      | some l =>
        if l.poison.getLsbD (a % 64 / granSize a) then (none, s)
        else (some (lineBytes l (a % 64) n), s.touch (cacheSet a) w)
  match s.findWay a with
  | some _ => go (s.countLookup true first a)
  | none =>
    let s1 := s.countLookup false first a
    go (if alloc then s1.cacheFill a else s1)

/-- Read one piece: a bus error where there is no memory; from memory in BYPASS; else through the cache, after what its
arrays show. -/
def State.readPiece (s : State) (alloc first : Bool) (a n : Nat) : Option (List Byte) × State :=
  if ! s.isMem a then (none, s)
  else if s.on LC_STAT_BYPASS then s.memReadPiece a n 0
  else (s.settle a (wordsTouched a n)).cachedRead alloc first a n

/-- Write one piece into the line that holds it: a part of a poisoned granule is refused, a whole granule clears its
poison (R490); while the cache is being disabled memory is written too and the dirty bit stays (R486). -/
def State.writeLine (s : State) (w a : Nat) (bs : List Byte) : Bool × State :=
  let key := cacheSet a * 16 + w
  match s.lineAt key with
  | none => (false, s)
  | some l =>
    let i := a % 64 / granSize a
    let whole := bs.length = granSize a
    if l.poison.getLsbD i ∧ ¬ whole then (false, s)
    else
      let l1 : CacheLine := { l with
        data := putLineBytes l.data (a % 64) bs
        poison := if whole then l.poison &&& ~~~((1 : BitVec 8) <<< i) else l.poison
        dirty := if s.cacheBusy = .disabling then l.dirty else true }
      let s1 := ((s.setLine key l1).freshWords key (wordsWhole a bs.length)).touch (cacheSet a) w
      if s.cacheBusy = .disabling then (true, (s1.memWritePiece a bs).2) else (true, s1)

/-- Write one piece through the enabled cache: into the line that holds it, or else to memory; a Lens-core miss allocates
first (R43, R476). -/
def State.cachedWrite (s : State) (alloc first : Bool) (a : Nat) (bs : List Byte) : Bool × State :=
  let go (s : State) : Bool × State :=
    match s.findWay a with
    | none => s.memWritePiece a bs
    | some w => s.writeLine w a bs
  match s.findWay a with
  | some _ => go (s.countLookup true first a)
  | none =>
    let s1 := s.countLookup false first a
    go (if alloc then s1.cacheFill a else s1)

/-- Write one piece: refused where there is no memory; to memory in BYPASS; else through the cache, after what its tags
and the words written in part show. -/
def State.writePiece (s : State) (alloc first : Bool) (a : Nat) (bs : List Byte) : Bool × State :=
  if ! s.isMem a then (false, s)
  else if s.on LC_STAT_BYPASS then s.memWritePiece a bs
  else
    (s.settle a (wordsTouched a bs.length &&& ~~~(wordsWhole a bs.length))).cachedWrite alloc first a bs

/-- Read pieces in address order; a piece that cannot be read makes the whole access a bus error. -/
def State.readPieces (s : State) (alloc : Bool) : Bool → List (Nat × Nat) → Option (List Byte) × State
  | _, [] => (some [], s)
  | first, (a, n) :: r =>
    match s.readPiece alloc first a n with
    | (none, s1) => (none, s1)
    | (some bs, s1) =>
      match State.readPieces s1 alloc false r with
      | (none, s2) => (none, s2)
      | (some bs', s2) => (some (bs ++ bs'), s2)

/-- A write by any agent to the line of address `a` clears every reservation on it (R440) and invalidates it in every
level-1 data cache (R44). -/
def State.breakLinks (s : State) (a : Nat) : State :=
  { s.dropL1 a with linked := s.linked.filter fun p => p.2 ≠ a - a % 64 }

/-- The address of an access of `n` bytes at which a bus error is reported, if any piece of it cannot be written. -/
def State.writePieces (s : State) (alloc : Bool) : Bool → List (Nat × Nat) → List Byte → Option Nat × State
  | _, [], _ => (none, s)
  | first, (a, n) :: r, bs =>
    match s.writePiece alloc first a (bs.take n) with
    | (true, s1) => State.writePieces (s1.breakLinks a) alloc false r (bs.drop n)
    | (false, s1) =>
      match State.writePieces s1 alloc false r (bs.drop n) with
      | (_, s2) => (some a, s2)

/-- Read `n` bytes of SRAM or DRAM at `a` through the Lens cache; `none` is a bus error. -/
def State.busRead (s : State) (alloc : Bool) (a n : Nat) : Option (List Byte) × State :=
  s.readPieces alloc true (pieces n a n)

/-- Write bytes to SRAM or DRAM at `a` through the Lens cache, granule by granule; the answer is the address of the
first granule refused, if any (R493). -/
def State.busWrite (s : State) (alloc : Bool) (a : Nat) (bs : List Byte) : Option Nat × State :=
  s.writePieces alloc true (pieces bs.length a bs.length) bs

/-- The byte of SRAM or DRAM at `a` as every agent sees it now (R42), without the effects of an access: from the line
that holds it, or else from memory. -/
def State.byteAt (s : State) (a : Nat) : Byte :=
  match (if s.on LC_STAT_BYPASS then none else s.findWay a) with
  | none => s.memByte a
  | some w =>
    match s.lineAt (cacheSet a * 16 + w) with
    | some l => l.data.extractLsb' (8 * (a % 64)) 8
    | none => s.memByte a

/-! ### Level-1 data caches (R44, R480) -/

/-- Core `c` holds the line of address `a` in its level-1 data cache. -/
def State.l1Holds (s : State) (c a : Nat) : Bool := s.l1d.contains (c, a / 64)

/-- Drop one of core `c`'s level-1 data lines where it holds its 512 (32 KiB): the spec states no replacement, so which one
is free. -/
def State.l1Room (s : State) (c : Nat) : State :=
  let mine := s.l1d.filter fun p => p.1 == c
  if mine.length < 512 then s
  else { s.draw with l1d := s.l1d.erase (mine.getD (Config.freeNat s.free % mine.length) (c, 0)) }

/-- Core `c`'s level-1 data cache takes the line of address `a`, which the Lens cache holds without poison (R44). -/
def State.l1Fill (s : State) (c a : Nat) : State :=
  match (if s.on LC_STAT_BYPASS then none else s.findWay a) with
  | none => s
  | some w =>
    match s.lineAt (cacheSet a * 16 + w) with
    | none => s
    | some l =>
      if l.poison ≠ 0 ∨ s.l1Holds c a then s
      else { s.l1Room c with l1d := (c, a / 64) :: (s.l1Room c).l1d }

/-- A level-1 line of core `c`, of the instruction cache where `i`, shows a parity error (R480): it is counted. The line is
gone from its cache in `drop`. -/
def State.l1Parity (s : State) (c : Nat) (i : Bool) (line : Nat) (drop : State → State) : State :=
  if s.l1Err.contains (c, i, line) then
    (drop { s with l1Err := s.l1Err.filter (fun p => p != (c, i, line)) }).bump LC_CE_L1
  else s

/-- Core `c` loads `n` bytes, all within one line, of SRAM or DRAM: from its level-1 data cache, or else from the Lens
cache, whose line it then takes. -/
def State.l1Load (s : State) (c a n : Nat) : Option (List Byte) × State :=
  let s1 := s.l1Parity c false (a / 64) fun s => { s with l1d := s.l1d.filter fun p => p != (c, a / 64) }
  if s1.l1Holds c a then (some ((List.range n).map fun i => s1.byteAt (a + i)), s1)
  else
    match s1.busRead true a n with
    | (none, s2) => (none, s2)
    | (some bs, s2) => (some bs, s2.l1Fill c a)

/-- The bytes an agent would read at `a`, with a bus error read as no bytes, and the state after the read. -/
def State.fetchBytes (s : State) (a n : Nat) : List Byte × State :=
  match s.busRead false a n with
  | (some bs, s') => (bs, s')
  | (none, s') => ([], s')

end Sys2Proof.Machine
end

