-- ==== Sys2Proof/Machine/VitalWords.lean ====
section
/-! DEFINITION. Sys2Proof/Machine/VitalWords.lean: the vital words in three copies (R497), the reservations of WSEQ and JSEQ
(R498), and the commands VITAL_WORD_CHECK, JSEQ_WRITE and RESERVATION_COMMIT. -/
namespace Sys2Proof.Machine
open Sys2Proof

/-- The majority of three copies, if two agree (R497). -/
def VitalWord.majority (v : VitalWord) : Option Word :=
  if v.c0 = v.c1 ∨ v.c0 = v.c2 then some v.c0 else if v.c1 = v.c2 then some v.c1 else none

/-- The record of vital word `i`. -/
def State.vw (s : State) (i : Nat) : VitalWord := smGet {} s.vital i

/-- A write sets all three copies (R497). -/
def State.setVw (s : State) (i : Nat) (v : Word) : State :=
  { s with vital := smSet {} s.vital i { c0 := v, c1 := v, c2 := v, lost := false } }

/-- A Ledger or security word follows the value it holds (R497): it is written when that value changes, but a word whose
copies all differ stays as it is until it is rewritten. -/
def State.showVw (s : State) (i : Nat) (v : Word) : State :=
  match (s.vw i).majority with
  | some w => if w = v then s else s.setVw i v
  | none => s

/-- The value of vital word `i` as a number; 0 where no majority stands. -/
def State.vwNat (s : State) (i : Nat) : Nat := ((s.vw i).majority.getD 0).toNat

/-- The register that shows a Ledger word (R497): its field reads 0 while the word is lost. -/
def State.clearLedgerWord (s : State) (i : Nat) : State :=
  let s := s.put APR_CTL_LEN false
  match i with
  | 17 => ({ s with energy := { s.energy with outUj := 0 } }).wr APR_OUT_MJ 0
  | 18 => ({ s with energy := { s.energy with staged := 0 } }).wr APR_STAGE_STAGED 0
  | 19 => s.wr APR_RETR_MJ 0
  | 20 => s.wr APR_USABLE_MJ 0
  | 23 => s.wr APR_STAT_WAITING 0
  | _ => s

/-- All three copies of word `i` differ: the Vital words table (R497). -/
def State.vwLost (s : State) (i : Nat) : State :=
  let s := ((s.put MEM_STAT_VWUE true).wr MEM_VW_STAT_LAST i).event 0 .vitalWord 14 i
  let lost : State := { s with vital := smSet {} s.vital i { s.vw i with lost := true } }
  if i ≤ 15 then (s.setVw i (Config.freeWord s.free)).draw
  else if i = 16 then s.setVw 16 (s.reg SEC_STAT &&& 0x3FF)
  else if i ≤ 23 then lost.clearLedgerWord i
  else if i = 24 then s.setVw 24 s.va.plgen
  else if i = 25 then lost
  else if i = 26 then s.setVw 26 s.va.resvW
  else if i = 27 then s.setVw 27 s.va.resvJ
  else if i = 28 then s.setVw 28 s.va.bootCount
  else if i ≤ 31 then s.setVw i 0
  else lost

/-- Check word `i`: a copy that differs is rewritten and counted; three different copies are handled by the table. -/
def State.checkVw (s : State) (i : Nat) : State :=
  let v := s.vw i
  if v.lost ∨ (v.c0 = v.c1 ∧ v.c1 = v.c2) then s
  else match v.majority with
    | some w => ((s.setVw i w).bump MEM_VW_STAT_CE).put MEM_STAT_VWCE true
    | none => s.vwLost i

/-- VITAL_WORD_CHECK (R497): hardware checks all 64 words. -/
def vitalWordCheck (s : State) : State := forUpTo 64 (fun i s => s.checkVw i) s

/-- VITAL_WORD_CHECK. -/
def execVitalWordCheck (s : State) : Result := clocked s (vitalWordCheck s)

/-- A read of vital word `i`: its value, or none for a bus error while it is lost (R497). -/
def State.readVw (s : State) (i : Nat) : Option Word × State :=
  let s := s.checkVw i
  if (s.vw i).lost then (none, s) else ((s.vw i).majority, s)

/-- Where V less the value of word 26 or 27 falls below 2^23, the device starts the write of V + 2^24 (R498). -/
def State.reserveMore (s : State) (jseq : Bool) : State :=
  if jseq then
    if s.va.resvJ < s.vwNat 27 + 2 ^ 23 then { s with va := { s.va with writingJ := true } } else s
  else if s.va.resvW < s.vwNat 26 + 2 ^ 23 then { s with va := { s.va with writingW := true } }
  else s

/-- Draw the next WSEQ (R379, R466); none while the draw would reach its reservation (R498). -/
def State.drawWseq (s : State) : Option (Nat × State) :=
  let w := s.vwNat 26
  if w + 1 < s.va.resvW then some (w, ((s.setVw 26 (BitVec.ofNat 64 (w + 1))).setReg SEC_WSEQ (BitVec.ofNat 64 (w + 1))).reserveMore false)
  else none

/-- JSEQ_WRITE (R498): a value not above the current one is ignored; one that would reach the reservation is held until
the new reservation has committed. -/
def jseqWrite (v : Word) (s : State) : State :=
  if v.toNat ≤ s.vwNat 27 then s
  else if v.toNat < s.va.resvJ then (s.setVw 27 v).reserveMore true
  else { s with jseqHeld := s.jseqHeld ++ [v], va := { s.va with writingJ := true } }

/-- JSEQ_WRITE. -/
def execJseqWrite (v : Word) (s : State) : Result := clocked s (jseqWrite v s)

/-- A reservation commits (R498): the vital area holds the new reservation V + 2^24; held JSEQ writes are tried again. -/
def State.commitReservation (s : State) (jseq : Bool) : State :=
  if jseq then
    if s.va.writingJ then
      let held := s.jseqHeld
      let s : State := { s with va := { s.va with resvJ := s.va.resvJ + 2 ^ 24, writingJ := false }, jseqHeld := [] }
      held.foldl (fun s v => jseqWrite v s) s
    else s
  else if s.va.writingW then { s with va := { s.va with resvW := s.va.resvW + 2 ^ 24, writingW := false } }
  else s

end Sys2Proof.Machine
end

