-- ==== Sys2Proof/Machine/Ledger.lean ====
section
/-! DEFINITION. Sys2Proof/Machine/Ledger.lean: the Ledger's debits, credits and withdrawals, its tests and its events (R396 to R400,
R458 to R460). -/
namespace Sys2Proof.Machine
open Sys2Proof

/-- Replace what the energy unit holds besides its registers. -/
def State.setEnergy (s : State) (e : EnergySt) : State := { s with energy := e }

/-! ### Ledger events (R460) -/

/-- A Ledger event: handle, kind, cost, tag, ANG_WT. -/
def State.ledgerEntry (s : State) (h kind cost : Nat) (tag : Word) : Entry :=
  mkEntry [(0, 16, h), (16, 8, kind), (32, 32, cost), (64, 64, tag.toNat), (128, 64, s.wt)]

/-- An event for the core that issued the DEBIT. -/
def State.ledgerEvent (s : State) (h kind : Nat) (d : Debit) : State :=
  s.hwPush (688 + d.core) (s.ledgerEntry h kind d.cost d.tag)

/-- A device-wide event goes to every one of LP688 to LP703. -/
def State.ledgerAll (s : State) (kind : Nat) : State :=
  forUpTo 16 (fun c s => s.hwPush (688 + c) (s.ledgerEntry 0 kind 0 0)) s

/-! ### Reserve and staging tests (R396 to R398, R400) -/

/-- OUT + RETR + FIXED in µJ. -/
def State.committedUj (s : State) : Nat := s.energy.outUj + (s.rd APR_RETR_MJ + s.rd APR_FIXED_MJ) * 1000

/-- The test of R396 for a cost in mJ. -/
def State.reserveFits (s : State) (cost : Nat) : Bool := decide (s.committedUj + cost * 1000 ≤ s.rd APR_USABLE_MJ * 1000)

/-- The staging test of R398 for a number of sectors. -/
def State.stageFits (s : State) (nSect : Nat) : Bool :=
  decide (s.energy.staged + nSect * 4096 ≤ s.rd APR_STAGE_LIMIT * 2 ^ 20)

/-- The cost of a debit in mJ (R397). -/
def debitCost (seekMj sectUj nSeg nSect : Nat) : Nat := (nSeg * seekMj * 1000 + nSect * sectUj + 999) / 1000

/-- The cost of a debit at the values of APR_FLUSH. -/
def State.costOf (s : State) (nSeg nSect : Nat) : Nat := debitCost (s.rd APR_FLUSH_SEEK_MJ) (s.rd APR_FLUSH_SECT_UJ) nSeg nSect

/-- APR_OUT, APR_STAGE.STAGED, APR_HEAD and APR_STAT.WAITING show what the Ledger holds, and so do its vital words. -/
def State.showLedger (s : State) : State :=
  let e := s.energy
  let s := s.wr APR_OUT_MJ ((e.outUj + 999) / 1000)
  let s := s.wr APR_STAGE_STAGED ((e.staged + 2 ^ 20 - 1) / 2 ^ 20)
  let s := s.wrInt APR_HEAD_MJ (((s.rd APR_USABLE_MJ * 1000 : Nat) - (s.committedUj : Int)) / 1000)
  let s := s.wr APR_STAT_WAITING (min 65535 e.waiting.length)
  let s := (s.showVw 17 (BitVec.ofNat 64 e.outUj)).showVw 18 (BitVec.ofNat 64 e.staged)
  let s := (s.showVw 21 (BitVec.ofNat 64 (e.waiting.headD 0))).showVw 22 (BitVec.ofNat 64 (e.waiting.getLastD 0))
  s.showVw 23 (s.reg APR_STAT &&& 0x7F)

/-- DEFICIT sets where the test of R396 with cost 0 fails and clears where it holds (R400). -/
def State.checkDeficit (s : State) : State :=
  if s.reserveFits 0 then (if s.on APR_STAT_DEFICIT then (s.put APR_STAT_DEFICIT false).ledgerAll 5 else s)
  else if s.on APR_STAT_DEFICIT then s
  else ((s.put APR_STAT_DEFICIT true).event 2 .ledger 10 0).ledgerAll 4

/-! ### Debits, credits and withdrawals (R398, R399, R458, R459) -/

/-- The Ledger admits: LEN set, no freeze, no DEFICIT (R400, R405, R421). -/
def State.admitting (s : State) : Bool := s.on APR_CTL_LEN && ! s.on APR_STAT_FROZEN && ! s.on APR_STAT_DEFICIT

/-- The debit of `h` passes both tests now. -/
def State.debitFits (s : State) (d : Debit) : Bool := s.admitting && s.reserveFits d.cost && s.stageFits d.nSect

/-- Admit the debit of handle `h`: OUT and STAGED rise at once, its event is pushed. -/
def State.admitDebit (s : State) (h : Nat) (d : Debit) : State :=
  let e := s.energy
  let s := s.setEnergy { e with
    debits := smPut e.debits h { d with admitted := true, left := d.nSect, leftUj := d.cost * 1000 }
    outUj := e.outUj + d.cost * 1000, staged := e.staged + d.nSect * 4096 }
  (s.ledgerEvent h 1 d).showLedger

/-- The debit under a handle. -/
def State.debitOf (s : State) (h : Nat) : Option Debit := (s.energy.debits.find? fun p => p.1 == h).map Prod.snd

/-- DEBIT_ADMITTED (R398): the debit at the head of the queue fits both tests and is admitted. -/
def debitAdmitted (s : State) : State :=
  match s.energy.waiting with
  | [] => s
  | h :: r =>
    match s.debitOf h with
    | none => s
    | some d => if s.debitFits d then (s.setEnergy { s.energy with waiting := r }).admitDebit h d else s

/-- DEBIT_ADMITTED. -/
def execDebitAdmitted (s : State) : Result := clocked s (debitAdmitted s)

/-- DEBIT_WAIT_EVENT (R398): a debit has waited 10 s; one event is recorded and it goes on waiting. -/
def debitWaitEvent (handle : BitVec 16) (s : State) : State :=
  let h := handle.toNat
  match s.debitOf h with
  | none => s
  | some d =>
    if d.admitted ∨ d.noted then s
    else ((s.setEnergy { s.energy with debits := smPut s.energy.debits h { d with noted := true } }).event 2 .debitWait 10 0).ledgerEvent
      h 3 d

/-- DEBIT_WAIT_EVENT. -/
def execDebitWaitEvent (handle : BitVec 16) (s : State) : Result := clocked s (debitWaitEvent handle s)

/-- The lowest number not a key of a map with rising keys, counting from `n`. -/
def lowestFree {α : Type} : SMap α → Nat → Nat
  | [], n => n
  | (k, _) :: r, n => if k = n then lowestFree r (n + 1) else n

/-- The outcomes of DEBIT (R458). -/
inductive DebitOutcome where
  | admitted (h : Nat) | queued (h : Nat) | refused | noHandle
  deriving DecidableEq, Repr

/-- Present a debit (R458, R398). -/
def State.debit (s : State) (nSeg nSect : Nat) (tag : Word) (core : Nat) (noWait : Bool) : DebitOutcome × State :=
  let d : Debit := { nSeg := nSeg, nSect := nSect, cost := s.costOf nSeg nSect, tag := tag, core := core, since := s.now }
  let now := s.energy.waiting.isEmpty && s.debitFits d
  let h := lowestFree s.energy.debits 0
  if noWait && ! now then (.refused, s)
  else if 65536 ≤ h then (.noHandle, s)
  else if now then (.admitted h, s.admitDebit h d)
  else (.queued h, (s.setEnergy { s.energy with debits := smPut s.energy.debits h d, waiting := s.energy.waiting ++ [h] }).showLedger)

/-- Take µJ and bytes off OUT and STAGED; more than OUT sets it to 0 with an event on the fault channel (R399). -/
def State.releaseUj (s : State) (uj bytes : Nat) : State :=
  let e := s.energy
  let s := s.setEnergy { e with outUj := e.outUj - uj, staged := e.staged - bytes }
  let s := if e.outUj < uj then s.event 0 .ledger 10 0 else s
  s.checkDeficit.showLedger

/-- CREDIT of an admitted handle (R459): the sectors left, and the state; none where the handle is not admitted. -/
def State.credit (s : State) (h n : Nat) : Option Nat × State :=
  match s.debitOf h with
  | none => (none, s)
  | some d =>
    if ¬ d.admitted then (none, s)
    else
      let s := if d.left < n then s.event 0 .ledger 10 0 else s
      let m := min n d.left
      let uj := if m = d.left then d.leftUj else min d.leftUj (m * s.rd APR_FLUSH_SECT_UJ)
      let e := s.energy
      let rest := if m = d.left then smErase e.debits h
        else smPut e.debits h { d with left := d.left - m, leftUj := d.leftUj - uj }
      let s := s.setEnergy { e with debits := rest }
      (some (d.left - m), s.releaseUj uj (m * 4096))

/-- All that is left of an admitted debit is credited (R399). -/
def State.creditAll (s : State) (h : Nat) : State := match s.debitOf h with | some d => (s.credit h d.left).2 | none => s

/-- WITHDRAW (R459): a queued debit leaves the queue, an admitted one is released whole with its event; false where the
handle was free. -/
def State.withdraw (s : State) (h : Nat) : Bool × State :=
  match s.debitOf h with
  | none => (false, s)
  | some d =>
    let e := s.energy
    let s := s.setEnergy { e with debits := smErase e.debits h, waiting := e.waiting.filter (· ≠ h) }
    if d.admitted then (true, (s.releaseUj d.leftUj (d.left * 4096)).ledgerEvent h 2 d) else (true, s.showLedger)

end Sys2Proof.Machine
end

