-- ==== Sys2Proof/Machine/Roles.lean ====
section
/-! DEFINITION. Sys2Proof/Machine/Roles.lean: the surfaces that carry the Mirror journal and the dirty-region bitmap (R276, R279,
R290): journal pairs, bitmap homes, and the Ledger debits of journal sectors (R397). When pairs and homes are chosen and which
surfaces are taken is the model's choice within those rules (DESIGN CHOICE, log entry 106). -/
namespace Sys2Proof.Machine
open Sys2Proof

/-- Replace what firmware keeps of redundancy. -/
def State.setRed (s : State) (r : RedSt) : State := { s with red := r }

/-- Member states (R293). -/
def armActive : Nat := 0
def armSuspect : Nat := 1
def armProbation : Nat := 2
def armFailed : Nat := 3
def armAbsent : Nat := 4

/-- Heads that the identity block declares on actuator `a` of bay `b` (R103). -/
def State.headCount (s : State) (b a : Nat) : Nat := if a = 0 then (s.beamS b).id.heads0 else (s.beamS b).id.heads1

/-- A head port is retired (R233). -/
def State.isRetired (s : State) (p : Nat) : Bool := (s.lifeR p).retired

/-- A surface is in service: an ACTIVE arm, its head not retired, and formatted (R253, R279). -/
def State.surfaceOk (s : State) (p : Nat) : Bool :=
  s.rd (PRZ_ARM_STATE (hportSlice p)) == armActive && ! s.isRetired p && ! s.red.unformatted.contains p

/-- A surface may carry a role: in service, and its bay not below A1 (R412). -/
def State.roleOk (s : State) (p : Nat) : Bool := s.surfaceOk p && ! s.red.asleep.contains (hportBay p)

/-- The first surface of each bay but those to avoid that may carry a role (R276). -/
def State.freeSurfaces (s : State) (avoid : List Nat) : List Nat :=
  ((List.range s.bayCount).filter fun b => ! avoid.contains b).filterMap fun b =>
    (List.range 32).map (fun i => b * 32 + i) |>.find? fun p => hportNamesHead p
      && decide (hportHead p < s.headCount b (hportAct p)) && s.roleOk p

/-! ### Journal sectors and the Ledger (R397, R399) -/

/-- A journal sector is debited when its first record is made (R397): one segment of one sector, tagged with the record's JSEQ.
The answer is its handle; none where no handle is free. -/
def State.sectorDebit (s : State) (jseq : Nat) : Option Nat × State :=
  match s.debit 1 1 (BitVec.ofNat 64 jseq) 0 false with
  | (.admitted h, s) => (some h, s)
  | (.queued h, s) => (some h, s)
  | (_, s) => (none, s)

/-- A journal sector no longer needs flushing (R399): its debit is credited, or leaves the queue. -/
def State.sectorDone (s : State) (h : Nat) : State :=
  match (s.credit h 1).1 with
  | some _ => (s.credit h 1).2
  | none => (s.withdraw h).2

/-! ### Journal pairs (R276, R279) -/

/-- Pair `i` takes two surfaces; the vital area keeps which. -/
def State.putPair (s : State) (i : Nat) (p : JPair) : State :=
  { s.setRed { s.red with pairs := smPut s.red.pairs i p } with va := { s.va with pairs := smPut s.va.pairs i (p.s0, p.s1) } }

/-- The bays of the pairs other than `i`. -/
def State.pairBays (s : State) (i : Nat) : List Nat :=
  (s.red.pairs.filter fun q => q.1 != i).flatMap fun q => [hportBay q.2.s0, hportBay q.2.s1]

/-- Two surfaces of distinct bays for pair `i`: those that the vital area names, while they are in service and no other pair
has their bays; else bays of no other pair where there are two, else any. -/
def State.choosePair (s : State) (i : Nat) : Option (Nat × Nat) :=
  let avoid := s.pairBays i
  let free := s.freeSurfaces avoid
  let pick := if 2 ≤ free.length then free else s.freeSurfaces []
  let fresh := match pick with | a :: b :: _ => some (a, b) | _ => none
  match s.va.pairs.find? fun q => q.1 == i with
  | some (_, a, b) => if s.roleOk a ∧ s.roleOk b ∧ ¬ avoid.contains (hportBay a) ∧ ¬ avoid.contains (hportBay b) then some (a, b) else fresh
  | none => fresh

/-- A pair that is broken, or shares a bay it need not share, is replaced by one on other surfaces (R276, R279), and takes over
the records that had gone to it from the newest committed root on. -/
def State.newPair (s : State) (i : Nat) : State :=
  let p := smGet {} s.red.pairs i
  let free := s.freeSurfaces (s.pairBays i)
  match if 2 ≤ free.length then free else s.freeSurfaces [] with
  | a :: b :: _ =>
    let again := s.red.journal.filter fun r => decide (s.red.replayFrom ≤ r.jseq) && (p.sector.contains r || decide (p.prev ≤ r.jseq))
    let s := p.debits.foldl (fun s h => s.sectorDone h) s
    let d := (List.range ((again.length + 31) / 32)).foldl (fun (t : List Nat × State) n =>
      let q := t.2.sectorDebit (again.getD (32 * n) {}).jseq
      (t.1 ++ q.1.toList, q.2)) ([], s)
    d.2.putPair i { s0 := a, s1 := b, sector := again, debits := d.1 }
  | _ => s

/-- PRZ_JCTL.JPAIRS within its range, 2 to 16. -/
def State.pairCount (s : State) : Nat := min 16 (max 2 (s.rd PRZ_JCTL_JPAIRS))

/-- Pair `i` shares a bay with a pair of a lower number. -/
def State.pairShares (s : State) (i : Nat) (p : JPair) : Bool :=
  (s.red.pairs.filter fun q => decide (q.1 < i)).any fun q =>
    [hportBay q.2.s0, hportBay q.2.s1].any fun b => b == hportBay p.s0 || b == hportBay p.s1

/-- Bays with an ACTIVE arm. -/
def State.activeBays (s : State) : Nat :=
  ((List.range s.bayCount).filter fun b => s.rd (PRZ_ARM_STATE (2 * b)) == armActive || s.rd (PRZ_ARM_STATE (2 * b + 1)) == armActive).length

/-- Pair `i` is chosen where there is none, and replaced where it is broken or shares a bay although there are bays enough
(R276, R279). -/
def State.checkPair (s : State) (i : Nat) : State :=
  match s.red.pairs.find? fun q => q.1 == i with
  | none => match s.choosePair i with
    | some (a, b) => s.putPair i { s0 := a, s1 := b }
    | none => s
  | some (_, p) =>
    if ! (s.roleOk p.s0 && s.roleOk p.s1) || (decide (2 * s.pairCount ≤ s.activeBays) && s.pairShares i p) then s.newPair i else s

/-! ### Bitmap homes (R290) -/

/-- Where sector `t` of the bitmap stands or goes on a home: the copy alternates with the sector's generation. -/
def State.bmapSector (s : State) (t : Nat) : Nat := 20496 + 256 * (smGet 0 s.red.bmapGen t % 2) + t

/-- A bitmap sector goes to every home, to the copy that does not hold the newer valid one. -/
def State.writeBmap (s : State) (t : Nat) : State :=
  let s := s.setRed { s.red with
    bmapGen := smPut s.red.bmapGen t (smGet 0 s.red.bmapGen t + 1), bmapStale := s.red.bmapStale.filter (· ≠ t) }
  s.red.homes.foldl (fun s p => s.emit (.landing p (s.bmapSector t) 6)) s

/-- The sector of a bitmap bit goes to every home (R291). -/
def State.writeBitmap (s : State) (bit : Nat) : State := s.writeBmap (bit % 2 ^ 23 / 32768)

/-- The homes are three surfaces of three distinct bays: those in service stay, and each new one gets all 256 sectors. -/
def State.checkHomes (s : State) : State :=
  let keep := (if s.red.homes.isEmpty then s.va.homes else s.red.homes).filter s.roleOk
  let add := (s.freeSurfaces (keep.map hportBay)).take (3 - keep.length)
  let s : State := { s.setRed { s.red with homes := keep ++ add } with va := { s.va with homes := keep ++ add } }
  add.foldl (fun s p => forUpTo 256 (fun t s => s.emit (.landing p (s.bmapSector t) 6)) s) s

/-- Pairs and homes are kept on surfaces in service, from the end of recovery, or a format of the device, on. -/
def State.checkRoles (s : State) : State :=
  if s.red.up then (forUpTo s.pairCount (fun i s => s.checkPair i) s).checkHomes else s

/-! ### Bays that go below A1 (R412) -/

/-- The bay holds a surface of a journal pair or a bitmap home. -/
def State.roleBay (s : State) (b : Nat) : Bool :=
  s.red.pairs.any (fun p => hportBay p.2.s0 == b || hportBay p.2.s1 == b) || s.red.homes.any fun p => hportBay p == b

/-- A bay that is to go below A1 has its roles moved to other bays first; where there is no other bay they stay. -/
def State.vacate (s : State) (b : Nat) : State :=
  if ¬ s.roleBay b then s
  else
    let t := (s.setRed { s.red with asleep := b :: s.red.asleep.filter (· ≠ b) }).checkRoles
    if t.roleBay b ∨ t.red.homes.length < s.red.homes.length then s else t

/-- A bay is below A1, or above it again. -/
def State.noteSleep (s : State) (b : Nat) (v : Bool) : State :=
  s.setRed { s.red with asleep := if v then b :: s.red.asleep.filter (· ≠ b) else s.red.asleep.filter (· ≠ b) }

end Sys2Proof.Machine
end

