-- ==== Sys2Proof/Machine/Vital.lean ====
section
/-! DEFINITION. Sys2Proof/Machine/Vital.lean: journal records (R275, R276), with the Ledger debits of their sectors (R397), and the
member states of arms (R281, R293). -/
namespace Sys2Proof.Machine
open Sys2Proof

/-! ### Member states of arms (R281, R293, R294) -/

/-- The bays of a band set's members. -/
def bsBays (x : BandSet) : List Nat := x.members.map fun m => hportBay (m / 2 ^ 15)

/-- The journal pair for a record (R276): one neither of whose bays holds a member of the record's band set; otherwise,
and for DELTA and EPOCH records, any pair, here the lowest-numbered. -/
def State.pairFor (s : State) (r : JRec) : Option (Nat × JPair) :=
  let bays := match s.red.sets.find? fun p => p.1 == r.bsid with
    | some (_, x) => if r.ty = 3 ∨ r.ty = 6 then [] else (bsBays x)
    | none => []
  match s.red.pairs.find? fun p => ! bays.contains (hportBay p.2.s0) && ! bays.contains (hportBay p.2.s1) with
  | some p => some p
  | none => s.red.pairs.head?

/-- PREV of the next record of a pair (R275): the first record of a sector names the first record of the sector before. -/
def JPair.nextPrev (p : JPair) : Nat :=
  let n := p.sector.length
  if n % 32 ≠ 0 then 0 else if n = 0 then p.prev else (p.sector.getD (n - 32) {}).jseq

/-- A record with its JSEQ takes its place in the DRAM ring and in the open sector of its pair (R276, R397). -/
def State.journalRecord (s : State) (r : JRec) : State :=
  match s.pairFor r with
  | none => { s with red := { s.red with journal := s.red.journal ++ [r] } }
  | some (i, p) =>
    let r := { r with prev := p.nextPrev }
    let d := if p.sector.length % 32 = 0 then s.sectorDebit r.jseq else (none, s)
    { d.2 with red := { d.2.red with
        journal := d.2.red.journal ++ [r]
        pairs := smPut d.2.red.pairs i { p with sector := p.sector ++ [r], debits := p.debits ++ d.1.toList } } }

/-- A journal record (R275, R276): the next JSEQ and the present layout epoch. -/
def State.record (s : State) (r : JRec) : State :=
  (jseqWrite (BitVec.ofNat 64 (s.vwNat 27 + 1)) s).journalRecord { r with jseq := s.vwNat 27, lepoch := s.rd PRZ_LEPOCH_EPOCH }

/-- A change of metadata is journalled as a DELTA record (R271). -/
def State.delta (s : State) (d : Delta) : State :=
  let b := match d with | .set b _ => b | _ => 0
  s.record { ty := 3, bsid := b, item := some d }

/-- LEPOCH rises by 1 (R281): an EPOCH record of the change is made first; then the register and vital word 25. -/
def State.raiseEpoch (s : State) (d : Option Delta) : State :=
  let s := s.record { ty := 6, item := d }
  let e := (s.rd PRZ_LEPOCH_EPOCH + 1) % 2 ^ 32
  (s.wr PRZ_LEPOCH_EPOCH e).setVw 25 (BitVec.ofNat 64 e)

/-- Those of the arms `ks` whose state satisfies `p` take state `st`; one cause that changes both arms of a bay is one
change of LEPOCH (R281). Journal pairs and bitmap homes leave arms that are no longer in service (R279, R290). -/
def State.changeArms (s : State) (ks : List Nat) (p : Nat → Bool) (st : Nat) : State :=
  let l := ks.filter fun k => p (s.rd (PRZ_ARM_STATE k)) && s.rd (PRZ_ARM_STATE k) != st
  if l.isEmpty then s
  else (l.foldl (fun s k => s.wr (PRZ_ARM_STATE k) st) (s.raiseEpoch (some (.arms l st)))).checkRoles

/-- Arms in service become SUSPECT (R294). -/
def State.suspectArms (s : State) (ks : List Nat) : State := s.changeArms ks (fun x => x == armActive || x == armProbation) armSuspect

/-- Arms with an HDA become FAILED (R294). -/
def State.failArms (s : State) (ks : List Nat) : State := s.changeArms ks (fun x => x != armAbsent) armFailed

end Sys2Proof.Machine
end

