-- ==== Sys2Proof/Machine/Cache.lean ====
section
/-! DEFINITION. Sys2Proof/Machine/Cache.lean: Lens-cache fills, way locking, range operations, way power-down, disabling
and enabling, and the memory scrubber (R476 to R496). The engines of R483, R485 and R486 do their work at the command
that ends them (log entry 41). -/
namespace Sys2Proof.Machine
open Sys2Proof

/-- A code finds what it finds on the granule of `a` (R491, R492): soft errors add to what the granule already shows. -/
def State.codeFound (s : State) (a : Nat) (c : CodeCheck) : State :=
  let g := granBase a
  let n := match c with
    | .clean => 0
    | .correctable => 1
    | .uncorrectable => 2
  { s with memErr := smSet 0 s.memErr g (max n (smGet 0 s.memErr g)) }

/-- CACHE_FILL (R478, R479): the fill of the line of `addr` for a Lens-core miss completes; `found` is what the code of
the granule at `addr` shows. Granules that read uncorrectable are installed poisoned, and an event is recorded. -/
def cacheFill (addr : BitVec 40) (found : CodeCheck) (s : State) : State :=
  let a := addr.toNat
  if ! s.isMem a || s.on LC_STAT_BYPASS || (s.findWay a).isSome then s else (s.codeFound a found).cacheFill a

/-- CACHE_FILL. -/
def execCacheFill (addr : BitVec 40) (found : CodeCheck) (s : State) : Result := clocked s (cacheFill addr found s)

/-! ### Way locking (R481) -/

/-- Group `g` is off or going off. -/
def State.groupOff (s : State) (g : Nat) : Bool := (s.rd LC_PWR_STATE).testBit g || (s.rd LC_PWR_OFF).testBit g

/-- The ways that would be allocable with a lock mask and a set of groups off. -/
def allocableCount (mask : Nat) (off : Nat → Bool) : Nat :=
  countTrue ((List.range 16).map fun w => ! mask.testBit w && ! off (w / 4))

/-- WAY_LOCK (R481): LC_LOCK.MASK is written, or the write is ignored with LOCKERR. -/
def wayLock (mask : BitVec 16) (s : State) : State :=
  let m := mask.toNat
  let locked := countTrue ((List.range 16).map m.testBit)
  if 12 < locked ∨ ((List.range 16).any fun w => m.testBit w && s.groupOff (w / 4)) ∨ allocableCount m s.groupOff < 4
    ∨ s.on LC_STAT_BUSY
  then s.put LC_STAT_LOCKERR true
  else s.wr LC_LOCK_MASK m

/-- WAY_LOCK. -/
def execWayLock (mask : BitVec 16) (s : State) : Result := clocked s (wayLock mask s)

/-! ### Range operations (R482 to R484) -/

/-- GO of operation `op` is refused (R483). -/
def State.rangeRefused (s : State) (op way : Nat) : Bool :=
  let base := s.rd LC_RANGE_BASE_ADDR
  let len := s.rd LC_RANGE_LEN_BYTES
  s.on LC_RANGE_BUSY || s.on LC_STAT_BUSY || base % 64 != 0 || len % 64 != 0 || decide (len < 64)
    || op == 0 || decide (4 < op)
    || (op == 4 && (decide (2 ^ 19 < len) || (s.rd LC_PWR_STATE).testBit (way / 4)))

/-- GO is written (R483): BUSY sets and the skip count clears, or RERR sets. -/
def State.rangeGo (s : State) (op : Nat) (incl : Bool) (way : Nat) : State :=
  if s.rangeRefused op way then s.put LC_STAT_RERR true
  else
    let s := ((s.wr LC_RANGE_OP op).put LC_RANGE_INCL_LOCKED incl).wr LC_RANGE_WAY way
    (s.put LC_RANGE_BUSY true).wr LC_RANGE_SKIP_COUNT 0

/-- CLEAN (R482). -/
def rangeClean (inclLocked : Bool) (s : State) : State := s.rangeGo 1 inclLocked (s.rd LC_RANGE_WAY)
/-- CLEAN. -/
def execRangeClean (inclLocked : Bool) (s : State) : Result := clocked s (rangeClean inclLocked s)

/-- INVALIDATE (R482). -/
def rangeInvalidate (inclLocked : Bool) (s : State) : State := s.rangeGo 2 inclLocked (s.rd LC_RANGE_WAY)
/-- INVALIDATE. -/
def execRangeInvalidate (inclLocked : Bool) (s : State) : Result := clocked s (rangeInvalidate inclLocked s)

/-- CLEAN_INV (R482). -/
def rangeCleanInv (inclLocked : Bool) (s : State) : State := s.rangeGo 3 inclLocked (s.rd LC_RANGE_WAY)
/-- CLEAN_INV. -/
def execRangeCleanInv (inclLocked : Bool) (s : State) : Result := clocked s (rangeCleanInv inclLocked s)

/-- PRELOAD (R482). -/
def rangePreload (inclLocked : Bool) (way : Fin 16) (s : State) : State := s.rangeGo 4 inclLocked way.val
/-- PRELOAD. -/
def execRangePreload (inclLocked : Bool) (way : Fin 16) (s : State) : Result := clocked s (rangePreload inclLocked way s)

/-- The range engine treats the cached line under `key` (R482). -/
def State.rangeLine (s : State) (op key : Nat) : State :=
  if op = 1 then s.cleanLine key else if op = 2 then s.dropLine key else s.evictLine key

/-- CLEAN, INVALIDATE and CLEAN_INV over every cached line of the range; lines in locked ways are skipped and counted
unless INCL_LOCKED is 1 (R482, R484). -/
def State.rangeWalk (s : State) : State :=
  let base := s.rd LC_RANGE_BASE_ADDR
  let lim := base + s.rd LC_RANGE_LEN_BYTES
  let op := s.rd LC_RANGE_OP
  let mask := s.rd LC_LOCK_MASK
  let skip := ! s.on LC_RANGE_INCL_LOCKED
  s.cache.foldl (fun s p =>
    let a := lineAddr p.1 p.2.tag
    if a < base ∨ lim ≤ a then s
    else if skip ∧ mask.testBit (p.1 % 16) then s.bump LC_RANGE_SKIP_COUNT
    else s.rangeLine op p.1) s

/-- PRELOAD of the line at `a` into the chosen way, where it is present nowhere in its set (R482). -/
def State.preloadLine (s : State) (a : Nat) : State :=
  if ! s.isMem a || s.on LC_STAT_BYPASS || (s.findWay a).isSome then s else s.fillInto a (s.rd LC_RANGE_WAY)

/-- RANGE_OPERATION_DONE (R483, R484): the last line is done, BUSY clears; skipped lines set SKIPEV with one event. -/
def rangeOperationDone (s : State) : State :=
  if ! s.on LC_RANGE_BUSY then s
  else
    let base := s.rd LC_RANGE_BASE_ADDR
    let s := if s.rd LC_RANGE_OP = 4 then forUpTo (s.rd LC_RANGE_LEN_BYTES / 64) (fun i s => s.preloadLine (base + 64 * i)) s
      else s.rangeWalk
    let s := s.put LC_RANGE_BUSY false
    if s.rd LC_RANGE_SKIP_COUNT = 0 then s else (s.put LC_STAT_SKIPEV true).event 12 .cacheError 0 0

/-- RANGE_OPERATION_DONE. -/
def execRangeOperationDone (s : State) : Result := clocked s (rangeOperationDone s)

/-! ### Way power-down (R485) -/

/-- A change of LC_PWR.OFF[g] is refused (R485). -/
def State.groupRefused (s : State) (g : Nat) (off : Bool) : Bool :=
  s.on LC_PWR_PBUSY || s.on LC_STAT_BUSY
    || (off && (((List.range 4).any fun i => (s.rd LC_LOCK_MASK).testBit (4 * g + i))
      || decide (allocableCount (s.rd LC_LOCK_MASK) (fun x => x == g || s.groupOff x) < 4)))

/-- LC_PWR.OFF[g] is written `off`. -/
def State.groupChange (s : State) (g : Nat) (off : Bool) : State :=
  if (s.rd LC_PWR_OFF).testBit g = off then s
  else if s.groupRefused g off then s.put LC_STAT_PWRERR true
  else (s.wr LC_PWR_OFF (if off then s.rd LC_PWR_OFF + 2 ^ g else s.rd LC_PWR_OFF - 2 ^ g)).put LC_PWR_PBUSY true

/-- WAY_GROUP_OFF (R485). -/
def wayGroupOff (g : Fin 4) (s : State) : State := s.groupChange g.val true
/-- WAY_GROUP_OFF. -/
def execWayGroupOff (g : Fin 4) (s : State) : Result := clocked s (wayGroupOff g s)

/-- WAY_GROUP_ON (R485). -/
def wayGroupOn (g : Fin 4) (s : State) : State := s.groupChange g.val false
/-- WAY_GROUP_ON. -/
def execWayGroupOn (g : Fin 4) (s : State) : Result := clocked s (wayGroupOn g s)

/-- The lines of group `g` that the cache holds. -/
def State.groupLines (s : State) (g : Nat) : List Nat := (s.cache.map Prod.fst).filter fun k => k % 16 / 4 == g

/-- WAY_GROUP_CHANGE_DONE (R485): the lines of a group going off are cleaned and dropped and it switches off; a group
going on has its lines invalid; STATE and PBUSY follow. -/
def wayGroupChangeDone (s : State) : State :=
  if ! s.on LC_PWR_PBUSY then s
  else
    let s := (List.range 4).foldl (fun s g =>
      if (s.rd LC_PWR_OFF).testBit g ∧ ! (s.rd LC_PWR_STATE).testBit g then (s.groupLines g).foldl (fun s k => s.evictLine k) s
      else s) s
    (s.wr LC_PWR_STATE (s.rd LC_PWR_OFF)).put LC_PWR_PBUSY false

/-- WAY_GROUP_CHANGE_DONE. -/
def execWayGroupChangeDone (s : State) : Result := clocked s (wayGroupChangeDone s)

/-! ### Disabling and enabling (R486, R487) -/

/-- CACHE_DISABLE (R486): 0 is written to LC_CTL.EN. -/
def cacheDisable (s : State) : State :=
  if s.on LC_STAT_BYPASS ∨ s.on LC_STAT_BUSY ∨ ! s.on LC_CTL_EN then s
  else { (s.put LC_CTL_EN false).put LC_STAT_BUSY true with cacheBusy := .disabling }

/-- CACHE_DISABLE. -/
def execCacheDisable (s : State) : Result := clocked s (cacheDisable s)

/-- CACHE_DISABLE_DONE (R486): every dirty line has been cleaned; all lines drop, LC_LOCK clears, BYPASS sets. -/
def cacheDisableDone (s : State) : State :=
  if s.cacheBusy ≠ .disabling then s
  else
    let s := (s.cache.map Prod.fst).foldl (fun s k => s.cleanLine k) s
    let s := ((s.wr LC_LOCK_MASK 0).put LC_STAT_BYPASS true).put LC_STAT_BUSY false
    { s with cache := [], arrayErr := [], cacheBusy := .idle, l1d := [] }

/-- CACHE_DISABLE_DONE. -/
def execCacheDisableDone (s : State) : Result := clocked s (cacheDisableDone s)

/-- CACHE_ENABLE (R486, R487): 1 is written to LC_CTL.EN; while BUSY it is ignored and sets CTLERR. -/
def cacheEnable (s : State) : State :=
  if s.on LC_STAT_BUSY then s.put LC_STAT_CTLERR true
  else if ! s.on LC_STAT_BYPASS then s
  else { (s.put LC_CTL_EN true).put LC_STAT_BUSY true with cacheBusy := .enabling }

/-- CACHE_ENABLE. -/
def execCacheEnable (s : State) : Result := clocked s (cacheEnable s)

/-- CACHE_ENABLE_DONE (R487): the lines are invalid, the pseudo-LRU bits clear, and allocation begins. -/
def cacheEnableDone (s : State) : State :=
  if s.cacheBusy ≠ .enabling then s
  else { (s.put LC_STAT_BYPASS false).put LC_STAT_BUSY false with cache := [], plru := [], arrayErr := [], cacheBusy := .idle, l1d := [] }

/-- CACHE_ENABLE_DONE. -/
def execCacheEnableDone (s : State) : Result := clocked s (cacheEnableDone s)

/-! ### Scrubbing (R494) -/

/-- MEMORY_SCRUB (R494): the scrubber reads the granule of `addr`, whose code shows `found`. -/
def memoryScrub (addr : BitVec 40) (found : CodeCheck) (s : State) : State :=
  let g := granBase addr.toNat
  if ! s.on MEM_SCRUB_EN ∨ ! s.isMem addr.toNat then s
  else
    let s := s.codeFound g found
    match smGet 0 s.memErr g with
    | 0 => s
    | 1 => s.memCorrected g 2
    | _ =>
      let seen := s.scrubSeen.filter fun x => smGet 0 s.memErr x == 2
      let s := if isSram g then s.bump MEM_UE_SRAM else s.bump MEM_UE_DRAM
      let s := (s.put MEM_STAT_UEEV true).memErrAddr g 2 true
      if seen.contains g then { s with scrubSeen := seen } else { s.event 12 .memoryError 0 0 with scrubSeen := g :: seen }

/-- MEMORY_SCRUB. -/
def execMemoryScrub (addr : BitVec 40) (found : CodeCheck) (s : State) : Result := clocked s (memoryScrub addr found s)

end Sys2Proof.Machine
end

