-- ==== Sys2Proof/Machine/Gate.lean ====
section
/-! DEFINITION. Sys2Proof/Machine/Gate.lean: what the angle, link, slice, servo and Facet units share: control words for
a bay's bridge (R81, R82), the track format (R108 to R112), and the end of a write on a fault (R124). -/
namespace Sys2Proof.Machine
open Sys2Proof

/-! ### Facets by number (R139) -/

/-- The number of a Facet in the order of R139: slices 0 to 63, Reticle engines 2b then 2b + 1, commutation engines. -/
def facetNo : FacetId → Nat
  | .slice k => k.val
  | .reticle k => 64 + 32 * (k.val % 2) + k.val / 2
  | .comm b => 128 + b.val

/-- The base address of a Facet's block (R139). -/
def facetBase : FacetId → Nat
  | .slice k => 0x20008000 + k.val * 0x10000
  | .reticle k => 0x20404000 + k.val / 2 * 0x10000 + k.val % 2 * 0x4000
  | .comm b => 0x2040C000 + b.val * 0x10000

/-- The base address of the Facet block of slice `k`, of Reticle engine `k`, of commutation engine `b`. -/
def sliceFct (k : Nat) : Nat := 0x20008000 + k * 0x10000
def reticleFct (k : Nat) : Nat := 0x20404000 + k / 2 * 0x10000 + k % 2 * 0x4000
def commFct (b : Nat) : Nat := 0x2040C000 + b * 0x10000

/-- A micro-trap cause becomes pending in the Facet whose block lies at `blk` (R149). -/
def State.facetCause (s : State) (blk n : Nat) : State :=
  s.wr (FCT_TPEND_PEND blk) (s.rd (FCT_TPEND_PEND blk) ||| 2 ^ n)

/-! ### Control words (R81, R82) -/

/-- An 8-byte control word: class, actuator, head or chunk index, TAG and 48-bit payload. -/
def ctlWord (cls a h tag payload : Nat) : BitVec 64 :=
  BitVec.ofNat 64 (cls % 16 * 16 + a % 2 * 8 + h % 16 * 4096 + tag % 16 * 256 + payload % 2 ^ 48 * 65536)

/-- The class, actuator, TAG and payload of a control word. -/
def ctlClass (w : BitVec 64) : Nat := bitsOf w 4 4
def ctlAct (w : BitVec 64) : Nat := bitsOf w 3 1
def ctlHead (w : BitVec 64) : Nat := bitsOf w 12 4
def ctlTag (w : BitVec 64) : Nat := bitsOf w 8 4
def ctlPayload (w : BitVec 64) : Nat := bitsOf w 16 48

/-- Queue immediate safety words for actuator `a` of bay `b`: write-gate close and laser 0 (R84). -/
def State.queueSafety (s : State) (b a h : Nat) : State :=
  s.setBeam b { s.beamS b with safety := (s.beamS b).safety ++ [ctlWord 1 a h 0 0, ctlWord 2 a h 0 0] }

/-- Queue a timed word that fell due (R84). -/
def State.queueTimed (s : State) (b : Nat) (w : BitVec 64) : State :=
  s.setBeam b { s.beamS b with timed := (s.beamS b).timed ++ [w] }

/-! ### Action slots (R58 to R61, R121, R456) -/

/-- The source code of an outcome (R456). -/
def outcomeCode : ActionOutcome → Nat
  | .fired => 0 | .late => 1 | .angleLost => 2 | .notWok => 3 | .rebase => 4 | .cancelled => 5 | .none => 15

/-- The class number of an action (R454). -/
def classCode : ActionClass → Nat
  | .readGate => 0 | .writeGate => 1 | .laser => 2 | .heater => 3 | .servoSample => 4 | .commutation => 5

/-- One record of a bay's action slots. -/
def State.slot (s : State) (b i : Nat) : ActSlot := smGet {} (s.angS b).slots i

/-- Armed slots of a bay among those numbered `lo` to `hi − 1`. -/
def State.armedIn (s : State) (b lo hi : Nat) : Nat :=
  ((s.angS b).slots.filter fun p => p.2.armed && lo ≤ p.1 && p.1 < hi).length

/-- Replace a slot's record; ANG_SLOTS counts the armed slots. -/
def State.setSlot (s : State) (b i : Nat) (a : ActSlot) : State :=
  let s := s.setAng b { s.angS b with slots := smSet {} (s.angS b).slots i a }
  s.wr (ANG_SLOTS_ARMED b) (s.armedIn b 0 64)

/-- An action ends with an outcome: the slot is freed and keeps outcome and time for ASTAT; with NOTIFY an entry goes to
the arming core's inbox, or is dropped where the inbox has no credit (R456). -/
def State.endAction (s : State) (b i : Nat) (o : ActionOutcome) : State :=
  let a := s.slot b i
  if ¬ a.armed then s
  else
    let s := s.setSlot b i { a with armed := false, outcome := o, outcomeWt := BitVec.ofNat 48 s.wt }
    let n := 672 + a.core.val
    if a.notify ∧ 0 < (s.lp n).free then
      s.lpAppend n (mkEntry [(0, 16, b * 64 + i), (16, 8, outcomeCode o), (24, 8, classCode a.cls),
        (32, 32, a.target.toNat), (64, 64, s.wt)])
    else s

/-- End every armed action of a bay that satisfies `p`, in slot order. -/
def State.endActions (s : State) (b : Nat) (p : ActSlot → Bool) (o : ActionOutcome) : State :=
  forUpTo 64 (fun i s => if (s.slot b i).armed && p (s.slot b i) then s.endAction b i o else s) s

/-- Slots of slice `k` within its bay: 8a to 8a + 7 (R121). -/
def sliceSlot (k i : Nat) : Nat := actOf k * 8 + i

/-- Cancel slice `k`'s slot `i`. -/
def State.disarmSlice (s : State) (k i : Nat) : State := s.endAction (bayOf k) (sliceSlot k i) .cancelled

/-! ### Laser level and accumulators (R123) -/

/-- The commanded laser level of slice `k` becomes `lvl`: the level held until now is added, times its ns, to the head's
accumulators. Another level is not yet reached. -/
def State.setLaser (s : State) (k : Nat) (lvl : BitVec 12) : State :=
  let sl := s.sliceS k
  let dt := s.now - sl.laserSince
  let s := s.bumpWrap (CS_LASER_ACC_ACC k (sl.head % 16)) (sl.laser.toNat * dt)
  let s := if sl.laser = 0 then s else s.bumpWrap (CS_WPO_NS k (sl.head % 16)) dt
  (s.setSlice k { sl with
      laser := lvl, laserSince := s.now
      writeLevelAt := if lvl = sl.laser then sl.writeLevelAt else none }).put
    (CS_STAT_LASER_ON k) (lvl ≠ 0)

/-- The accumulators of the head in use on slice `k` are brought up to now. -/
def State.foldLaser (s : State) (k : Nat) : State := s.setLaser k (s.sliceS k).laser

/-! ### Descriptor fields (R255) -/

namespace Desc
def opid (e : Entry) : Nat := e.at 0 64
def op (e : Entry) : Nat := e.at 64 4
def cls (e : Entry) : Nat := e.at 68 4
def retry (e : Entry) : Nat := e.at 72 3
def lz (e : Entry) : Bool := e.at 75 1 == 1
def hport (e : Entry) : Nat := e.at 80 10
def head (e : Entry) : Nat := e.at 80 4
def track (e : Entry) : Nat := e.at 96 24
def sector (e : Entry) : Nat := e.at 120 12
def count (e : Entry) : Nat := e.at 136 12
def band (e : Entry) : Nat := e.at 152 32
def index (e : Entry) : Nat := e.at 184 32
def buf (e : Entry) : Nat := e.at 216 40
/-- No reserved bit is set: byte 9 [7:4], bytes 10–11 [15:10], bytes 15–16 [15:12], bytes 17–18 [15:12], BUF [5:0]. -/
def reservedClear (e : Entry) : Bool :=
  e.at 76 4 == 0 && e.at 90 6 == 0 && e.at 132 4 == 0 && e.at 148 4 == 0 && e.at 216 6 == 0
end Desc

/-! ### Track format (R108 to R110) -/

/-- Wedges per revolution of a bay, as its angle unit uses it (R50). -/
def State.nWedges (s : State) (b : Nat) : Nat := max 1 (s.rd (ANG_CTL_NW b))

/-- The head-frame angle of wedge `w` (R50). -/
def wedgeAngle (nw w : Nat) : Nat := w * 2 ^ 20 / nw

/-- The zone of a track on a head: the highest z in 0 … NZONES whose START_TRACK does not exceed it (R108). -/
def State.zoneOf (s : State) (k h track : Nat) : Option Nat :=
  ((List.range (s.rd (CS_HFMT_NZONES k h) + 1)).filter fun z => s.rd (CS_ZONE0_START_TRACK k h z) ≤ track).getLast?

/-- START_TRACK rises strictly over zones 0 to NZONES (R108). -/
def State.zonesRise (s : State) (k h : Nat) : Bool :=
  (List.range (s.rd (CS_HFMT_NZONES k h))).all fun z =>
    s.rd (CS_ZONE0_START_TRACK k h z) < s.rd (CS_ZONE0_START_TRACK k h (z + 1))

/-- The next spindle angle at or after `cnt + lead` that is `ang` within its revolution (R49). -/
def nextAngle (cnt ang lead : Nat) : Nat := cnt + lead + (ang + 2 ^ 20 - (cnt + lead) % 2 ^ 20) % 2 ^ 20

/-- The spindle angle within a revolution of head-frame angle `a` of head `h` (R49). -/
def State.spindleAngle (s : State) (k h a : Nat) : Nat := (a + s.rd (ANG_SKEW_AU (bayOf k) (actOf k) h)) % 2 ^ 20

/-- Bit position of a head-frame angle (R109). -/
def bitPos (bpr angle : Nat) : Nat := angle * bpr / 2 ^ 20

/-- First and last bit positions of the data field of wedge `w` (R109). -/
def fieldStart (nw sfw bpr w : Nat) : Nat := bitPos bpr (wedgeAngle nw w + sfw)
def fieldEnd (nw bpr w : Nat) : Nat := bitPos bpr (wedgeAngle nw (w + 1))

/-- Data bits of the data field of wedge `w`: its bits less the 64-bit resync (R109). -/
def fieldData (nw sfw bpr w : Nat) : Nat := fieldEnd nw bpr w - fieldStart nw sfw bpr w - 64

/-- Data bits of a track (R109). -/
def trackData (nw sfw bpr : Nat) : Nat := (List.range nw).foldl (fun t w => t + fieldData nw sfw bpr w) 0

/-- Bits of a sector slot, and of the part of it that ends with the postamble (Sector slot table). -/
def slotBits : Nat := 35696
def slotWritten : Nat := 35536

/-- The field that holds data bit `j` of a track and the place of the bit in that field's data. -/
def locateBit (nw sfw bpr : Nat) : Nat → Nat → Nat → Nat × Nat
  | 0, w, j => (w, j)
  | fuel + 1, w, j =>
    let d := fieldData nw sfw bpr w
    if j < d then (w, j) else locateBit nw sfw bpr fuel (w + 1) (j - d)

/-- The head-frame angle at which data bit `j` of a track begins; where it is the first of its field, the start of the
data field, whose resync precedes it (R109, R118). -/
def bitAngle (nw sfw bpr j : Nat) : Nat :=
  let (w, i) := locateBit nw sfw bpr nw 0 j
  if i = 0 then wedgeAngle nw w + sfw else (fieldStart nw sfw bpr w + 64 + i) * 2 ^ 20 / bpr

/-- The head-frame angle at which data bit `j` of a track has ended, rounded up. -/
def bitEndAngle (nw sfw bpr j : Nat) : Nat :=
  let (w, i) := locateBit nw sfw bpr nw 0 j
  ((fieldStart nw sfw bpr w + 64 + i + 1) * 2 ^ 20 + bpr - 1) / bpr

/-- Nominal spindle speed of a bay in rpm (R198, R527). -/
def State.nNom (s : State) (b : Nat) : Nat := s.rd (CFG_PARAM_VALUE (64 + b))

/-- The zone entry of head `h`, zone `z` is valid (R110). -/
def State.zoneValid (s : State) (k h z : Nat) : Bool :=
  let nw := s.nWedges (bayOf k)
  let bpr := s.rd (CS_ZONE1_BPR k h z)
  let spt := s.rd (CS_ZONE2_SPT k h z)
  decide (spt * slotBits ≤ trackData nw (s.rd (CS_HFMT_SFW k h)) bpr)
    && decide (bpr * s.nNom (bayOf k) ≤ 4000000000 * 60)
    && decide (s.rd (CS_ZONE2_TSKEW k h z) < spt)

/-- Sector `sec` of track `track` occupies slot (sec + track × TSKEW) mod SPT (R109). -/
def State.slotOf (s : State) (k h z track sec : Nat) : Nat :=
  let spt := s.rd (CS_ZONE2_SPT k h z)
  if spt = 0 then 0 else (sec + track * s.rd (CS_ZONE2_TSKEW k h z)) % spt

/-- The sectors of an operation on (head, zone): head-frame angle of the first one's start, and each one's end in au
after it. -/
def State.sectorAngles (s : State) (k h z track sec count : Nat) : Nat × List Nat :=
  let nw := s.nWedges (bayOf k)
  let sfw := s.rd (CS_HFMT_SFW k h)
  let bpr := max 1 (s.rd (CS_ZONE1_BPR k h z))
  let start := bitAngle nw sfw bpr (s.slotOf k h z track sec * slotBits)
  (start, (List.range count).map fun i =>
    (bitEndAngle nw sfw bpr (s.slotOf k h z track (sec + i) * slotBits + slotWritten - 1) + 2 ^ 20 - start) % 2 ^ 20)

/-- The data fields, by their spindle angle in the head frame, that hold the first bits of an operation's sectors (R130). -/
def State.fieldAngles (s : State) (k h z track sec count : Nat) : List Nat :=
  let nw := s.nWedges (bayOf k)
  let sfw := s.rd (CS_HFMT_SFW k h)
  let bpr := max 1 (s.rd (CS_ZONE1_BPR k h z))
  (List.range count).map fun i =>
    wedgeAngle nw (locateBit nw sfw bpr nw 0 (s.slotOf k h z track (sec + i) * slotBits)).1 + sfw

/-! ### The operation in progress and write faults (R124 to R127) -/

/-- The operation that slice `k` has in progress: the last one taken, if it has not ended. -/
def State.curOp (s : State) (k : Nat) : Option SliceOp :=
  match (s.sliceS k).ops.getLast? with
  | some o => if o.ended then none else some o
  | none => none

/-- Replace the last operation taken. -/
def State.setCurOp (s : State) (k : Nat) (o : SliceOp) : State :=
  let sl := s.sliceS k
  s.setSlice k { sl with ops := sl.ops.dropLast ++ [o] }

/-- A write is in progress on slice `k`. -/
def State.writing (s : State) (k : Nat) : Bool :=
  match s.curOp k with
  | some o => Desc.op o.desc == 2
  | none => false

/-- Leading sectors of a list that are good (R126). -/
def leadingGood : List SectorSt → Nat
  | .good _ :: r => leadingGood r + 1
  | _ => 0

/-- The sectors of a write that had been written in full when the counter stood at `cnt` (R125). -/
def writtenBy (o : SliceOp) (cnt : Nat) : Nat :=
  let el := (cnt + 2 ^ 32 - o.theta0.toNat) % 2 ^ 32
  if el < 2 ^ 31 then ((o.ends.takeWhile fun e => e ≤ el).length) else 0

/-- The sectors of an operation with the first `n` good at step 0 and the others not done. -/
def firstGood (count n : Nat) : List SectorSt :=
  (List.range count).map fun i => if i < n then .good 0 else .todo

/-- CS_STAT of slice `k` follows the operations that it holds (R138). -/
def State.showSlice (s : State) (k : Nat) : State :=
  let l := (s.sliceS k).ops
  let s := (s.put (CS_STAT_BUSY k) (! l.isEmpty)).put (CS_STAT_WRITING k) (l.any fun o => Desc.op o.desc == 2 && ! o.ended)
  let s := s.put (CS_STAT_READING k) (l.any fun o => Desc.op o.desc != 2 && ! o.ended)
  s.wr (CS_STAT_DEFER_USED k) (l.foldl (fun n o => n + (o.sectors.filter fun x => x == .deferred).length) 0)

/-- The write in progress on slice `k` ends at once with a cause, `n` of its sectors written (R124): gate closed, laser 0,
safety words queued, its armed events cancelled, the cause kept for the completion and in CS_WFAULT, an event recorded. A
sector that a laser-monitor report out of tolerance met is not good (R125). -/
def State.endWrite (s : State) (k cause n : Nat) : State :=
  match s.curOp k with
  | none => s
  | some o =>
    if Desc.op o.desc ≠ 2 then s
    else
      let s := s.setCurOp k { o with
        ended := true, status := max o.status 0x30, cause := cause
        adjSuspect := o.adjSuspect || cause == 3 || cause == 4
        sectors := firstGood (Desc.count o.desc) (min (min n (Desc.count o.desc)) (o.bad.getD n)) }
      let s := s.setLaser k 0
      let sl := s.sliceS k
      let s := s.setSlice k { sl with
        writeGate := false, symRuns := if sl.writeGate then sl.symRuns.filter fun r => r.op != o.serial else sl.symRuns }
      let s := s.queueSafety (bayOf k) (actOf k) (Desc.head o.desc)
      let s := [0, 1, 2, 3, 4].foldl (fun s i => s.disarmSlice k i) s
      let s := (s.wr (CS_WFAULT_LAST k) cause).bump (CS_WFAULT_COUNT k)
      (s.showSlice k).event 6 .writeFault 2 k

/-- A write in progress on slice `k` ends at once with a cause (R124); the sectors that have ended at the media are written. -/
def State.writeFault (s : State) (k cause : Nat) : State :=
  match s.curOp k with
  | none => s
  | some o => s.endWrite k cause (writtenBy o (s.rd (ANG_CNT_VALUE (bayOf k))))

/-- The write rate is beyond 1,152 symbols a frame (R114): BPR per revolution of `per` ns, frames of 281.6 ns. -/
def overRate (bpr per : Nat) : Bool := decide (0 < per) && decide (11520 * per < bpr * 2816)

/-- SRATE of R129, uncapped: ceil((1 + OVS/256) × BPR × 281.6 × 64 / period). -/
def srateOf (ovs bpr per : Nat) : Nat := ((256 + min 64 ovs) * bpr * 2816 * 64 + 2560 * per - 1) / (2560 * per)

/-- Slice `k` sets its sample rate for a zone of `bpr` (R129): the word waits for a servo field. -/
def State.setSrate (s : State) (k bpr : Nat) : State :=
  let per := max 1 (s.rd (ANG_PERIOD_NS (bayOf k)))
  s.setSlice k { s.sliceS k with sratePer := per, sratePend := some (min 73728 (srateOf (s.rd (CS_CTL_OVS k)) bpr per)) }

/-- While its actuator tracks, slice `k` keeps its sample rate set: anew whenever ANG_PERIOD has moved by more than 1 % since
the last setting (R129). -/
def State.keepSrate (s : State) (k : Nat) : State :=
  let v := s.servoS k
  let per := s.rd (ANG_PERIOD_NS (bayOf k))
  let was := (s.sliceS k).sratePer
  if s.on (SRV_STAT_ONTRK k) ∧ 0 < per ∧ was < ((per : Int) - was).natAbs * 100 then
    s.setSrate k (s.rd (CS_ZONE1_BPR k v.head ((s.zoneOf k v.head v.target).getD 0)))
  else s

/-- A write whose gate is open ends with cause 9 where the rate has risen past the limit (R114). -/
def State.checkRate (s : State) (k : Nat) : State :=
  match s.curOp k with
  | none => s
  | some o =>
    if Desc.op o.desc = 2 ∧ (s.sliceS k).writeGate ∧ overRate o.fmt.bpr (s.rd (ANG_PERIOD_NS (bayOf k))) then s.writeFault k 9 else s

/-- The writing of slice `k` stops at once (R62): a write in progress ends with a cause; a gate or a laser that an action
opened without one is closed by safety words. -/
def State.dropWrite (s : State) (k cause : Nat) : State :=
  if s.writing k then s.writeFault k cause
  else if (s.sliceS k).laser = 0 ∧ ¬ (s.sliceS k).writeGate then s
  else
    let s := (s.setLaser k 0).queueSafety (bayOf k) (actOf k) (s.sliceS k).head
    s.setSlice k { s.sliceS k with writeGate := false }

/-- The gates of slice `k` close and its laser goes off, without ending an operation's bookkeeping (R62, R66, R95, R102). -/
def State.closeGates (s : State) (k cause : Nat) : State :=
  let s := if s.writing k then s.writeFault k cause
    else (s.setLaser k 0).queueSafety (bayOf k) (actOf k) (s.sliceS k).head
  s.setSlice k { s.sliceS k with writeGate := false, readGate := false, gateAt := [] }

/-- SRV_STAT.ST values (R179). -/
def stParked : Nat := 0
def stLoading : Nat := 1
def stActive : Nat := 2
def stParking : Nat := 3

/-! ### Write inhibit (R185) -/

/-- Write inhibit is asserted: a write in progress ends with cause 3 (R124), and the slice's Facet sees cause 10 (R164). -/
def State.inhibit (s : State) (k : Nat) : State :=
  let s := if s.on (SRV_STAT_WINH k) then s else s.facetCause (sliceFct k) 10
  (s.put (SRV_STAT_WINH k) true).writeFault k 3

/-- An extra trigger makes a type due on a head (R242). -/
def State.calTrigger (s : State) (k ty h : Nat) : State :=
  let c := s.calS k
  if c.extra.contains (16 * ty + h) then s else s.setCal k { c with extra := (16 * ty + h) :: c.extra }

end Sys2Proof.Machine
end

