-- ==== Sys2Proof/Machine/Track.lean ====
section
/-! DEFINITION. Sys2Proof/Machine/Track.lean: what stands on a track and on lane D: the codeword of a sector (R111), the
channel bit at each position of a track (R108, R109), the write symbols with their precompensation (R79, R117), and the bytes
of a downstream frame (R75 to R79). -/
namespace Sys2Proof.Machine
open Sys2Proof

/-! ### Codewords (R111) -/

/-- The next state of the scrambler x^23 + x^18 + 1, whose present bit is bit 22 (log entry 97). -/
def prbsNext (c : BitVec 23) : BitVec 23 :=
  (c <<< 1) ||| (if (c.getLsbD 22) ^^ (c.getLsbD 17) then 1 else 0)

/-- The scrambler after `n` bits. -/
def prbsAfter : Nat → BitVec 23 → BitVec 23
  | 0, c => c
  | n + 1, c => prbsAfter n (prbsNext c)

/-- The next 8 bits of the scrambler, the first in bit 0 (R9). -/
def prbsByte (c : BitVec 23) : Byte :=
  BitVec.ofNat 8 ((List.range 8).foldl (fun v i => v + if (prbsAfter i c).getLsbD 22 then 2 ^ i else 0) 0)

/-- Bytes with the scrambler's bits added; the same operation takes them off again. -/
def scramble : BitVec 23 → List Byte → List Byte
  | _, [] => []
  | c, b :: r => (b ^^^ prbsByte c) :: scramble (prbsAfter 8 c) r

/-- The scrambler's seed for a sector: (INDEX mod 2^23) OR 1. -/
def seedOf (index : Nat) : BitVec 23 := BitVec.ofNat 23 index ||| 1

/-- The information bytes of a sector: its 4,160 bytes and their CRC-32C, stored as R76 stores it. -/
def infoOf (data : List Byte) : List Byte := data ++ leBytes 4 (crc32c data).toNat

/-- The 264 bytes of parity of a sector's information bytes; the code's matrix is not in the spec. -/
def parityBytes (info : List Byte) : List Byte := (List.range 264).map fun i => Config.ldpcParity info i

/-- The codeword of a sector as it is written: information and parity, scrambled. -/
def codewordOf (index : Nat) (data : List Byte) : List Byte :=
  scramble (seedOf index) (infoOf data ++ parityBytes (infoOf data))

/-- What a detected codeword decodes to (R131): its 4,160 bytes, where every parity check is satisfied and the CRC matches. -/
def decodeWord (index : Nat) (w : List Byte) : Option (List Byte) :=
  let x := scramble (seedOf index) w
  let info := x.take 4164
  let data := info.take 4160
  if w.length = 4428 ∧ x.drop 4164 = parityBytes info ∧ leBytes 4 (crc32c data).toNat = info.drop 4160 then some data else none

/-! ### Channel bits (R109 to R112) -/

/-- Bit `i` of bytes, bit 0 of the first byte first (R9). -/
def bitAt (l : List Byte) (i : Nat) : Bool := (l.getD (i / 8) 0).getLsbD (i % 8)

/-- The 2T pattern of preambles and postambles: two symbols of each polarity; where it begins is not in the spec. -/
def twoT (i : Nat) : Bool := (i + Config.twoTPhase) / 2 % 2 == 1

/-- Bit `i` of the slot of sector number `x` of a write (Sector slot table). -/
def slotBit (o : SliceOp) (x i : Nat) : Bool :=
  if i < 64 then twoT i
  else if i < 96 then Config.syncMark (i - 64)
  else if i < 35520 then bitAt (codewordOf (Desc.index o.desc + x) (o.data.getD x [])) (i - 96)
  else if i < slotWritten then twoT (i - 35520)
  else Config.gapBit i

/-- The field of the head frame in which a track's bit position lies. -/
def fieldOf (nw bpr p : Nat) : Nat := ((List.range nw).filter fun w => bitPos bpr (wedgeAngle nw w) ≤ p).length - 1

/-- The channel bit of a write at bit position `p` of its track (R109): resync, or a bit of one of its slots; none in a servo
field, where nothing is written. -/
def channelBit (nw : Nat) (o : SliceOp) (p : Nat) : Option Bool :=
  let f := o.fmt
  let p := p % max 1 f.bpr
  let w := fieldOf nw f.bpr p
  let st := fieldStart nw f.sfw f.bpr w
  if p < st then none
  else
    let i := p - st
    if i < 48 then some (twoT i)
    else if i < 64 then some (Config.resyncMark (i - 48))
    else
      let d := (List.range w).foldl (fun n v => n + fieldData nw f.sfw f.bpr v) 0 + (i - 64)
      let spt := max 1 f.spt
      let first := (Desc.sector o.desc + Desc.track o.desc * f.tskew) % spt
      some (slotBit o ((d / slotBits + spt - first) % spt) (d % slotBits))

/-! ### Write symbols (R79, R113, R117) -/

/-- The symbols back from position `p` to the last change of polarity at or before it, at most `fuel`. -/
def backToChange (nw : Nat) (o : SliceOp) (p : Nat) : Nat → Nat
  | 0 => 0
  | fuel + 1 => if channelBit nw o p ≠ channelBit nw o (p - 1) then 0 else 1 + backToChange nw o (p - 1) fuel

/-- Bits [1:0] of a symbol for a step of the precompensation table (R79): early is negative, and what the code cannot say is the
nearest step (log entry 97). -/
def precompCode (v : Int) : Nat := if v ≤ -2 then 2 else if v = -1 then 1 else if v = 0 then 0 else 3

/-- The write symbol at position `p` (R79, R117): the polarity is the channel bit; a transition is precompensated from the two
spacings before it, 1T to ≥ 4T, by entry 4 i + j of the head's table, i the nearer one (log entry 97). -/
def symbolAt (nw : Nat) (o : SliceOp) (p : Nat) : BitVec 3 :=
  let bit := (channelBit nw o p).getD false
  if channelBit nw o p = channelBit nw o (p - 1) then BitVec.ofNat 3 (bit.toNat * 4)
  else
    let i := backToChange nw o (p - 1) 64
    let j := backToChange nw o (p - 2 - i) 64
    BitVec.ofNat 3 (bit.toNat * 4 + precompCode (o.fmt.precomp.getD (4 * min 3 i + min 3 j) 0))

/-- The track bit position at or after spindle angle `x`, counted from the revolution in which θ0 lies (R109). -/
def SliceOp.posOf (o : SliceOp) (x : Nat) : Nat :=
  ((o.ha0 + (x + 2 ^ 32 - o.theta0.toNat) % 2 ^ 32) * o.fmt.bpr + 2 ^ 20 - 1) / 2 ^ 20

/-- The media angle, in au from the counter's, at which the window of a frame sent now begins: the write-gate lead; and the au
that 281.6 ns cover at the rate in effect (R113). -/
def frameSpan (per : Nat) : Nat := if per = 0 then 0 else 2816 * 2 ^ 20 / (10 * per)

/-! ### Downstream frames (R75 to R79) -/

/-- A downstream operating frame before it is laid out (R78): its sequence number, SAFE_REQ, the words of its control slots,
its VCM and MA holds (VCM0, VCM1, MA0, MA1), its phase holds, and the write symbols of actuators 0 and 1. -/
structure DownFrame where
  fsn : BitVec 16 := 0
  safe : Bool := false
  slots : List (BitVec 64) := []
  vcm : List (BitVec 16) := [0, 0, 0, 0]
  phase : List (BitVec 16) := [0, 0, 0]
  wsym0 : List (BitVec 3) := []
  wsym1 : List (BitVec 3) := []
  deriving DecidableEq, Repr

/-- Symbols packed three bits each from bit 0 of 432 bytes (R79). -/
def packSymbols (l : List (BitVec 3)) : List Byte := leBytes 432 (l.foldr (fun x n => x.toNat + 8 * n) 0)

/-- 16-bit values, in `n` places. -/
def halves (n : Nat) (l : List (BitVec 16)) : List Byte := (List.range n).flatMap fun i => leBytes 2 (l.getD i 0).toNat

/-- A frame's bytes with their CRC-32C behind them (R76). -/
def withCrc (body : List Byte) : List Byte := body ++ leBytes 4 (crc32c body).toNat

/-- The 960 bytes of a downstream operating frame (R78). -/
def DownFrame.bytes (f : DownFrame) : List Byte :=
  withCrc ([0xB4, if f.safe then 0x80 else 0] ++ leBytes 2 f.fsn.toNat ++ leBytes 2 f.wsym0.length ++ leBytes 2 f.wsym1.length
    ++ halves 4 f.vcm ++ halves 4 f.phase ++ List.replicate 8 0
    ++ ((List.range 6).flatMap fun i => leBytes 8 (f.slots.getD i 0).toNat)
    ++ packSymbols f.wsym0 ++ packSymbols f.wsym1 ++ List.replicate 12 0)

/-- The 960 bytes of a training frame that the device sends (R75, R100); what it carries beside its type is the bridge's to
say, and of the device's frames the spec states nothing more. -/
def trainingFrame : List Byte := withCrc (0xC3 :: (List.range 955).map Config.trainingByte)

end Sys2Proof.Machine
end

