-- ==== Sys2Proof/Machine/Speed.lean ====
section
/-! DEFINITION. Sys2Proof/Machine/Speed.lean: what the angle unit and the commutation engines share: spindle results
(R204), the kinetic estimate (R219), the states (R199) and the speed loop (R208, R209). -/
namespace Sys2Proof.Machine
open Sys2Proof

/-! ### States (R199) -/

/-- SPN_STAT.ST values. -/
def spStop : Nat := 0
def spListen : Nat := 1
def spStart : Nat := 2
def spRun : Nat := 3
def spRegen : Nat := 4
def spCoast : Nat := 5
def spBrake : Nat := 6
def spFault : Nat := 7

/-- The state of commutation engine `b`. -/
def State.spin (s : State) (b : Nat) : Nat := s.rd (SPN_STAT_ST b)

/-- The kinetic energy above the writing floor in mJ, rounded to nearest (R219): J × (100 N² − 49 N_nom²) × π² / 1.8·10^11
with J in 0.01 g·cm², 0 below the floor. -/
def kinetic (inertia n nNom : Nat) : Nat :=
  let d := inertia * (100 * n * n - 49 * nNom * nNom)
  (d * 98696044010893586188 * 2 + 18 * 10 ^ 29) / (36 * 10 ^ 29)

/-- SPN_KIN has a value: in RUN and REGEN, from a speed measured in the last revolution (R219). -/
def State.kinValid (s : State) (b : Nat) : Bool :=
  (s.spin b == spRun || s.spin b == spRegen) && match (s.spinS b).measuredAt with
    | some t => decide (0 < s.rd (SPN_SPEED_RPM b)) && decide ((s.now - t) * s.rd (SPN_SPEED_RPM b) ≤ 60000000000)
    | none => false

/-- SPN_KIN is computed, once per revolution and at a change of state (R219). -/
def State.updateKin (s : State) (b : Nat) : State :=
  if s.kinValid b then
    s.wr (SPN_KIN_MJ b) (min (kinetic (s.rd (SPN_MOTOR_INERTIA b)) (s.rd (SPN_SPEED_RPM b)) (s.nNom b)) (2 ^ 32 - 1))
  else s.wr (SPN_KIN_MJ b) 0

/-- SPN_KIN reads 0 once the speed has not been measured in the last revolution (R219). -/
def State.expireKin (s : State) (b : Nat) : State := if s.kinValid b then s else s.wr (SPN_KIN_MJ b) 0

/-- The microcode or an action may drive the phases: a driven state, no probe under way, no over-current in this period (R205,
R218). -/
def State.phasesFree (s : State) (b : Nat) : Bool :=
  (s.spin b == spStart || s.spin b == spRun || s.spin b == spRegen) && (s.spinS b).probeAt.isNone && (s.spinS b).cutPhases.isNone

/-- The three phase states of a bay's hold (R80). -/
def State.setPhases (s : State) (b : Nat) (pa pb pc : BitVec 16) : State :=
  s.setBeam b { s.beamS b with pa := pa, pb := pb, pc := pc }

/-- The engine enters a state (R199): high-impedance phases in STOP, LISTEN, COAST and FAULT, shorted ones in BRAKE. -/
def State.setSpinState (s : State) (b st : Nat) : State :=
  let s := (s.wr (SPN_STAT_ST b) st).put (SPN_STAT_REGEN b) (st == spRegen)
  let s := if st = spBrake then s.setPhases b 0x8000 0x8000 0x8000
    else if st = spStart ∨ st = spRun ∨ st = spRegen then s
    else s.setPhases b 0 0 0
  let s := if st = spStart ∨ st = spRun ∨ st = spRegen then s
    else (s.put (SPN_STAT_OBSOK b) false).wr (SPN_ILIM_LEVEL b) 0
  let s := s.setSpin b { s.spinS b with revPart := 0, probeAt := none, cutPhases := none }
  s.updateKin b

/-! ### Results (R204) -/

/-- Spindle status codes. -/
def snDone : Nat := 0
def snBadArg : Nat := 0x10
def snTimeout : Nat := 0x11
def snNoToken : Nat := 0x12
def snStartFail : Nat := 0x13
def snAborted : Nat := 0x14
def snFault : Nat := 0x15
def snReacq : Nat := 0x16

/-- OP codes of a spindle entry (R200). -/
def opStart : Nat := 1
def opSpeed : Nat := 2
def opStop : Nat := 3
def opRegen : Nat := 4
def opRegenEnd : Nat := 5
def opCoast : Nat := 6

/-- Push the result entry of R204 to LP 224 + b. -/
def State.spinResult (s : State) (b opid op status fcode : Nat) : State :=
  s.hwPush (224 + b) (mkEntry [(0, 64, opid), (64, 8, 0x60), (72, 8, op), (80, 16, status), (96, 8, s.spin b),
    (104, 8, fcode), (112, 16, s.rd (SPN_SPEED_RPM b)), (128, 32, s.rd (SPN_KIN_MJ b)), (192, 64, s.wt)])

/-- A state change not requested by an entry is reported (R204). -/
def State.spinUnrequested (s : State) (b status fcode : Nat) : State := s.spinResult b 0 0 status fcode

/-- TOKEN clears, and a standalone device has its own token back (R202, R404). -/
def State.dropToken (s : State) (b : Nat) : State :=
  if s.on (SPN_CTL_TOKEN b) ∧ s.rd CFG_STRAP_ROLE = 3 then
    (s.put (SPN_CTL_TOKEN b) false).wr APR_SPIN_HELD (s.rd APR_SPIN_HELD - 1)
  else s.put (SPN_CTL_TOKEN b) false

/-- The entry in progress completes: its result is pushed; a START, or a SPEED that needs it, gives up TOKEN, whatever the status
(R202). -/
def State.spinComplete (s : State) (b status fcode : Nat) : State :=
  let v := s.spinS b
  match v.entry with
  | none => s
  | some e =>
    let op := e.at 64 8
    let s := s.setSpin b { v with entry := none, needsToken := false }
    let s := s.put (SPN_STAT_BUSY b) false
    let s := if v.needsToken then s.dropToken b else s
    s.spinResult b (e.at 0 64) op status fcode

/-! ### Speed loop (R208, R209) -/

/-- Units of 1/(6 P N_w) revolution in one revolution of bay `b`. -/
def State.revUnits (s : State) (b : Nat) : Nat := 6 * max 1 (s.rd (SPN_MOTOR_P b)) * s.nWedges b

/-- |e| in 1/10,000 exceeds `lim` of them. -/
def speedBeyond (n target lim : Nat) : Bool := decide (lim * target < ((n : Int) - target).natAbs * 10000)

/-- A driven phase stands at duty 1,008/1,024 or above (R209). -/
def State.dutyLimit (s : State) (b : Nat) : Bool :=
  let m := s.beamS b
  [m.pa, m.pb, m.pc].any fun p => p.toNat / 2 ^ 14 == 1 && decide (1008 ≤ p.toNat % 1024)

/-- The level steps by the speed error (R208), at most once in DWELL PWM periods; a limit holds it and sets VLIM (R209). -/
def State.stepLevel (s : State) (b : Nat) : State :=
  let v := s.spinS b
  let n := s.rd (SPN_SPEED_RPM b)
  let t := s.rd (SPN_SPEED_TARGET b)
  let out := speedBeyond n t (max 1 (s.rd (SPN_SPD_BAND b)))
  let lvl := s.rd (SPN_ILIM_LEVEL b)
  if ¬ out then s.put (SPN_STAT_VLIM b) false
  else if n < t ∧ (lvl = 15 ∨ s.dutyLimit b) then s.put (SPN_STAT_VLIM b) true
  else if v.dwell < max 1 (s.rd (SPN_SPD_DWELL b)) ∨ 0 < v.rampLeft then s
  else if n < t then (s.wr (SPN_ILIM_LEVEL b) (lvl + 1)).setSpin b { v with dwell := 0 }
  else if lvl = 0 then s
  else (s.wr (SPN_ILIM_LEVEL b) (lvl - 1)).setSpin b { v with dwell := 0 }

/-- VLIM clears when |e| is within BAND (R209). -/
def State.clearVlim (s : State) (b : Nat) : State :=
  if speedBeyond (s.rd (SPN_SPEED_RPM b)) (s.rd (SPN_SPEED_TARGET b)) (max 1 (s.rd (SPN_SPD_BAND b))) then s
  else s.put (SPN_STAT_VLIM b) false

/-- INWIN after `units` of rotation (R209); a START or SPEED in progress completes where it sets (R201). -/
def State.stepWindow (s : State) (b units : Nat) : State :=
  let v := s.spinS b
  if speedBeyond (s.rd (SPN_SPEED_RPM b)) (s.rd (SPN_SPEED_TARGET b)) (10 * s.clamp (SPN_SPD_WIN b) 1 25) then
    (s.setSpin b { v with inWinRevs := 0 }).put (SPN_STAT_INWIN b) false
  else
    let n := min (8 * s.revUnits b) (v.inWinRevs + units)
    let s := s.setSpin b { v with inWinRevs := n }
    if n < 8 * s.revUnits b then s
    else
      let s := s.put (SPN_STAT_INWIN b) true
      match v.entry with
      | some e => if e.at 64 8 = opStart ∨ e.at 64 8 = opSpeed then s.spinComplete b snDone 0 else s
      | none => s

/-- A speed measurement of `rpm` after `units` of rotation (R208, R209, R219). -/
def State.measureSpeed (s : State) (b rpm units : Nat) : State :=
  let v := s.spinS b
  let s := s.wr (SPN_SPEED_RPM b) (min rpm (2 ^ 14 - 1))
  let s := s.setSpin b { v with measuredAt := some s.now, revPart := v.revPart + units }
  let s := if s.spin b = spRun then (s.stepLevel b).stepWindow b units
    else if s.spin b = spRegen then (s.clearVlim b).stepWindow b units else s
  if s.revUnits b ≤ (s.spinS b).revPart then
    (s.setSpin b { s.spinS b with revPart := (s.spinS b).revPart % s.revUnits b }).updateKin b
  else s

/-- The measurement that a wedge gives while SRC = WEDGE (R208): N from the counter's period, after 1/N_w revolution. -/
def State.wedgeSpeed (s : State) (b : Nat) : State :=
  let per := s.rd (ANG_PERIOD_NS b)
  if (s.spin b = spRun ∨ s.spin b = spRegen) ∧ 0 < per then
    s.measureSpeed b ((60000000000 + per / 2) / per) (6 * max 1 (s.rd (SPN_MOTOR_P b)))
  else s

end Sys2Proof.Machine
end

