-- ==== Sys2Proof/Machine/Angle.lean ====
section
/-! DEFINITION. Sys2Proof/Machine/Angle.lean: angle time (R47 to R72): the angle counter with its marks, misses,
rebases and speed window, the action slots, wall time and RACKSYNC, snapshots, and the passing of one nanosecond. -/
namespace Sys2Proof.Machine
open Sys2Proof

/-! ### Actions (R58 to R61, R456) -/

/-- A bridge latency of a class in ns (R56, R103); the classes that act inside the device have none. -/
def classLatency (id : BridgeId) : ActionClass → Nat
  | .writeGate => id.latWg
  | .laser => id.latLaser
  | .heater => id.latHeater
  | .commutation => id.latHold
  | .readGate => 0
  | .servoSample => 0

/-- The lead of a class in au: ceil((ANG_DNLAT + latency) / duration of 1 au), 0 for the classes that act inside the
device (R56). -/
def State.lead (s : State) (b : Nat) (c : ActionClass) : Nat :=
  match c with
  | .readGate => 0
  | .servoSample => 0
  | c =>
    let per := s.rd (ANG_PERIOD_NS b)
    if per = 0 then 0
    else ((s.rd (ANG_DNLAT_NS b) + classLatency (s.beamS b).id c) * 2 ^ 20 + per - 1) / per

/-- The action in a slot is due: (ANG_CNT − target + lead) mod 2^32 < 2^31 (R59). -/
def State.isDue (s : State) (b : Nat) (target : BitVec 32) (c : ActionClass) : Bool :=
  (s.rd (ANG_CNT_VALUE b) + 2 ^ 32 - target.toNat + s.lead b c) % 2 ^ 32 < 2 ^ 31

/-- ANG_STAT.SRC values (R51). -/
def srcNone : Nat := 0
def srcEmf : Nat := 1
def srcWedge : Nat := 2

/-- The condition an action's class needs when it falls due (R60), and its cancel status otherwise. -/
def State.actionAllowed (s : State) (b : Nat) : ActionClass → Bool
  | .readGate => s.rd (ANG_STAT_SRC b) == srcWedge && s.on (ANG_STAT_SPD_OK b)
  | .writeGate => s.on (ANG_STAT_WOK b)
  | .laser => s.on (ANG_STAT_WOK b)
  | .heater => s.rd (ANG_STAT_SRC b) == srcWedge
  | .servoSample => s.rd (ANG_STAT_SRC b) == srcWedge
  | .commutation => s.rd (ANG_STAT_SRC b) == srcEmf || s.rd (ANG_STAT_SRC b) == srcWedge

def cancelStatus : ActionClass → ActionOutcome
  | .writeGate => .notWok
  | .laser => .notWok
  | _ => .angleLost

/-- The effect of an action that fires: a control word for the next downstream frame (write gate, laser, heater), the
phase hold (commutation) in a state that drives the phases (R199), or the gate or the servo window of the tagged sample
stream, which samples tagged at or beyond the target meet as they arrive (R56, R60, R454). A write gate does not open while
the Reticle engine inhibits writing (R185) or the bay is not attached (R105). -/
def State.fire (s : State) (b : Nat) (a : ActSlot) : State :=
  let k := hportSlice a.hport.toNat
  let h := hportHead a.hport.toNat
  let act := hportAct a.hport.toNat
  let p := a.payload.toNat
  match a.cls with
  | .readGate => s.setSlice k { s.sliceS k with gateAt := (s.sliceS k).gateAt ++ [(a.target, p % 2 == 1)] }
  | .writeGate =>
    if p % 2 = 1 ∧ (s.on (SRV_STAT_WINH k) ∨ ¬ s.on (BL_CTL_ATTACHED b)) then
      if s.on (SRV_STAT_WINH k) then s.writeFault k 3 else s
    else (s.setSlice k { s.sliceS k with writeGate := p % 2 == 1 }).queueTimed b (ctlWord 1 act h 0 (p % 2))
  | .laser =>
    -- the level is reached when the word has arrived and acted and the laser has slewed (R56, R82, R122)
    let s := (s.setLaser k (BitVec.ofNat 12 p)).queueTimed b (ctlWord 2 act h 0 (p % 2 ^ 24))
    let at_ := s.now + s.rd (ANG_DNLAT_NS b) + (s.beamS b).id.latLaser + p / 2 ^ 16 % 256 * 10
    if p % 2 ^ 12 = 0 then s else s.setSlice k { s.sliceS k with writeLevelAt := some at_ }
  | .heater =>
    (s.setSlice k { s.sliceS k with heater := BitVec.ofNat 10 p }).queueTimed b (ctlWord 3 act h 0 (p % 2 ^ 10))
  | .servoSample => s.setSlice k { s.sliceS k with servoAt := (s.sliceS k).servoAt ++ [a.target] }
  | .commutation =>
    if s.on (BL_CTL_ATTACHED b) ∧ s.phasesFree b then
      s.setBeam b { s.beamS b with
        pa := BitVec.ofNat 16 p, pb := BitVec.ofNat 16 (p / 2 ^ 16), pc := BitVec.ofNat 16 (p / 2 ^ 32) }
    else s

/-- An armed action that has fallen due fires, or is cancelled where its class's condition does not hold (R59, R60). -/
def State.fireDue (s : State) (b slot : Nat) : State :=
  let a := s.slot b slot
  if a.armed && s.isDue b a.target a.cls then
    if s.actionAllowed b a.cls then
      (s.endAction b slot .fired).fire b a
    else s.endAction b slot (cancelStatus a.cls)
  else s

/-- Put slot number `i` into a list of slots that stand in the order of arming. -/
def State.insertArmed (s : State) (b i : Nat) : List Nat → List Nat
  | [] => [i]
  | j :: r => if (s.slot b i).order < (s.slot b j).order then i :: j :: r else j :: State.insertArmed s b i r

/-- The armed slots of a bay that are due and were armed before the one in `slot`, in the order of arming (R61). -/
def State.dueBefore (s : State) (b slot : Nat) : List Nat :=
  ((List.range 64).filter fun i => (s.slot b i).armed && s.isDue b (s.slot b i).target (s.slot b i).cls
    && decide ((s.slot b i).order < (s.slot b slot).order)).foldl (fun l i => s.insertArmed b i l) []

/-- Arm a slot of a bay: it takes the next place in the order of arming (R61). -/
def State.armSlot (s : State) (b slot : Nat) (a : ActSlot) : State :=
  let g := s.angS b
  (s.setAng b { g with nextOrder := g.nextOrder + 1 }).setSlot b slot { a with armed := true, order := g.nextOrder, outcome := .none }

/-- Slice `k` arms its slot `i`; an arming of a slot still armed is refused with Facet cause 5 (R121), and arming is refused
while SRC is not WEDGE (R51). The slice arms with LATE_OK, so that an event already due goes out in the next cycle (DESIGN
CHOICE, log entry 47). -/
def State.armSlice (s : State) (k i h : Nat) (cls : ActionClass) (target payload : Nat) : State :=
  let b := bayOf k
  if (s.slot b (sliceSlot k i)).armed then s.facetCause (sliceFct k) 5
  else if s.rd (ANG_STAT_SRC b) ≠ srcWedge then s
  else s.armSlot b (sliceSlot k i) { target := BitVec.ofNat 32 target, cls := cls, hport := BitVec.ofNat 10 (hportOf b (actOf k) h),
                                     payload := BitVec.ofNat 64 payload, lateOk := true }

/-- The read in progress on slice `k` takes sector `i` at its next passage: the gate opens at the data field that holds its
first bit (R130). -/
def State.rereadFrom (s : State) (k i : Nat) : State :=
  match s.curOp k with
  | none => s
  | some o =>
    let before := o.starts.getD i 0
    let x := nextAngle (s.rd (ANG_CNT_VALUE (bayOf k))) ((o.theta0.toNat + before) % 2 ^ 20) 0
    (s.setCurOp k { o with theta0 := BitVec.ofNat 32 (x + 2 ^ 32 - before), lostAt := none }).armSlice k 7 (Desc.head o.desc)
      .readGate x 1

/-- Once the angle has returned, the read in progress on slice `k` takes the sectors it has missed (R130). -/
def State.resumeRead (s : State) (k : Nat) : State :=
  match s.curOp k with
  | none => s
  | some o =>
    if Desc.op o.desc = 2 then s
    else match o.sectors.findIdx? (· == .todo) with
      | none => s
      | some i => s.rereadFrom k i

/-! ### Speed and lock (R62 to R66) -/

/-- SPD_OK: nominal period / ANG_PERIOD lies from 0.70 to 1.05 (R66). -/
def State.speedOk (s : State) (b : Nat) : Bool :=
  let per := s.rd (ANG_PERIOD_NS b)
  let n := s.nNom b
  0 < per && decide (70 * per * n ≤ 100 * 60000000000) && decide (100 * 60000000000 ≤ 105 * per * n)

/-- Recompute SPD_OK and WOK (R66): WOK needs SRC = WEDGE, SPD_OK, and 8 consecutive accepted marks since the last miss
(R63). Where SPD_OK falls, open gates drop and the lasers go off; where WOK falls, a write in progress ends with cause 1 and
any gate or laser still open is closed. Where the period has shortened so far that a write's rate exceeds a frame's
capacity, the write ends with cause 9 (R114). -/
def State.updateLock (s : State) (b : Nat) : State :=
  let spd := s.speedOk b
  let wok := s.rd (ANG_STAT_SRC b) == srcWedge && spd && decide (8 ≤ s.rd (ANG_STAT_GOOD b))
  let hadSpd := s.on (ANG_STAT_SPD_OK b)
  let hadWok := s.on (ANG_STAT_WOK b)
  let s := (s.put (ANG_STAT_SPD_OK b) spd).put (ANG_STAT_WOK b) wok
  let s := if hadSpd && ! spd then (s.closeGates (2 * b) 1).closeGates (2 * b + 1) 1 else s
  let s := if hadWok && ! wok then
      let drop (k : Nat) (s : State) : State := (s.dropWrite k 1).facetCause (sliceFct k) 8
      drop (2 * b + 1) (drop (2 * b) s)
    else s
  (((s.checkRate (2 * b)).checkRate (2 * b + 1)).keepSrate (2 * b)).keepSrate (2 * b + 1)

/-- The phases of bay `b` are driven from an observer that holds the rotor (R64, R211). -/
def State.observerHolds (s : State) (b : Nat) : Bool :=
  s.on (SPN_STAT_OBSOK b) && (s.rd (SPN_STAT_ST b) == 3 || s.rd (SPN_STAT_ST b) == 4)

/-- SRC changes: ANG_PERIOD reads 0 while SRC = NONE (R51), the observed period while SRC = EMF. -/
def State.setSource (s : State) (b src : Nat) : State :=
  let s := s.wr (ANG_STAT_SRC b) src
  let s := s.setAng b { s.angS b with corr := 0, frac := 0, intervals := [], lastMark := none, agree := [] }
  if src = srcNone then s.wr (ANG_PERIOD_NS b) 0
  else if src = srcEmf then
    let rpm := s.rd (SPN_SPEED_RPM b)
    s.wr (ANG_PERIOD_NS b) (if rpm = 0 then 0 else 60000000000 / rpm)
  else s

/-- Lock of bay `b` is declared lost (R64): LOST, an event, SRC to EMF or NONE, actions that need wedges cancelled; the
actuators that had servo lock lose it (R190), and reads in progress wait for the angle (R130). -/
def State.lockLost (s : State) (b : Nat) : State :=
  let s := (s.put (ANG_STAT_LOST b) true).event 5 .lockLost 1 b
  let s := s.setSource b (if s.observerHolds b then srcEmf else srcNone)
  let s := s.endActions b (fun a => a.cls ≠ .commutation) .angleLost
  let lose (k : Nat) (s : State) : State :=
    let v := s.servoS k
    let runs := s.rd (SRV_STAT_ST k) = stActive ∨ s.rd (SRV_STAT_ST k) = stLoading
    let s := s.setServo k { v with lock := false, acquired := 0
                                   reacqSince := if runs then some (v.reacqSince.getD s.now) else v.reacqSince }
    let s := if runs then s.inhibit k else s
    match s.curOp k with
    | some o => if Desc.op o.desc = 2 then s else s.setCurOp k { o with lostAt := some (o.lostAt.getD s.now) }
    | none => s
  (lose (2 * b + 1) (lose (2 * b) s)).updateLock b

/-- MISS (R62 to R64): a mark window closes without an accepted mark. A count of accepted marks towards servo lock starts
again (R63, R182). -/
def miss (b : Bay) (s : State) : State :=
  if s.rd (ANG_STAT_SRC b) ≠ srcWedge then s
  else
    let s := ((s.bump (ANG_STAT_COAST b)).bump (ANG_MISS_COUNT b)).wr (ANG_STAT_GOOD b) 0
    let s := s.updateLock b
    let drop (k : Nat) (s : State) : State :=
      if (s.servoS k).lock then s else s.setServo k { s.servoS k with acquired := 0 }
    let s := drop (2 * b + 1) (drop (2 * b) s)
    let s := (s.facetCause (reticleFct (2 * b)) 10).facetCause (reticleFct (2 * b + 1)) 10
    if s.rd (ANG_CTL_COAST_MAX b) + 1 < s.rd (ANG_STAT_COAST b) then s.lockLost b else s

/-- MISS. -/
def execMiss (b : Bay) (s : State) : Result := linkClocked s (s.whileRuns (64 + b.val) (miss b))

/-! ### Marks (R52 to R55, R65) -/

/-- A difference of angles as a number in (−2^19, 2^19]. -/
def angleDiff (x : Int) : Int :=
  let m := x % 2 ^ 20
  if m ≤ 2 ^ 19 then m else m - 2 ^ 20

/-- ANG_UPLAT in au at a period (R55). -/
def State.uplatAu (s : State) (b per : Nat) : Nat := if per = 0 then 0 else s.rd (ANG_UPLAT_NS b) * 2 ^ 20 / per

/-- TOL of R52: 8 to 1,024. -/
def State.tol (s : State) (b : Nat) : Int := s.clamp (ANG_TOL_TOL b) 8 1024

/-- REACQ of R65: 2 to 7; 0 and 1 act as 2. -/
def State.reacq (s : State) (b : Nat) : Nat := max 2 (s.rd (ANG_CTL_REACQ b))

/-- The spindle angle of wedge `w` under the head of actuator `a` (R49, R50). -/
def State.markAngle (s : State) (b a w : Nat) : Nat :=
  (wedgeAngle (s.nWedges b) w + s.rd (ANG_SKEW_AU b a (s.servoS (2 * b + a)).head)) % 2 ^ 20

/-- The actuator whose marks drive the counter (R53): 0 where it has lock, else 1 where it has, else the one given. -/
def State.driver (s : State) (b a : Nat) : Nat :=
  if (s.servoS (2 * b)).lock then 0 else if (s.servoS (2 * b + 1)).lock then 1 else a

/-- ANG_PERIOD from the wedge intervals held: the sum of the last N_w, scaled up while fewer have been measured
(DESIGN CHOICE, log entry 8). -/
def periodOf (nw : Nat) (l : List Nat) : Nat :=
  if l.isEmpty then 0 else l.foldl (· + ·) 0 * nw / l.length

/-- The wedge intervals between marks in a row, newest first: the time from one to the next, shared over the wedges that
passed. -/
def markIntervals (nw : Nat) : List SeenMark → List Nat
  | m :: m' :: r =>
    let n := max 1 ((m.wedge + nw - m'.wedge % nw) % nw)
    List.replicate n ((m.at_ - m'.at_) / n) ++ markIntervals nw (m' :: r)
  | _ => []

/-- Take the interval since the last accepted mark, shared over the wedges that passed, into the list (R66). -/
def State.takeInterval (s : State) (b w : Nat) : State :=
  let g := s.angS b
  let nw := s.nWedges b
  match g.lastMark with
  | none => s.setAng b { g with lastMark := some (s.now, w) }
  | some (t, w0) =>
    let l := (markIntervals nw [{ at_ := s.now, wedge := w }, { at_ := t, wedge := w0 }] ++ g.intervals).take nw
    (s.setAng b { g with lastMark := some (s.now, w), intervals := l }).wr (ANG_PERIOD_NS b) (periodOf nw l)

/-- A rebase (R65): the counter takes the value nearest its own that carries the marks' fraction; commutation targets
move with it, other actions are cancelled; it counts as a miss for R63. -/
def State.rebase (s : State) (b : Nat) (delta : Int) : State :=
  let cnt : Int := s.rd (ANG_CNT_VALUE b)
  let s := (s.wrInt (ANG_CNT_VALUE b) (cnt + delta)).wrInt (ANG_REBASE_DELTA b) delta
  let g := s.angS b
  let s := s.setAng b { g with
    slots := g.slots.map fun p =>
      if p.2.armed && p.2.cls == .commutation then (p.1, { p.2 with target := p.2.target + BitVec.ofInt 32 delta }) else p
    corr := 0, agree := [] }
  let s := s.endActions b (fun a => a.cls ≠ .commutation) .rebase
  ((s.put (ANG_STAT_REBASED b) true).wr (ANG_STAT_GOOD b) 0).updateLock b

/-- Marks seen while the counter runs agree where their errors lie within TOL of one another: they give one fraction (R65). -/
def errorsAgree (tol : Int) (l : List SeenMark) : Bool :=
  l.all fun x => l.all fun y => decide ((angleDiff (x.err - y.err)).natAbs ≤ tol.toNat)

/-- The au from the oldest mark of a list, newest first, to its newest. -/
def markSpan : List SeenMark → Nat
  | m :: m' :: r => (m.angle + 2 ^ 20 - m'.angle % 2 ^ 20) % 2 ^ 20 + markSpan (m' :: r)
  | _ => 0

/-- The spans of the marks of a list, newest first, from its oldest one, each with its time. -/
def markLine : List SeenMark → List (Nat × Nat)
  | [] => []
  | m :: r => (m.at_, markSpan (m :: r)) :: markLine r

/-- Marks seen while the counter is held agree where each lies within TOL of the angle that the rate from the oldest to
the newest puts there (R65; DEDUCED, log entry 9). -/
def anglesAgree (tol : Int) (l : List SeenMark) : Bool :=
  match (markLine l).head?, (markLine l).getLast? with
  | some (t1, a1), some (t0, _) =>
    (markLine l).all fun p => decide ((((p.2 : Int) - (a1 * (p.1 - t0) / max 1 (t1 - t0) : Nat))).natAbs ≤ tol.toNat)
  | _, _ => true

/-- The longest run of the newest marks that agree. -/
def agreeingRun (p : List SeenMark → Bool) : Nat → List SeenMark → List SeenMark
  | 0, l => l.take 1
  | fuel + 1, l => if p l then l else agreeingRun p fuel l.dropLast

/-- SRC moves to WEDGE after a rebase on the marks of `l` (R65, R207). -/
def State.toWedge (s : State) (b : Nat) (l : List SeenMark) : State :=
  let fromEmf := s.rd (ANG_STAT_SRC b) = srcEmf
  let nw := s.nWedges b
  let ints := (markIntervals nw l).take nw
  let s := s.setSource b srcWedge
  let s := s.setAng b { s.angS b with intervals := ints, lastMark := l.head?.map fun m => (m.at_, m.wedge) }
  let s := (s.wr (ANG_PERIOD_NS b) (periodOf nw ints)).updateLock b
  -- On the change from EMF to WEDGE hardware sets SPN_EOFS so that the electrical angle is continuous (R207); the
  -- observer's angle is not stated, so the offset is a free value.
  if fromEmf then { s with free := s.free + 1 }.wr (SPN_EOFS_AU b) (Config.freeNat s.free) else s

/-- A mark while SRC is not WEDGE, or a suspect mark: it joins the marks that agree with it; REACQ of them make a rebase
(R65). It changes neither ANG_PERIOD nor the rate (R52). -/
def State.agreeMark (s : State) (b w angle : Nat) : State :=
  let held := s.rd (ANG_STAT_SRC b) = srcNone
  let err (per : Nat) : Int := angleDiff ((angle : Int) - ((s.rd (ANG_CNT_VALUE b) : Int) - s.uplatAu b per))
  let m : SeenMark := { at_ := s.now, wedge := w, angle := angle, err := err (s.rd (ANG_PERIOD_NS b)) }
  let l := agreeingRun (if held then anglesAgree (s.tol b) else errorsAgree (s.tol b)) 7 ((m :: (s.angS b).agree).take 7)
  if l.length < s.reacq b then s.setAng b { s.angS b with agree := l }
  else
    let e := if held then err (periodOf (s.nWedges b) (markIntervals (s.nWedges b) l)) else m.err
    let s := s.rebase b e
    -- a rebase makes the skew of the head that drives the counter due (R242)
    let dk := 2 * b + s.driver b 0
    let s := s.calTrigger dk 1 (s.servoS dk).head
    let s := if s.rd (ANG_STAT_SRC b) = srcWedge then s.setAng b { s.angS b with lastMark := some (s.now, w) } else s.toWedge b l
    (s.resumeRead (2 * b)).resumeRead (2 * b + 1)

/-- Count an accepted mark towards the servo lock of actuator `a` (R182: lock is acquired on 8 accepted marks). -/
def State.countServo (s : State) (k : Nat) : State :=
  let v := s.servoS k
  if v.lock then s
  else s.setServo k { v with acquired := min 8 (v.acquired + 1), lock := decide (8 ≤ v.acquired + 1) }

/-- WIN of R62: 4 to 255. -/
def State.markWindow (s : State) (b : Nat) : Nat := max 4 (s.rd (ANG_CTL_WIN b))

/-- SYNC_MARK (R52, R53, R62, R65): actuator `a` of bay `b` delivers a servo sync mark with decoded wedge number `w`. While
SRC = WEDGE a mark outside its window is not seen (DEDUCED, log entry 9); one within TOL is accepted, and its error is
removed over the next interval; a suspect one corrects nothing. -/
def syncMark (b : Bay) (a : Act) (w : BitVec 10) (s : State) : State :=
  let bn := b.val
  let angle := s.markAngle bn a w.toNat
  if s.rd (ANG_STAT_SRC bn) ≠ srcWedge then s.agreeMark bn w.toNat angle
  else
    let e := angleDiff ((angle : Int) - ((s.rd (ANG_CNT_VALUE bn) : Int) - s.uplatAu bn (s.rd (ANG_PERIOD_NS bn))))
    if s.markWindow bn < e.natAbs then s
    else if s.driver bn a ≠ a then (if e.natAbs ≤ (s.tol bn).toNat then s.countServo (2 * bn + a) else s)
    else
      if e.natAbs ≤ (s.tol bn).toNat then
        let s := (s.wrInt (ANG_ERR_AU bn) e).takeInterval bn w.toNat
        let s := s.setAng bn { s.angS bn with corr := e, agree := [] }
        let s := ((s.bump (ANG_STAT_GOOD bn)).wr (ANG_STAT_COAST bn) 0).updateLock bn
        (s.countServo (2 * bn + a)).wedgeSpeed bn
      else s.agreeMark bn w.toNat angle

/-- SYNC_MARK. -/
def execSyncMark (b : Bay) (a : Act) (w : BitVec 10) (s : State) : Result := linkClocked s (s.whileRuns (64 + b.val) (syncMark b a w))

/-! ### Snapshot (R71) -/

/-- SNAPSHOT: every bay's counter and wall time are captured in one cycle. -/
def snapshot (s : State) : State :=
  (forUpTo s.bayCount (fun b s => s.wr (ANG_SNAP_CNT_VALUE b) (s.rd (ANG_CNT_VALUE b))) s).wr ANG_SNAP_WT_NS s.wt

/-- SNAPSHOT. -/
def execSnapshot (s : State) : Result := clocked s (snapshot s)

/-! ### Wall time and RACKSYNC (R67 to R70) -/

/-- The symbol of a pulse width (R68). -/
def rsSymbol (widthMs : Nat) : RsSymbol :=
  if 180 ≤ widthMs ∧ widthMs ≤ 220 then .zero
  else if 480 ≤ widthMs ∧ widthMs ≤ 520 then .one
  else if 780 ≤ widthMs ∧ widthMs ≤ 820 then .marker
  else .bad

/-- The bit of a data symbol. -/
def rsBit : RsSymbol → Option Bool
  | .zero => some false
  | .one => some true
  | _ => none

/-- CRC-7 with polynomial x^7 + x^3 + 1, initial value 0, over bits in the order given (R68). -/
def crc7 (bits : List Bool) : BitVec 7 :=
  bits.foldl (fun c b => if (c.getLsbD 6) ^^ b then (c <<< 1) ^^^ 0x09 else c <<< 1) 0

/-- The number that bits spell, least significant first. -/
def bitsNat : List Bool → Nat
  | [] => 0
  | b :: r => b.toNat + 2 * bitsNat r

/-- The second number of a complete frame of 48 symbols, if the frame is valid (R68). The CRC bits are taken least
significant first, as the second number is (DEDUCED, log entry 10). -/
def rsDecode (f : List RsSymbol) : Option Nat :=
  match f with
  | .marker :: r =>
    let bits := r.filterMap rsBit
    if r.length = 47 ∧ bits.length = 47 ∧ bitsNat (bits.drop 40) = (crc7 (bits.take 40)).toNat then
      some (bitsNat (bits.take 40))
    else none
  | _ => none

/-- Handle the offset d at an edge whose expected wall time is known (R69). -/
def State.alignWall (s : State) (expected : Nat) : State :=
  let d : Int := (expected : Int) - s.wt
  if ¬ s.on ANG_WT_STAT_EPOCH then
    ({ (s.wr ANG_WT_NS expected) with wall := { s.wall with slew := 0, slewAcc := 0 } }.put ANG_WT_STAT_EPOCH true).eventWith
      5 .wallSet 0 0 [s.wt, expected]
  else if d.natAbs ≤ 1000 then { s with wall := { s.wall with slew := d, slewPpm := 100, slewAcc := 0 } }
  else if 1000 < d then
    { (s.wr ANG_WT_NS expected) with wall := { s.wall with slew := 0, slewAcc := 0 } }
  else ({ s with wall := { s.wall with slew := d, slewPpm := 1000, slewAcc := 0 } }).put ANG_WT_STAT_SLEW true

/-- RACKSYNC_EDGE (R68, R69): a rising edge; `widthMs` is the width of the pulse that ended before it. HOLD clears at every
edge, a bad symbol outside a frame and a marker inside one set CRCERR, and such a marker begins a new frame: the spec states
none of the three (DESIGN CHOICE, log entry 96). -/
def racksyncEdge (widthMs : Nat) (s : State) : State :=
  let s := s.put ANG_WT_STAT_HOLD false
  let sym := rsSymbol widthMs
  let f := s.wall.frame ++ [sym]
  -- a frame begins with a marker; any other symbol with no frame begun is passed over
  if s.wall.frame.isEmpty ∧ sym ≠ .marker then
    let s := if sym = .bad then s.put ANG_WT_STAT_CRCERR true else s
    match s.wall.expect with
    | none => s
    | some n => ({ s with wall := { s.wall with expect := some (n + 1) } }).alignWall (n * 1000000000)
  else if f.length < 48 then
    let bad := sym == RsSymbol.bad || (sym == RsSymbol.marker && ! s.wall.frame.isEmpty)
    let s := if bad then s.put ANG_WT_STAT_CRCERR true else s
    let fr : List RsSymbol := if sym == RsSymbol.marker then [RsSymbol.marker] else if bad then [] else f
    let s := { s with wall := { s.wall with frame := fr } }
    match s.wall.expect with
    | none => s
    | some n => ({ s with wall := { s.wall with expect := some (n + 1) } }).alignWall (n * 1000000000)
  else
    let s := { s with wall := { s.wall with frame := [] } }
    match rsDecode f with
    | none =>
      let s := s.put ANG_WT_STAT_CRCERR true
      match s.wall.expect with
      | none => s
      | some n => ({ s with wall := { s.wall with expect := some (n + 1) } }).alignWall (n * 1000000000)
    | some sec =>
      -- this edge is the 48th after the edge of pulse 0
      let s := s.wr ANG_RS_SEC_S sec
      ({ s with wall := { s.wall with expect := some (sec + 49) } }).alignWall ((sec + 48) * 1000000000)

/-- RACKSYNC_EDGE. -/
def execRacksyncEdge (widthMs : Nat) (s : State) : Result := clocked s (racksyncEdge widthMs s)

/-- RACKSYNC_HOLD (R70): no edge within 1.5 s. -/
def racksyncHold (s : State) : State := s.put ANG_WT_STAT_HOLD true

/-- RACKSYNC_HOLD. -/
def execRacksyncHold (s : State) : Result := clocked s (racksyncHold s)

/-! ### The passing of one nanosecond -/

/-- ANG_WT advances by 1 ns, one more or none where a slew falls due (R67, R69). -/
def State.tickWall (s : State) : State :=
  let w := s.wall
  let acc := w.slewAcc + (if w.slew = 0 then 0 else w.slewPpm)
  if acc < 1000000 then ({ s with wall := { w with slewAcc := acc } }).bumpWrap ANG_WT_NS
  else if 0 < w.slew then
    ({ s with wall := { w with slewAcc := acc - 1000000, slew := w.slew - 1 } }).bumpWrap ANG_WT_NS 2
  else { s with wall := { w with slewAcc := acc - 1000000, slew := w.slew + 1 } }

/-- The ns of a revolution at the rate estimate of bay `b` (R52): with SRC = WEDGE the next wedge interval is taken from the
last two in a straight line, which tracks speed and acceleration (DESIGN CHOICE, log entry 46); ANG_PERIOD otherwise. -/
def State.ratePeriod (s : State) (b : Nat) : Nat :=
  if s.rd (ANG_STAT_SRC b) = srcWedge then
    match (s.angS b).intervals with
    | i :: j :: _ => max 1 (2 * i - j) * s.nWedges b
    | _ => s.rd (ANG_PERIOD_NS b)
  else s.rd (ANG_PERIOD_NS b)

/-- The counter of bay `b` advances by its rate, 2^20 au per revolution; the error of the last mark is removed by
counting one au more, or withholding au, so that the counter never decreases (R47, R52). -/
def State.tickAngle (s : State) (b : Nat) : State :=
  let per := s.ratePeriod b
  if s.rd (ANG_STAT_SRC b) = srcNone ∨ per = 0 then s
  else
    let g := s.angS b
    let acc := g.frac + 2 ^ 20
    let n := acc / per
    let extra : Int := if n = 0 then 0 else if 0 < g.corr then 1 else if g.corr < 0 then - (min n g.corr.natAbs : Nat) else 0
    (s.setAng b { g with frac := acc % per, corr := g.corr - extra }).wrInt (ANG_CNT_VALUE b)
      ((s.rd (ANG_CNT_VALUE b) : Int) + n + extra)

/-- One nanosecond passes in which no command is taken: wall time, while SYSREF is present, and the angle counters of
bays whose link clock runs (R36, R67). -/
def State.tick (s : State) : State :=
  let s := { s with now := s.now + 1 }
  let s := if s.sysrefOk then s.tickWall else s
  if s.brefOk then forUpTo s.bayCount (fun b s => s.tickAngle b) s else s

/-! ### Input clocks (R36) -/

/-- An input clock is present and within tolerance, or not. -/
def State.setClock (s : State) (c : ClockIn) (v : Bool) : State :=
  match c with
  | .sysref => { s with sysrefOk := v }
  | .brefclk => { s with brefOk := v }
  | .hrefclk => { s with hrefOk := v }

/-- CLOCK_LOSS: only the domains derived from the clock stop; the loss is recorded. -/
def clockLoss (c : ClockIn) (s : State) : State := (s.setClock c false).event 11 .clockLoss 0 0

/-- CLOCK_LOSS. -/
def execClockLoss (c : ClockIn) (s : State) : Result := done s (clockLoss c s)

/-- CLOCK_RETURN: the domains derived from the clock run again. -/
def clockReturn (c : ClockIn) (s : State) : State := s.setClock c true

/-- CLOCK_RETURN. -/
def execClockReturn (c : ClockIn) (s : State) : Result := done s (clockReturn c s)

end Sys2Proof.Machine
end

