-- ==== Sys2Proof/Machine/Sha.lean ====
section
/-! DEFINITION. Sys2Proof/Machine/Sha.lean: SHA-384 (FIPS 180-4), which the rules name for draw keys, seeds of the layout
draws and hashes of keys and configurations (R231, R282). -/
namespace Sys2Proof.Machine
open Sys2Proof

/-- The primes below 410: the first 80. -/
def shaPrimes : List Nat :=
  (List.range 410).filter fun n => decide (1 < n) && (List.range n).all fun d => decide (d < 2) || n % d != 0

/-- The greatest `a + x` with `x` below `2 ^ n` whose `e`-th power is at most `v`, built from the highest bit down. -/
def powRoot (e v : Nat) : Nat → Nat → Nat
  | 0, a => a
  | n + 1, a => powRoot e v n (if (a + 2 ^ n) ^ e ≤ v then a + 2 ^ n else a)

/-- The first 64 bits of the fractional part of the `e`-th root of `p`. -/
def rootBits (e p : Nat) : BitVec 64 := BitVec.ofNat 64 (powRoot e (p * 2 ^ (64 * e)) 70 0)

/-- Round constants: the fractional parts of the cube roots of the first 80 primes. -/
def shaK : List (BitVec 64) := shaPrimes.map (rootBits 3)

/-- Initial hash value: the fractional parts of the square roots of the 9th to 16th primes. -/
def shaInit : List (BitVec 64) := ((shaPrimes.drop 8).take 8).map (rootBits 2)

/-- The number that bytes spell, highest first. -/
def beNat (bs : List Byte) : Nat := bs.foldl (fun t b => t * 256 + b.toNat) 0

/-- The bytes of a number, highest first. -/
def beBytes (n v : Nat) : List Byte := (leBytes n v).reverse

/-- The message followed by one 1 bit, zeros and its length in bits, to a multiple of 128 bytes. -/
def shaPad (m : List Byte) : List Byte :=
  m ++ [0x80] ++ List.replicate ((239 - m.length % 128) % 128) 0 ++ beBytes 16 (m.length * 8)

/-- Extend the message schedule (newest word first) by `n` words. -/
def shaSchedule : Nat → List (BitVec 64) → List (BitVec 64)
  | 0, w => w
  | n + 1, w =>
    let x := w.getD 14 0
    let y := w.getD 1 0
    let s0 := x.rotateRight 1 ^^^ x.rotateRight 8 ^^^ (x >>> 7)
    let s1 := y.rotateRight 19 ^^^ y.rotateRight 61 ^^^ (y >>> 6)
    shaSchedule n ((w.getD 15 0 + s0 + w.getD 6 0 + s1) :: w)

/-- One round on the eight working variables. -/
def shaRound (v : List (BitVec 64)) (kw : BitVec 64) : List (BitVec 64) :=
  match v with
  | [a, b, c, d, e, f, g, h] =>
    let s1 := e.rotateRight 14 ^^^ e.rotateRight 18 ^^^ e.rotateRight 41
    let t1 := h + s1 + ((e &&& f) ^^^ (~~~e &&& g)) + kw
    let s0 := a.rotateRight 28 ^^^ a.rotateRight 34 ^^^ a.rotateRight 39
    let t2 := s0 + ((a &&& b) ^^^ (a &&& c) ^^^ (b &&& c))
    [t1 + t2, a, b, c, d + t1, e, f, g]
  | l => l

/-- The eight-byte words of a block. -/
def shaWords : Nat → List Byte → List (BitVec 64)
  | 0, _ => []
  | n + 1, bs => BitVec.ofNat 64 (beNat (bs.take 8)) :: shaWords n (bs.drop 8)

/-- One block of 128 bytes. -/
def shaBlock (h : List (BitVec 64)) (bs : List Byte) : List (BitVec 64) :=
  let w := (shaSchedule 64 (shaWords 16 bs).reverse).reverse
  let v := (shaK.zip w).foldl (fun v p => shaRound v (p.1 + p.2)) h
  (h.zip v).map fun p => p.1 + p.2

/-- All blocks. -/
def shaBlocks : Nat → List (BitVec 64) → List Byte → List (BitVec 64)
  | 0, h, _ => h
  | n + 1, h, bs => shaBlocks n (shaBlock h (bs.take 128)) (bs.drop 128)

/-- SHA-384 of a byte string: 48 bytes. -/
def sha384 (m : List Byte) : List Byte :=
  let p := shaPad m
  ((shaBlocks (p.length / 128) shaInit p).take 6).flatMap fun x => beBytes 8 x.toNat

end Sys2Proof.Machine
end

