-- ==== Sys2Proof/Machine/Heads.lean ====
section
/-! DEFINITION. Sys2Proof/Machine/Heads.lean: head life and calibration (R223 to R247): folding the laser accumulators,
the life records and their reconciliation, retirement, calibration pieces and their ramps, and the trace to VREFIN. -/
namespace Sys2Proof.Machine
open Sys2Proof

/-! ### Life counters (R225, R226) -/

/-- LE_LIM in counts of 0.01 J (R225). -/
def State.leLim (s : State) : Nat := s.rd (CFG_PARAM_VALUE 1) * 100

/-- The warning thresholds in table order (R225): LASER_E, WPO_S, TD, LUL. -/
def State.warnAt (s : State) : List Nat :=
  [s.leLim * s.rd (CFG_PARAM_VALUE 2) / 100, s.rd (CFG_PARAM_VALUE 3) * 3600, s.rd (CFG_PARAM_VALUE 4), s.rd (CFG_PARAM_VALUE 5)]

/-- A counter of R225 is 32 bits and saturates. -/
def sat32 (n : Nat) : Nat := min n (2 ^ 32 - 1)

/-- The divisor of R226: units of dA × PFS in one count of LASER_E. -/
def laserUnit : Nat := 409500000000000

/-- Warnings that a record's counters have reached and that were not recorded before: the new WARN bits. -/
def State.newWarn (s : State) (r : LifeRec) : BitVec 4 :=
  let hit := (List.zip [r.laserE, r.wpoS, r.td, r.lul] s.warnAt).map fun p => decide (p.2 ≤ p.1)
  BitVec.ofNat 4 ((hit.getD 0 false).toNat + 2 * (hit.getD 1 false).toNat + 4 * (hit.getD 2 false).toNat
    + 8 * (hit.getD 3 false).toNat)

/-- Record a warning event once per counter per head (R225). -/
def State.checkWarn (s : State) (p : Nat) : State :=
  let r := s.lifeR p
  let n := s.newWarn r
  if n &&& ~~~r.warn = 0 then s
  else
    let s := s.setLife p { r with warn := r.warn ||| n, changed := true }
    (List.range 4).foldl (fun s i => if (n &&& ~~~r.warn).getLsbD i then s.event 8 .lifeWarn 3 p else s) s

/-- The PFS used for a head: from the bridge store header, or, where the header has none, 64 per 256 levels of its
calibrated LWRITE once laser calibration has succeeded on it (R232). -/
def State.pfsOf (s : State) (p : Nat) : Nat :=
  let r := s.lifeR p
  if r.pfs ≠ 0 then r.pfs
  else
    let k := hportSlice p
    if (s.calS k).valid.contains (16 * 4 + hportHead p) then 64 * s.rd (CS_HLASER_LWRITE k (hportHead p)) / 256 else 0

/-- One head's record after a fold (R226). -/
def foldRec (r : LifeRec) (pfs accA accW : Nat) : LifeRec :=
  let dA := (accA + 2 ^ 64 - r.lastA) % 2 ^ 64
  let dW := (accW + 2 ^ 64 - r.lastW) % 2 ^ 64
  let e := r.remE + dA * pfs
  let w := r.remW + dW
  { r with
    laserE := sat32 (r.laserE + e / laserUnit), remE := e % laserUnit
    wpoS := sat32 (r.wpoS + w / 1000000000), remW := w % 1000000000
    lastA := accA, lastW := accW
    changed := r.changed || decide (0 < e / laserUnit) || decide (0 < w / 1000000000) }

/-- The 32 bytes of a head record (R228), its CRC computed. -/
def recordBytes (r : LifeRec) : List Byte :=
  let body := leBytes 4 r.gen ++ leBytes 4 r.laserE ++ leBytes 4 r.wpoS ++ leBytes 4 r.td ++ leBytes 4 r.lul
    ++ leBytes 1 r.retired.toNat ++ leBytes 1 r.reason ++ leBytes 1 r.calFail ++ leBytes 1 r.drvFlt ++ leBytes 4 r.warn.toNat
  body ++ leBytes 4 (crc32c body).toNat

/-- The copy of R229 to write next: B where A holds the newer valid record, else A. -/
def nextCopy (newerB : Option Bool) : Bool := newerB == some false

/-- Write a head's record to the bridge store, into the copy that does not hold the newer valid one, its GEN one higher (R228,
R229). -/
def State.bridgeHead (s : State) (p : Nat) : State :=
  let r := s.lifeR p
  let toB := nextCopy r.newerB
  let r := { r with gen := (r.gen + 1) % 2 ^ 32, changed := false, newerB := some toB }
  (s.setLife p r).emit (.bridgeStore (hportBay p) ((if toB then 0x1500 else 0x1100) + 32 * (p % 32)) (recordBytes r))

/-- Write a head's record to the vital area. -/
def State.vitalHead (s : State) (p : Nat) : State :=
  let b := hportBay p
  ({ s with hdas := s.hdas.map fun r =>
      if r.bay = some b then { r with heads := smSet {} r.heads (p % 32) (s.lifeR p) } else r } : State).emit
    (.vitalArea b (p % 32) (recordBytes (s.lifeR p)))

/-- Retirement of a head (R234): the record written, an event, its surface mapped out of the Band Table, a calibration
on it stopped, and the arm failed where no active head remains. -/
def State.retireHead (s : State) (p reason : Nat) : State :=
  if s.isRetired p then s
  else
    let k := hportSlice p
    let h := hportHead p
    let r := s.lifeR p
    let s := s.setLife p { r with retired := true, reason := reason, changed := true }
    let s := (if s.on APR_STAT_FLUSHING then s else (s.bridgeHead p).vitalHead p).event 8 .lifeLimit 3 p
    -- every band of the surface becomes UNUSABLE (R265)
    let s : State := { s with bt := s.bt.map fun q =>
      if q.1 / 2 ^ 15 = p then
        (q.1, { q.2 with bytes := (q.2.bytes &&& ~~~((255 : BitVec 256) <<< 32)) ||| ((4 : BitVec 256) <<< 32), dirty := true })
      else q }
    let c := s.calS k
    let s := if c.running.any (fun (x : Nat × Nat) => x.2 == h) then s.setCal k { c with running := none, lastEnd := some s.now } else s
    if (List.range (s.headCount (bayOf k) (actOf k))).all fun h => s.isRetired (hportOf (bayOf k) (actOf k) h) then
      s.failArms [k]
    else s.checkRoles

/-- Fold one head's accumulators (R226), record warnings, and retire the head where LASER_E reaches LE_LIM (R233). -/
def State.foldHead (s : State) (p : Nat) : State :=
  let k := hportSlice p
  let h := hportHead p
  let r := foldRec (s.lifeR p) (s.pfsOf p) (s.rd (CS_LASER_ACC_ACC k h)) (s.rd (CS_WPO_NS k h))
  let s := (s.setLife p r).checkWarn p
  if s.leLim ≤ r.laserE then s.retireHead p 1 else s

/-- Fold every head declared on slice `k`; the laser level in effect is first brought into the accumulators. -/
def State.foldSlice (s : State) (k : Nat) : State :=
  let s := s.setLaser k (s.sliceS k).laser
  forUpTo (s.headCount (bayOf k) (actOf k)) (fun h s => s.foldHead (hportOf (bayOf k) (actOf k) h)) s

/-- LIFE_FOLD (R226): once a second, every attached bay's heads. -/
def lifeFold (s : State) : State :=
  forUpTo (2 * s.bayCount) (fun k s => if s.on (BL_CTL_ATTACHED (bayOf k)) then s.foldSlice k else s) s

/-- LIFE_FOLD. -/
def execLifeFold (s : State) : Result := clocked s (lifeFold s)

/-! ### Records (R224, R228 to R231) -/

/-- The vital area's record of the HDA attached to bay `b`. -/
def State.hdaOf (s : State) (b : Nat) : Option HdaRec := s.hdas.find? fun r => r.bay == some b

/-- Write a changed head's record to the bridge store, and to the vital area where `vital` says so (R230). No counter is written
during a power-loss flush. -/
def State.writeHead (s : State) (vital : Bool) (p : Nat) : State :=
  if s.on APR_STAT_FLUSHING then s
  else
    let s := if (s.lifeR p).changed then s.bridgeHead p else s
    if vital then s.vitalHead p else s

/-- Write the records of the heads of actuator `a` of bay `b`. -/
def State.writeActRecords (s : State) (vital : Bool) (b a : Nat) : State :=
  forUpTo (s.headCount b a) (fun h s => s.writeHead vital (hportOf b a h)) s

/-- LIFE_RECORD_WRITE (R230): LIFE_PERIOD has passed; changed records go to the bridge store, and every tenth period, or
after FAULT 0x09 every period, to the vital area. No counter is written during a power-loss flush. -/
def lifeRecordWrite (b : Bay) (s : State) : State :=
  if s.on APR_STAT_FLUSHING ∨ ¬ s.on (BL_CTL_ATTACHED b) then s
  else
    let m := s.beamS b
    let vital := m.storeFault || (m.lifePeriods + 1) % 10 == 0
    let s := s.setBeam b { m with lifePeriods := m.lifePeriods + 1 }
    let s := (s.foldSlice (2 * b)).foldSlice (2 * b + 1)
    (s.writeActRecords vital b 0).writeActRecords vital b 1

/-- LIFE_RECORD_WRITE. -/
def execLifeRecordWrite (b : Bay) (s : State) : Result := clocked s (lifeRecordWrite b s)

/-- A list of bytes ends in the CRC-32C of what stands before it. -/
def crcEnds (n : Nat) (l : List Byte) : Bool := l.length == n && leNat (l.drop (n - 4)) == (crc32c (l.take (n - 4))).toNat

/-- A field of `n` bytes at `off`. -/
def bytesAt (l : List Byte) (off n : Nat) : Nat := leNat ((l.drop off).take n)

/-- A head record as bytes, where it is valid (R229): its CRC matches and STATE is 0 or 1. -/
def parseRecord (l : List Byte) : Option LifeRec :=
  if crcEnds 32 l ∧ bytesAt l 20 1 ≤ 1 then
    some { gen := bytesAt l 0 4, laserE := bytesAt l 4 4, wpoS := bytesAt l 8 4, td := bytesAt l 12 4, lul := bytesAt l 16 4
           retired := bytesAt l 20 1 == 1, reason := bytesAt l 21 1, calFail := bytesAt l 22 1, drvFlt := bytesAt l 23 1
           warn := BitVec.ofNat 4 (bytesAt l 24 4) }
  else none

/-- The generation `x` is the later one of two, or the same (R229). -/
def genLater (x y : Nat) : Bool := decide ((x + 2 ^ 32 - y % 2 ^ 32) % 2 ^ 32 < 2 ^ 31)

/-- The valid copy with the higher GEN (R229), and whether it is copy B. -/
def pickCopy (a b : Option LifeRec) : Option LifeRec :=
  match a, b with
  | some x, some y => if genLater x.gen y.gen then some { x with newerB := some false } else some { y with newerB := some true }
  | some x, none => some { x with newerB := some false }
  | none, some y => some { y with newerB := some true }
  | none, none => none

/-- A store header is present (R227): its format is 0x0001_0000 and its CRC matches. -/
def headerOk (l : List Byte) : Bool := crcEnds 256 l && bytesAt l 0 4 == 0x10000

/-- The bytes listed under a key. -/
def listed (l : List (Nat × List Byte)) (i : Nat) : List Byte := ((l.find? (·.1 == i)).map (·.2)).getD []

/-- The result of reconciling the bridge's record with the device's (R231): the larger of each value; REASON from the
copy whose STATE is larger, else the device's; CALFAIL the device's; GEN one above the larger. -/
def mergeRec (br dv : LifeRec) : LifeRec :=
  { dv with
    newerB := br.newerB
    laserE := max br.laserE dv.laserE, wpoS := max br.wpoS dv.wpoS, td := max br.td dv.td, lul := max br.lul dv.lul
    retired := br.retired || dv.retired, drvFlt := max br.drvFlt dv.drvFlt, warn := br.warn ||| dv.warn
    reason := if br.retired && ! dv.retired then br.reason else dv.reason
    gen := max br.gen dv.gen + 1 }

/-- The counters where both records are missing (R232). -/
def State.unknownRec (s : State) : LifeRec :=
  let pc := s.rd (CFG_PARAM_VALUE 7)
  let w := s.warnAt
  { laserE := s.leLim * pc / 100, wpoS := w.getD 1 0 * pc / 100, td := w.getD 2 0 * pc / 100, lul := w.getD 3 0 * pc / 100, gen := 1 }

/-- The record of the vital area to overwrite when a new HDA needs one and 64 are in use: that detached longest ago
among those not attached (R224). -/
def oldestDetached (l : List HdaRec) : Option HdaRec :=
  (l.filter fun r => r.bay.isNone).foldl (fun best r => match best with
    | none => some r
    | some x => if r.detached < x.detached then some r else some x) none

/-- FAULT 0x02 or 0x04 reported for a head: DRVFLT rises once per attach period; at 3 the head is retired (R233). -/
def State.driveFault (s : State) (p : Nat) : State :=
  let r := s.lifeR p
  if r.faulted then s
  else
    let s := s.foldHead p
    let s := s.setLife p { s.lifeR p with faulted := true, drvFlt := min 255 (r.drvFlt + 1), changed := true }
    let s := s.writeHead true p
    if 3 ≤ (s.lifeR p).drvFlt then s.retireHead p 3 else s

/-- An unload is counted on every head of actuator `a` of bay `b` (R192, R225). -/
def State.countUnload (s : State) (b a : Nat) : State :=
  forUpTo (s.headCount b a) (fun h s =>
    let p := hportOf b a h
    let r := s.lifeR p
    (s.setLife p { r with lul := sat32 (r.lul + 1), changed := true }).checkWarn p) s

/-- Detach ends an attach period: DRVFLT of heads without a report returns to 0, records are folded and written to both
places, and the vital area's record is released (R226, R230, R233). -/
def State.endAttach (s : State) (b : Nat) : State :=
  let s := (s.foldSlice (2 * b)).foldSlice (2 * b + 1)
  let act (a : Nat) (s : State) : State :=
    forUpTo (s.headCount b a) (fun h s =>
      let p := hportOf b a h
      let r := s.lifeR p
      s.setLife p { r with drvFlt := if r.faulted then r.drvFlt else 0, faulted := false,
                           changed := r.changed || (! r.faulted && r.drvFlt != 0) }) s
  let s := act 1 (act 0 s)
  let s := (s.writeActRecords true b 0).writeActRecords true b 1
  { s with hdas := s.hdas.map fun r => if r.bay = some b then { r with bay := none, detached := s.wt } else r }

/-! ### Calibration (R235 to R244) -/

/-- The number of a calibration type (R242). -/
def calNo : CalType → Nat
  | .skew => 1 | .pesLin => 2 | .heater => 3 | .laser => 4 | .writeCurrent => 5 | .equaliser => 6 | .plant => 7 | .winding => 8

/-- HDA temperature of a bay, in 1/256 °C (telemetry 0x00, R91). -/
def State.hdaTemp (s : State) (b : Nat) : Int := s.rdInt (BL_TLM_VALUE b 0)

/-- A calibration of a type is due on a subject (R235), and not held back by CAL_RETRY after a rejected set (R237). -/
def State.calDue (s : State) (k ty h : Nat) : Bool :=
  let c := s.calS k
  let key := 16 * ty + h
  (! c.valid.contains key || c.extra.contains key
    || decide ((s.rd (CFG_PARAM_VALUE 8) : Int) * 256 < (s.hdaTemp (bayOf k) - smGet 0 c.tLast key).natAbs))
  && (match c.failedAt.find? (fun p => p.1 == key) with
      | some p => decide (p.2 + s.rd (CFG_PARAM_VALUE 9) * 1000000000 ≤ s.now)
      | none => true)

/-- The temperature lies in the write window, 1 °C inside its bound where the bay was outside it (R419). -/
def State.inWriteWindow (s : State) (b : Nat) : Bool :=
  let m : Int := if s.energy.writeOut.contains b then 1 else 0
  decide ((s.rdInt THM_WWIN_WLO + m) * 256 ≤ s.hdaTemp b) && decide (s.hdaTemp b ≤ (s.rdInt THM_WWIN_WHI - m) * 256)

/-- Types 6 and 8 interrupt nothing: reads in service and start probes supply their samples (R242). -/
def calInterrupts (ty : Nat) : Bool := ty != 6 && ty != 8

/-- Actuators that a calibration interrupts (R239). -/
def State.calRunning (s : State) : Nat :=
  (s.cals.filter fun p => match p.2.running with | some (ty, _) => calInterrupts ty | none => false).length

/-- A piece of a due calibration may run now (R239, R240): no other piece on the actuator, CAL_GAP since the last one,
fewer than CAL_MAXPAR actuators interrupted, a head calibration in A0 on track, and for types 3 to 5 WOK and the write
window; none while PFAIL_N is asserted. -/
def State.calMayRun (s : State) (k ty h : Nat) : Bool :=
  let c := s.calS k
  let b := bayOf k
  s.calDue k ty h && c.running.isNone
    && (match c.lastEnd with | some t => decide (t + s.rd (CFG_PARAM_VALUE 10) * 1000000 ≤ s.now) | none => true)
    && (! calInterrupts ty || decide (s.calRunning < s.rd (CFG_PARAM_VALUE 11))) && ! s.on APR_STAT_PFAIL
    && decide (h < s.headCount b (actOf k)) && ! s.isRetired (hportOf b (actOf k) h)
    && (if ty ≤ 6 then s.rd (APR_PS_STATE b) == 0 && s.on (SRV_STAT_ONTRK k) else true)
    && (if 3 ≤ ty ∧ ty ≤ 5 then s.on (ANG_STAT_WOK b) && s.inWriteWindow b else true)

/-- No operation of actuator `k` is queued or running. -/
def State.actIdle (s : State) (k : Nat) : Bool := (s.schedS k).queue.isEmpty && (s.schedS k).released.isNone && (s.curOp k).isNone

/-- CALIBRATION_RUN (R239, R241): a due piece takes its turn while the actuator is idle, and interrupts it. -/
def calibrationRun (k : Slice) (ty : CalType) (h : Fin 12) (s : State) : State :=
  if s.calMayRun k (calNo ty) h && (s.actIdle k || ! calInterrupts (calNo ty)) then
    s.setCal k { s.calS k with running := some (calNo ty, h.val) }
  else s

/-- CALIBRATION_RUN. -/
def execCalibrationRun (k : Slice) (ty : CalType) (h : Fin 12) (s : State) : Result := clocked s (s.whileOn (64 + k.val / 2) (calibrationRun k ty h))

/-- CALIBRATION_DEFER_EXPIRY (R241): the piece has waited CAL_DEFER for idle and takes its turn regardless. -/
def calibrationDeferExpiry (k : Slice) (ty : CalType) (h : Fin 12) (s : State) : State :=
  if s.calMayRun k (calNo ty) h && ((s.curOp k).isNone || ! calInterrupts (calNo ty)) then
    s.setCal k { s.calS k with running := some (calNo ty, h.val) }
  else s

/-- CALIBRATION_DEFER_EXPIRY. -/
def execCalibrationDeferExpiry (k : Slice) (ty : CalType) (h : Fin 12) (s : State) : Result :=
  clocked s (s.whileOn (64 + k.val / 2) (calibrationDeferExpiry k ty h))

/-- A signed 16-bit half of a packed word. -/
def half16 (w i : Nat) : Int := (BitVec.ofNat 16 (w / 2 ^ (16 * (i % 2)))).toInt

/-- The register values that a type steps (R238, R244), in order. -/
def State.calRead (s : State) (k ty h : Nat) : List Int :=
  let b := bayOf k
  let a := actOf k
  match ty with
  | 1 => [s.rd (ANG_SKEW_AU b a h)]
  | 2 => (List.range 32).map fun i => half16 (s.rd (SRV_PESLIN_WORD b a h (i / 2))) i
  | 3 => [s.rd (CS_HHTR_HREAD k h), s.rd (CS_HHTR_HWRITE k h)]
  | 4 => [s.rd (CS_HLASER_LWRITE k h), s.rd (CS_HLASER_LBIAS k h), s.rd (CS_HFMT_LMON k h)]
  | 5 => [s.rd (CS_HWRITE_WCUR k h), s.rd (CS_HWRITE_OVSHOOT k h), s.rd (CS_HWRITE_PCSTEP k h)]
  | 7 => (List.range 5).map (fun i => half16 (s.rd (SRV_GAIN_WORD k ((56 + i) / 2))) i)
      ++ (List.range 16).map (fun i => half16 (s.rd (SRV_GAIN_WORD k ((36 + i) / 2))) i)
  | _ => []

/-- Write a 16-bit half of a packed 32-bit register. -/
def State.wrHalf (s : State) (f : Fld) (i : Nat) (v : Int) : State :=
  s.wrInt { f with lo := f.lo + 16 * (i % 2), width := 16 } v

/-- Write coefficient `c` into every gain set of engine `k` (R244). -/
def State.wrCoeff (s : State) (k c : Nat) (v : Int) : State :=
  forUpTo 48 (fun g s => s.wrHalf (SRV_GAIN_WORD k (32 * g + c / 2)) c v) s

/-- Write the register values that a type steps. -/
def State.calWrite (s : State) (k ty h : Nat) (v : List Int) : State :=
  let h := h % 16
  let b := bayOf k
  let a := actOf k
  let x (i : Nat) : Nat := (v.getD i 0).toNat
  match ty with
  | 1 => s.wrInt (ANG_SKEW_AU b a h) (v.getD 0 0)
  | 2 => forUpTo 32 (fun i s => s.wrHalf (SRV_PESLIN_WORD b a h (i / 2)) i (v.getD i 0)) s
  | 3 => (s.wr (CS_HHTR_HREAD k h) (x 0)).wr (CS_HHTR_HWRITE k h) (x 1)
  | 4 => ((s.wr (CS_HLASER_LWRITE k h) (x 0)).wr (CS_HLASER_LBIAS k h) (x 1)).wr (CS_HFMT_LMON k h) (x 2)
  | 5 => ((s.wr (CS_HWRITE_WCUR k h) (x 0)).wr (CS_HWRITE_OVSHOOT k h) (x 1)).wr (CS_HWRITE_PCSTEP k h) (x 2)
  | 7 => forUpTo 16 (fun i s => s.wrCoeff k (36 + i) (v.getD (5 + i) 0))
      (forUpTo 5 (fun i s => s.wrCoeff k (56 + i) (v.getD i 0)) s)
  | _ => s

/-- The steps a ramp takes (R238, R242): as many as keep each within the type's largest step, or 4. -/
def State.rampSteps (s : State) (k ty h : Nat) (finals : List Int) : Nat :=
  let d := ((s.calRead k ty h).zip finals).foldl (fun m p => max m (p.2 - p.1).natAbs) 0
  let steps (step : Nat) : Nat := if step = 0 then 1 else max 1 ((d + step - 1) / step)
  match ty with
  | 1 => steps 16
  | 3 => steps (1023 * 2 / 100)
  | 4 => steps (s.rd (CS_HLASER_LWRITE k h) / 100)
  | _ => 4

/-- How many events (operations, sectors, samples) lie between two steps of a type (R242). -/
def rampEvery (ty : Nat) : Nat :=
  match ty with
  | 2 => 16 | 4 => 64 | 7 => 64 | _ => 1

/-- One step of a ramp: each value moves from the value in force towards its final value (R238). -/
def State.rampStep (s : State) (k : Nat) (r : CalRamp) : State :=
  let cur := s.calRead k r.ty r.head
  let new := (cur.zip r.finals).map fun p => if r.left ≤ 1 then p.2 else p.1 + Int.tdiv (p.2 - p.1) r.left
  s.calWrite k r.ty r.head new

/-- `n` events that count towards the ramps of type `ty` on head `h` (head 255: any head). -/
def State.rampEvent (s : State) (k ty h n : Nat) : State :=
  let c := s.calS k
  let hit (r : CalRamp) : Bool := r.ty == ty && (h == 255 || r.head == h)
  let stepped := c.ramps.filter fun r => hit r && decide (r.wait ≤ n)
  let s := stepped.foldl (fun s r => s.rampStep k r) s
  let ramps := c.ramps.filterMap fun r =>
    if ! hit r then some r
    else if r.wait ≤ n then (if r.left ≤ 1 then none else some { r with left := r.left - 1, wait := rampEvery ty })
    else some { r with wait := r.wait - n }
  s.setCal k { s.calS k with ramps := ramps }

/-- |x − old| lies within `pct` percent of |old|. -/
def within (x old : Int) (pct : Nat) : Bool := decide (100 * (x - old).natAbs ≤ pct * old.natAbs)

/-- Every point exceeds the one before it by 0.5 to 2.0 of the nominal slope; the nominal slope of 32 points from −1 to
+1 in Q1.15 is 2^16 / 31 (R242, type 2). -/
def pesSlopes : List Int → Bool
  | a :: b :: r => decide (2 ^ 15 ≤ 31 * (b - a)) && decide (31 * (b - a) ≤ 2 ^ 17) && pesSlopes (b :: r)
  | _ => true

/-- LASER_LIM of an actuator, as its bridge declares it (R97, R103). -/
def State.laserLim (s : State) (k : Nat) : Nat :=
  let id := (s.beamS (bayOf k)).id
  if actOf k = 0 then id.laserLim0 else id.laserLim1

/-- The plausibility limits of a type (R242). A limit against an old value applies where the type holds values. -/
def State.plausible (s : State) (k ty h : Nat) (r : CalResult) : Bool :=
  let old := s.calRead k ty h
  let has := (s.calS k).valid.contains (16 * ty + h)
  let v (i : Nat) : Int := r.values.getD i 0
  let o (i : Nat) : Int := old.getD i 0
  match ty with
  | 1 => ! has || decide ((v 0 - o 0).natAbs ≤ 4096)
  | 2 => decide (r.table.length = 32) && pesSlopes r.table
  | 3 => decide (1023 * 20 ≤ 100 * v 2) && decide (100 * v 2 ≤ 1023 * 95) && (! has || (within (v 0) (o 0) 10 && within (v 1) (o 1) 10))
  | 4 => decide (v 0 ≤ (s.laserLim k : Int)) && (! has || (within (v 0) (o 0) 15 && within (v 2) (o 2) 20))
  | 5 => ! has || (within (v 0) (o 0) 20 && within (v 1) (o 1) 20)
  | 6 => decide (64 ≤ r.table.foldl (· + ·) 0) && decide (r.table.foldl (· + ·) 0 ≤ 256)
      && decide (4 * v 2 ≤ v 1) && decide (v 1 ≤ 12 * v 2)
  | 7 => within (v 0) (r.nominal.getD 0 0) 20 && within (v 1) (r.nominal.getD 1 0) 20
  | _ => decide (500 ≤ v 0) && decide (v 0 ≤ 5000)

/-! ### Calibration sets (R243, R244) -/

/-- Signed values as little-endian bytes, `n` each. -/
def sgnBytes (n : Nat) (l : List Int) : List Byte := l.flatMap fun v => leBytes n (v % 2 ^ (8 * n)).toNat

/-- The first `n` of a list of numbers, zeros where it is shorter. -/
def firstInts (n : Nat) (l : List Int) : List Int := (List.range n).map fun i => l.getD i 0

/-- VALID of head `h`'s set (R243). -/
def CalSt.validBits (c : CalSt) (h : Nat) : Nat :=
  ((List.range 8).filter fun i => c.valid.contains (16 * (i + 1) + h)).foldl (fun n i => n + 2 ^ i) 0

/-- A calibration set as its 1,024 bytes (R243): the values last accepted, its CRC computed. -/
def CalSt.setBytes (c : CalSt) (h : Nat) : List Byte :=
  let v (ty n : Nat) : List Int := firstInts n (smGet [] c.vals (16 * ty + h))
  let zone (z : Nat) : List Int := smGet [] c.vals (512 + 32 * h + z)
  let body := leBytes 4 (smGet 0 c.gens h) ++ leBytes 2 (c.validBits h) ++ [0, 0]
    ++ sgnBytes 2 ((List.range 7).map fun i => smGet 0 c.tLast (16 * (i + 1) + h)) ++ [0, 0] ++ leBytes 8 (smGet 0 c.wts h)
    ++ sgnBytes 2 (v 1 1 ++ v 3 2 ++ v 4 3) ++ sgnBytes 1 (v 5 3) ++ [0] ++ sgnBytes 1 ((v 5 19).drop 3)
    ++ sgnBytes 2 (v 2 32) ++ sgnBytes 1 ((List.range 32).flatMap fun z => firstInts 16 (zone z))
    ++ sgnBytes 2 ((List.range 32).map fun z => (zone z).getD 16 0) ++ List.replicate 316 0
  body ++ leBytes 4 (crc32c body).toNat

/-- An actuator record as its 64 bytes (R243). -/
def CalSt.actBytes (c : CalSt) : List Byte :=
  let v := firstInts 21 (smGet [] c.vals (16 * 7))
  let body := leBytes 4 (smGet 0 c.gens 16) ++ sgnBytes 2 [smGet 0 c.tLast (16 * 7)] ++ [0, 0] ++ leBytes 8 (smGet 0 c.wts 16)
    ++ sgnBytes 2 v ++ [0, 0]
  body ++ leBytes 4 (crc32c body).toNat

/-- Signed values out of little-endian bytes. -/
def intsAt (l : List Byte) (off n count : Nat) : List Int :=
  (List.range count).map fun i => (BitVec.ofNat (8 * n) (bytesAt l (off + n * i) n)).toInt

/-- The later of two sets, by WT, among those whose CRC matches (R243). -/
def pickSet (n wt : Nat) (a b : List Byte) : Option (List Byte) :=
  match crcEnds n a, crcEnds n b with
  | true, true => some (if bytesAt b wt 8 ≤ bytesAt a wt 8 then a else b)
  | true, false => some a
  | false, true => some b
  | false, false => none

/-- The values of a calibration set of head `h` come into the accepted ones (R243). -/
def CalSt.takeSet (c : CalSt) (h : Nat) (l : List Byte) : CalSt :=
  let tys := (List.range 7).filter fun i => (bytesAt l 4 2).testBit i
  let vals : List (Nat × List Int) :=
    [(16 + h, intsAt l 32 2 1), (32 + h, intsAt l 64 2 32), (48 + h, intsAt l 34 2 2), (64 + h, intsAt l 38 2 3),
     (80 + h, (List.range 3).map (fun i => (bytesAt l (44 + i) 1 : Int)) ++ intsAt l 48 1 16)]
    ++ (List.range 32).map fun z => (512 + 32 * h + z, intsAt l (128 + 16 * z) 1 16 ++ [(bytesAt l (640 + 2 * z) 2 : Int)])
  { c with
    vals := vals.foldl (fun m p => smPut m p.1 p.2) c.vals
    valid := tys.map (fun i => 16 * (i + 1) + h) ++ c.valid
    tLast := tys.foldl (fun m i => smPut m (16 * (i + 1) + h) ((intsAt l (8 + 2 * i) 2 1).getD 0 0)) c.tLast
    gens := smPut c.gens h (bytesAt l 0 4), wts := smPut c.wts h (bytesAt l 24 8) }

/-- The values of an actuator record come into the accepted ones. -/
def CalSt.takeAct (c : CalSt) (l : List Byte) : CalSt :=
  { c with
    vals := smPut c.vals (16 * 7) (intsAt l 16 2 21), valid := 16 * 7 :: c.valid
    tLast := smPut c.tLast (16 * 7) ((intsAt l 4 2 1).getD 0 0), gens := smPut c.gens 16 (bytesAt l 0 4), wts := smPut c.wts 16 (bytesAt l 8 8) }

/-- Taps and threshold of zone `z` go to CS_CAL(h) (R243, R244). -/
def State.putZone (s : State) (k h z : Nat) (v : List Int) : State :=
  let s := forUpTo 4 (fun w s => s.wr (CS_CAL_WORD k h (32 + 4 * z + w)) (leNat (sgnBytes 1 (firstInts 4 (v.drop (4 * w)))))) s
  s.wrHalf (CS_CAL_WORD k h (160 + z / 2)) z (v.getD 16 0)

/-- The precompensation table goes to CS_CAL(h). -/
def State.putPrecomp (s : State) (k h : Nat) (v : List Int) : State :=
  forUpTo 4 (fun w s => s.wr (CS_CAL_WORD k h (12 + w)) (leNat (sgnBytes 1 (firstInts 4 (v.drop (4 * w)))))) s

/-- The values of a head that hold go to the places the slice and servo read (R244). -/
def State.putHead (s : State) (k h : Nat) : State :=
  let c := s.calS k
  let put (ty : Nat) (s : State) : State := if c.valid.contains (16 * ty + h) then s.calWrite k ty h (smGet [] c.vals (16 * ty + h)) else s
  let s := put 4 (put 3 (put 2 (put 1 s)))
  let s := if c.valid.contains (16 * 5 + h) then
      (put 5 s).putPrecomp k h ((smGet [] c.vals (16 * 5 + h)).drop 3)
    else s
  if c.valid.contains (16 * 6 + h) then forUpTo 32 (fun z s => s.putZone k h z (smGet [] c.vals (512 + 32 * h + z))) s else s

/-- At attach the sets of an actuator's heads and its own record are the later of what bridge and vital area hold (R243; the
actuator record as a head record, by GEN, R229), and firmware loads them (R244). A type without values is due (R235). -/
def State.loadCal (s : State) (k : Nat) (br : BridgeLife) (dev : HdaRec) : State :=
  let a := actOf k
  let heads := s.headCount (bayOf k) a
  let c : CalSt := (List.range heads).foldl (fun (c : CalSt) h =>
    match pickSet 1024 24 (listed br.sets (16 * a + h)) (smGet [] dev.sets (16 * a + h)) with
    | some l => c.takeSet h l
    | none => c) {}
  let A := listed br.actA a
  let B := listed br.actB a
  let bOk := crcEnds 64 B && (! crcEnds 64 A || ! genLater (bytesAt A 0 4) (bytesAt B 0 4))
  let c := { c with actNewerB := if bOk then some true else if crcEnds 64 A then some false else none }
  let c := match pickSet 64 8 (if bOk then B else A) (smGet [] dev.acts a) with
    | some l => c.takeAct l
    | none => c
  let s := s.setCal k c
  let s := forUpTo heads (fun h s => s.putHead k h) s
  if c.valid.contains (16 * 7) then s.calWrite k 7 0 (smGet [] c.vals (16 * 7)) else s

/-- An accepted result is kept and written to both places (R243). Type 8 is not stored (R242). -/
def State.keepCal (s : State) (k ty h : Nat) (r : CalResult) : State :=
  let c := s.calS k
  let b := bayOf k
  let a := actOf k
  let i := 16 * a + h
  let stamp (c : CalSt) (j : Nat) : CalSt := { c with gens := smPut c.gens j ((smGet 0 c.gens j + 1) % 2 ^ 32), wts := smPut c.wts j s.wt }
  if ty = 8 then s
  else if ty = 7 then
    let toB := nextCopy c.actNewerB
    let c := { stamp { c with vals := smPut c.vals (16 * 7) (r.values ++ r.table) } 16 with actNewerB := some toB }
    let l := c.actBytes
    let s : State := { s.setCal k c with hdas := s.hdas.map fun d => if d.bay = some b then { d with acts := smPut d.acts a l } else d }
    (s.emit (.bridgeStore b ((if toB then 0x1980 else 0x1900) + 64 * a) l)).emit (.vitalArea b (64 + a) l)
  else
    let key := if ty = 6 then 512 + 32 * h + (r.values.getD 0 0).toNat % 32 else 16 * ty + h
    let v := if ty = 6 then firstInts 16 r.table ++ [r.values.getD 1 0] else if ty = 2 then r.table else if ty = 5 then firstInts 3 r.values ++ r.table
      else r.values
    let c := stamp { c with vals := smPut c.vals key v } h
    let l := c.setBytes h
    let s : State := { s.setCal k c with hdas := s.hdas.map fun d => if d.bay = some b then { d with sets := smPut d.sets i l } else d }
    (s.emit (.bridgeStore b (0x2000 + 0x400 * (12 * a + h)) l)).emit (.vitalArea b (32 + i) l)

/-- An accepted result comes into use (R238): stepped values start a ramp, or are applied at once where one step
reaches them; type 6 is applied whole, type 8 is held for the next PWM period. -/
def State.applyCal (s : State) (k ty h : Nat) (r : CalResult) : State :=
  match ty with
  | 6 => s.putZone k h ((r.values.getD 0 0).toNat % 32) (firstInts 16 r.table ++ [r.values.getD 1 0])
  | 8 => s.setCal k { s.calS k with winding := r.values }
  | _ =>
    let finals := if ty = 2 then r.table else if ty = 7 then r.values ++ r.table else r.values
    let n := s.rampSteps k ty h finals
    let s := if ty = 5 then s.putPrecomp k h r.table else s
    let c := s.calS k
    let rest := c.ramps.filter fun q => ! (q.ty == ty && q.head == h)
    if n ≤ 1 ∨ ¬ c.valid.contains (16 * ty + h) then
      (s.setCal k { c with ramps := rest }).calWrite k ty h finals
    else s.setCal k { c with ramps := rest ++ [{ ty := ty, head := h, finals := finals, left := n, wait := rampEvery ty }] }

/-- CALIBRATION_RESULT (R236, R237): the running piece finishes; repeats that disagree are measured again once, a set
outside the limits is rejected, an accepted one is kept, written to both places and brought into use. -/
def calibrationResult (k : Slice) (r : CalResult) (s : State) : State :=
  let c := s.calS k
  match c.running with
  | none => s
  | some (ty, h) =>
    let key := 16 * ty + h
    let p := hportOf (bayOf k) (actOf k) h
    let s := if ty = 3 then
        (s.setLife p { s.lifeR p with td := sat32 ((s.lifeR p).td + r.touchdowns), changed := true }).checkWarn p
      else s
    if ¬ r.agreed ∧ ¬ c.disagreed.contains key then
      s.setCal k { c with disagreed := key :: c.disagreed }
    else
      let c1 := { c with running := none, lastEnd := some s.now, disagreed := c.disagreed.filter (· != key) }
      if ¬ r.agreed then s.setCal k { c1 with failedAt := smPut c.failedAt key s.now }
      else if ¬ s.plausible k ty h r then
        let s := (s.setCal k { c1 with failedAt := smPut c.failedAt key s.now }).event 8 .calibration 3 p
        if ty = 4 then
          let l := s.lifeR p
          let s := s.setLife p { l with calFail := min 255 (l.calFail + 1), changed := true }
          if 3 ≤ l.calFail + 1 then (s.foldHead p).retireHead p 2 else s
        else s
      else
        let s := if ty = 4 then s.setLife p { s.lifeR p with calFail := 0, changed := (s.lifeR p).changed || decide ((s.lifeR p).calFail ≠ 0) } else s
        let s := (s.setCal k c1).applyCal k ty h r
        let c2 := s.calS k
        let extra := c2.extra.filter (· != key)
        let s := s.setCal k { c2 with
          tLast := smPut c2.tLast key (s.hdaTemp (bayOf k)), valid := key :: c2.valid.filter (· != key)
          failedAt := smErase c2.failedAt key
          extra := if ty = 4 then (16 * 5 + h) :: extra else extra }
        s.keepCal k ty h r

/-- CALIBRATION_RESULT. -/
def execCalibrationResult (k : Slice) (r : CalResult) (s : State) : Result := clocked s (s.whileRuns (64 + k.val / 2) (calibrationResult k r))

/-- New writes to a head are held: its temperature has moved more than 2 × CAL_DELTA since laser calibration (R241). -/
def State.writesHeld (s : State) (k h : Nat) : Bool :=
  let c := s.calS k
  c.valid.contains (16 * 4 + h)
    && decide ((2 * s.rd (CFG_PARAM_VALUE 8) : Int) * 256 < (s.hdaTemp (bayOf k) - smGet 0 c.tLast (16 * 4 + h)).natAbs)

/-- A head whose laser energy cannot be folded is written only after laser write-power calibration has succeeded on it (R232). -/
def State.cannotFold (s : State) (k h : Nat) : Bool :=
  (s.lifeR (hportOf (bayOf k) (actOf k) h)).pfs == 0 && ! (s.calS k).valid.contains (16 * 4 + h)

/-- Read time on a head: at an hour of it type 6 is due (R242). -/
def State.noteRead (s : State) (k h ns : Nat) : State :=
  let c := s.calS k
  let n := smGet 0 c.readNs h + ns
  if 3600 * 10 ^ 9 ≤ n then (s.setCal k { c with readNs := smPut c.readNs h (n - 3600 * 10 ^ 9) }).calTrigger k 6 h
  else s.setCal k { c with readNs := smPut c.readNs h n }

/-- Operation `o` of actuator `k` has ended: what the ramps and triggers of R242 count by operations, sectors and read time. -/
def State.noteOp (s : State) (k h : Nat) (write : Bool) (sectors ns : Nat) : State :=
  let s := (s.rampEvent k 1 h 1).rampEvent k 3 h 1
  if write then (s.rampEvent k 4 h sectors).rampEvent k 5 h 1 else s.noteRead k h ns

/-- Keep the events of the last hour for head `h` and add one now; the trigger fires at `n` of them (R242). -/
def countHour (now h n : Nat) (l : List (Nat × Nat)) : Bool × List (Nat × Nat) :=
  let l1 := (h, now) :: l.filter fun p => decide (now < p.2 + 3600 * 1000000000)
  (decide (n ≤ (l1.filter fun p => p.1 == h).length), l1)

/-- Retry-ladder step 6 was needed on a head: at 4 in an hour type 3 is due (R242). -/
def State.noteStep6 (s : State) (k h : Nat) : State :=
  let r := countHour s.now h 4 (s.calS k).step6
  let s := s.setCal k { s.calS k with step6 := r.2 }
  if r.1 then s.calTrigger k 3 h else s

/-- A write-fault cause 5 on a head: at 2 in an hour type 4 is due (R242). -/
def State.noteCause5 (s : State) (k h : Nat) : State :=
  let r := countHour s.now h 2 (s.calS k).cause5
  let s := s.setCal k { s.calS k with cause5 := r.2 }
  if r.1 then s.calTrigger k 4 h else s

/-! ### Attach (R223, R224, R231, R232) -/

/-- The HDA key (R223): maker code and serial number of the identity block. -/
def hdaKey (id : BridgeId) : Nat := id.maker.toNat + 2 ^ 16 * id.serial.toNat

/-- The record of head 16a + h after reconciliation (R231, R232), and whether both places lacked it. Where the header is absent or
invalid so are the bridge's records (R232). -/
def State.reconcileHead (s : State) (br : BridgeLife) (dev : Option HdaRec) (i : Nat) : LifeRec × Bool :=
  let ok := headerOk br.header
  let bc := if ok then pickCopy (parseRecord (listed br.copyA i)) (parseRecord (listed br.copyB i)) else none
  let dc := dev.bind fun d => (d.heads.find? (·.1 == i)).map (·.2)
  let pfs := if ok then bytesAt br.header (0x10 + 2 * (12 * (i / 16) + i % 16)) 2 else 0
  match bc, dc with
  | some x, some d => ({ mergeRec x d with pfs := pfs }, false)
  | some x, none => ({ x with gen := x.gen + 1, pfs := pfs }, false)
  | none, some d => ({ d with gen := d.gen + 1, pfs := pfs, newerB := none }, false)
  | none, none => ({ s.unknownRec with pfs := pfs }, true)

/-- The records of HDAs beside one that needs a place (R224): of 64, the one detached longest ago makes room. -/
def keptHdas (l : List HdaRec) (key : Nat) : List HdaRec :=
  let kept := l.filter fun r => r.key != key
  if 64 ≤ kept.length then
    match oldestDetached kept with
    | some o => kept.filter fun r => r.key != o.key
    | none => kept
  else kept

/-- A reconciled head record comes into force and is written to both places (R231). -/
def State.placeRecord (s : State) (p : Nat) (r : LifeRec) : State :=
  let k := hportSlice p
  let h := hportHead p
  let toB := nextCopy r.newerB
  let r := { r with lastA := s.rd (CS_LASER_ACC_ACC k h), lastW := s.rd (CS_WPO_NS k h), faulted := false, newerB := some toB }
  (((s.setLife p r).emit (.bridgeStore (hportBay p) ((if toB then 0x1500 else 0x1100) + 32 * (p % 32)) (recordBytes r))).emit
    (.vitalArea (hportBay p) (p % 32) (recordBytes r))).checkWarn p

/-- RECONCILIATION (R223, R224, R231, R232, R243, R244): at attach, the bridge's and the device's life records are merged head by
head and written to both places, and the later of their calibration sets come into force. An HDA stays flagged as of unknown
life once it was (DEDUCED, log entry 102). -/
def reconciliation (b : Bay) (br : BridgeLife) (s : State) : State :=
  if ¬ (s.beamS b).verified then s
  else
    let bn := b.val
    let key := hdaKey (s.beamS bn).id
    let hash := sha384 br.pubKey
    let dev := s.hdas.find? fun r => r.key == key
    let s := match dev with
      | some d => if d.keyHash ≠ hash then s.event 1 .authFail 1 bn else s
      | none => s
    let idx : List Nat := (List.range (s.headCount bn 0)) ++ (List.range (s.headCount bn 1)).map (16 + ·)
    let recs := idx.map fun i => (i, s.reconcileHead br dev i)
    let unknown := recs.any fun r => r.2.2
    let entry : HdaRec := { dev.getD {} with
      key := key, keyHash := hash, bay := some bn, lifeUnknown := unknown || (dev.getD {}).lifeUnknown, heads := recs.map fun r => (r.1, r.2.1) }
    let s : State := { s with hdas := entry :: keptHdas s.hdas key }
    let s := if unknown then s.event 8 .lifeRecord 1 bn else s
    let s := recs.foldl (fun s r => s.placeRecord (bn * 32 + r.1) r.2.1) s
    let s := (s.loadCal (2 * bn) br entry).loadCal (2 * bn + 1) br entry
    s.setBeam bn { s.beamS bn with lifePeriods := 0, storeFault := false }

/-- RECONCILIATION. -/
def execReconciliation (b : Bay) (br : BridgeLife) (s : State) : Result := clocked s (reconciliation b br s)

/-! ### Trace to VREFIN (R245, R246) -/

/-- VREFIN_MEASURE (R245): the average of 64 readings, in 0.1 mV; a plausible one sets the gain to 1.2500 V over it. -/
def vrefinMeasure (avg : BitVec 16) (s : State) : State :=
  let a := avg.toNat
  let pl := s.clamp THM_REF_CTL_PLAUS 5 100
  let s := s.wr THM_REF_STAT_VREF a
  let ok := decide ((12500 - a : Int).natAbs * 1000 ≤ 12500 * pl)
  if ok then
    let s := s.wr THM_REF_GAIN_GAIN ((12500 * 65536 + a / 2) / a)
    let g := s.ref.good + 1
    let s : State := { s with ref := { good := g, bad := 0 } }
    if 100 ≤ g then s.put THM_REF_STAT_REFFLT false else s
  else
    let b := s.ref.bad + 1
    let s : State := { s.put THM_REF_STAT_REFEV true with ref := { good := 0, bad := b } }
    if 100 ≤ b ∧ ¬ s.on THM_REF_STAT_REFFLT then s.put THM_REF_STAT_REFFLT true else s

/-- VREFIN_MEASURE. -/
def execVrefinMeasure (avg : BitVec 16) (s : State) : Result := clocked s (vrefinMeasure avg s)

/-- BRIDGE_RATIO (R246): the device's mean VMOTOR over the bridge's, over one second, both in mV. -/
def bridgeRatio (b : Bay) (ownMv bridgeMv : Nat) (s : State) : State :=
  if bridgeMv = 0 ∨ 100 * ownMv < 97 * bridgeMv ∨ 103 * bridgeMv < 100 * ownMv then
    (s.wr THM_REF_BRFLT_BAY (s.rd THM_REF_BRFLT_BAY ||| 2 ^ b.val)).event 8 .bridgeRatio 1 b
  else s.wr (THM_REF_BRG_RATIO b) ((ownMv * 10000 + bridgeMv / 2) / bridgeMv)

/-- BRIDGE_RATIO. -/
def execBridgeRatio (b : Bay) (ownMv bridgeMv : Nat) (s : State) : Result := clocked s (bridgeRatio b ownMv bridgeMv s)

end Sys2Proof.Machine
end

