-- ==== Sys2Proof/Machine/Servo.lean ====
section
/-! DEFINITION. Sys2Proof/Machine/Servo.lean: the Reticle servo engines (R166 to R195): sample periods with gain
selection, the supervisor, regions, shock and write inhibit; entries and their results; output deadlines; parks. -/
namespace Sys2Proof.Machine
open Sys2Proof

/-! ### Fixed-point arithmetic (R173, R174) -/

/-- Saturate to a signed range of `w` bits. -/
def satInt (w : Nat) (x : Int) : Int := max (-(2 ^ (w - 1))) (min (2 ^ (w - 1) - 1) x)

/-- The output of R173: floor((acc × 2^s + 2^14) / 2^15), saturated to 16 bits. -/
def roundOut (acc : Int) (s : Nat) : Int := satInt 16 ((acc * 2 ^ s + 2 ^ 14) / 2 ^ 15)

/-- The output of R173 saturates. -/
def outSaturates (acc : Int) (s : Nat) : Bool := decide (roundOut acc s ≠ (acc * 2 ^ s + 2 ^ 14) / 2 ^ 15)

/-- A number in 2^−30 as Q25.15, rounded with ties towards +∞ and saturated to 40 bits (R173, R174). -/
def roundQ15 (x : Int) : Int := satInt 40 ((x + 2 ^ 14) / 2 ^ 15)

/-- Regions (R175). -/
def rgSeek : Nat := 0
def rgSettle : Nat := 1
def rgFollow : Nat := 2
def rgParked : Nat := 3

/-- The region changes; ONTRK is 1 only in follow (R179). -/
def State.setRegion (s : State) (k r : Nat) : State := (s.wr (SRV_POS_REGION k) r).put (SRV_STAT_ONTRK k) (r == rgFollow)

/-- The servo slot of an actuator: VCM current, MA sense, shock X, shock Y (R87, R90), and whether it is stale (R94). -/
def State.servoSlot (s : State) (k : Nat) : List (BitVec 16) :=
  let m := s.beamS (bayOf k)
  if actOf k = 0 then m.servo0 else m.servo1
def State.servoStale (s : State) (k : Nat) : Bool :=
  let m := s.beamS (bayOf k)
  if actOf k = 0 then m.servoStale0 else m.servoStale1

/-- The VCM hold in force for an actuator becomes `v` (R80, R171). -/
def State.setVcm (s : State) (k : Nat) (v : Int) : State :=
  let m := s.beamS (bayOf k)
  let w := BitVec.ofInt 16 v
  (s.setBeam (bayOf k) (if actOf k = 0 then { m with vcm0 := w } else { m with vcm1 := w })).wr (SRV_OUT_VCM k) w.toNat

/-- The MA hold in force for an actuator becomes `v`. -/
def State.setMa (s : State) (k : Nat) (v : Int) : State :=
  let m := s.beamS (bayOf k)
  let w := BitVec.ofInt 16 v
  (s.setBeam (bayOf k) (if actOf k = 0 then { m with ma0 := w } else { m with ma1 := w })).wr (SRV_OUT_MA k) w.toNat

/-! ### Results (R184) -/

/-- Servo status codes. -/
def svDone : Nat := 0
def svLate : Nat := 1
def svBadArg : Nat := 0x10
def svTimeout : Nat := 0x11
def svParked : Nat := 0x12
def svLoadFail : Nat := 0x13

/-- OP codes of a servo entry (R181). -/
def opSeek : Nat := 1
def opOffset : Nat := 2
def opPark : Nat := 3
def opLoad : Nat := 4

/-- The result entry of R184. -/
def State.servoResultEntry (s : State) (k opid op status preason samples : Nat) : Entry :=
  mkEntry [(0, 64, opid), (64, 8, 0x50 + actOf k), (72, 8, op), (80, 16, status), (96, 8, preason),
    (104, 8, s.rd (SRV_POS_REGION k) + 4 * s.rd (SRV_POS_ZONE k) + 16 * s.rd (SRV_POS_BAND k)),
    (112, 16, samples), (128, 24, s.rd (SRV_POS_TRACK k)), (160, 16, s.rd (SRV_PES_PES k)), (192, 64, s.wt)]

/-- A result waits to be posted. -/
def State.queueResult (s : State) (k opid op status preason samples : Nat) : State :=
  let v := s.servoS k
  s.setServo k { v with results := v.results ++ [s.servoResultEntry k opid op status preason samples] }

/-- A SEEK that has completed good is one of the last 256 whose times estimate the seeks to come (R257): distance, time. -/
def State.noteSeek (s : State) (k : Nat) (e : Entry) (status : Nat) : State :=
  let v := s.servoS k
  let q := s.schedS k
  if e.at 64 8 = opSeek ∧ status = 0 then
    s.setSched k { q with seeks := (((e.at 96 24 : Int) - v.fromTrack).natAbs, s.now - v.began) :: q.seeks.take 255 }
  else s

/-- The entry in progress completes with a status; SRV_STAT.BUSY clears when its result is posted (R181). -/
def State.servoComplete (s : State) (k status preason : Nat) : State :=
  let v := s.servoS k
  match v.entry with
  | none => s
  | some e =>
    ((s.noteSeek k e status).setServo k { v with entry := none, fromPark := false }).queueResult k (e.at 0 64) (e.at 64 8) status preason v.samples

/-- SERVO_RESULT (R181, R184): the oldest result of engine `k` is pushed to LP 224 + b, and the engine may pop again. -/
def servoResult (k : Slice) (s : State) : State :=
  let v := s.servoS k
  match v.results with
  | [] => s
  | e :: r =>
    let s := (s.setServo k { v with results := r }).hwPush (224 + bayOf k) e
    s.put (SRV_STAT_BUSY k) (v.entry.isSome || ! r.isEmpty)

/-- SERVO_RESULT. -/
def execServoResult (k : Slice) (s : State) : Result := clocked s (s.whileRuns (64 + k.val / 2) (servoResult k))

/-! ### Park (R191, R192) -/

/-- A park ends: VCM hold 0, PARKED, SRV_CTL.PARK clears, the park is counted and its result posted; EN clears where it
was written 0 (R192, R194). -/
def State.endPark (s : State) (k : Nat) : State :=
  let v := s.servoS k
  let s := s.setVcm k 0
  let s := ((s.wr (SRV_STAT_ST k) stParked).setRegion k rgParked).put (SRV_CTL_PARK k) false
  let s := if v.parkReason = 9 then s else s.bump (SRV_PARKCNT_COUNT k)
  let s := if v.enClearing then s.put (SRV_CTL_EN k) false else s
  let s := s.setServo k { v with park := none, enClearing := false, lock := false, acquired := 0, noField := 0 }
  let s := if v.parkReason = 9 then s
    else ((s.foldSlice k).countUnload (bayOf k) (actOf k)).writeActRecords false (bayOf k) (actOf k)
  match v.entry with
  | some _ => s.servoComplete k svDone v.parkReason
  | none => s.queueResult k 0 3 svDone v.parkReason 0

/-- The magnitude of a hold that `n`/256 of full scale stands for. -/
def holdOf (n : Nat) : Int := n * 128

/-- The hold that drives an actuator outward with magnitude `m`; its sign is not stated (log entry 12). -/
def outward (m : Int) : Int := if Config.vcmOutwardNegative then -m else m

/-- The park sequencer's VCM hold in the data phase (R192): closed loop where good samples arrive, else DATA_I outward. The
closed loop's hold is not stated beyond its clamp: a free value within it. -/
def State.parkDrive (s : State) (k : Nat) (closed : Bool) : State :=
  let lim := s.rd (SRV_PARK_DATA_I k) * 128
  if closed then s.draw.setVcm k ((Config.freeNat s.free % (2 * lim + 1) : Nat) - lim) else s.setVcm k (outward (holdOf (s.rd (SRV_PARK_DATA_I k))))

/-- Causes of a park arise at one instant, lowest code first (R191, R192): the event lists them all, and the lowest is the reason.
While a park runs, a further cause is only recorded. Reason 9 sends nothing and is PARKED at once. The entry in progress
ends with PARKED (R183). The region is seek from then on, since the actuator is neither settling nor following (DEDUCED, log
entry 12). -/
def State.parkFor (s : State) (k : Nat) (reasons : List Nat) : State :=
  match reasons with
  | [] => s
  | reason :: _ =>
    if s.rd (SRV_STAT_ST k) = stParked then s
    else
      let s := s.eventWith 7 .servoPark 2 k reasons
      if s.rd (SRV_STAT_ST k) = stParking ∧ reason ≠ 9 then s
      else
        let closed := (s.servoS k).lock && decide ((s.servoS k).lostRun = 0)
        let s := (s.inhibit k).wr (SRV_STAT_PREASON k) reason
        let s := s.servoComplete k svParked reason
        let s := s.setServo k { s.servoS k with
          park := some .data, parkReason := reason, noField := 0, feSince := none, reacqSince := none, newHead := none
          headAt := none, quiet := 0, settled := 0, supRun := 0 }
        let s := (s.wr (SRV_STAT_ST k) stParking).setRegion k rgSeek
        if reason = 9 then s.endPark k else (s.setMa k 0).parkDrive k closed

/-- A park for one reason. -/
def State.startPark (s : State) (k reason : Nat) : State := s.parkFor k [reason]

/-- The data phase ends and the ramp phase begins (R192). -/
def State.parkRamp (s : State) (k : Nat) : State :=
  (s.setServo k { s.servoS k with park := some .ramp }).setVcm k (outward (holdOf (s.rd (SRV_PARK_RAMP_I k))))

/-- PARK_DATA_PHASE_END (R192): DATA_T has passed. -/
def parkDataPhaseEnd (k : Slice) (s : State) : State := if (s.servoS k).park = some .data then s.parkRamp k else s

/-- PARK_DATA_PHASE_END. -/
def execParkDataPhaseEnd (k : Slice) (s : State) : Result := clocked s (s.whileRuns (64 + k.val / 2) (parkDataPhaseEnd k))

/-- PARK_RAMP_PHASE_END (R192): RAMP_T has passed. -/
def parkRampPhaseEnd (k : Slice) (s : State) : State :=
  if (s.servoS k).park = some .ramp then s.endPark k else s

/-- PARK_RAMP_PHASE_END. -/
def execParkRampPhaseEnd (k : Slice) (s : State) : Result := clocked s (s.whileRuns (64 + k.val / 2) (parkRampPhaseEnd k))

/-- PARK_REQUEST (R191): SRV_CTL.PARK written 1; it reads 1 until the park ends. -/
def parkRequest (k : Slice) (s : State) : State :=
  if s.rd (SRV_STAT_ST k) = stParked then s else (s.put (SRV_CTL_PARK k) true).startPark k 1

/-- PARK_REQUEST. -/
def execParkRequest (k : Slice) (s : State) : Result := clocked s (s.whileAnswers (64 + k.val / 2) (parkRequest k))

/-- SERVO_ENABLE (R194): SRV_CTL.EN is written `v`. -/
def servoEnable (k : Slice) (v : Bool) (s : State) : State :=
  if v then
    if s.on (SRV_CTL_EN k) then s
    else if s.rd (SRV_ZB_TRACK k 0) < s.rd (SRV_ZB_TRACK k 1) ∧ s.rd (SRV_ZB_TRACK k 1) < s.rd (SRV_ZB_TRACK k 2) then
      s.put (SRV_CTL_EN k) true
    else s.put (SRV_STAT_CFGERR k) true
  else if ¬ s.on (SRV_CTL_EN k) then s
  else if s.rd (SRV_STAT_ST k) = stParked then s.put (SRV_CTL_EN k) false
  else
    (s.setServo k { s.servoS k with enClearing := true }).startPark k 1

/-- SERVO_ENABLE. -/
def execServoEnable (k : Slice) (v : Bool) (s : State) : Result := clocked s (s.whileAnswers (64 + k.val / 2) (servoEnable k v))

/-! ### Gain store (R175 to R178) -/

/-- Coefficient `c` of gain set `g` as a signed Q1.15 value (R175). -/
def State.coeff (s : State) (k g c : Nat) : Int := half16 (s.rd (SRV_GAIN_WORD k (32 * g + c / 2)) / 2 ^ (16 * (c % 2))) 0

/-- The staging set is copied into gain set `g` (R177). -/
def State.copyGains (s : State) (k g : Nat) : State :=
  forUpTo 32 (fun i s => s.wr (SRV_GAIN_WORD k (32 * g + i)) (s.rd (SRV_GSTAGE_WORD k i))) s

/-- GAIN_COPY (R177): SRV_GCOPY written with SET = g and GO = 1. -/
def gainCopy (k : Slice) (set : BitVec 6) (s : State) : State :=
  let s := s.wr (SRV_GCOPY_SET k) set.toNat
  if 48 ≤ set.toNat then s.put (SRV_GCOPY_GO k) false
  else if s.on (SRV_CTL_EN k) then s.put (SRV_GCOPY_GO k) true
  else (s.copyGains k set.toNat).put (SRV_GCOPY_GO k) false

/-- GAIN_COPY. -/
def execGainCopy (k : Slice) (set : BitVec 6) (s : State) : Result := clocked s (s.whileAnswers (64 + k.val / 2) (gainCopy k set))

/-- A copy that waits is made at the start of a sample period (R177); a SET of 48 or more is ignored. -/
def State.finishGainCopy (s : State) (k : Nat) : State :=
  let g := s.rd (SRV_GCOPY_SET k)
  if s.on (SRV_GCOPY_GO k) then (if g < 48 then s.copyGains k g else s).put (SRV_GCOPY_GO k) false else s

/-- The radius zone of a track (R176). -/
def State.zoneNo (s : State) (k track : Nat) : Nat :=
  if track < s.rd (SRV_ZB_TRACK k 0) then 0
  else if track < s.rd (SRV_ZB_TRACK k 1) then 1
  else if track < s.rd (SRV_ZB_TRACK k 2) then 2 else 3

/-- Boundary n (1 to 3) of SRV_TB in 1/256 °C (R176). -/
def State.bandEdge (s : State) (k n : Nat) : Int :=
  256 * (match n with | 1 => s.rdInt (SRV_TB_T1 k) | 2 => s.rdInt (SRV_TB_T2 k) | _ => s.rdInt (SRV_TB_T3 k))

/-- The band rises or falls one place where the temperature has reached a boundary or dropped below it by HYST (R176). -/
def State.bandStep (s : State) (k : Nat) (t : Int) (b : Nat) : Nat :=
  if b < 3 ∧ s.bandEdge k (b + 1) ≤ t then b + 1
  else if 0 < b ∧ t < s.bandEdge k b - 64 * s.rd (SRV_TB_HYST k) then b - 1
  else b

/-- The temperature band of a bay's actuator: held where the telemetry has not been valid for 100 ms (R176). -/
def State.bandNo (s : State) (k : Nat) : Nat :=
  let b := s.rd (SRV_POS_BAND k)
  match (s.beamS (bayOf k)).tempAt with
  | none => b
  | some t0 =>
    if t0 + 100000000 < s.now then b
    else
      let t := s.hdaTemp (bayOf k)
      s.bandStep k t (s.bandStep k t (s.bandStep k t b))

/-- The gain set of a sample period is selected (R176): 16 × region + 4 × zone + band. -/
def State.selectGains (s : State) (k measured : Nat) : State :=
  let v := s.servoS k
  let r := min 2 (s.rd (SRV_POS_REGION k))
  let z := s.zoneNo k (if r = rgSeek then v.target else measured)
  let b := s.bandNo k
  let g := 16 * r + 4 * z + b
  ((s.wr (SRV_POS_ZONE k) z).wr (SRV_POS_BAND k) b).setServo k { v with gainSet := g, gainNew := decide (g ≠ v.gainSet) }

/-! ### Supervisor (R186 to R188) -/

/-- The predicted position p̂(n) in 2^−15 track (R186). -/
def State.predict (s : State) (k : Nat) : Int :=
  let v := s.servoS k
  let c (i : Nat) : Int := s.coeff k v.gainSet i
  let sh : Int := 2 ^ (s.rd (SRV_GAIN_WORD k (32 * v.gainSet + 30)) % 16)
  roundQ15 ((v.pos + v.vel) * 2 ^ 15 + sh * c 56 * s.rdInt (SRV_OUT_VCM k) + c 58 * (s.rdInt (SRV_OUT_MA k) - v.m1))

/-- v(n) in 2^−15 track per sample (R186). -/
def State.velocity (s : State) (k : Nat) (r : Int) : Int :=
  let v := s.servoS k
  let c (i : Nat) : Int := s.coeff k v.gainSet i
  let sh : Int := 2 ^ (s.rd (SRV_GAIN_WORD k (32 * v.gainSet + 30)) % 16)
  roundQ15 (v.vel * 2 ^ 15 + sh * c 57 * s.rdInt (SRV_OUT_VCM k) + c 59 * r)

/-- e = p − (target track + OFFSET) in 2^−15 track (R179). -/
def ServoSt.err (v : ServoSt) : Int := v.pos - ((v.target : Int) * 2 ^ 15 + v.offset)

/-- Native supervision fails on this sample (R187): residual, or VCM current against the commanded hold. -/
def State.nativeFails (s : State) (k : Nat) (r : Int) (hold : Int) : Bool :=
  decide ((s.rd (SRV_SUP_RLIM k) : Int) < r.natAbs)
    || (! s.servoStale k && decide ((s.rd (SRV_SUP_CURTOL k) * 128 : Int) < (((s.servoSlot k).getD 0 0).toInt - hold).natAbs))

/-- Region is settle or follow. -/
def State.onTarget (s : State) (k : Nat) : Bool := s.rd (SRV_POS_REGION k) == rgSettle || s.rd (SRV_POS_REGION k) == rgFollow

/-- Supervision checks that have failed in a row (R187). -/
def State.superviseNative (s : State) (k : Nat) (fails : Bool) : State :=
  let v := s.servoS k
  s.setServo k { v with supRun := if fails then v.supRun + 1 else 0 }

/-- The following-error timer of F2 mode (R188). -/
def State.superviseF2 (s : State) (k : Nat) : State :=
  let v := s.servoS k
  if (s.rd (SRV_FE_FE_LIM k) : Int) < v.err.natAbs then
    (if v.feSince.isSome then s else s.setServo k { v with feSince := some s.now })
  else s.setServo k { v with feSince := none }

/-- The supervision of a sample (R187, R188), in the mode in force and in settle and follow only. -/
def State.supervise (s : State) (k : Nat) (fails : Bool) : State :=
  let f2 := s.on (SRV_SUP_MODE k) && s.onTarget k
  let s := s.superviseNative k (fails && s.onTarget k && ! s.on (SRV_SUP_MODE k))
  if f2 then s.superviseF2 k else s.setServo k { s.servoS k with feSince := none }

/-- Native supervision parks (R187): RN samples in a row have failed. -/
def State.supTrips (s : State) (k : Nat) : Bool := decide (max 1 (s.rd (SRV_SUP_RN k)) ≤ (s.servoS k).supRun)

/-- FOLLOWING_ERROR_TIMEOUT (R188): the timer, which runs in settle and follow in F2 mode, has reached FE_TIME. -/
def followingErrorTimeout (k : Slice) (s : State) : State :=
  if s.on (SRV_SUP_MODE k) ∧ (s.servoS k).feSince.isSome ∧ s.rd (SRV_STAT_ST k) = stActive ∧ s.onTarget k then
    (s.put (SRV_STAT_SUPFLT k) true).startPark k 5
  else s

/-- FOLLOWING_ERROR_TIMEOUT. -/
def execFollowingErrorTimeout (k : Slice) (s : State) : Result := clocked s (s.whileRuns (64 + k.val / 2) (followingErrorTimeout k))

/-! ### Sample period (R167 to R190) -/

/-- Distance of a position from the target, in 2^−15 track. -/
def ServoSt.remaining (v : ServoSt) : Nat := v.err.natAbs

/-- A seek that is within SETTLE_DIST enters settle (R179). -/
def State.enterSeek (s : State) (k : Nat) : State :=
  let v := s.servoS k
  let s := s.setServo k { v with settled := 0, feSince := none }
  if v.remaining ≤ s.rd (SRV_SEEK_SETTLE_DIST k) * 2 ^ 13 then s.setRegion k rgSettle else s.setRegion k rgSeek

/-- JIT and on track after ARRIVE (R184). -/
def State.arrivedLate (s : State) (k : Nat) : Bool :=
  let v := s.servoS k
  let d := (s.rd (ANG_CNT_VALUE (bayOf k)) + 2 ^ 32 - v.arrive.toNat) % 2 ^ 32
  v.jit && decide (0 < d) && decide (d < 2 ^ 31)

/-- Follow is reached: the entry in progress completes (R182). -/
def State.reachFollow (s : State) (k : Nat) : State :=
  let s := s.setRegion k rgFollow
  match (s.servoS k).entry with
  | none => s
  | some e =>
    if e.at 64 8 = 3 then s
    else s.servoComplete k (if e.at 64 8 ≠ 2 ∧ s.arrivedLate k then svLate else svDone) 0

/-- Region transitions at a sample (R179). `good`: the sample is neither bad nor missing. -/
def State.stepRegion (s : State) (k : Nat) (good : Bool) : State :=
  let v := s.servoS k
  let r := s.rd (SRV_POS_REGION k)
  if r = rgSeek then
    if v.remaining ≤ s.rd (SRV_SEEK_SETTLE_DIST k) * 2 ^ 13 then
      (s.setServo k { v with settled := 0 }).setRegion k rgSettle
    else s
  else if r = rgSettle then
    let win := if v.wr then s.rd (SRV_SETTLE_WIN_WR k) else s.rd (SRV_SETTLE_WIN_RD k)
    let n := if good ∧ v.err.natAbs * 1000 ≤ win * 2 ^ 15 then v.settled + 1 else 0
    let s := s.setServo k { v with settled := n }
    if max 1 (s.rd (SRV_SETTLE_N k)) ≤ n then s.reachFollow k else s
  else s

/-- |e| beyond LIM_PREV towards the previously written neighbour, or beyond LIM_NEXT the other way (R185). -/
def State.offTrack (s : State) (k : Nat) : Bool :=
  let v := s.servoS k
  let e := v.err
  let towardsPrev := if v.dir then decide (0 < e) else decide (e < 0)
  let lim := if towardsPrev then s.rd (SRV_WI_LIM_PREV k) else s.rd (SRV_WI_LIM_NEXT k)
  decide (lim * 2 ^ 15 < e.natAbs * 1000)

/-- A condition of R185 holds at this sample. -/
def State.inhibitCause (s : State) (k : Nat) (good supFails : Bool) : Bool :=
  let v := s.servoS k
  s.rd (SRV_STAT_ST k) != stActive || s.rd (SRV_POS_REGION k) != rgFollow || ! v.wr || ! good || s.servoStale k
    || s.offTrack k || decide (0 < v.shockLeft)
    || (if s.on (SRV_SUP_MODE k) then decide ((s.rd (SRV_FE_FE_LIM k) : Int) < v.err.natAbs) else supFails)
    || v.mcInhibit

/-- Write inhibit is evaluated: asserted while a cause holds, released after HOLD samples without one (R185). -/
def State.evalInhibit (s : State) (k : Nat) (cause : Bool) : State :=
  let v := s.servoS k
  if cause then (s.setServo k { v with quiet := 0 }).inhibit k
  else
    let s := s.setServo k { v with quiet := v.quiet + 1 }
    if max 1 (s.rd (SRV_WI_HOLD k)) ≤ v.quiet + 1 then s.put (SRV_STAT_WINH k) false else s

/-- Shock of the servo slot in 0.01 g (R189). -/
def State.shockNow (s : State) (k : Nat) : Nat :=
  let l := s.servoSlot k
  max (l.getD 2 0).toInt.natAbs (l.getD 3 0).toInt.natAbs

/-- Shock at a sample (R189): at or above WLIM the hold starts, below it the hold runs down. The values of a stale slot are the
ones held (R94). -/
def State.stepShock (s : State) (k : Nat) : State :=
  let v := s.servoS k
  if v.shock then (s.setServo k { v with shockLeft := max 1 (s.rd (SRV_SHOCK_SHOLD k)) }).put (SRV_STAT_SHOCK k) true
  else s.setServo k { v with shockLeft := v.shockLeft - 1 }

/-- Shock at or above PLIM (R189). -/
def State.shockHigh (s : State) (k : Nat) : Bool := decide (s.rd (SRV_SHOCK_PLIM k) * 10 ≤ s.shockNow k)

/-- The end of a sample: shock at or above PLIM raises cause 8, native supervision that trips sets SUPFLT, and the park that
either asks for begins (R187, R189, R191). -/
def State.samplePark (s : State) (k : Nat) : State :=
  let hit := s.shockHigh k
  let trip := s.supTrips k
  let s := if hit then s.facetCause (reticleFct k) 8 else s
  let s := if trip then s.put (SRV_STAT_SUPFLT k) true else s
  s.parkFor k ((if hit then [3] else []) ++ (if trip then [4] else []))

/-- Servo lock is lost while ACTIVE or LOADING (R190, first step). -/
def State.loseServoLock (s : State) (k : Nat) : State :=
  let v := s.servoS k
  (s.setServo k { v with lock := false, acquired := 0, reacqSince := some (v.reacqSince.getD s.now) }).inhibit k

/-- A good sample after loss of lock (R190, second step): lock is held again and the engine settles on its target. -/
def State.regain (s : State) (k : Nat) : State :=
  let v := s.servoS k
  (s.setServo k { v with lock := true, reacqSince := none, settled := 0 }).setRegion k rgSettle

/-- PES linearised by SRV_PESLIN(a, h) (R167, R244, R247), from the 32 points of the table and what the bursts gave: the
function between the two is not stated (log entry 100). -/
def State.linearPes (s : State) (k h : Nat) (raw : BitVec 16) : BitVec 16 :=
  Config.pesLin ((List.range 32).map fun i => BitVec.ofNat 16 (s.rd (SRV_PESLIN_WORD (bayOf k) (actOf k) h (i / 2)) / 2 ^ (16 * (i % 2)))) raw

/-- How long ago the servo field began whose sample is now delivered: SFW, ANG_UPLAT and the demodulation (R167, R171), in ns. -/
def State.fieldAge (s : State) (k : Nat) : Nat :=
  s.rd (CS_HFMT_SFW k (s.servoS k).head) * s.rd (ANG_PERIOD_NS (bayOf k)) / 2 ^ 20 + s.rd (ANG_UPLAT_NS (bayOf k)) + 160

/-- The first servo field that began after HEAD_SELECT took effect is the new head's (R170). -/
def State.takeHead (s : State) (k : Nat) : State :=
  let v := s.servoS k
  match v.newHead, v.headAt with
  | some h, some t => if t + s.fieldAge k ≤ s.now then s.setServo k { v with head := h, newHead := none, headAt := none } else s
  | _, _ => s

/-- The start of a sample period: outputs not yet posted, the shock flag of the period, a waiting gain copy made (R171, R177,
R189). -/
def State.beginPeriod (s : State) (k : Nat) : State :=
  let v := s.servoS k
  (s.setServo k { v with
    inPeriod := true, posted := false, late := false, newSample := true
    shock := decide (s.rd (SRV_SHOCK_WLIM k) * 10 ≤ s.shockNow k)
    samples := if v.entry.isSome then min 65535 (v.samples + 1) else v.samples }).finishGainCopy k

/-- The sample is good against prediction `ph` (R168): found, parity matching and, in settle and follow, within 2 tracks
of the predicted position. -/
def State.goodSample (s : State) (k : Nat) (smp : ServoSmp) (ph : Int) : Bool :=
  smp.found && smp.parityOk
    && (! s.onTarget k || decide (((smp.track.toNat : Int) * 2 ^ 15 - ph).natAbs ≤ 2 * 2 ^ 15))

/-- The track whose centre is nearest to a position in 2^−15 track. -/
def trackAt (p : Int) : Nat := ((p + 2 ^ 14) / 2 ^ 15).toNat

/-- SRV_POS, SRV_PES and SRV_RESID after a sample with residual `r` (R195): SRV_PES keeps the last PES that was used. -/
def State.showSample (s : State) (k : Nat) (pes : Option (BitVec 16)) (track : Nat) (r : Int) : State :=
  let s := s.wr (SRV_POS_TRACK k) track
  let s := match pes with | some p => s.wr (SRV_PES_PES k) p.toNat | none => s
  (s.wrInt (SRV_PES_E k) (satInt 16 (s.servoS k).err)).wrInt (SRV_RESID_R k) (satInt 16 r)

/-- What a sample gave: whether it was good, whether it is used for the position, the residual, and the VCM hold that was in
effect. -/
structure Sampled where
  good : Bool
  use : Bool
  r : Int
  hold : Int

/-- A sample is delivered and its period begins (R167 to R171, R176, R186): a bad sample counts and a missing one raises cause 10;
p is the measured position, or p̂ for a bad or missing sample and while a head is awaited; the supervisor runs; the gain set
of the period is selected for the track that p gives. The supervisor, on whose p̂ that track may rest, runs under the set
selected before (DEDUCED, log entry 100). -/
def State.takeField (s : State) (k : Nat) (smp : ServoSmp) : Sampled × State :=
  let s := (s.takeHead k).beginPeriod k
  let ph := s.predict k
  let good := s.goodSample k smp ph
  let use := good && (s.servoS k).newHead.isNone
  let s := if smp.found ∧ ¬ good then s.bump (SRV_BADS_COUNT k) else s
  let s := if smp.found then s else s.facetCause (reticleFct k) 10
  let hold := s.rdInt (SRV_OUT_VCM k)
  let pes := s.linearPes k (s.servoS k).head smp.pes
  let p := if use then (smp.track.toNat : Int) * 2 ^ 15 + pes.toInt else ph
  let r := p - ph
  let vel := s.velocity k r
  let v := s.servoS k
  let s := s.setServo k { v with
    pos := satInt 40 p, vel := vel, u1 := hold, m2 := v.m1, m1 := s.rdInt (SRV_OUT_MA k)
    lostRun := if good then 0 else v.lostRun + 1 }
  let track := if use then smp.track.toNat else trackAt p
  (⟨good, use, r, hold⟩, (s.selectGains k track).showSample k (if use then some pes else none) track r)

/-- A sample while ACTIVE (R168 to R190). -/
def State.activeSample (s : State) (k : Nat) (smp : ServoSmp) : State :=
  let (m, s) := s.takeField k smp
  let s := if m.use ∧ (s.servoS k).reacqSince.isSome then s.regain k else s
  let s := if (s.servoS k).lostRun = 8 then s.loseServoLock k else s
  let seeking := (s.servoS k).reacqSince.isNone
  let s := if seeking then s.stepRegion k m.use else s
  let s := s.stepShock k
  let fails := ! s.on (SRV_SUP_MODE k) && s.onTarget k && s.nativeFails k m.r m.hold
  let s := s.evalInhibit k (s.inhibitCause k m.use fails || ! seeking)
  let s := (s.supervise k fails).samplePark k
  (s.rampEvent k 2 (s.servoS k).head 1).rampEvent k 7 255 1

/-- A sample while LOADING (R182, R190): once servo is acquired the engine acts as for a SEEK. -/
def State.loadingSample (s : State) (k : Nat) (smp : ServoSmp) : State :=
  let (m, s) := s.takeField k smp
  let s := if m.good then s.setServo k { s.servoS k with reacqSince := none } else s
  let s := if (s.servoS k).lostRun = 8 then s.loseServoLock k else s
  let s := (s.stepShock k).samplePark k
  if m.good ∧ (s.servoS k).lock ∧ s.rd (SRV_STAT_ST k) = stLoading then
    (s.wr (SRV_STAT_ST k) stActive).enterSeek k
  else s

/-- A sample while PARKING (R191, R192): its period begins, and a shock is recorded. In the data phase the sequencer drives
closed loop on good samples, else outward; the phase ends at the fourth window in a row without a servo field. -/
def State.parkingSample (s : State) (k : Nat) (smp : ServoSmp) : State :=
  let (m, s) := s.takeField k smp
  let s := s.setServo k { s.servoS k with noField := if smp.found then 0 else (s.servoS k).noField + 1 }
  let s := (s.stepShock k).samplePark k
  if (s.servoS k).park ≠ some .data then s
  else if 4 ≤ (s.servoS k).noField then s.parkRamp k
  else s.parkDrive k m.good

/-- SERVO_SAMPLE (R168, R171): a sample, good, bad or missing, is delivered to engine `k`. -/
def servoSample (k : Slice) (smp : ServoSmp) (s : State) : State :=
  if ¬ s.on (SRV_CTL_EN k) then s
  else if s.rd (SRV_STAT_ST k) = stActive then s.activeSample k smp
  else if s.rd (SRV_STAT_ST k) = stLoading then s.loadingSample k smp
  else if s.rd (SRV_STAT_ST k) = stParking then s.parkingSample k smp
  else s

/-- SERVO_SAMPLE. -/
def execServoSample (k : Slice) (smp : ServoSmp) (s : State) : Result := clocked s (s.whileRuns (64 + k.val / 2) (servoSample k smp))

/-! ### Outputs and deadline (R171, R172) -/

/-- Outputs are accepted: a sample period runs, its deadline has not passed, and no park sequencer has taken over. -/
def State.acceptsPost (s : State) (k : Nat) : Bool :=
  let v := s.servoS k
  s.on (SRV_CTL_EN k) && v.inPeriod && ! v.late && (s.rd (SRV_STAT_ST k) == stActive || s.rd (SRV_STAT_ST k) == stLoading)

/-- The microcode posts the VCM hold: the period's output is complete, and CONSEC returns to 0 (R171, R172). -/
def State.postVcm (s : State) (k : Nat) (x : Int) : State :=
  if s.acceptsPost k then
    ((s.setServo k { s.servoS k with posted := true }).setVcm k x).wr (SRV_OVR_CONSEC k) 0
  else s

/-- The MA hold that is posted for a value: clipped to ±MA_LIM (R174). -/
def State.clipMa (s : State) (k : Nat) (x : Int) : Int :=
  let lim : Int := s.rd (SRV_MA_MA_LIM k)
  max (-lim) (min lim x)

/-- The microcode posts the MA hold (R171, R174). -/
def State.postMa (s : State) (k : Nat) (x : Int) : State :=
  if s.acceptsPost k then s.setMa k (s.clipMa k x) else s

/-- OUTPUT_DEADLINE (R172): the deadline passes, and what is posted later in the period is discarded; without a posted VCM hold
it is an overrun, and the third in a row parks. -/
def outputDeadline (k : Slice) (s : State) : State :=
  let v := s.servoS k
  let was := s.acceptsPost k
  let s := if v.inPeriod then s.setServo k { v with late := true } else s
  if ¬ was ∨ v.posted then s
  else
    let s := s.writeFault k 4
    let s := ((s.bump (SRV_OVR_TOTAL k)).bump (SRV_OVR_CONSEC k)).put (SRV_STAT_OVR k) true
    let s := s.facetCause (reticleFct k) 4
    if s.rd (SRV_OVR_CONSEC k) = 3 then (s.facetCause (reticleFct k) 11).startPark k 2 else s

/-- OUTPUT_DEADLINE. -/
def execOutputDeadline (k : Slice) (s : State) : Result := clocked s (s.whileRuns (64 + k.val / 2) (outputDeadline k))

/-! ### Entries (R181 to R183) -/


/-- The engine may pop an entry: EN, none in progress, and the last result posted (R181, R194). -/
def State.servoFree (s : State) (k : Nat) : Bool :=
  s.on (SRV_CTL_EN k) && (s.servoS k).entry.isNone && (s.servoS k).results.isEmpty

/-- An entry whose OP, HEAD or TRACK is not valid (R181, R182). -/
def State.badServoEntry (s : State) (k : Nat) (e : Entry) : Bool :=
  e.poison || ! (1 ≤ e.at 64 8 && e.at 64 8 ≤ 4)
    || decide (s.headCount (bayOf k) (actOf k) ≤ e.at 72 4) || decide (s.rd (SRV_MAXTRK_TRACK k) < e.at 96 24)

/-- An entry becomes the one in progress. -/
def State.takeServoEntry (s : State) (k : Nat) (e : Entry) : State :=
  (s.setServo k { s.servoS k with entry := some e, samples := 0, began := s.now, fromTrack := s.rd (SRV_POS_TRACK k), fromPark := false }).put (SRV_STAT_BUSY k) true

/-- The signed OFFSET of an entry. -/
def entryOffset (e : Entry) : Int := (BitVec.ofNat 16 (e.at 128 16)).toInt

/-- The target of an entry becomes the engine's target; another head is selected at the bridge (R170). -/
def State.setTarget (s : State) (k : Nat) (e : Entry) : State :=
  let v := s.servoS k
  let h := e.at 72 4
  let s := s.setServo k { v with
    target := e.at 96 24, offset := entryOffset e, wr := e.at 80 1 == 1, jit := e.at 81 1 == 1, dir := e.at 82 1 == 1
    arrive := BitVec.ofNat 32 (e.at 160 32)
    newHead := if h = v.head then none else some h, headAt := none }
  if h = v.head then s else s.queueTimed (bayOf k) (ctlWord 4 (actOf k) h 0 1)

/-- SEEK while ACTIVE: move to the target (R182). -/
def State.beginSeek (s : State) (k : Nat) (e : Entry) : State := (s.setTarget k e).enterSeek k

/-- A LOAD in progress while PARKED leaves the ramp once the spindle is within its speed window (R182). -/
def State.beginLoad (s : State) (k : Nat) : State :=
  let v := s.servoS k
  match v.entry with
  | some e =>
    if v.fromPark ∧ s.rd (SRV_STAT_ST k) = stParked ∧ s.on (SPN_STAT_INWIN (bayOf k)) then
      let s := s.setTarget k e
      let s := s.setServo k { s.servoS k with
        head := e.at 72 4, newHead := none, headAt := none, lock := false, acquired := 0, lostRun := 0, reacqSince := none, shockLeft := 0, supRun := 0
        feSince := none, settled := 0, quiet := 0, mcInhibit := false }
      (s.wr (SRV_STAT_ST k) stLoading).setRegion k rgSeek
    else s
  | none => s

/-- What an entry in progress does (R182). -/
def State.runServoEntry (s : State) (k : Nat) (e : Entry) : State :=
  let op := e.at 64 8
  let st := s.rd (SRV_STAT_ST k)
  if s.badServoEntry k e then s.servoComplete k svBadArg 0
  else if st = stParked ∧ op = opPark then s.servoComplete k svDone 0
  else if st = stParked ∧ op = opLoad then (s.setServo k { s.servoS k with fromPark := true }).beginLoad k
  else if st = stParked ∨ st = stParking then s.servoComplete k svParked 0
  else if op = opPark then
    let s := (s.setServo k { s.servoS k with entry := none }).startPark k 1
    s.setServo k { s.servoS k with entry := some e }
  else if op = opOffset then
    let s := s.setServo k { s.servoS k with offset := entryOffset e, settled := 0 }
    if s.rd (SRV_POS_REGION k) = rgFollow then s.setRegion k rgSettle else s
  else s.beginSeek k e

/-- Engine `k` pops an entry of LP 128 + k whose OP is `op`, or one that is not valid, and runs it (R181). -/
def State.popServo (s : State) (k op : Nat) : State :=
  if ¬ s.servoFree k then s
  else match (s.lp (128 + k)).entries with
    | [] => s
    | e :: _ =>
      if e.poison ∨ e.at 64 8 = op ∨ ¬ (1 ≤ e.at 64 8 ∧ e.at 64 8 ≤ 4) then
        match s.hwPop (128 + k) with
        | none => s
        | some (e, s) => (s.takeServoEntry k e).runServoEntry k e
      else s

/-- Engine `k` pops the entry at the front of LP 128 + k, whatever its OP. -/
def State.popServoAny (s : State) (k : Nat) : State :=
  match (s.lp (128 + k)).entries with
  | [] => s
  | e :: _ => s.popServo k (e.at 64 8)

/-- SEEK (R182). -/
def servoSeek (k : Slice) (s : State) : State := s.popServo k opSeek
/-- SEEK. -/
def execServoSeek (k : Slice) (s : State) : Result := clocked s (s.whileOn (64 + k.val / 2) (servoSeek k))

/-- OFFSET (R182). -/
def servoOffset (k : Slice) (s : State) : State := s.popServo k opOffset
/-- OFFSET. -/
def execServoOffset (k : Slice) (s : State) : Result := clocked s (s.whileOn (64 + k.val / 2) (servoOffset k))

/-- PARK (R182). -/
def servoPark (k : Slice) (s : State) : State := s.popServo k opPark
/-- PARK. -/
def execServoPark (k : Slice) (s : State) : Result := clocked s (s.whileOn (64 + k.val / 2) (servoPark k))

/-- LOAD (R182). -/
def servoLoad (k : Slice) (s : State) : State := s.popServo k opLoad
/-- LOAD. -/
def execServoLoad (k : Slice) (s : State) : Result := clocked s (s.whileOn (64 + k.val / 2) (servoLoad k))

/-! ### Timeouts (R183, R190) -/

/-- The OP of the entry in progress, 0 without one. -/
def ServoSt.opNow (v : ServoSt) : Nat := match v.entry with | some e => e.at 64 8 | none => 0

/-- A SEEK or OFFSET, or a LOAD that acts as SEEK, completes with TIMEOUT and keeps its target (R183). -/
def State.seekExpired (s : State) (k : Nat) : State :=
  let v := s.servoS k
  if v.opNow = opSeek ∨ v.opNow = opOffset ∨ (v.opNow = opLoad ∧ ¬ v.fromPark) then s.servoComplete k svTimeout 0 else s

/-- LOAD_TIMEOUT (R183): the LOAD completes with LOAD_FAIL and the actuator parks with reason 8. -/
def loadTimeout (k : Slice) (s : State) : State :=
  let v := s.servoS k
  if v.opNow = opLoad ∧ v.fromPark then (s.servoComplete k svLoadFail 8).startPark k 8 else s

/-- LOAD_TIMEOUT. -/
def execLoadTimeout (k : Slice) (s : State) : Result := clocked s (s.whileRuns (64 + k.val / 2) (loadTimeout k))

/-- SERVO_REACQ_TIMEOUT (R190): no good sample within REACQ of the loss of lock. -/
def servoReacqTimeout (k : Slice) (s : State) : State :=
  if (s.servoS k).reacqSince.isSome ∧ (s.rd (SRV_STAT_ST k) = stActive ∨ s.rd (SRV_STAT_ST k) = stLoading) then s.startPark k 6
  else s

/-- SERVO_REACQ_TIMEOUT. -/
def execServoReacqTimeout (k : Slice) (s : State) : Result := clocked s (s.whileRuns (64 + k.val / 2) (servoReacqTimeout k))

end Sys2Proof.Machine
end

