-- ==== Sys2Proof/Machine/Spindle.lean ====
section
/-! DEFINITION. Sys2Proof/Machine/Spindle.lean: the commutation engines (R196 to R222): entries, the start sequence, the
observer, rotor loss, regeneration, braking, and the bus overvoltage path with the brake chopper. -/
namespace Sys2Proof.Machine
open Sys2Proof

/-! ### Entering and leaving states -/

/-- SRC of a bay after its engine no longer drives the rotor from an observer: EMF becomes NONE, wedges stay (R51, R216). -/
def State.dropEmf (s : State) (b : Nat) : State :=
  if s.rd (ANG_STAT_SRC b) = srcEmf then (s.setSource b srcNone).updateLock b else s

/-- SRC reads EMF where the engine commutates from the observer and no wedges drive the counter (R51, R205). -/
def State.takeEmf (s : State) (b : Nat) : State :=
  if s.rd (ANG_STAT_SRC b) = srcNone then (s.setSource b srcEmf).updateLock b else s

/-- The engine enters an undriven state, or BRAKE. -/
def State.undrive (s : State) (b st : Nat) : State :=
  let s := s.setSpinState b st
  let s := ((s.put (SPN_STAT_INWIN b) false).put (SPN_STAT_VLIM b) false).dropEmf b
  s.setSpin b { s.spinS b with inBand := 0, outBand := 0, lateRun := 0, inWinRevs := 0, rampLeft := 0, byFlush := false
                               starting := st == spBrake && (s.spinS b).starting }

/-- Both actuators of a bay are PARKED. -/
def State.bothParked (s : State) (b : Nat) : Bool :=
  s.rd (SRV_STAT_ST (2 * b)) == stParked && s.rd (SRV_STAT_ST (2 * b + 1)) == stParked

/-- Set SRV_CTL.PARK of each actuator of the bay that is not PARKED (R210, R216 to R218). -/
def State.parkBoth (s : State) (b : Nat) : State :=
  let one (k : Nat) (s : State) : State :=
    if s.rd (SRV_STAT_ST k) = stParked then s else (s.put (SRV_CTL_PARK k) true).startPark k 1
  one (2 * b + 1) (one (2 * b) s)

/-- A STOP entry is in progress. -/
def State.stopping (s : State) (b : Nat) : Bool :=
  match (s.spinS b).entry with | some e => e.at 64 8 == opStop | none => false

/-- BRAKE is entered (R210). -/
def State.shortWindings (s : State) (b : Nat) : State :=
  (s.setSpin b { s.spinS b with parkWait := false, coastAt := none }).undrive b spBrake

/-- BRAKE is entered (R210); a change not requested by a STOP entry is reported (R204). -/
def State.enterBrake (s : State) (b : Nat) : State :=
  let asked := s.stopping b
  let f := (s.spinS b).brakeEnd
  let s := s.shortWindings b
  match f with
  | .stop f => if asked then s else s.spinUnrequested b snDone f
  | _ => s

/-- The engine reaches STOP (R210): a STOP in progress completes (R201); any other way there is a change that no entry asked
for (R204). -/
def State.reachStop (s : State) (b fcode : Nat) : State :=
  let asked := s.stopping b
  let s := (s.setSpin b { s.spinS b with parkWait := false, coastAt := none }).undrive b spStop
  if asked then s.spinComplete b snDone 0 else s.spinUnrequested b snDone fcode

/-- Park whatever is not parked, then brake; the brake ends in STOP (R210). -/
def State.parkAndBrake (s : State) (b fcode : Nat) : State :=
  let s := s.setSpin b { s.spinS b with brakeEnd := .stop fcode }
  if s.bothParked b then s.enterBrake b
  else (s.parkBoth b).setSpin b { (s.parkBoth b).spinS b with parkWait := true }

/-- RUN is entered from the observer (R205). -/
def State.enterRun (s : State) (b : Nat) : State :=
  let s := s.setSpinState b spRun
  (s.setSpin b { s.spinS b with dwell := 255, coastAt := none, starting := false }).takeEmf b

/-- REGEN is entered (R213): the level starts from 0. -/
def State.enterRegen (s : State) (b : Nat) (byFlush : Bool) : State :=
  let s := (s.setSpinState b spRegen).wr (SPN_ILIM_LEVEL b) 0
  s.setSpin b { s.spinS b with byFlush := byFlush, dwell := 0, ovHold := s.on APR_BUS_STAT_OV }

/-- At the start of a power-loss flush an engine in RUN joins regeneration without firmware (R213). -/
def State.flushRegen (s : State) (b : Nat) : State :=
  if s.on (SPN_CTL_REGEN_EN b) ∧ s.spin b = spRun ∧ s.on (ANG_STAT_SPD_OK b) then
    (s.enterRegen b true).spinUnrequested b snDone 0
  else s

/-- A bay that is not attached, or whose drain is forced, has its spindle in STOP (R199); FAULT is left only by a reset of the
bay domain. -/
def State.spinDetach (s : State) (b : Nat) : State :=
  if s.spin b = spFault ∨ s.spin b = spStop then s else s.reachStop b 0

/-! ### Enable and entries (R197, R200 to R202) -/

/-- SPINDLE_ENABLE (R197): SPN_CTL.EN is written `v`. -/
def spindleEnable (b : Bay) (v : Bool) (s : State) : State :=
  if ¬ v then s.put (SPN_CTL_EN b) false
  else if s.rd (SPN_MOTOR_P b) = 0 ∨ s.rd (SPN_MOTOR_INERTIA b) = 0 then
    (if s.on (SPN_CTL_EN b) then s else s.put (SPN_STAT_CFGERR b) true)
  else s.put (SPN_CTL_EN b) true

/-- SPINDLE_ENABLE. -/
def execSpindleEnable (b : Bay) (v : Bool) (s : State) : Result := clocked s (s.whileAnswers (64 + b.val) (spindleEnable b v))

/-- RPM of an entry lies from 50 % of N_nom up to N_nom (R201). -/
def State.rpmOk (s : State) (b rpm : Nat) : Bool :=
  decide (0 < rpm) && decide (s.nNom b ≤ 2 * rpm) && decide (rpm ≤ s.nNom b)

/-- An entry needs TOKEN: a START, or a SPEED that raises the target by more than 10 % of N_nom (R202). -/
def State.tokenFor (s : State) (b : Nat) (e : Entry) : Bool :=
  ! e.poison && (e.at 64 8 == opStart
    || (e.at 64 8 == opSpeed && decide (s.nNom b < (e.at 96 16 - s.rd (SPN_SPEED_TARGET b)) * 10)))

/-- An entry in progress begins its work (R201, R202). -/
def State.runSpinEntry (s : State) (b : Nat) (e : Entry) : State :=
  let op := e.at 64 8
  let rpm := e.at 96 16
  let st := s.spin b
  if e.poison then s.spinComplete b snBadArg 0
  else if st = spFault then s.spinComplete b snFault 0
  else if ¬ (1 ≤ op ∧ op ≤ 6) then s.spinComplete b snBadArg 0
  else if op = opStart then
    if st ≠ spStop ∨ ¬ s.rpmOk b rpm then s.spinComplete b snBadArg 0
    else if ¬ s.on (SPN_CTL_TOKEN b) then s.spinComplete b snNoToken 0
    else
      let s := s.wr (SPN_SPEED_TARGET b) rpm
      if s.on (BL_CTL_ATTACHED b) then (s.setSpin b { s.spinS b with starting := true }).setSpinState b spListen else s
  else if op = opSpeed then
    if st ≠ spRun ∨ ¬ s.rpmOk b rpm then s.spinComplete b snBadArg 0
    else if s.tokenFor b e ∧ ¬ s.on (SPN_CTL_TOKEN b) then s.spinComplete b snNoToken 0
    else (s.wr (SPN_SPEED_TARGET b) rpm).stepWindow b 0
  else if op = opStop then
    if st = spStop then s.spinComplete b snDone 0
    else if st = spBrake then s.setSpin b { s.spinS b with brakeEnd := .stop 0 }
    else s.parkAndBrake b 0
  else if op = opRegen then
    if st = spRun then (s.enterRegen b false).spinComplete b snDone 0 else s.spinComplete b snBadArg 0
  else if op = opRegenEnd then
    if st = spRegen then (s.enterRun b).spinComplete b snDone 0 else s.spinComplete b snBadArg 0
  else if st = spRun ∧ s.bothParked b then
    ((s.setSpin b { s.spinS b with coastAt := none }).undrive b spCoast).spinComplete b snDone 0
  else s.spinComplete b snBadArg 0

/-- A result of an entry of engine `b` still waits for credit of LP 224 + b. -/
def State.spinOwes (s : State) (b : Nat) : Bool := s.stalled.any fun p => p.1 == 224 + b && p.2.at 64 8 == 0x60 && p.2.at 72 8 != 0

/-- Regeneration goes on, or will once the rotor is reacquired (R213, R216). -/
def State.regenerates (s : State) (b : Nat) : Bool :=
  s.spin b == spRegen || (s.spin b == spCoast && (s.spinS b).coastAt.isSome && (s.spinS b).before == spRegen)

/-- Engine `b` pops an entry of LP 192 + b whose OP is `op`, or one that is not valid, and runs it, once the result of the one
before is posted (R200). While it regenerates in a flush, entries other than STOP and REGEN_END wait (R213). -/
def State.popSpin (s : State) (b op : Nat) : State :=
  if ¬ s.on (SPN_CTL_EN b) ∨ (s.spinS b).entry.isSome ∨ s.spinOwes b then s
  else match (s.lp (192 + b)).entries with
    | [] => s
    | e :: _ =>
      let o := e.at 64 8
      let waits := s.regenerates b && (s.on APR_STAT_FLUSHING || (s.spinS b).byFlush) && o != opStop && o != opRegenEnd
      if ¬ waits ∧ (e.poison ∨ o = op ∨ ¬ (1 ≤ o ∧ o ≤ 6)) then
        match s.hwPop (192 + b) with
        | none => s
        | some (e, s) =>
          ((s.setSpin b { s.spinS b with entry := some e, began := s.now, needsToken := s.tokenFor b e }).put
            (SPN_STAT_BUSY b) true).runSpinEntry b e
      else s

/-- Engine `b` pops the entry at the front of LP 192 + b, whatever its OP. -/
def State.popSpinAny (s : State) (b : Nat) : State :=
  match (s.lp (192 + b)).entries with
  | [] => s
  | e :: _ => s.popSpin b (e.at 64 8)

/-- START (R205). -/
def spindleStart (b : Bay) (s : State) : State := s.popSpin b opStart
/-- START. -/
def execSpindleStart (b : Bay) (s : State) : Result := clocked s (s.whileOn (64 + b.val) (spindleStart b))

/-- SPEED (R201). -/
def spindleSpeed (b : Bay) (s : State) : State := s.popSpin b opSpeed
/-- SPEED. -/
def execSpindleSpeed (b : Bay) (s : State) : Result := clocked s (s.whileOn (64 + b.val) (spindleSpeed b))

/-- STOP (R210). -/
def spindleStop (b : Bay) (s : State) : State := s.popSpin b opStop
/-- STOP. -/
def execSpindleStop (b : Bay) (s : State) : Result := clocked s (s.whileOn (64 + b.val) (spindleStop b))

/-- REGEN (R213): a REGEN entry is popped. The engines that join the regeneration of a flush without one do so as the flush
begins (`State.flushRegen`). -/
def spindleRegen (b : Bay) (s : State) : State := s.popSpin b opRegen
/-- REGEN. -/
def execSpindleRegen (b : Bay) (s : State) : Result := clocked s (s.whileOn (64 + b.val) (spindleRegen b))

/-- REGEN_END (R215). -/
def spindleRegenEnd (b : Bay) (s : State) : State := s.popSpin b opRegenEnd
/-- REGEN_END. -/
def execSpindleRegenEnd (b : Bay) (s : State) : Result := clocked s (s.whileOn (64 + b.val) (spindleRegenEnd b))

/-- COAST (R201). -/
def spindleCoast (b : Bay) (s : State) : State := s.popSpin b opCoast
/-- COAST. -/
def execSpindleCoast (b : Bay) (s : State) : Result := clocked s (s.whileOn (64 + b.val) (spindleCoast b))

/-- ABORT (R200): the entry in progress ends with ABORTED; the spindle stays in the state it has reached. -/
def spindleAbort (b : Bay) (s : State) : State :=
  let v := s.spinS b
  let op := match v.entry with | some e => e.at 64 8 | none => 0
  let mine := op == opStop || op == opStart
  let s := s.setSpin b { v with
    parkWait := v.parkWait && op != opStop, starting := v.starting && op != opStart
    probeAt := if op = opStart then none else v.probeAt
    brakeEnd := if mine ∧ s.spin b = spBrake then .stay else v.brakeEnd }
  s.spinComplete b snAborted 0

/-- ABORT. -/
def execSpindleAbort (b : Bay) (s : State) : Result := clocked s (s.whileAnswers (64 + b.val) (spindleAbort b))

/-- SPINUP_TIMEOUT (R203): a START or SPEED has not reached INWIN; the spindle keeps running at its target. -/
def spinupTimeout (b : Bay) (s : State) : State :=
  match (s.spinS b).entry with
  | some e => if e.at 64 8 = opStart ∨ e.at 64 8 = opSpeed then s.spinComplete b snTimeout 0 else s
  | none => s

/-- SPINUP_TIMEOUT. -/
def execSpinupTimeout (b : Bay) (s : State) : Result := clocked s (s.whileRuns (64 + b.val) (spinupTimeout b))

/-! ### Start from rest (R205, R206) -/

/-- A phase switched at duty `d`, and a phase whose low side is on (R80). -/
def phOn (d : Nat) : BitVec 16 := BitVec.ofNat 16 (0x4000 + d % 1024)
def phLow : BitVec 16 := 0x8000

/-- The voltage vector at 60° × `i` electrical, at duty `d` (R205 step 2): phases A, B and C stand 120° apart (DEDUCED, log entry
101). -/
def probeVector (i d : Nat) : BitVec 16 × BitVec 16 × BitVec 16 :=
  match i % 6 with
  | 0 => (phOn d, phLow, phLow)
  | 1 => (phOn d, phOn d, phLow)
  | 2 => (phLow, phOn d, phLow)
  | 3 => (phLow, phOn d, phOn d)
  | 4 => (phLow, phLow, phOn d)
  | _ => (phOn d, phLow, phOn d)

/-- The vector 90° ahead of 60° × `i` electrical, at duty `d` (R205 step 3): it lies between two of the six, with one phase
high-impedance. -/
def stepVector (i d : Nat) : BitVec 16 × BitVec 16 × BitVec 16 :=
  match i % 6 with
  | 0 => (0, phOn d, phLow)
  | 1 => (phLow, phOn d, 0)
  | 2 => (phLow, 0, phOn d)
  | 3 => (0, phLow, phOn d)
  | 4 => (phOn d, phLow, 0)
  | _ => (phOn d, 0, phLow)

/-- The phases take a vector. -/
def State.setVector (s : State) (b : Nat) (v : BitVec 16 × BitVec 16 × BitVec 16) : State := s.setPhases b v.1 v.2.1 v.2.2

/-- The phases of a probe (R205 step 2): six vectors of 50 µs at duty PDUTY, each followed by 50 µs of shorted windings, which
stay shorted until the result is known. -/
def State.probeHold (s : State) (b : Nat) : State :=
  match (s.spinS b).probeAt with
  | none => s
  | some t =>
    let n := (s.now - t) / 50000
    if n < 12 ∧ n % 2 = 0 then s.setVector b (probeVector (n / 2) (s.rd (SPN_START_PDUTY b))) else s.setPhases b phLow phLow phLow

/-- A probe begins. -/
def State.beginProbe (s : State) (b : Nat) : State := (s.setSpin b { s.spinS b with probeAt := some s.now }).probeHold b

/-- The probe of a start from rest begins. -/
def State.startFromRest (s : State) (b : Nat) : State :=
  let s := (s.setSpinState b spStart).calTrigger (2 * b) 8 0
  (s.setSpin b { s.spinS b with ambiguous := 0, steps := 0, inBand := 0, probed := 0, revPart := 0, starting := true }).beginProbe b

/-- A start fails (R206): the engine brakes, ending in STOP, and the entry ends with START_FAIL; where it has ended before, the
change is reported without one (R204). -/
def State.startFail (s : State) (b fcode : Nat) : State :=
  let s := s.wr (SPN_STAT_FCODE b) fcode
  let s := (s.setSpin b { s.spinS b with brakeEnd := .stop fcode, starting := false }).shortWindings b
  match (s.spinS b).entry with
  | some _ => s.spinComplete b snStartFail fcode
  | none => s.spinUnrequested b snStartFail fcode

/-- LISTEN_END (R205 step 1). -/
def listenEnd (b : Bay) (found reverse : Bool) (rpm : BitVec 14) (s : State) : State :=
  if s.spin b ≠ spListen ∨ ¬ (s.spinS b).starting then s
  else if ¬ found then s.startFromRest b
  else if ¬ reverse ∧ 8 * s.nNom b ≤ 100 * rpm.toNat then (s.wr (SPN_SPEED_RPM b) rpm.toNat).enterRun b
  else (s.setSpin b { s.spinS b with brakeEnd := .start }).enterBrake b

/-- LISTEN_END. -/
def execListenEnd (b : Bay) (found reverse : Bool) (rpm : BitVec 14) (s : State) : Result := clocked s (s.whileRuns (64 + b.val) (listenEnd b found reverse rpm))

/-- START_BRAKE_END (R205): BRAKE_T of a brake found necessary in LISTEN has passed. -/
def startBrakeEnd (b : Bay) (s : State) : State :=
  if s.spin b = spBrake ∧ (s.spinS b).brakeEnd = .start ∧ (s.spinS b).starting then s.startFromRest b else s

/-- START_BRAKE_END. -/
def execStartBrakeEnd (b : Bay) (s : State) : Result := clocked s (s.whileRuns (64 + b.val) (startBrakeEnd b))

/-- The place and value of the largest peak, and the second largest value. -/
def largestPeak (l : List Nat) : Nat × Nat × Nat :=
  (l.zipIdx).foldl (fun (r : Nat × Nat × Nat) p => if r.2.1 < p.1 then (p.2, p.1, r.2.1) else if r.2.2 < p.1 then (r.1, r.2.1, p.1) else r)
    (0, 0, 0)

/-- PROBE_DONE (R205 step 2, R206): the six peak currents; ambiguous where the largest exceeds the second by less than PMARGIN. -/
def probeDone (b : Bay) (peaks : List Nat) (s : State) : State :=
  if s.spin b ≠ spStart ∨ (s.spinS b).probeAt.isNone then s
  else
    let (i, m1, m2) := largestPeak (peaks.take 6)
    let v := s.spinS b
    if (m1 - m2) * 100 < s.rd (SPN_START_PMARGIN b) * m2 then
      let s := s.setSpin b { v with ambiguous := v.ambiguous + 1 }
      if 3 ≤ v.ambiguous + 1 then s.startFail b 1 else s.beginProbe b
    else
      -- the step drive's vector is at level 15; the duty that this is, is the microcode's (R208): a free value
      let s := (s.setSpin b { v with ambiguous := 0, probed := i, probeAt := none }).wr (SPN_ILIM_LEVEL b) 15
      s.draw.setVector b (stepVector i (Config.freeNat s.free))

/-- PROBE_DONE. -/
def execProbeDone (b : Bay) (peaks : List Nat) (s : State) : Result := clocked s (s.whileRuns (64 + b.val) (probeDone b peaks))

/-- STEP_DRIVE_INTERVAL (R205 step 3, R206): an interval ends and the engine re-probes; after 40 with the speed still
below 2 % of N_nom the start fails. -/
def stepDriveInterval (b : Bay) (rpm : BitVec 14) (s : State) : State :=
  if s.spin b ≠ spStart ∨ ¬ (s.spinS b).starting ∨ (s.spinS b).probeAt.isSome then s
  else
    let v := s.spinS b
    let s := s.setSpin b { v with steps := v.steps + 1 }
    if 40 ≤ v.steps + 1 ∧ 100 * rpm.toNat < 2 * s.nNom b then s.startFail b 2 else s.beginProbe b

/-- STEP_DRIVE_INTERVAL. -/
def execStepDriveInterval (b : Bay) (rpm : BitVec 14) (s : State) : Result := clocked s (s.whileRuns (64 + b.val) (stepDriveInterval b rpm))

/-! ### PWM periods and the observer (R207, R211, R212, R214) -/

/-- The observer's residual of a period (R211, R207): OBSOK, the runs in and out of band, and OBSLOSS while wedges are the
source. A period whose phase currents are stale has no residual. -/
def State.observe (s : State) (b resid : Nat) : State :=
  if (s.beamS b).phaseStale0 then s
  else
    let v := s.spinS b
    let ok := decide (resid ≤ s.rd (SPN_OBS_RBAND b))
    let s := s.put (SPN_STAT_OBSOK b) ok
    let wedge := s.rd (ANG_STAT_SRC b) == srcWedge
    let s := s.setSpin b { v with
      inBand := if ok then v.inBand + 1 else 0
      outBand := if ok ∨ wedge ∨ s.spin b = spStart then 0 else v.outBand + 1 }
    if ¬ ok ∧ wedge ∧ s.spin b ≠ spStart ∧ ¬ s.on (SPN_STAT_OBSLOSS b) then
      (s.put (SPN_STAT_OBSLOSS b) true).event 7 .spindleFault 1 b
    else s

/-- The regeneration level is regulated on VMOTOR (R214). -/
def State.stepRegen (s : State) (b : Nat) : State :=
  let v := s.rd APR_BUS_STAT_VMOT
  let set := s.rd APR_BUS_REGEN_VSET * 100
  let band := s.rd APR_BUS_REGEN_VBAND * 10
  let lvl := s.rd (SPN_ILIM_LEVEL b)
  if (s.spinS b).ovHold then s.wr (SPN_ILIM_LEVEL b) 0
  else if v < s.rd APR_BUS_REGEN_VFLOOR * 100 then s.wr (SPN_ILIM_LEVEL b) 15
  else if v + band < set then s.wr (SPN_ILIM_LEVEL b) (min 15 (lvl + 1))
  else if set + band < v then s.wr (SPN_ILIM_LEVEL b) (lvl - 1)
  else s

/-- The current ramps back linearly over SPN_REACQ.RAMP periods after reacquisition (R216). -/
def State.stepRamp (s : State) (b : Nat) : State :=
  let v := s.spinS b
  if v.rampLeft = 0 then s
  else
    let n := max 1 (s.rd (SPN_REACQ_RAMP b))
    (s.wr (SPN_ILIM_LEVEL b) (v.levelBefore * (n - (v.rampLeft - 1)) / n)).setSpin b { v with rampLeft := v.rampLeft - 1 }

/-- A spindle whose actuators have parked goes on to brake (R210). -/
def State.parkWaitOver (s : State) (b : Nat) : State :=
  if (s.spinS b).parkWait ∧ s.bothParked b then s.enterBrake b else s

/-- PWM_PERIOD (R205 step 4, R207, R211, R214): a PWM period of bay `b` starts. `resid` is the observer's residual of the
last period in Q1.15 of ILIM, `rpm` its speed estimate (in BRAKE, from the phase currents, R210). -/
def pwmPeriod (b : Bay) (resid : BitVec 16) (rpm : BitVec 14) (s : State) : State :=
  let bn := b.val
  let v := s.spinS bn
  let s := match v.cutPhases with | some p => s.setVector bn p | none => s
  let s := s.setSpin bn { v with
    posted := false, late := false, cutPhases := none, pwmCount := v.pwmCount + 1, dwell := v.dwell + 1
    wedge := s.rd (ANG_STAT_SRC bn) == srcWedge }
  let s := s.expireKin bn
  let st := s.spin bn
  let s :=
    if st = spStart then
      let s := s.observe bn resid.toNat
      if 16 ≤ (s.spinS bn).inBand ∧ 8 * s.nNom bn ≤ 100 * rpm.toNat ∧ (s.spinS bn).starting then
        (s.wr (SPN_SPEED_RPM bn) rpm.toNat).enterRun bn
      else s.probeHold bn
    else if st = spRun then (s.observe bn resid.toNat).stepRamp bn
    else if st = spRegen then
      let s := s.observe bn resid.toNat
      let s := if 0 < (s.spinS bn).rampLeft then s.stepRamp bn
        else if (s.spinS bn).pwmCount % 4 = bn % 4 then s.stepRegen bn else s
      if 100 * s.rd (SPN_SPEED_RPM bn) < s.clamp (SPN_REGEN_MINSPD bn) 10 70 * s.nNom bn ∧ ¬ (s.spinS bn).parkWait then
        s.parkAndBrake bn 0
      else s
    else if st = spBrake then s.wr (SPN_SPEED_RPM bn) rpm.toNat
    else s
  let s := s.parkWaitOver bn
  if s.on (SPN_STAT_INWIN bn) then (s.beginLoad (2 * bn)).beginLoad (2 * bn + 1) else s

/-- PWM_PERIOD. -/
def execPwmPeriod (b : Bay) (resid : BitVec 16) (rpm : BitVec 14) (s : State) : Result := clocked s (s.whileRuns (64 + b.val) (pwmPeriod b resid rpm))

/-- The microcode posts a phase output for the period (R164, R212). One posted after the deadline does not act, since the
previous states are repeated (DEDUCED, log entry 101). -/
def State.postPhases (s : State) (b : Nat) (pa pb pc : BitVec 16) : State :=
  if (s.spinS b).late then s
  else
    let s := s.setSpin b { s.spinS b with posted := true }
    if s.phasesFree b then s.setPhases b pa pb pc else s

/-- PHASE_OUTPUT_DEADLINE (R212): 80 % of the PWM period has passed; without an output the previous states repeat. A period posted
on time ends a run of late ones. While hardware probes no output is awaited (DEDUCED, log entry 101). -/
def phaseOutputDeadline (b : Bay) (s : State) : State :=
  let st := s.spin b
  let v := s.spinS b
  if v.late ∨ v.probeAt.isSome ∨ ¬ (st = spStart ∨ st = spRun ∨ st = spRegen) then s
  else if v.posted then s.setSpin b { v with late := true, lateRun := 0 }
  else
    let s := s.setSpin b { v with late := true, lateRun := v.lateRun + 1 }
    ((s.bump (SPN_OVR_COUNT b)).put (SPN_STAT_OVR b) true).facetCause (commFct b) 4

/-- PHASE_OUTPUT_DEADLINE. -/
def execPhaseOutputDeadline (b : Bay) (s : State) : Result := clocked s (s.whileRuns (64 + b.val) (phaseOutputDeadline b))

/-! ### Rotor loss and reacquisition (R216) -/

/-- ROTOR_LOSS (R216, R212): RN periods out of band with the observer as source, or three late periods: COAST. -/
def rotorLoss (b : Bay) (s : State) : State :=
  let v := s.spinS b
  let st := s.spin b
  if ((st = spRun ∨ st = spRegen) ∧ max 1 (s.rd (SPN_OBS_RN b)) ≤ v.outBand)
      ∨ ((st = spStart ∨ st = spRun ∨ st = spRegen) ∧ 3 ≤ v.lateRun) then
    let lvl := s.rd (SPN_ILIM_LEVEL b)
    let s := s.facetCause (commFct b) 11
    let s := s.undrive b spCoast
    let s := s.setSpin b { s.spinS b with
      before := st, levelBefore := lvl, coastAt := some s.now, crossings := 0, byFlush := v.byFlush, starting := v.starting }
    (s.put (SPN_STAT_COASTEV b) true).spinUnrequested b snReacq 0
  else s

/-- ROTOR_LOSS. -/
def execRotorLoss (b : Bay) (s : State) : Result := clocked s (s.whileRuns (64 + b.val) (rotorLoss b))

/-- The rotor is reacquired: the engine returns to the state it left, with a current ramp (R216 step 3); after a start, whose
position source is the probe, it probes again. A regeneration level that an overvoltage holds at 0 does not ramp (R220). -/
def State.reacquired (s : State) (b : Nat) : State :=
  let v := s.spinS b
  let s := s.setSpin b { v with coastAt := none }
  if v.before = spStart then
    (if v.starting then s.startFromRest b else s.setSpinState b spStart).spinUnrequested b snDone 0
  else
    let s := (if v.before = spRegen then s.enterRegen b v.byFlush else s.enterRun b).takeEmf b
    let ramp := s.rd (SPN_REACQ_RAMP b)
    let s := if (s.spinS b).ovHold ∧ v.before = spRegen then s
      else if ramp = 0 then s.wr (SPN_ILIM_LEVEL b) v.levelBefore
      else s.setSpin b { s.spinS b with rampLeft := ramp, levelBefore := v.levelBefore }
    s.spinUnrequested b snDone 0

/-- BACK_EMF_ZERO_CROSSING (R208, R216): a speed measurement while no wedges drive the counter; in COAST after a rotor
loss, six that agree in order and spacing reacquire the rotor. -/
def backEmfZeroCrossing (b : Bay) (rpm : BitVec 14) (agrees : Bool) (s : State) : State :=
  let st := s.spin b
  let v := s.spinS b
  if st = spCoast then
    if v.coastAt.isNone ∨ v.parkWait then s
    else
      let n := if agrees then v.crossings + 1 else 0
      let s := (s.setSpin b { v with crossings := n }).wr (SPN_SPEED_RPM b) rpm.toNat
      if 6 ≤ n then s.reacquired b else s
  else if (st = spRun ∨ st = spRegen) ∧ s.rd (ANG_STAT_SRC b) ≠ srcWedge then
    let s := s.measureSpeed b rpm.toNat (s.nWedges b)
    if s.rd (ANG_STAT_SRC b) = srcEmf then
      (s.wr (ANG_PERIOD_NS b) (if rpm = 0 then 0 else 60000000000 / rpm.toNat)).updateLock b
    else s
  else s

/-- BACK_EMF_ZERO_CROSSING. -/
def execBackEmfZeroCrossing (b : Bay) (rpm : BitVec 14) (agrees : Bool) (s : State) : Result :=
  clocked s (s.whileRuns (64 + b.val) (backEmfZeroCrossing b rpm agrees))

/-- REACQ_WINDOW_END (R216 step 2): a window ends without reacquisition; another follows at once. -/
def reacqWindowEnd (b : Bay) (s : State) : State :=
  if s.spin b = spCoast then s.setSpin b { s.spinS b with crossings := 0 } else s

/-- REACQ_WINDOW_END. -/
def execReacqWindowEnd (b : Bay) (s : State) : Result := clocked s (s.whileRuns (64 + b.val) (reacqWindowEnd b))

/-- REACQ_TIMEOUT (R216 step 4): the heads unload, and the spindle brakes to STOP with fault code 3. -/
def reacqTimeout (b : Bay) (s : State) : State :=
  if s.spin b = spCoast ∧ (s.spinS b).coastAt.isSome then
    let s := (s.put (SPN_STAT_RLOST b) true).wr (SPN_STAT_FCODE b) 3
    s.parkAndBrake b 3
  else s

/-- REACQ_TIMEOUT. -/
def execReacqTimeout (b : Bay) (s : State) : Result := clocked s (s.whileRuns (64 + b.val) (reacqTimeout b))

/-- The commutation Facet of a bay halts (R153, R217): the phases go high-impedance and the spindle coasts; no braking follows,
also where a reacquisition was under way. -/
def State.commHalt (s : State) (b : Nat) : State :=
  let st := s.spin b
  let s := s.setSpin b { s.spinS b with coastAt := none, parkWait := false }
  if st = spStop ∨ st = spFault ∨ st = spCoast then s else (s.undrive b spCoast).spinUnrequested b snDone 0

/-- COMMUTATION_HALT_PARK (R217): SPN_REACQ.TMO after the halt, both actuators park; the engine does not brake. -/
def commutationHaltPark (b : Bay) (s : State) : State :=
  if s.on (FCT_STAT_HALT (commFct b)) then s.parkBoth b else s

/-- COMMUTATION_HALT_PARK. -/
def execCommutationHaltPark (b : Bay) (s : State) : Result := clocked s (s.whileRuns (64 + b.val) (commutationHaltPark b))

/-! ### Braking (R210) -/

/-- STOP_PARK_WAIT_TIMEOUT (R210, R216): 100 ms have passed; the engine brakes whether or not both have parked. -/
def stopParkWaitTimeout (b : Bay) (s : State) : State :=
  if (s.spinS b).parkWait then
    let s := if s.bothParked b then s else s.event 7 .servoFault 1 b
    s.enterBrake b
  else s

/-- STOP_PARK_WAIT_TIMEOUT. -/
def execStopParkWaitTimeout (b : Bay) (s : State) : Result := clocked s (s.whileRuns (64 + b.val) (stopParkWaitTimeout b))

/-- BRAKE_HOLD_END (R210 steps 3 and 4): the speed has stayed below 2 % of N_nom for HOLD_T. -/
def brakeHoldEnd (b : Bay) (s : State) : State :=
  let v := s.spinS b
  if s.spin b = spBrake then
    match v.brakeEnd with
    | .stop f => (s.wr (SPN_SPEED_RPM b) 0).reachStop b f
    | _ => s
  else s

/-- BRAKE_HOLD_END. -/
def execBrakeHoldEnd (b : Bay) (s : State) : Result := clocked s (s.whileRuns (64 + b.val) (brakeHoldEnd b))

/-! ### Stage over-current (R218) -/

/-- A stage over-current reported by the phase slot or by FAULT 0x06: cause 8, phases off for the period, 4 levels down;
the third within 100 ms is FAULT with code 4, and both actuators park. -/
def State.stageOverCurrent (s : State) (b : Nat) : State :=
  if s.spin b = spFault then s
  else
    let v := s.spinS b
    let l := s.now :: v.overCurrents.filter fun t => decide (s.now < t + 100000000)
    let m := s.beamS b
    let s := (s.facetCause (commFct b) 8).setPhases b 0 0 0
    let s := (s.wr (SPN_ILIM_LEVEL b) (s.rd (SPN_ILIM_LEVEL b) - 4)).setSpin b { v with
      overCurrents := l, cutPhases := some (v.cutPhases.getD (m.pa, m.pb, m.pc)) }
    if 3 ≤ l.length then
      let s := (s.setSpin b { s.spinS b with parkWait := false, coastAt := none }).undrive b spFault
      let s := s.wr (SPN_STAT_FCODE b) 4
      let s := match (s.spinS b).entry with
        | some _ => s.spinComplete b snFault 4
        | none => s.spinUnrequested b snFault 4
      (s.parkBoth b).failArms [2 * b, 2 * b + 1]
    else s

/-! ### Bus overvoltage and the chopper (R220, R221) -/

/-- VMOTOR_OV in mV. -/
def State.ovMv (s : State) : Nat := s.clamp APR_BUS_CTL_OV 125 150 * 100

/-- A sense-converter code as mV at the board's input (R245, R595): the code over 4,096 of full scale `fs` (mV), times
THM_REF_GAIN in 1/65,536. -/
def State.senseMv (s : State) (code fs : Nat) : Nat := code * fs * s.rd THM_REF_GAIN_GAIN / (4096 * 65536)

/-- Step 1 of R220 in the engine of bay `b`. -/
def State.ovEngine (s : State) (b : Nat) : State :=
  if s.spin b = spRegen then
    ((s.wr (SPN_ILIM_LEVEL b) 0).put (SPN_STAT_OVSTOP b) true).setSpin b { s.spinS b with ovHold := true, rampLeft := 0 }
  else s

/-- A regenerating engine stops on a chopper fault (R215, R220): BRAKE at once, fault code 5. -/
def State.chopperBrake (s : State) (b : Nat) : State :=
  if s.spin b = spRegen then
    let s := s.wr (SPN_STAT_FCODE b) 5
    (s.setSpin b { s.spinS b with brakeEnd := .stop 5 }).enterBrake b
  else s

/-- VMOTOR at or above VMOTOR_OV + CHOP_DV within CHOP_DT of the crossing: the chopper is declared faulty (R220 step 2). -/
def State.chopperCheck (s : State) (mv : Nat) : State :=
  match s.bus.crossedAt with
  | some t =>
    if ¬ s.bus.declared ∧ s.ovMv + s.rd APR_BUS_CTL_CHOP_DV * 10 ≤ mv ∧ s.now ≤ t + s.rd APR_BUS_CTL_CHOP_DT * 100000 then
      let s : State := { s with bus := { s.bus with declared := true } }
      let s := s.bus.regenAt.foldl (fun s b => s.chopperBrake b) s
      (s.put APR_BUS_STAT_CHOPFLT true).event 2 .chopperFault 0 0
    else s
  | none => s

/-- The chopper test drives BRKCHOP: PULSE, after a first average of 1 ms (R221). -/
def State.testPulse (s : State) : Bool :=
  match s.bus.testAt with
  | some t => decide (t + 1000000 ≤ s.now) && decide (s.now < t + 1000000 + s.rd APR_CHOP_TEST_PULSE * 100000)
  | none => false

/-- VMOTOR_SAMPLE (R220): a sample of VMOTOR_SNS. -/
def vmotorSample (code : BitVec 12) (s : State) : State :=
  let mv := s.senseMv code.toNat 20000
  let s := s.wr APR_BUS_STAT_VMOT mv
  let above := decide (s.ovMv < mv)
  let s := s.put APR_BUS_STAT_OV above
  let s := if s.bus.crossedAt.isSome then s else s.put APR_BUS_STAT_CHOPON s.testPulse
  if above then
    let regen := (List.range s.bayCount).filter fun b => s.spin b == spRegen
    let s := if s.bus.crossedAt.isSome then s
      else
        let s : State := { s with bus := { s.bus with crossedAt := some s.now, regenAt := regen, declared := false } }
        forUpTo s.bayCount (fun b s => s.facetCause (commFct b) 9) s
    let s := regen.foldl (fun s b => s.ovEngine b) s
    let s := (s.put APR_BUS_STAT_CHOPON true).put APR_BUS_STAT_OVEV true
    s.chopperCheck mv
  else
    let s := s.chopperCheck mv
    if s.bus.crossedAt.isSome ∧ mv + s.rd APR_BUS_CTL_OVHYST * 10 < s.ovMv then
      let s := s.put APR_BUS_STAT_CHOPON s.testPulse
      let s := if s.bus.declared then s else forUpTo s.bayCount (fun b s => s.setSpin b { s.spinS b with ovHold := false }) s
      { s with bus := { s.bus with crossedAt := none, regenAt := [], declared := false } }
    else s

/-- VMOTOR_SAMPLE. -/
def execVmotorSample (code : BitVec 12) (s : State) : Result := clocked s (vmotorSample code s)

/-- CHOPPER_TEST (R221): ignored while a test runs or an engine is in REGEN. -/
def chopperTest (s : State) : State :=
  if s.on APR_CHOP_TEST_BUSY ∨ (List.range s.bayCount).any (fun b => s.spin b == spRegen) then s
  else { s.put APR_CHOP_TEST_BUSY true with bus := { s.bus with testAt := some s.now } }

/-- CHOPPER_TEST. -/
def execChopperTest (s : State) : Result := clocked s (chopperTest s)

/-- CHOPPER_TEST_DONE (R221): the averages before, at the end of and after the pulse, in mV. -/
def chopperTestDone (beforeMv pulseMv afterMv : Nat) (s : State) : State :=
  if ¬ s.on APR_CHOP_TEST_BUSY then s
  else
    let dip := beforeMv - pulseMv
    let ok := decide (s.rd APR_CHOP_TEST_DIP ≤ dip) && decide (((beforeMv : Int) - afterMv).natAbs ≤ 20)
    let s := (s.wr APR_CHOP_TEST_LASTDIP (min dip 4095)).put APR_CHOP_TEST_BUSY false
    let s : State := { s.put APR_BUS_STAT_CHOPON s.bus.crossedAt.isSome with bus := { s.bus with testAt := none } }
    if ok then (s.put APR_BUS_STAT_CHOPFLT false).put APR_BUS_STAT_TESTOK true
    else (s.put APR_BUS_STAT_CHOPFLT true).put APR_BUS_STAT_TESTOK false

/-- CHOPPER_TEST_DONE. -/
def execChopperTestDone (beforeMv pulseMv afterMv : Nat) (s : State) : Result := clocked s (chopperTestDone beforeMv pulseMv afterMv s)

end Sys2Proof.Machine
end

