-- ==== Sys2Proof/Machine/Energy.lean ====
section
/-! DEFINITION. Sys2Proof/Machine/Energy.lean: the reserve (R394 to R396), Aperture (R401 to R403, R461),
the power-loss flush (R405 to R407), HDA power states (R410 to R412), the thermal model and the temperature windows
(R413 to R419). -/
namespace Sys2Proof.Machine
open Sys2Proof

/-! ### Reserve (R394 to R396) -/

/-- E_bank in units of 1 / (2 × 10^8 × 2^56) mJ, from V and VMIN in 2^−28 mV (R394). -/
def bankUnits (c eff v vmin : Nat) : Nat := if v ≤ vmin then 0 else c * (v * v - vmin * vmin) * eff

/-- SPN_KIN of bay `b` as R395 counts it, `0` where the bay does not count. -/
def State.kinCounted (s : State) (b : Nat) : Nat :=
  if s.on (BL_CTL_ATTACHED b) && s.on (SPN_CTL_REGEN_EN b) && (s.spin b == spRun || s.spin b == spRegen) && s.on (ANG_STAT_SPD_OK b) then
    s.rd (SPN_KIN_MJ b)
  else 0

/-- REGEFF × KCF, in parts of 10,000; KCF is taken as 0 on a chopper fault (R395). -/
def State.kinFactor (s : State) : Nat := if s.on APR_BUS_STAT_CHOPFLT then 0 else s.rd APR_CTL_REGEFF * s.rd APR_CTL_KCF

/-- E_kin(b) in units of 1 / 10^4 mJ. -/
def State.kinUnits (s : State) (b : Nat) : Nat := s.kinCounted b * s.kinFactor

/-- RETR: 300 mJ for each actuator of each bay whose spindle is in RUN or REGEN (R396). -/
def State.retrMj (s : State) : Nat :=
  ((List.range s.bayCount).filter fun b => s.spin b == spRun || s.spin b == spRegen).length * 600

/-- USABLE from E_bank in the units of `bankUnits`, ΣE_kin in units of 1 / 10^4 mJ and DERATE in % (R396). -/
def usableMj (bank kin derate : Nat) : Nat := (bank + kin * 20000 * 2 ^ 56) * derate / (2 * 10 ^ 10 * 2 ^ 56)

/-- V in 2^−28 mV from a VHOLD_SNS code: the code over 4,096 of 50 V, times THM_REF_GAIN in 1/65,536 (R245, R394, R595). -/
def State.vholdFine (s : State) (code : Nat) : Nat := code * 50000 * s.rd THM_REF_GAIN_GAIN

/-- A bay held in A2 goes on to the state it waits for once the test of R412 holds. -/
def State.fitsWithout (s : State) (b : Nat) : Bool :=
  let kin := ((List.range s.bayCount).filter (· ≠ b)).foldl (fun t i => t + s.kinUnits i) 0
  decide (s.committedUj ≤ usableMj s.energy.bank kin (s.rd APR_CTL_DERATE) * 1000)

/-- E_bank, every E_kin, RETR and USABLE are recomputed together (R394 to R396, R400). -/
def State.ledgerRefresh (s : State) (vholdCode : BitVec 12) : State :=
  let v := s.vholdFine vholdCode.toNat
  let s := s.wr APR_BANKV_VHOLD (v / (10 * 2 ^ 28))
  let bank := if s.on THM_REF_STAT_REFFLT then 0
    else bankUnits (s.rd APR_BANK_C) (s.rd APR_BANK_EFF) v (s.rd APR_BANKV_VMIN * 10 * 2 ^ 28)
  let kin := (List.range s.bayCount).foldl (fun t b => t + s.kinUnits b) 0
  let s := s.setEnergy { s.energy with bank := bank }
  let s := (s.wr APR_E_BANK_MJ (bank / (2 * 10 ^ 8 * 2 ^ 56))).wr APR_E_KIN_MJ (kin / 10 ^ 4)
  let s := (s.wr APR_RETR_MJ s.retrMj).wr APR_USABLE_MJ (usableMj bank kin (s.rd APR_CTL_DERATE))
  let s := (s.showVw 19 (BitVec.ofNat 64 (s.rd APR_RETR_MJ))).showVw 20 (BitVec.ofNat 64 (s.rd APR_USABLE_MJ))
  s.checkDeficit.showLedger

/-! ### Aperture (R401 to R403, R461) -/

/-- G_eff in mW from the grant and T_J in 2^−32 °C (R403, R417). -/
def gEff (grant : Nat) (tj : Int) : Nat :=
  let above := min (25 * 2 ^ 32) ((tj - 95 * 2 ^ 32).toNat)
  grant * (25 * 2 ^ 32 - above) / (25 * 2 ^ 32)

/-- APR_GEFF shows G_eff. -/
def State.showGeff (s : State) : State := s.wr APR_GEFF_MW (gEff (s.rd APR_GRANT_MW) s.energy.tj)

/-- Set the bucket and the register that shows it. -/
def State.setBucket (s : State) (b : Int) : State := (s.setEnergy { s.energy with bucket := b }).wrInt APR_BUCKET_UJ b

/-- The cap of the bucket in µJ (R401). -/
def State.bucketCap (s : State) : Int := (s.rd APR_GEFF_MW * 10 : Nat)

/-- B suffices for an estimate: B ≥ est, or B at its cap (R401). -/
def State.bucketServes (s : State) (est : Nat) : Bool :=
  decide ((est : Int) ≤ s.energy.bucket) || decide (s.bucketCap ≤ s.energy.bucket)

/-- The estimate of an operation of APR_EST index `i` over `count` sectors, in whole µJ rounded up (R401). -/
def aprEstimate (base perSect count : Nat) : Nat := (base * 1000 + perSect * count + 9) / 10

/-- Aperture has held an operation, or OVER has set, in the present hierarchy period (R537). -/
def State.press (s : State) : State := { s with hie := { s.hie with pressed := true } }

/-- Aperture answers an operation that a scheduler presents: released (with the bucket debited) or held (R401, R403, R405). -/
def State.aperture (s : State) (i cls count : Nat) : Bool × State :=
  let est := aprEstimate (s.rd (APR_EST_BASE i)) (s.rd (APR_EST_PERSECT i)) count
  let spend := s.setBucket (s.energy.bucket - est)
  if cls = 1 then (true, if s.on APR_CTL_EN then spend else s)
  else if s.on APR_STAT_FROZEN then (false, s.press)
  else if ¬ s.on APR_CTL_EN then (true, s)
  else if s.on APR_STAT_OVER then (false, s.press)
  else if s.bucketServes est then (true, spend) else (false, s.press)

/-- The power of bay `b` in mW (R402): telemetry 0x03 traced under R246 while it is not stale; where it has been stale
for more than 1 ms, VMOTOR × the stage current, which no register holds (a free value). -/
def State.bayPower (s : State) (b : Nat) : Nat :=
  match (s.beamS b).powerAt with
  | none => Config.freeNat (s.free + b)
  | some t => if s.now ≤ t + 1000000 then s.rd (BL_TLM_VALUE b 3) else Config.freeNat (s.free + b)

/-- A bay's power telemetry is stale for more than 1 ms. -/
def State.powerStale (s : State) (b : Nat) : Bool :=
  match (s.beamS b).powerAt with
  | none => true
  | some t => decide (t + 1000000 < s.now)

/-- P_meas in mW (R402): the on-die monitors (a free value, one per sample) and the attached bays. -/
def State.pMeas (s : State) : Nat :=
  ((List.range s.bayCount).filter fun b => s.on (BL_CTL_ATTACHED b)).foldl (fun t b => t + s.bayPower b)
    (Config.freeNat (s.free + 32))

/-- APERTURE_FILL (R401, R402): the bucket is filled, AVG10 and OVER follow the measured power. -/
def apertureFill (s : State) : State :=
  let s := s.showGeff
  let g := s.rd APR_GEFF_MW
  let s : State := if s.on APR_CTL_EN then
      let t := g + s.energy.tenths
      (s.setEnergy { s.energy with tenths := t % 10 }).setBucket (min (s.energy.bucket + (t / 10 : Nat)) s.bucketCap)
    else s
  let l := (s.pMeas :: s.energy.power).take 100
  let stale := (List.range s.bayCount).filter fun b => s.on (BL_CTL_ATTACHED b) && s.powerStale b
  let avg := l.foldl (· + ·) 0 / l.length
  let s : State := { s.setEnergy { s.energy with power := l } with free := s.free + 33 }
  let s := s.wr APR_PWR_AVG10 avg
  let s := stale.foldl (fun s b => s.event 11 .aperture 5 b) s
  if ¬ s.on APR_CTL_EN then s.put APR_STAT_OVER false
  else if 105 * g < 100 * avg then (s.put APR_STAT_OVER true).press
  else if avg ≤ g then s.put APR_STAT_OVER false
  else s

/-- APERTURE_FILL. -/
def execApertureFill (s : State) : Result := clocked s (apertureFill s)

/-- APR_CTL.EN is written (R403): while 0 the bucket reads 0 and OVER reads 0; when set, B starts from 0. -/
def State.aprEnable (s : State) (v : Bool) : State :=
  if v = s.on APR_CTL_EN then s
  else (((s.put APR_CTL_EN v).put APR_STAT_OVER false).setEnergy { s.energy with tenths := 0 }).setBucket 0

/-! ### Power-loss flush (R405 to R407) -/

/-- PLGEN rises by 1: the vital word, the vital area and APR_PLGEN (R405). -/
def State.raisePlgen (s : State) : State :=
  let g := (s.vwNat 24 + 1) % 2 ^ 32
  ({ s with va := { s.va with plgen := g } }.setVw 24 (BitVec.ofNat 64 g)).wr APR_PLGEN_GEN g

/-- A read or verify that a slice has in progress will end at its next sector boundary (R405). -/
def State.cutRead (s : State) (k : Nat) : State :=
  match s.curOp k with
  | none => s
  | some o => if Desc.op o.desc = 1 ∨ Desc.op o.desc = 3 then s.setCurOp k { o with cut := true } else s

/-- The flush starts (R405): admission freezes, calibrations stop with their old values, reads are cut. -/
def State.startFlush (s : State) (cause : Nat) : State :=
  let s := ((s.put APR_STAT_FROZEN true).put APR_STAT_FLUSHING true).raisePlgen.ledgerAll 6
  let s := { s with pwr := { s.pwr with barred := true } }.setEnergy { s.energy with flush := .writing, flushCause := cause, returned := false }
  let s : State := forUpTo (2 * s.bayCount) (fun k s =>
    s.cutRead k |>.setCal k { s.calS k with running := none }) s
  s

/-- The entry that pushes an operation to a spindle (R200). -/
def spinEntry (op rpm : Nat) : Entry := mkEntry [(64, 8, op), (96, 16, rpm)]

/-- The freeze lifts after power returned (R408): REGEN_END to every engine in REGEN, PRET set. -/
def State.liftFreeze (s : State) : State :=
  let s := forUpTo s.bayCount (fun b s => if s.spin b = spRegen then s.hwPush (192 + b) (spinEntry opRegenEnd 0) else s) s
  let s := ((s.put APR_STAT_PRET true).put APR_STAT_FROZEN false).put APR_STAT_FLUSHING false
  s.setEnergy { s.energy with flush := .none, returned := false }

/-- The flush ends (R407, R408): the last flush write has completed, or TMAX expired; where power has returned the freeze
lifts, and otherwise SRV_CTL.PARK is set on every actuator not PARKED, with reason 1. -/
def State.endFlush (s : State) : State :=
  if s.energy.flush ≠ .writing then s
  else if s.energy.returned ∧ ¬ s.on THM_STAT_SHUT then s.liftFreeze
  else
    let e := s.energy
    let s := s.setEnergy { e with flush := .parking }
    forUpTo s.bayCount (fun b s => s.parkBoth b) s

/-- Every actuator is PARKED. -/
def State.allParked (s : State) : Bool := (List.range s.bayCount).all fun b => s.bothParked b

/-! ### HDA power states (R410 to R412) -/

/-- Laser 0, heater 0 and write path off (state A1) on an actuator. -/
def State.quietSlice (s : State) (k : Nat) : State :=
  let s := s.setLaser k 0
  s.setSlice k { s.sliceS k with heater := 0, writeGate := false }

/-- A bay moves to power state `n` through every shallower state (R410, R411): A1 switches levels and write path off,
A2 parks, A3 slows the spindle to 60 % of N_nom, A4 stops it. -/
def State.enterPower (s : State) (b n : Nat) : State :=
  let from_ := s.rd (APR_PS_STATE b)
  let s := if from_ < 1 ∧ 1 ≤ n then (s.quietSlice (2 * b)).quietSlice (2 * b + 1) else s
  let s := if from_ < 2 ∧ 2 ≤ n then s.parkBoth b else s
  let s := if from_ < 3 ∧ 3 ≤ n then s.hwPush (192 + b) (spinEntry opSpeed (s.nNom b * 60 / 100)) else s
  let s := if from_ < 4 ∧ 4 ≤ n then s.hwPush (192 + b) (spinEntry opStop 0) else s
  s.wr (APR_PS_STATE b) (max from_ n)

/-- Move a bay to state `n`, as far as R412 lets it: not below A1 with a role, which is moved to another bay first, and A3 or A4
only while the reserve holds without its E_kin; otherwise it stays in A2 under HOLD. -/
def State.sinkBay (s : State) (b n : Nat) : State :=
  let s := if n < 2 then s else s.vacate b
  if n < 2 ∨ s.roleBay b then s.enterPower b (min 1 n)
  else
  let s := s.noteSleep b true
  if n < 3 then s.enterPower b n
  else if s.fitsWithout b then
    ((s.put (APR_PS_HOLD b) false).setEnergy { s.energy with heldState := smErase s.energy.heldState b }).enterPower b n
  else ((s.put (APR_PS_HOLD b) true).setEnergy { s.energy with heldState := smPut s.energy.heldState b n }).enterPower b 2

/-- No operation is queued or running on either actuator of a bay. -/
def State.bayIdle (s : State) (b : Nat) : Bool := s.actIdle (2 * b) && s.actIdle (2 * b + 1)

/-- IDLE_TIMER_EXPIRY (R411): timer `n + 1` of an idle, attached bay expires and the bay moves to that state. -/
def idleTimerExpiry (b : Bay) (n : Fin 4) (s : State) : State :=
  if s.on (BL_CTL_ATTACHED b) ∧ s.bayIdle b ∧ s.rd (APR_IDLE_MS n) ≠ 0 ∧ s.rd (APR_PS_STATE b) < n.val + 1 then s.sinkBay b (n.val + 1)
  else s

/-- IDLE_TIMER_EXPIRY. -/
def execIdleTimerExpiry (b : Bay) (n : Fin 4) (s : State) : Result := clocked s (idleTimerExpiry b n s)

/-- A bay on its way back is in A0 once its spindle is in its window and both actuators are ACTIVE. -/
def State.bayReady (s : State) (b : Nat) : Bool :=
  s.spin b == spRun && s.on (SPN_STAT_INWIN b) && s.rd (SRV_STAT_ST (2 * b)) == stActive && s.rd (SRV_STAT_ST (2 * b + 1)) == stActive

/-- Firmware sets TOKEN for a bay (R404): a standalone device out of its APR_SPIN.LOCAL tokens; any other device asks the
manager, and TOKEN is set when the token comes. -/
def State.spinToken (s : State) (b : Nat) : State :=
  if s.on (SPN_CTL_TOKEN b) then s
  else if s.rd CFG_STRAP_ROLE = 3 then
    if s.rd APR_SPIN_HELD < s.rd APR_SPIN_LOCAL then (s.put (SPN_CTL_TOKEN b) true).wr APR_SPIN_HELD (s.rd APR_SPIN_HELD + 1) else s
  else if s.hie.wanted.contains b then s
  else { s with hie := { s.hie with wanted := s.hie.wanted ++ [b] } }

/-- POWER_STATE_EXIT (R411): a queued operation makes a bay leave A1 at once, or start its spindle (once it has its token) and load
its actuators; it is in A0 when they are ready. -/
def powerStateExit (b : Bay) (s : State) : State :=
  let st := s.rd (APR_PS_STATE b)
  let back : State := (((s.noteSleep b false).wr (APR_PS_STATE b) 0).put (APR_PS_HOLD b) false).setEnergy { s.energy with
    exiting := s.energy.exiting.filter (· ≠ b.val), heldState := smErase s.energy.heldState b }
  if st = 0 ∨ s.bayIdle b then s
  else if st = 1 ∨ s.bayReady b then back
  else if s.energy.exiting.contains b.val then s
  else if 3 ≤ st ∧ ! (s.spinToken b).on (SPN_CTL_TOKEN b) then s.spinToken b
  else
    let s := if 3 ≤ st then s.spinToken b else s
    let s := s.setEnergy { s.energy with exiting := b.val :: s.energy.exiting }
    let s := if st = 4 then s.hwPush (192 + b) (spinEntry opStart (s.nNom b))
      else if st = 3 then s.hwPush (192 + b) (spinEntry opSpeed (s.nNom b)) else s
    let load : Entry := mkEntry [(64, 8, opLoad)]
    (s.hwPush (128 + 2 * b) load).hwPush (129 + 2 * b) load

/-- POWER_STATE_EXIT. -/
def execPowerStateExit (b : Bay) (s : State) : Result := clocked s (powerStateExit b s)

/-- Bays under HOLD move on once the test of R412 holds. -/
def State.releaseHolds (s : State) : State :=
  s.energy.heldState.foldl (fun s p => if s.fitsWithout p.1 then s.sinkBay p.1 p.2 else s) s

/-! ### Thermal model (R413 to R418) -/

/-- The maximum case temperature of the grade, in 1/256 °C (R415). -/
def State.gradeMax (s : State) : Int := if s.part = .fy3264x then 95 * 256 else 85 * 256

/-- T_case in 2^−32 °C. -/
def State.tCase (s : State) : Int := (if s.energy.caseValid then s.rdInt THM_CASE_T else s.gradeMax) * 2 ^ 24

/-- The flow through a resistance of `r` 0.001 °C/W scaled by K (Q2.14), for a difference in 2^−32 °C, in 2^−32 mW (R413). -/
def flow (dt : Int) (k r : Nat) : Int := dt * (2 ^ 14 * 1000000) / (k * r : Nat)

/-- Q_i of the step of R413 for node `i` below 7. -/
def nodeFlow (t : List Int) (r : Nat → Nat) (rl k i : Nat) : Int :=
  flow (t.getD i 0 - t.getD 7 0) k (r i)
    + (if 1 ≤ i then flow (t.getD i 0 - t.getD (i - 1) 0) k rl else 0)
    + (if i ≤ 5 then flow (t.getD i 0 - t.getD (i + 1) 0) k rl else 0)

/-- Q_7 of the step of R413. -/
def lidFlow (t : List Int) (tCase : Int) (r : Nat → Nat) (k : Nat) : Int :=
  flow (t.getD 7 0 - tCase) k (r 7) - (List.range 7).foldl (fun x i => x + flow (t.getD i 0 - t.getD 7 0) k (r i)) 0

/-- One step of the model: the new node temperatures (R413). -/
def thermalNext (t : List Int) (tCase : Int) (r c : Nat → Nat) (rl k : Nat) (p : Nat → Nat) : List Int :=
  (List.range 8).map fun i =>
    let q := if i = 7 then lidFlow t tCase r k else nodeFlow t r rl k i
    let pw : Int := if i = 7 then 0 else (p i * 2 ^ 32 : Nat)
    t.getD i 0 + (pw - q) / (10000 * c i : Nat)

/-- T_J: the highest of nodes 0 to 6. -/
def hottest (t : List Int) : Int := (t.take 7).foldl max (t.headD 0)

/-- The registers that show the model. -/
def State.showThermal (s : State) (p : Nat → Nat) : State :=
  let s := forUpTo 8 (fun i s =>
    (s.wrInt (THM_NODE_T i) (s.energy.nodes.getD i 0 / 2 ^ 24)).wr (THM_NODE_P i) (min 65535 (if i = 7 then 0 else p i / 10))) s
  s.wrInt THM_STAT_TJ (s.energy.tj / 2 ^ 24)

/-- THERMAL_STEP (R413, R417): all nodes are updated together from their temperatures at the start of the step and the
monitored power of each (a free value); the throttle and the count towards shutdown act on T_J, held or new. -/
def thermalStep (s : State) : State :=
  let p (i : Nat) : Nat := Config.freeNat (s.free + i)
  let s : State := if s.on THM_CTL_EN then
      let n := thermalNext s.energy.nodes s.tCase (fun i => s.rd (THM_PARAM_R i)) (fun i => s.rd (THM_PARAM_C i))
        (s.rd THM_RLAT_R) (s.rd THM_TRIM_K) p
      ({ s.setEnergy { s.energy with nodes := n, tj := hottest n } with free := s.free + 7 }).showThermal p
    else s
  let hot := decide ((115 * 2 ^ 32 : Int) < s.energy.tj)
  let s := s.setEnergy { s.energy with hot := if hot then s.energy.hot + 1 else 0 }
  let throt := decide ((95 * 2 ^ 32 : Int) < s.energy.tj)
  let s := if throt = s.on THM_STAT_THROT then s else s.put THM_STAT_THROT throt
  s.showGeff

/-- THERMAL_STEP. -/
def execThermalStep (s : State) : Result := clocked s (thermalStep s)

/-- CASE_TEMPERATURE_WRITE (R415). -/
def caseTemperatureWrite (t : BitVec 16) (s : State) : State :=
  ((s.wr THM_CASE_T t.toNat).put THM_STAT_CASEDFLT false).setEnergy { s.energy with caseValid := true }

/-- CASE_TEMPERATURE_WRITE. -/
def execCaseTemperatureWrite (t : BitVec 16) (s : State) : Result := clocked s (caseTemperatureWrite t s)

/-- CASE_VALIDITY_EXPIRY (R415): the grade maximum is used. -/
def caseValidityExpiry (s : State) : State :=
  if s.energy.caseValid then
    (s.put THM_STAT_CASEDFLT true).setEnergy { s.energy with caseValid := false }
  else s

/-- CASE_VALIDITY_EXPIRY. -/
def execCaseValidityExpiry (s : State) : Result := clocked s (caseValidityExpiry s)

/-- TRIM (R416): all units but Lens core 0 idle and the measurement begins. -/
def trim (s : State) : State := s.setEnergy { s.energy with trimming := true }

/-- TRIM. -/
def execTrim (s : State) : Result := clocked s (trim s)

/-- The reference diode is on its balls: it is not while a trim runs (R597). -/
def State.diodeOut (s : State) : Bool := ! s.energy.trimming

/-- TRIM_DONE (R416): K is the measured rise over the predicted one; outside 0.70 to 1.50 it is not applied. -/
def trimDone (measured predicted : BitVec 16) (s : State) : State :=
  if ¬ s.energy.trimming then s
  else
    let s := s.setEnergy { s.energy with trimming := false }
    let m := measured.toNat
    let p := predicted.toNat
    if p = 0 ∨ 100 * m < 70 * p ∨ 150 * p < 100 * m then s.put THM_STAT_TRIMBAD true
    else
      let k := m * 2 ^ 14 / p
      ({ s with va := { s.va with trimK := some k } }.wr THM_TRIM_K k).put THM_STAT_TRIMOK true

/-- TRIM_DONE. -/
def execTrimDone (measured predicted : BitVec 16) (s : State) : Result := clocked s (trimDone measured predicted s)

/-! ### Temperature windows (R419) -/

/-- A temperature in 1/256 °C lies outside a window in whole °C; one that was outside must come 1 °C inside its bound. -/
def outsideWindow (lo hi t : Int) (was : Bool) : Bool :=
  let m : Int := if was then 1 else 0
  decide (t < (lo + m) * 256) || decide ((hi - m) * 256 < t)

/-- Put `b` into or out of a list of bays. -/
def markBay (l : List Nat) (b : Nat) (v : Bool) : List Nat := if v then b :: l.filter (· ≠ b) else l.filter (· ≠ b)

/-- A new HDA temperature of bay `b` is checked against the windows (R419): outside its read window a bay parks both
actuators with reason 1, holds its operations and sets RWHOLD. -/
def State.checkWindows (s : State) (b : Nat) : State :=
  let t := s.hdaTemp b
  let e := s.energy
  let w := outsideWindow (s.rdInt THM_WWIN_WLO) (s.rdInt THM_WWIN_WHI) t (e.writeOut.contains b)
  let r := outsideWindow (s.rdInt THM_WWIN_RLO) (s.rdInt THM_WWIN_RHI) t (e.readOut.contains b)
  let s := s.setEnergy { e with writeOut := markBay e.writeOut b w, readOut := markBay e.readOut b r }
  let s := s.put (APR_PS_RWHOLD b) r
  if r then s.parkBoth b else s

end Sys2Proof.Machine
end

