-- ==== Sys2Proof/Machine/Lens.lean ====
section
/-! DEFINITION. Sys2Proof/Machine/Lens.lean: the Lens cores: registers, memory protection, the fetch check, taking a trap
or an interrupt and returning from one (R423 to R432, R443 to R447, R464). A command that names an instruction stands for
the word at the core's PC; what a fetch can refuse is judged, the word's bits are the command's (log entry 42). -/
namespace Sys2Proof.Machine
open Sys2Proof

/-- The record of core `c`. -/
def State.core (s : State) (c : Nat) : CoreSt := smGet {} s.cores c
/-- Replace it. -/
def State.setCore (s : State) (c : Nat) (k : CoreSt) : State := { s with cores := smSet {} s.cores c k }

/-! ### Sources of interrupts (R446) -/

/-- IPEND (R428, R446): PFAIL, TIMER, INBOX, LPNOTE, FAULT in bits 0 to 4. TIMER is pending while ANG_WT ≥ TIMECMP. -/
def State.ipend (s : State) (c : Nat) : BitVec 5 :=
  let k := s.core c
  let timer := k.timer || decide (k.timecmp.toNat ≤ s.wt)
  let inbox := ! (s.lp (672 + c)).entries.isEmpty
  BitVec.ofNat 5 ((s.on APR_STAT_PFAIL).toNat + 2 * timer.toNat + 4 * inbox.toNat + 8 * k.noteFired.toNat + 16 * k.fault.toNat)

/-- IEN (R428): PFAIL is always enabled. -/
def CoreSt.ienBits (k : CoreSt) : BitVec 5 := BitVec.ofNat 5 (1 + 2 * k.ien.toNat)

/-- The lowest-numbered source that is pending and enabled. -/
def State.pendingSource (s : State) (c : Nat) : Option Nat :=
  (List.range 5).find? fun i => (s.ipend c &&& (s.core c).ienBits).getLsbD i

/-- The lowest-numbered source that may be taken (R446). -/
def State.eligibleSource (s : State) (c : Nat) : Option Nat :=
  let k := s.core c
  if k.ta then none
  else (List.range 5).find? fun i => (s.ipend c &&& k.ienBits).getLsbD i && (i == 0 || k.ie)

/-! ### Memory protection (R429 to R432) -/

/-- Region `n` is valid and of a kind (R429). -/
def CoreSt.region (k : CoreSt) (kind n : Nat) : Bool :=
  let lo := smGet 0 k.mpuLo n
  lo.getLsbD 0 && bitsOf lo 4 2 == kind

/-- Memory region `n` covers the page of an access. -/
def CoreSt.covers (k : CoreSt) (n : Nat) (a : Word) : Bool :=
  let page := a.toNat / 4096
  decide (bitsOf (smGet 0 k.mpuLo n) 12 28 ≤ page) && decide (page ≤ bitsOf (smGet 0 k.mpuHi n) 12 28)

/-- The rights an access at `a` has (R430): those of the lowest-numbered region that takes part and covers it; without
one, all of them at M level and none at O level. Bits 0, 1, 2: read, write, execute. -/
def CoreSt.rights (k : CoreSt) (a : Word) : BitVec 3 :=
  match (List.range 16).find? fun n => k.region 0 n && (! k.priv || (smGet 0 k.mpuLo n).getLsbD 6) && k.covers n a with
  | some n => (smGet 0 k.mpuLo n).extractLsb' 1 3
  | none => if k.priv then 7 else 0

/-- A lightpipe region opens lightpipe `n` to O level for pop (`push` false) or push (R431). -/
def CoreSt.lpOpen (k : CoreSt) (n : Nat) (push : Bool) : Bool :=
  (List.range 16).any fun i => k.region 1 i && decide (bitsOf (smGet 0 k.mpuLo i) 12 10 ≤ n)
    && decide (n ≤ bitsOf (smGet 0 k.mpuHi i) 12 10) && (smGet 0 k.mpuLo i).getLsbD (if push then 2 else 1)

/-! ### Fetching (R423, R430, R443) -/

/-- The boot ROM (R38). -/
def isRom (a : Nat) : Bool := a < 0x20000

/-- The granule of `a` reads good: no uncorrectable error in memory, or in the line that holds it no poison. -/
def State.readable (s : State) (a : Nat) : Bool :=
  s.isMem a && (match (if s.on LC_STAT_BYPASS then none else s.findWay a) with
    | none => smGet 0 s.memErr (granBase a) != 2
    | some w => match s.lineAt (cacheSet a * 16 + w) with
      | some l => ! l.poison.getLsbD (a % 64 / granSize a)
      | none => true)

/-- Trap causes (R443). -/
def tcIllegal : Nat := 0x01
def tcPrivileged : Nat := 0x02
def tcFetchProt : Nat := 0x03
def tcFetchBus : Nat := 0x04
def tcLoadMisalign : Nat := 0x05
def tcStoreMisalign : Nat := 0x06
def tcLoadProt : Nat := 0x07
def tcStoreProt : Nat := 0x08
def tcLoadBus : Nat := 0x09
def tcStoreBus : Nat := 0x0A
def tcArith : Nat := 0x0B
def tcSyscall : Nat := 0x0C
def tcBreak : Nat := 0x0D
def tcLpProt : Nat := 0x0E
def tcInvalidArg : Nat := 0x0F

/-- Causes that ODELEG may delegate (R443). -/
def delegable (cause : Nat) : Bool := [0x01, 0x05, 0x06, 0x0B, 0x0D, 0x0F].contains cause

/-- The level-1 instruction cache holds a line. -/
def CoreSt.holdsLine (k : CoreSt) (line : Nat) : Bool := k.icache.any fun p => p.1 == line

/-- What a fetch at `pc` meets at the level of `k`: FETCH_PROT, then FETCH_BUS for high bits set, an address that is
neither boot ROM nor memory, or an uncorrectable granule that the level-1 cache does not hold. -/
def State.fetchBad (s : State) (k : CoreSt) (pc : Word) : Option Nat :=
  let a := pc.toNat
  if ! (k.rights pc).getLsbD 2 then some tcFetchProt
  else if 2 ^ 40 ≤ a then some tcFetchBus
  else if isRom a ∨ k.holdsLine (a / 64) ∨ s.readable a then none
  else some tcFetchBus

/-! ### Traps (R444, R445, R447) -/

/-- The core halts on a double trap: its registers stay, and an event is recorded (R447). -/
def State.doubleTrap (s : State) (c : Nat) : State :=
  (s.setCore c { s.core c with halted := true, wait := .none }).event 0 .trap 9 c

/-- Entry to M level with a CAUSE, TVAL and TPC (R444); a fault in fetching the word at the vector is a double trap. Entry
clears the reservation (R440) and ends a wait (R450). -/
def State.enterM (s : State) (c : Nat) (cause tval tpc : Word) (vec : Word) : State :=
  let k := s.core c
  let k' : CoreSt := { k with
    tpc := tpc, cause := cause, tval := tval, ppriv := k.priv, pie := k.ie, priv := true, ie := false, ta := true,
    pc := vec, wait := .none, ll := none }
  if (s.fetchBad k' vec).isSome then s.doubleTrap c
  else { s.setCore c k' with linked := smErase s.linked c }

/-- A synchronous trap of core `c` at its PC (R443 to R445, R447): to O where it arises at O level, is delegated and no O
trap is active; otherwise to M, and where it arises at M level with an M trap active, a double trap. -/
def State.trapWith (s : State) (c cause : Nat) (tval : Word) (imprecise : Bool) : State :=
  let k := s.core c
  if ! k.priv ∧ delegable cause ∧ k.odeleg.getLsbD cause ∧ ! k.ota then
    { s.setCore c { k with otpc := k.pc, ocause := BitVec.ofNat 64 cause, otval := tval, ota := true, pc := k.otvec,
                           wait := .none, ll := none } with linked := smErase s.linked c }
  else if k.priv ∧ k.ta then s.doubleTrap c
  else s.enterM c (BitVec.ofNat 64 (cause + if imprecise then 2 ^ 62 else 0)) tval k.pc k.tvec

/-- A precise synchronous trap. -/
def State.trap (s : State) (c cause : Nat) (tval : Word) : State := s.trapWith c cause tval false

/-- The posted-store error of a core is raised (R442). -/
def State.raisePosted (s : State) (c : Nat) (a : Word) : State :=
  (s.setCore c { s.core c with postErr := none }).trapWith c tcStoreBus a true

/-- Interrupt source `i` is taken (R444, R446). TVAL is written; the spec states no value for it (a free value). -/
def State.takeInterrupt (s : State) (c i : Nat) : State :=
  let k := s.core c
  s.draw.enterM c (BitVec.ofNat 64 (2 ^ 63 + i)) (Config.freeWord s.free) k.pc (k.tvec + 0x100)

/-! ### Running an instruction -/

/-- The domain of core `c` is ON, or draining under its own instructions (R572), it has been released (R574), its clock runs (R36)
and no trim idles it (R416). -/
def State.coreUp (s : State) (c : Nat) : Bool :=
  s.sysrefOk && ! s.idled (96 + c) && (s.dom (96 + c) == 2 || s.dom (96 + c) == 3) && (s.rd PWR_RELEASE_CORE).testBit c

/-- Core `c` executes its next instruction: it is up, not halted or waiting, not halted by the Loupe (R389), and O level is
not suspended by a flush (R405) or an image switch (R577). -/
def State.coreRuns (s : State) (c : Nat) : Bool :=
  let k := s.core c
  s.coreUp c && ! k.halted && k.wait == .none && (! s.sec.halted.contains c || k.step) && (k.priv || ! (s.cfg.hold || s.on APR_STAT_FROZEN))

/-- The 64 bytes of a line as a fetch brings them: of the boot ROM, or of memory through the Lens cache. -/
def State.codeLine (s : State) (line : Nat) : BitVec 512 :=
  BitVec.ofNat 512 (leNat ((List.range 64).map fun i =>
    if isRom (64 * line) then Config.romByte (64 * line + i) else s.byteAt (64 * line + i)))

/-- The level-1 instruction cache of core `c` takes a line as it is now; of a line in memory, only where every granule of it
reads good, and of 512 lines one makes room, which the spec leaves open (a free choice). -/
def State.icFill (s : State) (c line : Nat) : State :=
  if isRom (64 * line) || (List.range 8).all fun i => s.readable (64 * line + 8 * i) then
    let k := s.core c
    let old := if k.icache.length < 512 then k.icache else k.icache.eraseIdx (Config.freeNat s.free % 512)
    (if k.icache.length < 512 then s else s.draw).setCore c { k with icache := (line, s.codeLine line) :: old }
  else s

/-- Core `c` fetches the word at its PC: a trap cause, or none and the state after. A line that its level-1 instruction
cache does not hold is read through the Lens cache (R42); one with a parity error is read again (R480). -/
def State.fetch (s : State) (c : Nat) : Option Nat × State :=
  let a := (s.core c).pc.toNat
  if ! ((s.core c).rights (s.core c).pc).getLsbD 2 then (some tcFetchProt, s)
  else if 2 ^ 40 ≤ a then (some tcFetchBus, s)
  else
    let s1 := s.l1Parity c true (a / 64) fun s =>
      s.setCore c { s.core c with icache := (s.core c).icache.filter fun p => p.1 != a / 64 }
    if (s1.core c).holdsLine (a / 64) then (none, s1)
    else if isRom a then (none, s1.icFill c (a / 64))
    else
      match s1.busRead true a 4 with
      | (none, s2) => (some tcFetchBus, s2)
      | (some _, s2) => (none, s2.icFill c (a / 64))

/-- A single step of the Loupe is used up. -/
def CoreSt.fetched (k : CoreSt) : CoreSt := { k with step := false }

/-- Core `c` runs the instruction at its PC, whose effect is `f`, unless it does not run or the fetch traps. -/
def State.instr (s : State) (c : Nat) (f : State → State) : State :=
  if ! s.coreRuns c then s
  else
    let k := s.core c
    match (s.setCore c k.fetched).fetch c with
    | (some cause, s1) => s1.trap c cause k.pc
    | (none, s1) => f s1

/-- The instruction retires: PC moves on by 4 and INSTRET counts it. -/
def State.retire (s : State) (c : Nat) : State :=
  let k := s.core c
  s.setCore c { k with pc := k.pc + 4, instret := k.instret + 1 }

/-- The instruction retires with the next PC given; bits [1:0] of PC are always 0 (R423). -/
def State.retireTo (s : State) (c : Nat) (pc : Word) : State :=
  let k := s.core c
  s.setCore c { k with pc := pc &&& ~~~3, instret := k.instret + 1 }

/-- Trap return at M level (R464). -/
def State.returnM (s : State) (c : Nat) : State :=
  let k := s.core c
  s.setCore c { k with pc := k.tpc &&& ~~~3, priv := k.ppriv, ie := k.pie, ta := false, instret := k.instret + 1 }

/-- Trap return at O level (R464). -/
def State.returnO (s : State) (c : Nat) : State :=
  let k := s.core c
  s.setCore c { k with pc := k.otpc &&& ~~~3, ota := false, instret := k.instret + 1 }

/-- Reserved credits of core `c` go back to their lightpipes (R449). -/
def State.returnReserved (s : State) (c : Nat) : State :=
  s.lps.foldl (fun s p =>
    let l := s.lp p.1
    let n := smGet 0 l.resv c
    if n = 0 then s
    else (s.setLp p.1 { l with free := l.free + n, resv := smErase l.resv c }).grantStalled p.1 n) s

/-- The reset of a core's domain (R423, R449, R574): its registers at their reset values, its reservation and its
reserved credits gone, its release bit cleared. -/
def State.resetCore (s : State) (c : Nat) : State :=
  let s := (s.returnReserved c).setCore c { since := s.now }
  let s : State := { s with linked := smErase s.linked c, l1d := s.l1d.filter (fun p => p.1 != c),
                            l1Err := s.l1Err.filter (fun p => p.1 != c), sec := { s.sec with halted := s.sec.halted.filter (· ≠ c) } }
  let m := s.rd PWR_RELEASE_CORE
  s.wr PWR_RELEASE_CORE (if m.testBit c then m - 2 ^ c else m)

/-! ### Interrupt commands (R446, R467, R574) -/

/-- TIMECMP_REACHED (R446): ANG_WT has reached TIMECMP and TIMER becomes pending. -/
def timecmpReached (c : Core) (s : State) : State :=
  let k := s.core c.val
  if k.timecmp.toNat ≤ s.wt then s.setCore c.val { k with timer := true } else s

/-- TIMECMP_REACHED. -/
def execTimecmpReached (c : Core) (s : State) : Result := clocked s (timecmpReached c s)

/-- A wait of core `c` ends with the instruction complete (R467, R498). -/
def State.endWait (s : State) (c : Nat) : State := (s.setCore c { s.core c with wait := .none }).retire c

/-- INTERRUPT_TAKEN (R446): at an instruction boundary, or while an instruction waits (R450), the lowest-numbered eligible
source is taken; TPC of a core in WAIT is the next instruction (R467). A JSEQ store that stalls the core is not left. -/
def interruptTaken (c : Core) (s : State) : State :=
  let k := s.core c.val
  if ! s.coreUp c.val ∨ k.halted ∨ s.sec.halted.contains c.val ∨ k.wait = .jseq then s
  else match s.eligibleSource c.val with
    | none => s
    | some i => (if k.wait = .interrupt then s.endWait c.val else s).takeInterrupt c.val i

/-- INTERRUPT_TAKEN. -/
def execInterruptTaken (c : Core) (s : State) : Result := done s (interruptTaken c s)

/-- WAIT_RESUME (R467): an enabled source is pending, and the waiting core goes on after WAIT or takes the source. -/
def waitResume (c : Core) (s : State) : State :=
  if (s.core c.val).wait ≠ .interrupt ∨ ! s.coreUp c.val ∨ s.pendingSource c.val = none then s
  else
    let s := s.endWait c.val
    match s.eligibleSource c.val with
    | some i => s.takeInterrupt c.val i
    | none => s

/-- WAIT_RESUME. -/
def execWaitResume (c : Core) (s : State) : Result := done s (waitResume c s)

/-- POSTED_STORE_ERROR (R442): the core learns of a bus error on a posted store and raises it at an instruction boundary. -/
def postedStoreError (c : Core) (s : State) : State :=
  let k := s.core c.val
  if ! s.coreUp c.val ∨ k.halted ∨ k.wait ≠ .none then s
  else match k.postErr with
    | none => s
    | some a => s.raisePosted c.val a

/-- POSTED_STORE_ERROR. -/
def execPostedStoreError (c : Core) (s : State) : Result := done s (postedStoreError c s)

/-- A core starts at address 0 and the boot ROM sends any core but a cold-starting core 0 to PWR_BOOTVEC (R574). -/
def State.startCore (s : State) (c : Nat) : State :=
  s.setCore c { s.core c with pc := BitVec.ofNat 64 (s.rd PWR_BOOTVEC_ADDR) &&& ~~~3 }

/-- CORE_RELEASE (R574): PWR_RELEASE is written; a core whose domain is ON starts. -/
def coreRelease (mask : BitVec 16) (s : State) : State :=
  (List.range 16).foldl (fun s c =>
    if ! mask.getLsbD c ∨ (s.rd PWR_RELEASE_CORE).testBit c then s
    else
      let s := s.wr PWR_RELEASE_CORE (s.rd PWR_RELEASE_CORE + 2 ^ c)
      if s.dom (96 + c) = 2 then s.startCore c else s) s

/-- CORE_RELEASE. -/
def execCoreRelease (mask : BitVec 16) (s : State) : Result := done s (coreRelease mask s)

end Sys2Proof.Machine
end

