-- ==== Sys2Proof/Machine/Operands.lean ====
section
/-! DEFINITION. Sys2Proof/Machine/Operands.lean: the operand forms of Rilic instructions (R423, R425, R433): reading and
writing a general register, sign and zero extension, effective addresses and branch targets, and the 32-bit word of an
instruction, which some traps put into TVAL (R443). -/
namespace Sys2Proof.Machine
open Sys2Proof

/-! ### General registers (R423) -/

/-- General register `r` of a core: g0 reads 0. -/
def CoreSt.greg (k : CoreSt) (r : Nat) : Word := if r = 0 then 0 else smGet 0 k.g r

/-- The core with `v` written to register `r`: a write to g0 is discarded. -/
def CoreSt.withG (k : CoreSt) (r : Nat) (v : Word) : CoreSt := if r = 0 then k else { k with g := smSet 0 k.g r v }

/-- General register `r` of core `c`. -/
def State.g (s : State) (c r : Nat) : Word := (s.core c).greg r

/-- Write general register `r` of core `c`. -/
def State.setG (s : State) (c r : Nat) (v : Word) : State := s.setCore c ((s.core c).withG r v)

/-! ### Extension (R425) -/

/-- Bits [31:0] of a word. -/
def low32 (w : Word) : Word32 := w.extractLsb' 0 32

/-- sext32: bits [31:0] sign-extended. -/
def sext32 (w : Word) : Word := (low32 w).signExtend 64

/-- A 16-bit immediate sign-extended and zero-extended. -/
def immS (i : BitVec 16) : Word := i.signExtend 64
def immZ (i : BitVec 16) : Word := i.zeroExtend 64

/-- The effective address of a load or store (R437). -/
def State.ea (s : State) (c : Nat) (rs1 : Nat) (imm : BitVec 16) : Word := s.g c rs1 + immS imm

/-- The target of a branch or jump at `pc` with a word offset (R438). -/
def branchTarget (pc : Word) (off : Word) : Word := pc + (off <<< 2)

/-! ### Instruction words (R433) -/

/-- A field of an instruction word. -/
def wordField (v lo : Nat) : Word := BitVec.ofNat 64 v <<< lo

/-- An R-format word. -/
def wordR (op rd rs1 rs2 func : Nat) : Word :=
  wordField op 26 ||| wordField rd 21 ||| wordField rs1 16 ||| wordField rs2 11 ||| wordField func 0

/-- An I-format word. -/
def wordI (op rd rs1 : Nat) (imm : BitVec 16) : Word :=
  wordField op 26 ||| wordField rd 21 ||| wordField rs1 16 ||| wordField imm.toNat 0

/-- A Q-format word (R448): register, lightpipe, operation, argument. -/
def wordQ (r lp op arg : Nat) : Word :=
  wordField 0x3A 26 ||| wordField r 21 ||| wordField lp 11 ||| wordField op 8 ||| wordField arg 0

/-- A system instruction's word (R462): operation in imm[15:12], argument in imm[11:0]. -/
def wordSys (rd rs1 op arg : Nat) : Word := wordI 0x3F rd rs1 (BitVec.ofNat 16 (op * 4096 + arg))

/-! ### Shapes of instructions -/

/-- An instruction at the PC that writes one register from two and retires. -/
def State.alu3 (s : State) (c : Core) (rd rs1 rs2 : GReg) (f : Word → Word → Word) : State :=
  s.instr c.val fun s => (s.setG c.val rd.val (f (s.g c.val rs1.val) (s.g c.val rs2.val))).retire c.val

/-- An instruction that writes one register from one register and retires. -/
def State.alu2 (s : State) (c : Core) (rd rs1 : GReg) (f : Word → Word) : State :=
  s.instr c.val fun s => (s.setG c.val rd.val (f (s.g c.val rs1.val))).retire c.val

/-- A quotient, remainder or modulus: a divisor that is 0 raises ARITH with TVAL 0 and leaves rd (R436, R443). -/
def State.divide (s : State) (c : Core) (rd rs1 rs2 : GReg) (isZero : Word → Bool) (f : Word → Word → Word) : State :=
  s.instr c.val fun s =>
    let b := s.g c.val rs2.val
    if isZero b then s.trap c.val tcArith 0
    else (s.setG c.val rd.val (f (s.g c.val rs1.val) b)).retire c.val

/-- The narrow form of an operation (R425): on bits [31:0], its 32-bit result sign-extended. -/
def narrow (f : Word32 → Word32 → Word32) (a b : Word) : Word := (f (low32 a) (low32 b)).signExtend 64

/-- An instruction answered by a trap of a cause with its own word as TVAL. -/
def State.trapWord (s : State) (c : Core) (cause : Nat) (w : Word) : State := s.trap c.val cause w

end Sys2Proof.Machine
end

