-- ==== Sys2Proof/Machine/Flags.lean ====
section
/-! DEFINITION. Sys2Proof/Machine/Flags.lean: comparisons. A Lens core has no condition flags: compares answer −1, 0 or +1
in a register (R434, R435), and branches compare registers (R438). A Facet's flags stand in Facet.lean. -/
namespace Sys2Proof.Machine
open Sys2Proof

/-- −1, 0 or +1 as `a` is below, equal to or above `b`, signed. -/
def compareS (a b : Word) : Word := if a.slt b then -1 else if a = b then 0 else 1

/-- −1, 0 or +1 as `a` is below, equal to or above `b`, unsigned. -/
def compareU (a b : Word) : Word := if a.ult b then -1 else if a = b then 0 else 1

/-- The smaller and the larger of two words, signed and unsigned. -/
def minS {n : Nat} (a b : BitVec n) : BitVec n := if a.slt b then a else b
def maxS {n : Nat} (a b : BitVec n) : BitVec n := if a.slt b then b else a
def minU {n : Nat} (a b : BitVec n) : BitVec n := if a.ult b then a else b
def maxU {n : Nat} (a b : BitVec n) : BitVec n := if a.ult b then b else a

end Sys2Proof.Machine
end

