-- ==== Sys2Proof/Machine/Alu.lean ====
section
/-! DEFINITION. Sys2Proof/Machine/Alu.lean: integer instructions (R434 to R436): register, immediate, multiply and
divide. -/
namespace Sys2Proof.Machine
open Sys2Proof

/-- The field of `w` bits of `a` from bit `p`, zero-extended (R434): p = b[5:0], w = b[13:8] with 0 meaning 64. -/
def extractU (a b : Word) : Word :=
  let p := bitsOf b 0 6
  let w := if bitsOf b 8 6 = 0 then 64 else bitsOf b 8 6
  BitVec.ofNat 64 ((a >>> p).toNat % 2 ^ w)

/-- The same field, sign-extended from its bit w − 1 (R434). -/
def extractS (a b : Word) : Word :=
  let w := if bitsOf b 8 6 = 0 then 64 else bitsOf b 8 6
  ((extractU a b) <<< (64 - w)).sshiftRight (64 - w)

/-- Leading zeros, trailing zeros and set bits of a word (R434). -/
def leadingZeros (a : Word) : Nat := ((List.range 64).find? fun i => a.getLsbD (63 - i)).getD 64
def trailingZeros (a : Word) : Nat := ((List.range 64).find? fun i => a.getLsbD i).getD 64
def onesCount (a : Word) : Nat := countTrue ((List.range 64).map a.getLsbD)

/-- A word with its 8 bytes reversed (R434). -/
def reverseBytes (a : Word) : Word := BitVec.ofNat 64 (leNat (leBytes 8 a.toNat).reverse)

/-- The shift amounts rs2[5:0] and rs2[4:0] (R434). -/
def sh6 (b : Word) : Nat := bitsOf b 0 6
def sh5 (b : Word32) : Nat := (b.extractLsb' 0 5).toNat

/-- The four shifts of R434 on a word and on 32 bits, by the code of SHI's imm[7:6] (R435): SHL, SHR, SAR, ROR. -/
def shiftBy (kind : Nat) {n : Nat} (a : BitVec n) (s : Nat) : BitVec n :=
  match kind with
  | 0 => a <<< s
  | 1 => a >>> s
  | 2 => a.sshiftRight s
  | _ => a.rotateRight s


/-! ### Register instructions (R434) -/

/-- ADD: rs1 + rs2 (R434). -/
def execAdd (c : Core) (rd rs1 rs2 : GReg) (s : State) : Result := done s (s.alu3 c rd rs1 rs2 fun a b => a + b)

/-- ADD.N (R434). -/
def execAddN (c : Core) (rd rs1 rs2 : GReg) (s : State) : Result := done s (s.alu3 c rd rs1 rs2 (narrow fun a b => a + b))

/-- SUB: rs1 − rs2 (R434). -/
def execSub (c : Core) (rd rs1 rs2 : GReg) (s : State) : Result := done s (s.alu3 c rd rs1 rs2 fun a b => a - b)

/-- SUB.N (R434). -/
def execSubN (c : Core) (rd rs1 rs2 : GReg) (s : State) : Result := done s (s.alu3 c rd rs1 rs2 (narrow fun a b => a - b))

/-- AND (R434). -/
def execAnd (c : Core) (rd rs1 rs2 : GReg) (s : State) : Result := done s (s.alu3 c rd rs1 rs2 fun a b => a &&& b)

/-- IOR (R434). -/
def execIor (c : Core) (rd rs1 rs2 : GReg) (s : State) : Result := done s (s.alu3 c rd rs1 rs2 fun a b => a ||| b)

/-- EOR (R434). -/
def execEor (c : Core) (rd rs1 rs2 : GReg) (s : State) : Result := done s (s.alu3 c rd rs1 rs2 fun a b => a ^^^ b)

/-- ANDC: rs1 & ~rs2 (R434). -/
def execAndc (c : Core) (rd rs1 rs2 : GReg) (s : State) : Result := done s (s.alu3 c rd rs1 rs2 fun a b => a &&& ~~~b)

/-- IORC: rs1 | ~rs2 (R434). -/
def execIorc (c : Core) (rd rs1 rs2 : GReg) (s : State) : Result := done s (s.alu3 c rd rs1 rs2 fun a b => a ||| ~~~b)

/-- SHL: rs1 << rs2[5:0] (R434). -/
def execShl (c : Core) (rd rs1 rs2 : GReg) (s : State) : Result := done s (s.alu3 c rd rs1 rs2 fun a b => shiftBy 0 a (sh6 b))

/-- SHL.N: the same on bits [31:0] by rs2[4:0] (R434). -/
def execShlN (c : Core) (rd rs1 rs2 : GReg) (s : State) : Result := done s (s.alu3 c rd rs1 rs2 (narrow fun a b => shiftBy 0 a (sh5 b)))

/-- SHR: logical right shift by rs2[5:0] (R434). -/
def execShr (c : Core) (rd rs1 rs2 : GReg) (s : State) : Result := done s (s.alu3 c rd rs1 rs2 fun a b => shiftBy 1 a (sh6 b))

/-- SHR.N: the same on bits [31:0] by rs2[4:0] (R434). -/
def execShrN (c : Core) (rd rs1 rs2 : GReg) (s : State) : Result := done s (s.alu3 c rd rs1 rs2 (narrow fun a b => shiftBy 1 a (sh5 b)))

/-- SAR: arithmetic right shift by rs2[5:0] (R434). -/
def execSar (c : Core) (rd rs1 rs2 : GReg) (s : State) : Result := done s (s.alu3 c rd rs1 rs2 fun a b => shiftBy 2 a (sh6 b))

/-- SAR.N: the same on bits [31:0] by rs2[4:0] (R434). -/
def execSarN (c : Core) (rd rs1 rs2 : GReg) (s : State) : Result := done s (s.alu3 c rd rs1 rs2 (narrow fun a b => shiftBy 2 a (sh5 b)))

/-- ROR: right rotation by rs2[5:0] (R434). -/
def execRor (c : Core) (rd rs1 rs2 : GReg) (s : State) : Result := done s (s.alu3 c rd rs1 rs2 fun a b => shiftBy 3 a (sh6 b))

/-- ROR.N: the same on bits [31:0] by rs2[4:0] (R434). -/
def execRorN (c : Core) (rd rs1 rs2 : GReg) (s : State) : Result := done s (s.alu3 c rd rs1 rs2 (narrow fun a b => shiftBy 3 a (sh5 b)))

/-- CMPS (R434). -/
def execCmps (c : Core) (rd rs1 rs2 : GReg) (s : State) : Result := done s (s.alu3 c rd rs1 rs2 fun a b => compareS a b)

/-- CMPU (R434). -/
def execCmpu (c : Core) (rd rs1 rs2 : GReg) (s : State) : Result := done s (s.alu3 c rd rs1 rs2 fun a b => compareU a b)

/-- MINS (R434). -/
def execMins (c : Core) (rd rs1 rs2 : GReg) (s : State) : Result := done s (s.alu3 c rd rs1 rs2 fun a b => minS a b)

/-- MAXS (R434). -/
def execMaxs (c : Core) (rd rs1 rs2 : GReg) (s : State) : Result := done s (s.alu3 c rd rs1 rs2 fun a b => maxS a b)

/-- MINU (R434). -/
def execMinu (c : Core) (rd rs1 rs2 : GReg) (s : State) : Result := done s (s.alu3 c rd rs1 rs2 fun a b => minU a b)

/-- MAXU (R434). -/
def execMaxu (c : Core) (rd rs1 rs2 : GReg) (s : State) : Result := done s (s.alu3 c rd rs1 rs2 fun a b => maxU a b)

/-- EXTU (R434). -/
def execExtu (c : Core) (rd rs1 rs2 : GReg) (s : State) : Result := done s (s.alu3 c rd rs1 rs2 fun a b => extractU a b)

/-- EXTS (R434). -/
def execExts (c : Core) (rd rs1 rs2 : GReg) (s : State) : Result := done s (s.alu3 c rd rs1 rs2 fun a b => extractS a b)

/-- CNTLZ (R434). -/
def execCntlz (c : Core) (rd rs1 : GReg) (s : State) : Result := done s (s.alu2 c rd rs1 fun a => BitVec.ofNat 64 (leadingZeros a))

/-- CNTTZ (R434). -/
def execCnttz (c : Core) (rd rs1 : GReg) (s : State) : Result := done s (s.alu2 c rd rs1 fun a => BitVec.ofNat 64 (trailingZeros a))

/-- CNTONE (R434). -/
def execCntone (c : Core) (rd rs1 : GReg) (s : State) : Result := done s (s.alu2 c rd rs1 fun a => BitVec.ofNat 64 (onesCount a))

/-- REVB (R434). -/
def execRevb (c : Core) (rd rs1 : GReg) (s : State) : Result := done s (s.alu2 c rd rs1 fun a => reverseBytes a)

/-! ### Immediate instructions (R435) -/

/-- ADDI: rs1 + sext(imm) (R435). -/
def execAddi (c : Core) (rd rs1 : GReg) (imm : BitVec 16) (s : State) : Result := done s (s.alu2 c rd rs1 fun a => a + immS imm)

/-- ANDI: rs1 & zext(imm) (R435). -/
def execAndi (c : Core) (rd rs1 : GReg) (imm : BitVec 16) (s : State) : Result := done s (s.alu2 c rd rs1 fun a => a &&& immZ imm)

/-- IORI (R435). -/
def execIori (c : Core) (rd rs1 : GReg) (imm : BitVec 16) (s : State) : Result := done s (s.alu2 c rd rs1 fun a => a ||| immZ imm)

/-- EORI (R435). -/
def execEori (c : Core) (rd rs1 : GReg) (imm : BitVec 16) (s : State) : Result := done s (s.alu2 c rd rs1 fun a => a ^^^ immZ imm)

/-- CMPSI (R435). -/
def execCmpsi (c : Core) (rd rs1 : GReg) (imm : BitVec 16) (s : State) : Result := done s (s.alu2 c rd rs1 fun a => compareS a (immS imm))

/-- CMPUI (R435). -/
def execCmpui (c : Core) (rd rs1 : GReg) (imm : BitVec 16) (s : State) : Result := done s (s.alu2 c rd rs1 fun a => compareU a (immZ imm))

/-- ADDI.N: sext32(rs1 + sext(imm)) (R435). -/
def execAddiN (c : Core) (rd rs1 : GReg) (imm : BitVec 16) (s : State) : Result := done s (s.alu2 c rd rs1 fun a => sext32 (a + immS imm))

/-- SHI's immediate names a shift (R435): imm[15:9] is 0, and with N the amount is below 32. -/
def shiOk (imm : BitVec 16) : Bool := imm.toNat < 512 && (! imm.getLsbD 8 || ! imm.getLsbD 5)

/-- The result of SHI (R435). -/
def shiResult (imm : BitVec 16) (a : Word) : Word :=
  let n := imm.toNat % 64
  let kind := imm.toNat / 64 % 4
  if imm.getLsbD 8 then (shiftBy kind (low32 a) n).signExtend 64 else shiftBy kind a n

/-- SHI (R435); an immediate that names no shift is illegal (R433). -/
def shi (c : Core) (rd rs1 : GReg) (imm : BitVec 16) (s : State) : State :=
  if shiOk imm then s.alu2 c rd rs1 (shiResult imm)
  else s.instr c.val fun s => s.trapWord c tcIllegal (wordI 0x0A rd.val rs1.val imm)

/-- SHI. -/
def execShi (c : Core) (rd rs1 : GReg) (imm : BitVec 16) (s : State) : Result := done s (shi c rd rs1 imm s)

/-- SETQ: sext(imm) << (16 q) (R435). -/
def execSetq (c : Core) (rd : GReg) (q : Fin 4) (imm : BitVec 16) (s : State) : Result :=
  done s (s.alu2 c rd 0 fun _ => immS imm <<< (16 * q.val))

/-- ADDPC: PC + 4 × sext(imm) (R435). -/
def addpc (c : Core) (rd : GReg) (imm : BitVec 16) (s : State) : State :=
  s.instr c.val fun s => (s.setG c.val rd.val (branchTarget (s.core c.val).pc (immS imm))).retire c.val

/-- ADDPC. -/
def execAddpc (c : Core) (rd : GReg) (imm : BitVec 16) (s : State) : Result := done s (addpc c rd imm s)

/-! ### Multiply and divide (R436) -/

/-- The high half of a 128-bit product, given as integers. -/
def highHalf (a b : Int) : Word := BitVec.ofInt 64 (a * b / 2 ^ 64)

/-- The remainder of the floored quotient: 0 or the sign of the divisor. -/
def floorMod {n : Nat} (a b : BitVec n) : BitVec n := a.smod b

/-- Word and narrow tests for a divisor that is 0. -/
def zero64 (b : Word) : Bool := b == 0
def zero32 (b : Word) : Bool := low32 b == 0

/-- MLO: low 64 bits of the product (R436). -/
def execMlo (c : Core) (rd rs1 rs2 : GReg) (s : State) : Result := done s (s.alu3 c rd rs1 rs2 fun a b => a * b)

/-- MLO.N (R436). -/
def execMloN (c : Core) (rd rs1 rs2 : GReg) (s : State) : Result := done s (s.alu3 c rd rs1 rs2 (narrow fun a b => a * b))

/-- MHI: high 64 bits, signed by signed (R436). -/
def execMhi (c : Core) (rd rs1 rs2 : GReg) (s : State) : Result := done s (s.alu3 c rd rs1 rs2 fun a b => highHalf a.toInt b.toInt)

/-- MHIU: high 64 bits, unsigned (R436). -/
def execMhiu (c : Core) (rd rs1 rs2 : GReg) (s : State) : Result := done s (s.alu3 c rd rs1 rs2 fun a b => highHalf a.toNat b.toNat)

/-- MHISU: high 64 bits, signed rs1 by unsigned rs2 (R436). -/
def execMhisu (c : Core) (rd rs1 rs2 : GReg) (s : State) : Result := done s (s.alu3 c rd rs1 rs2 fun a b => highHalf a.toInt b.toNat)

/-- QUO: signed quotient, rounded toward zero (R436). -/
def execQuo (c : Core) (rd rs1 rs2 : GReg) (s : State) : Result := done s (s.divide c rd rs1 rs2 zero64 fun a b => a.sdiv b)
/-- QUO.N: the same on bits [31:0] (R436). -/
def execQuoN (c : Core) (rd rs1 rs2 : GReg) (s : State) : Result :=
  done s (s.divide c rd rs1 rs2 zero32 (narrow fun a b => a.sdiv b))

/-- QUOU: unsigned quotient (R436). -/
def execQuou (c : Core) (rd rs1 rs2 : GReg) (s : State) : Result := done s (s.divide c rd rs1 rs2 zero64 fun a b => a.udiv b)
/-- QUOU.N: the same on bits [31:0] (R436). -/
def execQuouN (c : Core) (rd rs1 rs2 : GReg) (s : State) : Result :=
  done s (s.divide c rd rs1 rs2 zero32 (narrow fun a b => a.udiv b))

/-- REM: remainder of QUO (R436). -/
def execRem (c : Core) (rd rs1 rs2 : GReg) (s : State) : Result := done s (s.divide c rd rs1 rs2 zero64 fun a b => a.srem b)
/-- REM.N: the same on bits [31:0] (R436). -/
def execRemN (c : Core) (rd rs1 rs2 : GReg) (s : State) : Result :=
  done s (s.divide c rd rs1 rs2 zero32 (narrow fun a b => a.srem b))

/-- REMU: remainder of QUOU (R436). -/
def execRemu (c : Core) (rd rs1 rs2 : GReg) (s : State) : Result := done s (s.divide c rd rs1 rs2 zero64 fun a b => a.umod b)
/-- REMU.N: the same on bits [31:0] (R436). -/
def execRemuN (c : Core) (rd rs1 rs2 : GReg) (s : State) : Result :=
  done s (s.divide c rd rs1 rs2 zero32 (narrow fun a b => a.umod b))

/-- MOD: remainder of the floored quotient (R436). -/
def execMod (c : Core) (rd rs1 rs2 : GReg) (s : State) : Result := done s (s.divide c rd rs1 rs2 zero64 fun a b => floorMod a b)
/-- MOD.N: the same on bits [31:0] (R436). -/
def execModN (c : Core) (rd rs1 rs2 : GReg) (s : State) : Result :=
  done s (s.divide c rd rs1 rs2 zero32 (narrow fun a b => floorMod a b))

end Sys2Proof.Machine
end

