-- ==== Sys2Proof/Machine/BandTable.lean ====
section
/-! DEFINITION. Sys2Proof/Machine/BandTable.lean: the Band Table (R261 to R265): the cached band entries, their fetch,
check and write-back, and the MEM_BT_CMD commands. -/
namespace Sys2Proof.Machine
open Sys2Proof

/-! ### Band entries (R261) -/

/-- A field of a band entry: first bit and width. -/
def btGet (x : BitVec 256) (lo w : Nat) : Nat := (x.extractLsb' lo w).toNat
/-- Replace a field of a band entry. -/
def btSet (x : BitVec 256) (lo w v : Nat) : BitVec 256 :=
  (x &&& ~~~(BitVec.ofNat 256 (2 ^ w - 1) <<< lo)) ||| (BitVec.ofNat 256 (v % 2 ^ w) <<< lo)

def btBand (x : BitVec 256) : Nat := btGet x 0 32
def btState (x : BitVec 256) : Nat := btGet x 32 8
def btAdj (x : BitVec 256) : Bool := btGet x 40 1 == 1
def btZone (x : BitVec 256) : Nat := btGet x 48 8
def btWp (x : BitVec 256) : Nat := btGet x 64 32
def btQp (x : BitVec 256) : Nat := btGet x 96 32
def btT0 (x : BitVec 256) : Nat := btGet x 128 24
def setBtState (x : BitVec 256) (v : Nat) : BitVec 256 := btSet x 32 8 v
def setBtAdj (x : BitVec 256) (v : Bool) : BitVec 256 := btSet x 40 1 v.toNat
def setBtWp (x : BitVec 256) (v : Nat) : BitVec 256 := btSet x 64 32 v
def setBtQp (x : BitVec 256) (v : Nat) : BitVec 256 := btSet x 96 32 v
def setBtBsid (x : BitVec 256) (v : Nat) : BitVec 256 := btSet x 160 32 v
def btLive (x : BitVec 256) : Nat := btGet x 192 32
def setBtLive (x : BitVec 256) (v : Nat) : BitVec 256 := btSet x 192 32 v

/-- BSID of a band that is in no band set (R261). -/
def noBsid : Nat := 0xFFFFFFFF

/-- Band states (R265). -/
def bandFree : Nat := 0
def bandOpen : Nat := 1
def bandFull : Nat := 2
def bandCompact : Nat := 3
def bandUnusable : Nat := 4

/-- The bytes of an entry, byte 0 first. -/
def btBytes (x : BitVec 256) : List Byte := leBytes 32 x.toNat

/-- An entry with the CRC-32C of its bytes 0 to 27 in bytes 28 to 31 (R264). -/
def btSeal (x : BitVec 256) : BitVec 256 := btSet x 224 32 (crc32c ((btBytes x).take 28)).toNat

/-- An entry passes its check: CRC, and BAND equal to its index (R264). -/
def btCheck (idx : Nat) (x : BitVec 256) : Bool :=
  btGet x 224 32 == (crc32c ((btBytes x).take 28)).toNat && btBand x == idx

/-! ### The cached entries (R261, R262) -/

/-- The set of an entry: (n XOR (HPORT << 3)) mod 8,192 (R261). -/
def btSetOf (idx : Nat) : Nat := (((idx % 2 ^ 15) ^^^ ((idx / 2 ^ 15) * 8)) % 8192)

/-- The cached line of entry `idx`. -/
def State.btLine (s : State) (idx : Nat) : Option BtLine := (s.bt.find? fun p => p.1 == idx).map Prod.snd

/-- Cache a line, as the one most recently used. -/
def State.setBtLine (s : State) (idx : Nat) (l : BtLine) : State :=
  { s with bt := smPut s.bt idx { l with used := s.btClock + 1 }, btClock := s.btClock + 1 }

/-- A hardware or firmware change of a cached entry: it becomes dirty. -/
def State.updBt (s : State) (idx : Nat) (f : BitVec 256 → BitVec 256) : State :=
  match s.btLine idx with
  | some l => s.setBtLine idx { l with bytes := f l.bytes, dirty := true }
  | none => s

/-- A cached entry is pinned while OPEN, while QP ≠ WP, or after a failed write-back (R262). -/
def btPinned (l : BtLine) : Bool := btState l.bytes == bandOpen || btQp l.bytes != btWp l.bytes || l.wbFailed

/-- The address of entry `idx` in the band map; bits [29:0] of the base are taken as zero (R261). -/
def State.btAddr (s : State) (idx : Nat) : Nat := s.rd MEM_BT_BASE_ADDR / 2 ^ 30 * 2 ^ 30 + idx * 32

/-- Write a dirty entry back to the map; on a bus error it stays dirty and pinned, WBERR sets, an event is recorded (R262). -/
def State.btWriteBack (s : State) (idx : Nat) : State :=
  match s.btLine idx with
  | none => s
  | some l =>
    if ¬ l.dirty then s
    else
      let r := s.busWrite false (s.btAddr idx) (btBytes (btSeal l.bytes))
      match r.1 with
      | none => { r.2 with bt := smPut r.2.bt idx { l with bytes := btSeal l.bytes, dirty := false, wbFailed := false } }
      | some _ =>
        (({ r.2 with bt := smPut r.2.bt idx { l with wbFailed := true } } : State).put MEM_BT_STAT_WBERR true).event 0 .bandTable 0 0

/-- The cached lines of a set. -/
def State.btSetLines (s : State) (set : Nat) : List (Nat × BtLine) := s.bt.filter fun p => btSetOf p.1 == set

/-- The least recently used unpinned line of a set. -/
def btVictim : List (Nat × BtLine) → Option (Nat × BtLine)
  | [] => none
  | p :: r =>
    match btVictim r with
    | none => if btPinned p.2 then none else some p
    | some q => if btPinned p.2 ∨ q.2.used < p.2.used then some q else some p

/-- Lines of a set whose failed write-back is tried again because they would otherwise be chosen (R262). -/
def State.btRetry (s : State) (set : Nat) : State :=
  (s.btSetLines set).foldl (fun s p =>
    if p.2.wbFailed ∧ btState p.2.bytes ≠ bandOpen ∧ btQp p.2.bytes = btWp p.2.bytes then s.btWriteBack p.1 else s) s

/-- Make room in a set for one more entry; false where all ways are pinned (R262: PINFULL, an event). A victim whose
write-back fails is passed over for the next one, at most `fuel` times. -/
def State.btMakeRoom (s : State) (set : Nat) : Nat → Bool × State
  | 0 => (false, (s.put MEM_BT_STAT_PINFULL true).event 0 .bandTable 0 0)
  | fuel + 1 =>
    if (s.btSetLines set).length < 8 then (true, s)
    else match btVictim (s.btSetLines set) with
      | none => (false, (s.put MEM_BT_STAT_PINFULL true).event 0 .bandTable 0 0)
      | some (idx, _) =>
        let s := s.btWriteBack idx
        match s.btLine idx with
        | some l => if l.dirty then State.btMakeRoom s set fuel else (true, { s with bt := smErase s.bt idx })
        | none => (true, s)

/-- What became of a lookup that fetched: the entry is cached, it fails its check (R264), or no way was free (R262). -/
inductive BtFetch where
  | cached | failed | full
  deriving DecidableEq, Repr

/-- Fetch an entry from the map and cache it (R262, R264). A band on a retired head becomes UNUSABLE (R265). -/
def State.btFetchEntry (s : State) (idx : Nat) : BtFetch × State :=
  let r := s.busRead false (s.btAddr idx) 32
  let bad (s : State) : BtFetch × State := (.failed, (s.put MEM_BT_STAT_CRCERR true).event 0 .bandTable 0 0)
  match r.1 with
  | none => bad r.2
  | some bs =>
    let x := BitVec.ofNat 256 (leNat bs)
    if ¬ btCheck idx x then bad r.2
    else
      let room := (r.2.btRetry (btSetOf idx)).btMakeRoom (btSetOf idx) 8
      if room.1 then
        let dead := room.2.isRetired (idx / 2 ^ 15) && btState x != bandUnusable
        (.cached, room.2.setBtLine idx { bytes := if dead then setBtState x bandUnusable else x, dirty := dead })
      else (.full, room.2)

/-- The entry a command names, fetched where it is not cached. -/
def State.btNeed (s : State) (idx : Nat) : BtFetch × State :=
  match s.btLine idx with
  | some _ => (.cached, s)
  | none => s.btFetchEntry idx

/-- Pinned entries of a set other than `idx`. -/
def State.btPinnedIn (s : State) (set idx : Nat) : Nat :=
  ((s.btSetLines set).filter fun p => p.1 != idx && btPinned p.2).length

/-! ### Commands (R263) -/

/-- The 256 bits of MEM_BT_DATA0 to 7. -/
def State.btData (s : State) : BitVec 256 :=
  BitVec.ofNat 256 ((List.range 8).foldl (fun n w => n + s.rd (MEM_BT_DATA_WORD w) * 2 ^ (32 * w)) 0)

/-- Place an entry in MEM_BT_DATA0 to 7. -/
def State.setBtData (s : State) (x : BitVec 256) : State :=
  forUpTo 8 (fun w s => s.wr (MEM_BT_DATA_WORD w) (btGet x (32 * w) 32)) s

/-- The command's result, shown in ERR when it finishes. -/
def State.btResult (s : State) (err : Nat) : State := { s with btErr := err }

/-- Start a command: while BUSY it is ignored and ERR reads 4 (R263). -/
def State.btStart (s : State) (op idx : Nat) (run : State → State) : State :=
  if s.on MEM_BT_STAT_BUSY then s.wr MEM_BT_STAT_ERR 4
  else run (((s.wr MEM_BT_CMD_INDEX idx).wr MEM_BT_CMD_OP op).put MEM_BT_STAT_BUSY true)

/-- Start a command on the entry that INDEX names: a write whose INDEX names no head (R11) is ignored. -/
def State.btStartOn (s : State) (op idx : Nat) (run : State → State) : State :=
  if hportNamesHead (idx / 2 ^ 15) then s.btStart op idx run else s

/-- Run a command on the entry it names; a failed check refuses it with ERR 6 (R263), a set with every way pinned with 2. -/
def State.btOn (s : State) (idx : Nat) (run : State → BtLine → State) : State :=
  let r := s.btNeed idx
  match r.1, r.2.btLine idx with
  | .cached, some l => run r.2 l
  | .full, _ => r.2.btResult 2
  | _, _ => r.2.btResult 6

/-- The 32 bytes of an entry as they stand in the map, with zeros for a granule that cannot be read (R263, R491). -/
def State.btRaw (s : State) (idx : Nat) : BitVec 256 × State :=
  let r := s.busRead false (s.btAddr idx) 32
  match r.1 with
  | some bs => (BitVec.ofNat 256 (leNat bs), r.2)
  | none => (0, r.2)

/-- BT_READ. -/
def btRead (idx : BitVec 25) (s : State) : State :=
  s.btStartOn 1 idx.toNat fun s =>
    let r := s.btNeed idx.toNat
    match r.1, r.2.btLine idx.toNat with
    | .cached, some l => (r.2.setBtData (btSeal l.bytes)).btResult 0
    | .full, _ => (r.2.setBtData (r.2.btRaw idx.toNat).1).btResult 0
    | _, _ => (r.2.setBtData (r.2.btRaw idx.toNat).1).btResult 6
/-- BT_READ. -/
def execBtRead (idx : BitVec 25) (s : State) : Result := clocked s (btRead idx s)

/-- The state changes that firmware may make through WRITE (R265). -/
def btLegal (old new : Nat) : Bool :=
  old == new || (old == bandFull && new == bandCompact) || (old == bandCompact && new == bandFree) || new == bandUnusable

/-- An entry with its reserved bits 0: FLAGS[7:1], byte 7 and the byte above T0 (R261). -/
def btReserved0 (x : BitVec 256) : BitVec 256 := btSet (btSet (btSet x 41 7 0) 56 8 0) 152 8 0

/-- The entry after WRITE: the firmware-owned fields from the data registers; ADJ can only be cleared (R261, R263). -/
def btMerge (old new : BitVec 256) : BitVec 256 :=
  btSeal (btReserved0 (setBtWp (setBtQp (setBtAdj new (btAdj old && btAdj new)) (btQp old)) (btWp old)))

/-- BT_WRITE. -/
def btWrite (idx : BitVec 25) (s : State) : State :=
  s.btStartOn 2 idx.toNat fun s => s.btOn idx.toNat fun s l =>
    if btQp l.bytes ≠ btWp l.bytes then s.btResult 1
    else if ¬ btLegal (btState l.bytes) (btState s.btData) then s.btResult 3
    else (s.updBt idx.toNat fun x => btMerge x s.btData).btResult 0
/-- BT_WRITE. -/
def execBtWrite (idx : BitVec 25) (s : State) : Result := clocked s (btWrite idx s)

/-- BT_OPEN. -/
def btOpen (idx : BitVec 25) (s : State) : State :=
  s.btStartOn 3 idx.toNat fun s => s.btOn idx.toNat fun s l =>
    if btState l.bytes ≠ bandFree then s.btResult 3
    else if 6 ≤ s.btPinnedIn (btSetOf idx.toNat) idx.toNat then s.btResult 2
    else (s.updBt idx.toNat fun x => setBtAdj (setBtQp (setBtWp (setBtState x bandOpen) 0) 0) false).btResult 0
/-- BT_OPEN. -/
def execBtOpen (idx : BitVec 25) (s : State) : Result := clocked s (btOpen idx s)

/-- BT_CLOSE. -/
def btClose (idx : BitVec 25) (s : State) : State :=
  s.btStartOn 4 idx.toNat fun s => s.btOn idx.toNat fun s l =>
    if btState l.bytes ≠ bandOpen then s.btResult 3
    else if btQp l.bytes ≠ btWp l.bytes then s.btResult 1
    else (s.updBt idx.toNat fun x => setBtState x bandFull).btResult 0
/-- BT_CLOSE. -/
def execBtClose (idx : BitVec 25) (s : State) : Result := clocked s (btClose idx s)

/-- BT_CLEAN. -/
def btClean (s : State) : State :=
  s.btStart 5 (s.rd MEM_BT_CMD_INDEX) fun s => (s.bt.foldl (fun s p => s.btWriteBack p.1) s).btResult 0
/-- BT_CLEAN. -/
def execBtClean (s : State) : Result := clocked s (btClean s)

/-- BT_INVAL. -/
def btInval (s : State) : State :=
  s.btStart 6 (s.rd MEM_BT_CMD_INDEX) fun s =>
    ({ s with bt := s.bt.filter fun p => p.2.dirty || btPinned p.2 } : State).btResult 0
/-- BT_INVAL. -/
def execBtInval (s : State) : Result := clocked s (btInval s)

/-- Cache an entry rewritten whole (R263, RESTORE); false where no way of its set can be freed. -/
def State.btPlace (s : State) (i : Nat) (new : BitVec 256) : Bool × State :=
  match s.btLine i with
  | some _ => (true, s.setBtLine i { bytes := new, dirty := true })
  | none =>
    let room := (s.btRetry (btSetOf i)).btMakeRoom (btSetOf i) 8
    if room.1 then (true, room.2.setBtLine i { bytes := new, dirty := true }) else (false, room.2)

/-- BT_RESTORE: every field from the data registers; an entry that fails its check is rewritten (R263). -/
def btRestore (idx : BitVec 25) (s : State) : State :=
  s.btStartOn 7 idx.toNat fun s =>
    let i := idx.toNat
    let new := btSeal s.btData
    let busy : Bool := match s.btLine i with | some l => btQp l.bytes != btWp l.bytes | none => false
    let pins := btPinned { bytes := new }
    if busy then s.btResult 1
    else if pins ∧ 6 ≤ s.btPinnedIn (btSetOf i) i then s.btResult 2
    else if btBand new ≠ i then s.btResult 5
    else
      let r := s.btPlace i new
      r.2.btResult (if r.1 then 0 else 2)
/-- BT_RESTORE. -/
def execBtRestore (idx : BitVec 25) (s : State) : Result := clocked s (btRestore idx s)

/-- BT_INVALID_COMMAND: a MEM_BT_CMD write that starts nothing: while BUSY (ERR 4), with OP 8 to 15 (ERR 5), or with OP 0. -/
def btInvalidCommand (op : BitVec 4) (idx : BitVec 25) (s : State) : State :=
  if s.on MEM_BT_STAT_BUSY then s.wr MEM_BT_STAT_ERR 4
  else if 1 ≤ op.toNat ∧ op.toNat ≤ 7 then s
  else
    let s := (s.wr MEM_BT_CMD_INDEX idx.toNat).wr MEM_BT_CMD_OP op.toNat
    if op.toNat = 0 then s else s.wr MEM_BT_STAT_ERR 5
/-- BT_INVALID_COMMAND. -/
def execBtInvalidCommand (op : BitVec 4) (idx : BitVec 25) (s : State) : Result := clocked s (btInvalidCommand op idx s)

/-- A MEM_BT_CMD write (R263). -/
def State.btCommand (s : State) (op idx : Nat) : State :=
  let i := BitVec.ofNat 25 idx
  match op with
  | 1 => btRead i s
  | 2 => btWrite i s
  | 3 => btOpen i s
  | 4 => btClose i s
  | 5 => btClean s
  | 6 => btInval s
  | 7 => btRestore i s
  | op => btInvalidCommand (BitVec.ofNat 4 op) i s

/-- BT_COMMAND_DONE: the running command finishes; BUSY clears and ERR takes its result (R263). -/
def btCommandDone (s : State) : State :=
  if s.on MEM_BT_STAT_BUSY then (s.put MEM_BT_STAT_BUSY false).wr MEM_BT_STAT_ERR s.btErr else s
/-- BT_COMMAND_DONE. -/
def execBtCommandDone (s : State) : Result := clocked s (btCommandDone s)

end Sys2Proof.Machine
end

