-- ==== Sys2Proof/Machine/Scheduler.lean ====
section
/-! DEFINITION. Sys2Proof/Machine/Scheduler.lean: the actuator schedulers (R248 to R260): descriptor checks, selection,
release by Aperture, band write pointers, and the completions that a scheduler makes without media access. -/
namespace Sys2Proof.Machine
open Sys2Proof

/-! ### Completions (R137) -/

/-- Operations of actuator `k` queued or running (R274). -/
def State.showSched (s : State) (k : Nat) : State :=
  let q := s.schedS k
  let s := s.wr (CS_SCH_STAT_QUEUED k) (q.queue.length + (if q.released.isSome then 1 else 0) + (s.sliceS k).ops.length)
  let s := s.put (CS_SCH_STAT_MISSWAIT k) (q.queue.any (·.missing))
  s.put (CS_SCH_STAT_HELD k) (q.queue.any (·.held))

/-- A slice completion entry goes to LP 64 + k, and the operation's LP k credit returns (R24, R137, R258). -/
def State.postCompletion (s : State) (k opid status cause flags dn unc firstBad step revs iters : Nat) : State :=
  ((s.hwPush (64 + k) (mkEntry [(0, 64, opid), (64, 16, status), (80, 8, cause), (88, 8, flags), (96, 16, dn), (112, 16, unc),
    (128, 16, firstBad), (144, 8, step), (160, 16, revs), (176, 16, iters), (192, 64, s.wt)])).creditBack k).showSched k

/-- An operation that scheduler `k` completes without media access (R256); FIRSTBAD is 0, the first sector, or 0xFFFF
for a CANCEL or a COUNT of 0, which have none (DEDUCED, R137). -/
def State.schedComplete (s : State) (k : Nat) (e : Entry) (status : Nat) : State :=
  s.postCompletion k (Desc.opid e) status 0 0 0 0 (if Desc.op e = 4 ∨ Desc.count e = 0 then 0xFFFF else 0) 0 0 0

/-! ### Geometry (R248, R249, R251) -/

/-- BAND of landing zone and band operations is one that exists, on the HPORT of the operation (R251). -/
def bandNamed (e : Entry) : Bool :=
  if Desc.lz e then Desc.band e == 2 ^ 31 + Desc.hport e * 2 ^ 15
  else decide (Desc.band e < 2 ^ 25) && Desc.band e / 2 ^ 15 == Desc.hport e

/-- Check 1 of R256: the descriptor's fields are valid under R255. -/
def fieldsOk (k : Nat) (e : Entry) : Bool :=
  ! e.poison && Desc.reservedClear e && decide (1 ≤ Desc.op e) && decide (Desc.op e ≤ 4) && decide (Desc.cls e < 4)
    && (Desc.op e == 4
      || (hportSlice (Desc.hport e) == k && hportNamesHead (Desc.hport e) && decide (1 ≤ Desc.count e) && bandNamed e))

/-- SPT of the zone that holds a track on head `h`. -/
def State.sptAt (s : State) (k h track : Nat) : Nat :=
  match s.zoneOf k h track with
  | some z => s.rd (CS_ZONE2_SPT k h z)
  | none => 0

/-- Sectors of the landing zone (R248). -/
def State.lzSect (s : State) (k : Nat) : Nat := s.rd (CS_SCH_LZ_GIB k) * 262144

/-- Check 4 of R256 for the landing zone: TRACK and SECTOR are the position of INDEX, and the operation ends in the zone
and on its track (R248). -/
def State.lzPosition (s : State) (k : Nat) (e : Entry) : Bool :=
  let spt := s.sptAt k (Desc.head e) (s.rd (CS_SCH_LZ_T0 k))
  decide (0 < spt)
    && Desc.track e == s.rd (CS_SCH_LZ_T0 k) + s.rd (CS_SCH_LZ_STEP k) * (8 + Desc.index e / spt)
    && Desc.sector e == Desc.index e % spt
    && decide (Desc.index e + Desc.count e ≤ s.lzSect k) && decide (Desc.sector e + Desc.count e ≤ spt)

/-- Check 4 of R256 for a band, from its T0 and zone (R249). -/
def State.bandPosition (s : State) (k : Nat) (e : Entry) (x : BitVec 256) : Bool :=
  let spt := s.rd (CS_ZONE2_SPT k (Desc.head e) (btZone x))
  decide (0 < spt)
    && Desc.track e == btT0 x + Desc.index e / spt
    && Desc.sector e == Desc.index e % spt
    && decide (Desc.index e < 65536) && decide (Desc.sector e + Desc.count e ≤ spt)

/-! ### The checks (R256) -/

/-- Check 5: the band's state allows the operation (R265); the status of a failure. -/
def State.bandStateCheck (s : State) (e : Entry) (x : BitVec 256) : Option Nat :=
  let st := btState x
  if st = bandUnusable then some (if s.isRetired (Desc.hport e) then 0x14 else 0x40)
  else if Desc.op e = 2 then (if st = bandOpen then none else some 0x40)
  else if st = bandOpen ∨ st = bandFull ∨ st = bandCompact then none else some 0x40

/-- Checks 4 to 7 against a band's entry; `order` says whether check 7 applies. -/
def State.bandChecks (s : State) (k : Nat) (e : Entry) (x : BitVec 256) (order : Bool) : Option Nat :=
  if ¬ s.bandPosition k e x then some 0x42
  else match s.bandStateCheck e x with
    | some c => some c
    | none =>
      if Desc.op e ≠ 2 ∧ btWp x < Desc.index e + Desc.count e then some 0x42
      else if Desc.op e = 2 ∧ order ∧ Desc.index e ≠ btQp x then some 0x41
      else none

/-- Checks 1 and 2 of R256. -/
def State.firstChecks (s : State) (k : Nat) (e : Entry) : Option Nat :=
  if ¬ fieldsOk k e then some 0x42
  else if s.rd (PRZ_ARM_STATE k) = 3 then some 0x46
  else none

/-- The outcome of a descriptor's checks: a status, passed, or waiting for a Band Table fetch. -/
inductive DescCheck where
  | fails (status : Nat) | passes | misses
  deriving DecidableEq, Repr

/-- All checks of R256 that apply, on the entry the Band Table caches. -/
def State.checkDesc (s : State) (k : Nat) (e : Entry) (order : Bool) : DescCheck :=
  match s.firstChecks k e with
  | some c => .fails c
  | none =>
    if Desc.op e = 4 then .passes
    else if Desc.lz e then (if s.lzPosition k e then .passes else .fails 0x42)
    else match s.btLine (Desc.band e) with
      | none => .misses
      | some l =>
        match s.bandChecks k e l.bytes order with
        | some c => .fails c
        | none => .passes

/-! ### Queue and band pointers (R256, R259) -/

/-- Replace scheduler `k`'s queue. -/
def State.setQueue (s : State) (k : Nat) (q : List MediaOp) : State := s.setSched k { s.schedS k with queue := q }

/-- A band write of the descriptor's band. -/
def isBandWrite (band : Nat) (e : Entry) : Bool := Desc.op e == 2 && ! Desc.lz e && Desc.band e == band

/-- End queued writes to a band from INDEX `from_` on with 0x31 (R259). -/
def State.endQueuedWrites (s : State) (k band from_ : Nat) : State :=
  let q := (s.schedS k).queue
  let gone := q.filter fun m => isBandWrite band m.desc && decide (from_ ≤ Desc.index m.desc)
  let s := s.setQueue k (q.filter fun m => ! (isBandWrite band m.desc && decide (from_ ≤ Desc.index m.desc)))
  gone.foldl (fun s m => s.schedComplete k m.desc 0x31) s

/-- An operation passed its checks: it joins the queue, and a band write advances QP (check 7 of R256). -/
def State.enqueue (s : State) (k : Nat) (m : MediaOp) : State :=
  let e := m.desc
  let s := if Desc.op e = 2 ∧ ¬ Desc.lz e then s.updBt (Desc.band e) fun x => setBtQp x (Desc.index e + Desc.count e) else s
  (s.setQueue k ((s.schedS k).queue ++ [m])).showSched k

/-- A check failed (R256): the operation completes with its status and counts in CS_SCH_REJ. -/
def State.reject (s : State) (k : Nat) (e : Entry) (status : Nat) : State :=
  (s.bump (CS_SCH_REJ_COUNT k)).schedComplete k e status

/-- A band write that was queued leaves the queue unwritten: the writes behind it end too, and QP returns to its INDEX. -/
def State.dropQueuedWrite (s : State) (k : Nat) (e : Entry) : State :=
  if Desc.op e = 2 ∧ ¬ Desc.lz e then
    (s.endQueuedWrites k (Desc.band e) (Desc.index e)).updBt (Desc.band e) fun x => setBtQp x (min (btQp x) (Desc.index e))
  else s

/-- The policy program's VERIFY of every sector of track `t` − 1 that lies in the band of a write on track `t` (R260): RETRY 7,
class 0, OPID 0. -/
def State.adjVerify (s : State) (k : Nat) (e : Entry) (x : BitVec 256) : Entry :=
  let spt := s.rd (CS_ZONE2_SPT k (Desc.head e) (btZone x))
  let t := Desc.track e - 1
  let first := (t - btT0 x) * spt
  mkEntry [(64, 4, 3), (72, 3, 7), (80, 10, Desc.hport e), (96, 24, t), (136, 12, min spt (65536 - first)), (152, 32, Desc.band e),
    (184, 32, first)]

/-- A completed operation is the VERIFY that a band's ADJ waits for (R260). -/
def isAdjVerify (e : Entry) : Bool :=
  Desc.op e == 3 && ! Desc.lz e && Desc.opid e == 0 && Desc.retry e == 7 && Desc.cls e == 0 && Desc.sector e == 0

/-- The policy program takes the result of the VERIFY of a track whose neighbour a write endangered (R260): `lost` are the sectors,
by their place in the operation, that did not come back good; each is an erasure of its stripe unit, whose slot is to be
written anew elsewhere; ADJ clears. -/
def State.adjVerified (s : State) (e : Entry) (lost : List Nat) : State :=
  match s.btLine (Desc.band e) with
  | none => s
  | some l =>
    if ¬ isAdjVerify e ∨ ¬ btAdj l.bytes then s
    else
      let bsid := btGet l.bytes 160 32
      let s : State := match s.red.sets.find? fun p => p.1 == bsid with
        | none => s
        | some (_, x) =>
          let slots := (lost.map fun i => (bsid, (Desc.index e + i) / max 1 x.u)).eraseDups
          { s with red := { s.red with relocate := s.red.relocate ++ slots.filter fun p => ! s.red.relocate.contains p } }
      s.updBt (Desc.band e) fun x => setBtAdj x false

/-- A band write completes with `dn` sectors good (R259, R260): WP moves, a full band becomes FULL, a short write ends the
queued writes and sets QP = WP; where the write endangered the track before, ADJ is set and the VERIFY of that track goes
to LP k. -/
def State.bandWriteDone (s : State) (k : Nat) (e : Entry) (dn : Nat) (adj : Bool) : State :=
  if Desc.op e ≠ 2 ∨ Desc.lz e then s
  else
    let band := Desc.band e
    let wp := Desc.index e + dn
    let s := s.updBt band fun x =>
      let x := setBtWp x wp
      let x := if btState x = bandOpen ∧ 65536 ≤ wp then setBtState x bandFull else x
      if adj ∧ btT0 x < Desc.track e then setBtAdj x true else x
    let s := if dn < Desc.count e then (s.endQueuedWrites k band 0).updBt band fun x => setBtQp x wp else s
    match s.btLine band with
    | none => s
    | some l => if adj ∧ btT0 l.bytes < Desc.track e then s.hwPush k (s.adjVerify k e l.bytes) else s

/-! ### Popping descriptors (R255, R256, R262) -/

/-- A CANCEL ends the operation with its OPID that has not been released to the slice (R255). -/
def State.cancelOp (s : State) (k : Nat) (e : Entry) : State :=
  let q := s.schedS k
  match q.queue.find? fun m => Desc.opid m.desc == Desc.opid e with
  | some m =>
    let s := (s.setQueue k (q.queue.erase m)).dropQueuedWrite k m.desc
    (s.schedComplete k m.desc 0x31).schedComplete k e 0
  | none =>
    match q.released with
    | some m =>
      if Desc.opid m.desc = Desc.opid e then
        let s := (s.setSched k { q with released := none }).dropQueuedWrite k m.desc
        (s.schedComplete k m.desc 0x31).schedComplete k e 0
      else s.schedComplete k e 0x43
    | none => s.schedComplete k e 0x43

/-- What follows the checks of a popped descriptor. -/
def State.admitDesc (s : State) (k : Nat) (e : Entry) : State :=
  match s.checkDesc k e true with
  | .fails c => s.reject k e c
  | .misses =>
    (s.setQueue k ((s.schedS k).queue ++ [{ desc := e, since := s.now, missing := true }])).bump MEM_BT_MISS_COUNT |>.showSched k
  | .passes =>
    if Desc.op e = 4 then s.cancelOp k e
    else
      let s := if Desc.lz e then s else s.bump MEM_BT_HIT_COUNT
      s.enqueue k { desc := e, since := s.now }

/-- Scheduler `k` pops the head of LP k if its OP is `op` or its descriptor is not valid. Entries behind one that waits
for a fetch wait, and band operations wait while the Band Table is disabled (R262, R274). -/
def State.popMedia (s : State) (k op : Nat) : State :=
  if ¬ s.sliceOk k ∨ (s.schedS k).queue.any (·.missing) then s
  else match (s.lp k).entries with
    | [] => s
    | e :: _ =>
      let o := Desc.op e
      let valid := ! e.poison && decide (1 ≤ o) && decide (o ≤ 4)
      let waits := valid && o != 4 && ! Desc.lz e && ! s.on MEM_BT_CTL_EN
      if (o = op ∨ ¬ valid) ∧ ¬ waits then
        match s.hwPop k with
        | none => s
        | some (e, s) => s.admitDesc k e
      else s

/-- MEDIA_READ (R255, R256). -/
def mediaRead (k : Slice) (s : State) : State := s.popMedia k 1
/-- MEDIA_READ. -/
def execMediaRead (k : Slice) (s : State) : Result := clocked s (s.whileOn k.val (mediaRead k))

/-- MEDIA_WRITE (R255, R256). -/
def mediaWrite (k : Slice) (s : State) : State := s.popMedia k 2
/-- MEDIA_WRITE. -/
def execMediaWrite (k : Slice) (s : State) : Result := clocked s (s.whileOn k.val (mediaWrite k))

/-- MEDIA_VERIFY (R255, R256). -/
def mediaVerify (k : Slice) (s : State) : State := s.popMedia k 3
/-- MEDIA_VERIFY. -/
def execMediaVerify (k : Slice) (s : State) : Result := clocked s (s.whileOn k.val (mediaVerify k))

/-- MEDIA_CANCEL (R255, R256). -/
def mediaCancel (k : Slice) (s : State) : State := s.popMedia k 4
/-- MEDIA_CANCEL. -/
def execMediaCancel (k : Slice) (s : State) : Result := clocked s (s.whileOn k.val (mediaCancel k))

/-- The first queued band operation whose entry is not cached. -/
def State.missingOp (s : State) (k : Nat) : Option MediaOp :=
  (s.schedS k).queue.find? fun m => ! Desc.lz m.desc && (s.btLine (Desc.band m.desc)).isNone

/-- BT_FETCH (R262, R264): the entry that scheduler `k` misses arrives; the operation goes on through its checks, or
completes with 0x0044 where the entry fails its check. Where every way of the set is pinned the miss goes on waiting. -/
def btFetch (k : Slice) (s : State) : State :=
  match s.missingOp k with
  | none => s
  | some m =>
    let r := s.btFetchEntry (Desc.band m.desc)
    match r.1 with
    | .full => r.2
    | .failed => (r.2.setQueue k ((r.2.schedS k).queue.erase m)).reject k m.desc 0x44
    | .cached =>
      if ¬ m.missing then r.2
      else
        let s := r.2.setQueue k ((r.2.schedS k).queue.erase m)
        match s.checkDesc k m.desc true with
        | .fails c => s.reject k m.desc c
        | _ => s.enqueue k { m with missing := false }

/-- BT_FETCH. -/
def execBtFetch (k : Slice) (s : State) : Result := clocked s (s.whileRuns k.val (btFetch k))

/-! ### Selection (R257, R258) -/

/-- An operation that a slice holds needs no more of the medium for now. -/
def opIdle (o : SliceOp) : Bool :=
  o.ended || (Desc.op o.desc != 2 && ! o.sectors.any fun x =>
    match x with | .todo | .failing | .reread => true | _ => false)

/-- Slice `k` is not busy with the medium. -/
def State.mediaIdle (s : State) (k : Nat) : Bool := (s.sliceS k).ops.all opIdle

/-- Class 1 covers flush writes and the landing-zone copies of the journal, which a calibration hold exempts (R241). -/
def holdExempt (e : Entry) : Bool := Desc.cls e == 1 && Desc.lz e

/-- An operation is eligible (R257), and no calibration holds it (R241). -/
def State.eligible (s : State) (k : Nat) (m : MediaOp) : Bool :=
  let e := m.desc
  ! m.missing
    && (Desc.lz e || match s.btLine (Desc.band e) with
      | none => false
      | some l => Desc.op e != 2 || Desc.index e == btWp l.bytes)
    && ! (Desc.op e == 2 && ! holdExempt e && s.writesHeld k (Desc.head e))
    && ! (Desc.op e == 2 && s.cannotFold k (Desc.head e))

/-- The element of a list with the least key, the first of equals. -/
def leastBy {α : Type} (key : α → Nat) : List α → Option α
  | [] => none
  | a :: r =>
    match leastBy key r with
    | none => some a
    | some b => if key b < key a then some b else some a

/-- The weight of class 0, 2 or 3; 0 acts as 1 (R274). -/
def State.weight (s : State) (k c : Nat) : Nat :=
  max 1 (if c = 0 then s.rd (CS_SCH_CTL_W_HOST k) else if c = 2 then s.rd (CS_SCH_CTL_W_REB k) else s.rd (CS_SCH_CTL_W_BKG k))

/-- S_c of a class. -/
def SchedSt.serv (q : SchedSt) (c : Nat) : Nat := if c = 0 then q.serv0 else if c = 2 then q.serv2 else q.serv3

/-- The class with least S_c / W_c among those listed, the lowest of equals (R257). -/
def State.leastClass (s : State) (k : Nat) : List Nat → Option Nat
  | [] => none
  | c :: r =>
    match State.leastClass s k r with
    | none => some c
    | some d => if (s.schedS k).serv d * s.weight k c < (s.schedS k).serv c * s.weight k d then some d else some c

/-- AGE in ns; values below 10 ms act as 10 (R274). -/
def State.ageNs (s : State) (k : Nat) : Nat := max 10 (s.rd (CS_SCH_CTL_AGE k)) * 1000000

/-- The operation that R257 takes, from the eligible ones with their access times. -/
def State.choose (s : State) (k : Nat) (l : List (MediaOp × Nat)) : Option MediaOp :=
  let one := l.filter fun p => Desc.cls p.1.desc == 1
  let old := l.filter fun p => decide (p.1.since + s.ageNs k < s.now)
  if ¬ one.isEmpty then (leastBy Prod.snd one).map Prod.fst
  else if ¬ old.isEmpty then (leastBy (fun p => p.1.since) old).map Prod.fst
  else
    match s.leastClass k ([0, 2, 3].filter fun c => l.any fun p => Desc.cls p.1.desc == c) with
    | none => none
    | some c => (leastBy Prod.snd (l.filter fun p => Desc.cls p.1.desc == c)).map Prod.fst

/-- Add a service time to S_c; class 1 keeps no total (R257). The service time of an operation runs from its release to its
completion and is added then (DEDUCED, log entry 48). -/
def SchedSt.serve (q : SchedSt) (c t : Nat) : SchedSt :=
  if c = 0 then { q with serv0 := q.serv0 + t } else if c = 2 then { q with serv2 := q.serv2 + t }
  else if c = 3 then { q with serv3 := q.serv3 + t } else q

/-- The first sector's angle of an operation within a revolution. -/
def State.startAngle (s : State) (k : Nat) (e : Entry) : Nat :=
  let h := Desc.head e
  let z := (s.zoneOf k h (Desc.track e)).getD 0
  s.spindleAngle k h (s.sectorAngles k h z (Desc.track e) (Desc.sector e) 1).1

/-- The SEEK that a released operation needs (R258): JIT, ARRIVE one wedge before the first sector's θ0, WR for writes;
none where the actuator is on its track and head already. -/
def State.pushSeek (s : State) (k : Nat) (e : Entry) : State :=
  let v := s.servoS k
  if v.target = Desc.track e ∧ v.newHead.getD v.head = Desc.head e then s
  else
    let b := bayOf k
    let at_ := nextAngle (s.rd (ANG_CNT_VALUE b)) (s.startAngle k e) 0 + 2 ^ 32 - 2 ^ 20 / s.nWedges b
    s.hwPush (128 + k) (mkEntry [(0, 64, Desc.opid e), (64, 8, opSeek), (72, 4, Desc.head e),
      (80, 1, if Desc.op e = 2 then 1 else 0), (81, 1, 1), (96, 24, Desc.track e), (160, 32, at_ % 2 ^ 32)])

/-- The access time of an operation (R257), in ns: the seek time estimated from the last 256 seeks, and the wait until its
first sector arrives after the seek. -/
def State.accessTime (s : State) (k : Nat) (e : Entry) : Nat :=
  let v := s.servoS k
  let b := bayOf k
  let per := s.rd (ANG_PERIOD_NS b)
  let still := v.target == Desc.track e && v.newHead.getD v.head == Desc.head e
  let seek := if still then 0 else Config.seekEstimate (s.schedS k).seeks ((Desc.track e : Int) - s.rd (SRV_POS_TRACK k)).natAbs
  let from_ := s.rd (ANG_CNT_VALUE b) + seek * 2 ^ 20 / max 1 per
  seek + (nextAngle from_ (s.startAngle k e) 0 - from_) * per / 2 ^ 20

/-- The scheduler may select: no operation is released and waiting, the medium is free, no calibration interrupts the
actuator, the bay is in A0 and inside its read window (R241, R411, R419). -/
def State.maySelect (s : State) (k : Nat) : Bool :=
  (s.schedS k).released.isNone && s.mediaIdle k && (s.calS k).running.isNone
    && s.rd (APR_PS_STATE (bayOf k)) == 0 && ! s.on (APR_PS_RWHOLD (bayOf k))

/-- The selected operation is checked again and presented to Aperture, which releases or holds it (R256, R258). -/
def State.present (s : State) (k : Nat) (m : MediaOp) : State :=
  let e := m.desc
  match s.checkDesc k e false with
  | .fails c => ((s.setQueue k ((s.schedS k).queue.erase m)).dropQueuedWrite k e).reject k e c
  | .misses => s
  | .passes =>
    let a := s.aperture (Desc.op e - 1) (Desc.cls e) (Desc.count e)
    let s := a.2
    let q := s.schedS k
    if a.1 then
      let q := { q with queue := q.queue.erase m, released := some { m with held := false }, releasedAt := s.now }
      ((s.setSched k q).pushSeek k e).showSched k
    else (s.setQueue k (q.queue.map fun x => { x with held := x == m || (x.held && x != m) })).showSched k

/-- SCHEDULER_SELECT (R257, R258): one of the eligible operations is presented to Aperture. -/
def schedulerSelect (k : Slice) (s : State) : State :=
  if ¬ s.maySelect k then s
  else
    match s.choose k (((s.schedS k).queue.filter (s.eligible k)).map fun m => (m, s.accessTime k m.desc)) with
    | none => s
    | some m => s.present k m

/-- SCHEDULER_SELECT. -/
def execSchedulerSelect (k : Slice) (s : State) : Result := clocked s (s.whileOn k.val (schedulerSelect k))

/-- SERVICE_TIME_HALVING (R257): every 100 ms all S_c are halved. -/
def serviceTimeHalving (s : State) : State :=
  forUpTo (2 * s.bayCount) (fun k s =>
    let q := s.schedS k
    s.setSched k { q with serv0 := q.serv0 / 2, serv2 := q.serv2 / 2, serv3 := q.serv3 / 2 }) s

/-- SERVICE_TIME_HALVING. -/
def execServiceTimeHalving (s : State) : Result := clocked s (serviceTimeHalving s)

/-- The OPID of the servo entry in progress. -/
def ServoSt.opidNow (v : ServoSt) : Nat := match v.entry with | some e => e.at 0 64 | none => 0

/-- SEEK_TIMEOUT (R183, R258): the servo entry completes with TIMEOUT; a released operation whose SEEK it was completes
with 0x0031, its band pointers handled as a write fault. -/
def seekTimeout (k : Slice) (s : State) : State :=
  let v := s.servoS k
  let s := s.seekExpired k
  match (s.schedS k).released with
  | none => s
  | some m =>
    if v.opNow = opSeek ∧ v.opidNow = Desc.opid m.desc then
      let s := s.setSched k { (s.schedS k).serve (Desc.cls m.desc) (s.now - (s.schedS k).releasedAt) with released := none }
      (s.bandWriteDone k m.desc 0 false).schedComplete k m.desc 0x31
    else s

/-- SEEK_TIMEOUT. -/
def execSeekTimeout (k : Slice) (s : State) : Result := clocked s (s.whileRuns (64 + k.val / 2) (seekTimeout k))

end Sys2Proof.Machine
end

