-- ==== Sys2Proof/Machine/Slice.lean ====
section
/-! DEFINITION. Sys2Proof/Machine/Slice.lean: the channel slices (R108 to R137, R607): the start of an operation, the
heat-assisted write sequence by armed actions, reading, deferred decoding, the retry ladder, and completions. -/
namespace Sys2Proof.Machine
open Sys2Proof

/-! ### Angles and rates -/

/-- A time in ns as au at the rate in effect, rounded up (R118). -/
def State.auOf (s : State) (b ns : Nat) : Nat :=
  let per := s.rd (ANG_PERIOD_NS b)
  if per = 0 then 0 else (ns * 2 ^ 20 + per - 1) / per

/-- The zone of an operation on slice `k`. -/
def State.opZone (s : State) (k : Nat) (e : Entry) : Nat := (s.zoneOf k (Desc.head e) (Desc.track e)).getD 0

/-- BPR of an operation's zone. -/
def State.opBpr (s : State) (k : Nat) (e : Entry) : Nat := s.rd (CS_ZONE1_BPR k (Desc.head e) (s.opZone k e))

/-- What an operation starting on slice `k` takes from the registers of its head and zone (R110, R244). -/
def State.opFmt (s : State) (k : Nat) (e : Entry) : OpFmt :=
  let h := Desc.head e
  let z := s.opZone k e
  { zone := z, bpr := s.rd (CS_ZONE1_BPR k h z), spt := s.rd (CS_ZONE2_SPT k h z), tskew := s.rd (CS_ZONE2_TSKEW k h z)
    sfw := s.rd (CS_HFMT_SFW k h), lmon := s.rd (CS_HFMT_LMON k h), lwrite := s.rd (CS_HLASER_LWRITE k h)
    lbias := s.rd (CS_HLASER_LBIAS k h), hwrite := s.rd (CS_HHTR_HWRITE k h), hread := s.rd (CS_HHTR_HREAD k h)
    wcur := s.rd (CS_HWRITE_WCUR k h), ovshoot := s.rd (CS_HWRITE_OVSHOOT k h), pcstep := s.rd (CS_HWRITE_PCSTEP k h)
    precomp := (List.range 16).map fun n =>
      (BitVec.ofNat 8 (bitsOf (s.reg (CS_CAL k h (12 + n / 4))) (n % 4 * 8) 8)).toInt }

/-! ### Angles of an operation -/

/-- Spindle au from angle `x` to the start of the next servo field under head `h`. -/
def State.toServo (s : State) (k h x : Nat) : Nat :=
  let nw := s.nWedges (bayOf k)
  let ha := (x + 2 ^ 20 - s.rd (ANG_SKEW_AU (bayOf k) (actOf k) h) % 2 ^ 20) % 2 ^ 20
  wedgeAngle nw (((ha + 1) * nw + 2 ^ 20 - 1) / 2 ^ 20) - ha

/-- The au from θ0 at which the medium access of an operation ends: its last sector's end, or the end of the sector before
the one it stops at. -/
def SliceOp.span (o : SliceOp) : Nat :=
  match o.stopAt with
  | some (n, _) => if n = 0 then 0 else o.ends.getD (n - 1) 0
  | none => o.ends.getLastD 0

/-- The au from θ0 to a spindle angle. -/
def SliceOp.elapsed (o : SliceOp) (x : Nat) : Nat := (x + 2 ^ 32 - o.theta0.toNat) % 2 ^ 32

/-- Its first sector has begun when the counter stands at `cnt`. -/
def SliceOp.begun (o : SliceOp) (cnt : Nat) : Bool := decide (o.elapsed cnt < 2 ^ 31)

/-! ### Ending the medium access -/

/-- The operation in progress ends with a status; its completion waits its turn. -/
def State.endOp (s : State) (k status : Nat) : State :=
  match s.curOp k with
  | none => s
  | some o =>
    let s := (s.setCurOp k { o with ended := true, status := max o.status status }).showSlice k
    s.setSlice k { s.sliceS k with readGate := false, gateAt := [] }

/-- A write ends with cause 5, which counts towards a calibration (R122, R242). -/
def State.laserFault (s : State) (k n : Nat) (o : SliceOp) : State :=
  ((s.endWrite k 5 n).noteCause5 k (Desc.head o.desc)).facetCause (sliceFct k) 11

/-- A write reached the end of its last sector, θe, or the sector before which it stops on a cause (R115, R116, R125, R128):
laser and heater tails are armed (R118); the sectors before a stop are written. -/
def State.finishWrite (s : State) (k : Nat) : State :=
  match s.curOp k with
  | none => s
  | some o =>
    let h := Desc.head o.desc
    let n := Desc.count o.desc
    let te := o.theta0.toNat + o.span
    let tail := te + s.auOf (bayOf k) (s.rd (CS_HAMR1_T_LTAIL k) * 10)
    let s := s.setSlice k { s.sliceS k with lastEnd := some (BitVec.ofNat 32 te, h) }
    match o.stopAt with
    | some (i, c) => if c = 5 then s.laserFault k i o else s.endWrite k c i
    | none =>
      if o.bad.isSome then s.laserFault k n o
      else
        let s := s.setCurOp k { o with sectors := firstGood n n }
        ((s.endOp k 0).armSlice k 5 h .laser tail 0).armSlice k 6 h .heater tail o.fmt.hread

/-- A write in progress shall not begin another sector (R126, R128): it ends after the sector in progress, or before its first
one where that has not begun. -/
def State.stopBefore (s : State) (k cause : Nat) : State :=
  match s.curOp k with
  | none => s
  | some o =>
    if Desc.op o.desc ≠ 2 ∨ o.stopAt.isSome then s
    else
      let b := bayOf k
      let cnt := s.rd (ANG_CNT_VALUE b)
      let n := if o.begun cnt then writtenBy o cnt + 1 else 0
      if Desc.count o.desc ≤ n then s
      else
        let o := { o with stopAt := some (n, cause) }
        let s := s.setCurOp k o
        let a := s.slot b (sliceSlot k 4)
        if a.armed ∧ o.span < o.elapsed a.target.toNat then
          s.setSlot b (sliceSlot k 4) { a with target := BitVec.ofNat 32 (o.theta0.toNat + o.span) }
        else s

/-- A laser-monitor report for slice `k` (R122, R125): from 400 ns after the laser reached its level, one out of tolerance
makes the sector in progress not good, and two in a row end the write with cause 5. -/
def State.laserMonitor (s : State) (k value : Nat) : State :=
  let sl := s.sliceS k
  match s.curOp k, sl.writeLevelAt with
  | some o, some t =>
    if Desc.op o.desc ≠ 2 ∨ s.now < t + 400 ∨ sl.laser.toNat ≠ o.fmt.lwrite then s
    else
      let cnt := s.rd (ANG_CNT_VALUE (bayOf k))
      let bad := decide (o.fmt.lmon * s.clamp (CS_CTL_LMTOL k) 2 25 < ((value : Int) - o.fmt.lmon).natAbs * 100)
      let s := s.setSlice k { sl with monBad := if bad then sl.monBad + 1 else 0 }
      if ¬ bad then s
      else if 1 ≤ sl.monBad then (s.setSlice k { s.sliceS k with monBad := 0 }).laserFault k (writtenBy o cnt) o
      else if o.begun cnt then (s.setCurOp k { o with bad := some (o.bad.getD (writtenBy o cnt)) }).stopBefore k 5
      else s
  | _, _ => s

/-- Replace the `j`-th operation that a slice holds. -/
def State.setOp (s : State) (k j : Nat) (o : SliceOp) : State :=
  s.setSlice k { s.sliceS k with ops := (s.sliceS k).ops.set j o }

/-- A frame that carried symbols or edge words of the write numbered `op`, its window beginning at the media angle `media`, is
reported or assumed DNBAD (R85, R124, R125): the write ends if it is in progress, and keeps as good only the sectors that had
ended before that window. -/
def State.frameFault (s : State) (k media op : Nat) : State :=
  match (s.sliceS k).ops.findIdx? (fun o => o.serial == op) with
  | none => s
  | some j =>
    match (s.sliceS k).ops[j]? with
    | none => s
    | some o =>
      if Desc.op o.desc ≠ 2 then s
      else
        let n := writtenBy o media
        if ¬ o.ended then s.endWrite k 2 n
        else
          let s := if o.status ≠ 0 then s
            else ((s.wr (CS_WFAULT_LAST k) 2).bump (CS_WFAULT_COUNT k)).event 6 .writeFault 2 k
          s.setOp k j { o with
            status := max o.status 0x30, cause := if o.status = 0 then 2 else o.cause
            sectors := firstGood (Desc.count o.desc) (min n (leadingGood o.sectors)) }

/-! ### Actions that fall due (R59 to R61, R113, R118, R130) -/

/-- The write gate of slice `k` opens at spindle angle `x` for the operation `o`: its symbols begin there (R113). -/
def State.openRun (s : State) (k x : Nat) (o : SliceOp) : State :=
  let sl := s.sliceS k
  s.setSlice k { sl with symRuns := sl.symRuns ++ [{ op := o.serial, next := o.posOf x }] }

/-- The write gate of slice `k` closes at spindle angle `x`. -/
def State.closeRun (s : State) (k x : Nat) (o : SliceOp) : State :=
  let sl := s.sliceS k
  s.setSlice k { sl with symRuns := sl.symRuns.map fun r =>
    if r.op = o.serial ∧ r.stop.isNone then { r with stop := some (o.posOf x) } else r }

/-- What slice `k` does when one of its own actions has fired. -/
def State.followUp (s : State) (k : Nat) (a : ActSlot) : State :=
  match s.curOp k with
  | none => s
  | some o =>
    let h := Desc.head o.desc
    let x := a.target.toNat
    let el := o.elapsed x
    let open_ := a.payload.toNat % 2 == 1
    if Desc.op o.desc = 2 then
      match a.cls with
      | .writeGate =>
        if open_ then (s.openRun k x o).armSlice k 4 h .writeGate (x + min (s.toServo k h x) (o.span - el)) 0
        else if o.span ≤ el then (s.closeRun k x o).finishWrite k
        else (s.closeRun k x o).armSlice k 3 h .writeGate (x + o.fmt.sfw) 1
      | _ => s
    else
      match a.cls with
      | .readGate =>
        if open_ then s.armSlice k 7 h .readGate (x + s.toServo k h x) 0
        else if el + o.fmt.sfw < o.span then s.armSlice k 7 h .readGate (x + o.fmt.sfw) 1
        else s
      | _ => s

/-- Before a write's gate opens the slice checks the rate and the write window (R114, R128); cause 0 for none. -/
def State.gateCause (s : State) (k : Nat) (o : SliceOp) : Nat :=
  if overRate o.fmt.bpr (s.rd (ANG_PERIOD_NS (bayOf k))) then 9
  else if ¬ s.inWriteWindow (bayOf k) ∧ (o.stopAt.isNone) then 10
  else 0

/-- The payload of WRITE_PARAMS for an operation (R82, R117). -/
def OpFmt.params (f : OpFmt) : BitVec 24 := BitVec.ofNat 24 (f.wcur + f.ovshoot * 2 ^ 8 + f.pcstep * 2 ^ 16)

/-- HEAD_SELECT and WRITE_PARAMS go out with the heater, where they are not in effect (R118). -/
def State.leadWords (s : State) (k : Nat) (o : SliceOp) : State :=
  let b := bayOf k
  let h := Desc.head o.desc
  let s := if (s.sliceS k).head = h then s else s.queueTimed b (ctlWord 4 (actOf k) h 0 1)
  if (s.sliceS k).params = some o.fmt.params then s else s.queueTimed b (ctlWord 5 (actOf k) h 0 o.fmt.params.toNat)

/-- A write gate of slice `k` that is due to open for the write `o`: it ends instead where the rate is too high, the bay has
left its write window, or it stops before its first sector. -/
def State.gateDue (s : State) (k slot : Nat) (a : ActSlot) (o : SliceOp) : State :=
  let b := bayOf k
  let c := s.gateCause k o
  let first := o.elapsed a.target.toNat = 0
  match o.stopAt with
  | some (0, c0) => if c0 = 5 then s.laserFault k 0 o else s.endWrite k c0 0
  | _ =>
    if c = 9 then s.writeFault k 9
    else if c = 10 ∧ first then s.endWrite k 10 0
    else ((if c = 10 then s.stopBefore k 10 else s).fireDue b slot).followUp k a

/-- An action in one of slice `k`'s own slots that is due and allowed. -/
def State.sliceDue (s : State) (k slot : Nat) (a : ActSlot) : State :=
  let b := bayOf k
  match s.curOp k with
  | none => s.fireDue b slot
  | some o =>
    match a.cls with
    | .writeGate =>
      if Desc.op o.desc = 2 ∧ a.payload.toNat % 2 = 1 then s.gateDue k slot a o else (s.fireDue b slot).followUp k a
    | .heater =>
      let s := if Desc.op o.desc = 2 ∧ slot = sliceSlot k 0 then s.leadWords k o else s
      s.fireDue b slot
    | _ => (s.fireDue b slot).followUp k a

/-- One slot of a bay whose action is due. Slots 0 to 7 are those of slice 2b, slots 8 to 15 those of slice 2b + 1 (R121). -/
def State.slotDue (s : State) (b slot : Nat) : State :=
  let a := s.slot b slot
  if a.armed && s.isDue b a.target a.cls then
    if slot < 16 ∧ s.actionAllowed b a.cls then s.sliceDue (2 * b + slot / 8) slot a else s.fireDue b slot
  else s

/-- ACTION_DUE (R59 to R61): the action in a slot has fallen due. Those armed before it that are due too go out before it, in
the order of arming. -/
def actionDue (b : Bay) (slot : Fin 64) (s : State) : State :=
  let a := s.slot b slot
  if a.armed && s.isDue b a.target a.cls then
    ((s.dueBefore b slot).foldl (fun s i => s.slotDue b i) s).slotDue b slot
  else s

/-- ACTION_DUE. -/
def execActionDue (b : Bay) (slot : Fin 64) (s : State) : Result := clocked s (s.whileRuns (64 + b.val) (actionDue b slot))

/-! ### The start of an operation (R110, R114, R118, R119, R128, R129) -/

/-- The statuses with which an operation is refused at its start; the highest is reported (R137). -/
def State.startStatus (s : State) (k : Nat) (e : Entry) : Nat :=
  let b := bayOf k
  let h := Desc.head e
  let z := s.zoneOf k h (Desc.track e)
  let wr := Desc.op e == 2
  let on (c : Bool) (n : Nat) : Nat := if c then n else 0
  [on (wr && (! s.on (ANG_STAT_WOK b) || ! s.on (BL_CTL_ATTACHED b))) 0x10,
   on (wr && ! s.inWriteWindow b) 0x11,
   on (wr && s.on (BL_STAT_WSAFE b)) 0x12,
   on (overRate (s.opBpr k e) (s.rd (ANG_PERIOD_NS b))) 0x13,
   on (s.isRetired (Desc.hport e) || decide (s.headCount b (actOf k) ≤ h)) 0x14,
   on (z.isNone || ! s.zonesRise k h || ! s.zoneValid k h (z.getD 0)) 0x15,
   on (! s.on (CS_CTL_EN k)) 0x31].foldl max 0

/-- Fetch a write's sectors (R115) and compare their metadata (R116): the bytes, the first sector that fails with its
cause, and the state after the fetches. -/
def State.fetchSectors (s : State) (buf band index i : Nat) : Nat → List (List Byte) × Option (Nat × Nat) × State
  | 0 => ([], none, s)
  | fuel + 1 =>
    match s.busRead false (buf + 4160 * i) 4160 with
    | (none, s) => ([], some (i, 12), s)
    | (some bs, s) =>
      if leNat ((bs.drop 4112).take 4) = band ∧ leNat ((bs.drop 4116).take 4) = (index + i) % 2 ^ 32 then
        let r := State.fetchSectors s buf band index (i + 1) fuel
        (bs :: r.1, r.2.1, r.2.2)
      else ([], some (i, 8), s)

/-- The operation begins: it is the last one taken. -/
def State.takeOp (s : State) (k : Nat) (o : SliceOp) : State :=
  let sl := s.sliceS k
  (s.setSlice k { sl with
    ops := sl.ops ++ [{ o with released := (s.schedS k).releasedAt, serial := sl.nextSerial }], nextSerial := sl.nextSerial + 1 }).showSlice k

/-- The spindle angle, counted on from `cnt`, at which the tail of the previous write takes laser and heater down, where it is
still to come (R118). -/
def State.tailAt (s : State) (k cnt : Nat) : Option Nat :=
  let a := s.slot (bayOf k) (sliceSlot k 6)
  if a.armed then some (cnt + (a.target.toNat + 2 ^ 32 - cnt % 2 ^ 32) % 2 ^ 32) else none

/-- Arm the opening events of a write (R118 to R120): an event is left out where what it sets is in effect already and no tail
is still to come that would take it down. -/
def State.armWrite (s : State) (k : Nat) (o : SliceOp) (merged : Bool) : State :=
  let b := bayOf k
  let h := Desc.head o.desc
  let t := o.theta0.toNat + 2 ^ 32
  let sl := s.sliceS k
  let tail := (s.slot b (sliceSlot k 6)).armed
  let ramp := s.auOf b (s.rd (CS_HAMR1_T_LRAMP k) * 10) + s.auOf b (s.rd (CS_HAMR1_T_LSET k) * 10)
  if merged then (((s.disarmSlice k 5).disarmSlice k 6).leadWords k o).armSlice k 3 h .writeGate t 1
  else
    let s := if sl.heater.toNat = o.fmt.hwrite ∧ sl.head = h ∧ ¬ tail then s.leadWords k o
      else s.armSlice k 0 h .heater (t - s.auOf b (s.rd (CS_HAMR0_T_HTR k) * 100)) o.fmt.hwrite
    let s := if o.fmt.lbias ≤ sl.laser.toNat ∧ ¬ tail then s
      else s.armSlice k 1 h .laser (t - s.auOf b (s.rd (CS_HAMR0_T_LBIAS k) * 10)) o.fmt.lbias
    let s := s.armSlice k 2 h .laser (t - ramp) (o.fmt.lwrite + s.rd (CS_HAMR1_T_LRAMP k) * 2 ^ 16)
    s.armSlice k 3 h .writeGate t 1

/-- The previous write on the same head ended within the merge window and its laser is still at LWRITE (R120). -/
def State.merges (s : State) (k h ang cnt : Nat) : Bool :=
  let sl := s.sliceS k
  match sl.lastEnd with
  | none => false
  | some (te, h') =>
    let gap := (ang + 2 ^ 20 - te.toNat % 2 ^ 20) % 2 ^ 20
    h' == h && (s.slot (bayOf k) (sliceSlot k 5)).armed && decide (gap ≤ s.rd (CS_HAMR1_MERGE k) * 256)
      && decide ((te.toNat + gap + 2 ^ 32 - cnt) % 2 ^ 32 < 2 ^ 31)

/-- A write starts on slice `k` (R110, R115, R116, R118 to R120). -/
def State.startWrite (s : State) (k : Nat) (e : Entry) : State :=
  let b := bayOf k
  let h := Desc.head e
  let f := s.opFmt k e
  let g := s.sectorAngles k h f.zone (Desc.track e) (Desc.sector e) (Desc.count e)
  let ang := s.spindleAngle k h g.1
  let cnt := s.rd (ANG_CNT_VALUE b)
  let merged := s.merges k h ang cnt
  let sl := s.sliceS k
  let warm := sl.heater.toNat = f.hwrite ∧ sl.head = h ∧ (s.tailAt k cnt).isNone
  let lead := if warm then s.auOf b (s.rd (CS_HAMR0_T_LBIAS k) * 10) else s.auOf b (s.rd (CS_HAMR0_T_HTR k) * 100)
  let first := nextAngle cnt ang 0
  let late := ! merged && decide (first < (s.tailAt k cnt).getD cnt + lead)
  let d := s.fetchSectors (Desc.buf e) (Desc.band e) (Desc.index e) 0 (Desc.count e)
  let s := d.2.2
  let o : SliceOp := { desc := e, fmt := f, theta0 := BitVec.ofNat 32 (if late then first + 2 ^ 20 else first), ha0 := g.1
                       ends := g.2, sectors := firstGood (Desc.count e) 0, data := d.1, lateRev := late, stopAt := d.2.1, began := s.now }
  let s := s.takeOp k o
  match d.2.1, s.curOp k with
  | some (0, c), _ => s.endWrite k c 0
  | _, some o => s.armWrite k o merged
  | _, none => s

/-- A read or verify starts on slice `k` (R110, R129, R130): SRATE is set, head and heater where they are not in effect; without
an angle it waits for one. -/
def State.startRead (s : State) (k : Nat) (e : Entry) : State :=
  let b := bayOf k
  let a := actOf k
  let h := Desc.head e
  let f := s.opFmt k e
  let g := s.sectorAngles k h f.zone (Desc.track e) (Desc.sector e) (Desc.count e)
  let l := s.fieldAngles k h f.zone (Desc.track e) (Desc.sector e) (Desc.count e)
  let a0 := l.headD 0
  let first := nextAngle (s.rd (ANG_CNT_VALUE b)) (s.spindleAngle k h a0) 0
  let s := s.setSrate k f.bpr
  let s := if (s.sliceS k).head = h then s else s.queueTimed b (ctlWord 4 a h 0 1)
  let s := if (s.sliceS k).heater.toNat = f.hread then s
    else (s.setSlice k { s.sliceS k with heater := BitVec.ofNat 10 f.hread }).queueTimed b (ctlWord 3 a h 0 f.hread)
  let o : SliceOp := { desc := e, fmt := f, theta0 := BitVec.ofNat 32 first, ha0 := a0
                       ends := g.2.map fun x => x + (g.1 + 2 ^ 20 - a0) % 2 ^ 20, starts := l.map fun x => (x + 2 ^ 20 - a0) % 2 ^ 20
                       sectors := firstGood (Desc.count e) 0, began := s.now
                       lostAt := if s.rd (ANG_STAT_SRC b) = srcWedge then none else some s.now }
  let s := s.takeOp k o
  (s.setSlice k { s.sliceS k with samples := [] }).armSlice k 7 h .readGate first 1

/-- SLICE_HANDOVER (R258): on track, the released operation is handed to slice `k`. -/
def sliceHandover (k : Slice) (s : State) : State :=
  match (s.schedS k).released with
  | none => s
  | some m =>
    let e := m.desc
    let v := s.servoS k
    if ¬ s.on (SRV_STAT_ONTRK k) ∨ v.target ≠ Desc.track e ∨ v.head ≠ Desc.head e ∨ ¬ s.mediaIdle k then s
    else
      let s := s.setSched k { s.schedS k with released := none }
      let st := s.startStatus k e
      let s : State := if st ≠ 0 then
          s.takeOp k { desc := e, ended := true, status := st, sectors := firstGood (Desc.count e) 0, began := s.now }
        else if Desc.op e = 2 then s.startWrite k e
        else s.startRead k e
      s.showSched k

/-- SLICE_HANDOVER. -/
def execSliceHandover (k : Slice) (s : State) : Result := clocked s (s.whileOn k.val (sliceHandover k))

/-! ### Reading (R130 to R134, R607) -/

/-- A sector's bytes could not be placed in BUF (R607): the operation stops there, and no later sector is good. -/
def State.stopRead (s : State) (k j i : Nat) (o : SliceOp) : State :=
  let n := o.sectors.length
  let left := (List.range n).filter fun x => decide (i ≤ x)
  let bad := (left.filter fun x => match o.sectors.getD x .todo with | .unreadable => false | .misdirected => false | _ => true).length
  ((s.setOp k j { o with ended := true, stopped := true, status := max o.status 0x22
                         sectors := (List.range n).map fun x => if x < i then o.sectors.getD x .todo else .unreadable }).bump
    (CS_UNC_COUNT k) bad).showSlice k

/-- Sector `i` of operation `j` is unreadable (R134): its buffer area is filled with 0xFF, unless the operation is a VERIFY. -/
def State.unreadableAt (s : State) (k j i : Nat) (st : SectorSt) : State :=
  match (s.sliceS k).ops[j]? with
  | none => s
  | some o =>
    if o.stopped then s
    else
      let w := if Desc.op o.desc = 1 then s.busWrite false (Desc.buf o.desc + 4160 * i) (List.replicate 4160 0xFF) else (none, s)
      let s := w.2
      match w.1 with
      | some _ => s.stopRead k j i o
      | none => (s.setOp k j { o with sectors := o.sectors.set i st }).bump (CS_UNC_COUNT k)

/-- Sector `i` of operation `j` decoded to `data` at `step` (R133, R607): misdirected, it is reread once; otherwise it is placed
in BUF and good, or it stops the read. -/
def State.decodedAt (s : State) (k j i step : Nat) (data : List Byte) : State :=
  match (s.sliceS k).ops[j]? with
  | none => s
  | some o =>
    let band := leNat ((data.drop 4112).take 4)
    let index := leNat ((data.drop 4116).take 4)
    if band ≠ Desc.band o.desc ∨ index ≠ (Desc.index o.desc + i) % 2 ^ 32 then
      if o.misdir.contains i then s.unreadableAt k j i .misdirected
      else s.setOp k j { o with sectors := o.sectors.set i .reread, misdir := i :: o.misdir }
    else
      let w := if Desc.op o.desc = 1 then s.busWrite false (Desc.buf o.desc + 4160 * i) data else (none, s)
      let s := w.2
      match w.1 with
      | some _ => s.stopRead k j i o
      | none => ((s.setOp k j { o with sectors := o.sectors.set i (.good step) }).bump (CS_RD_SECT_COUNT k)).bump (CS_STEPCNT_COUNT k step)

/-- The bytes of sector `i` of an operation that a decoding of at most `lim` local iterations gives (R131, R132). -/
def SliceOp.sectorBytes (o : SliceOp) (i lim : Nat) (r : SectorRead) : Option (List Byte) :=
  if r.iters ≤ lim then decodeWord (Desc.index o.desc + i) r.word else none

/-- The local iterations of on-the-fly decoding (R132). -/
def State.otfIters (s : State) (k : Nat) : Nat := max 1 (s.rd (CS_DEC_OTF_GLOBAL k)) * max 1 (s.rd (CS_DEC_OTF_LOCAL k))

/-- Deferral slots of slice `k` (R132). -/
def State.deferSlots (s : State) (k : Nat) : Nat := s.clamp (CS_DEFER_SLOTS k) 8 64

/-- The deferral slots of slice `k` whose sectors are still deferred. -/
def State.deferLive (s : State) (k : Nat) : List (Nat × Nat × Nat) :=
  let sl := s.sliceS k
  sl.defer.filter fun p => sl.ops.any fun o => o.serial == p.2.1 && o.sectors.getD p.2.2 .todo == .deferred

/-- Sector `i` of operation `j` is put into a free deferral slot, its raw samples written to DRAM (R132); false where none is
free. -/
def State.deferSector (s : State) (k j i : Nat) (raw : List (Option (BitVec 6))) : Bool × State :=
  match (s.sliceS k).ops[j]?, (List.range (s.deferSlots k)).find? (fun n => ! (s.deferLive k).any fun p => p.1 == n) with
  | some o, some n =>
    let at_ := s.rd (CS_DEFER_BASE_ADDR k) + 49152 * n
    let live := s.deferLive k
    let s := (s.busWrite false at_ ((List.range (min 49152 raw.length)).map (Config.sampleByte raw))).2
    let s := s.setOp k j { o with sectors := o.sectors.set i .deferred, usedDefer := true }
    (true, (s.setSlice k { s.sliceS k with defer := live ++ [(n, o.serial, i)] }).showSlice k)
  | _, _ => (false, s)

/-- The highest step allowed (R135). -/
def State.maxStep (s : State) (k : Nat) (o : SliceOp) : Nat := min (Desc.retry o.desc) (s.rd (CS_RETRY_MAXSTEP k))

/-- The operation in progress, if it is a read or verify, ends at this sector boundary because a flush began (R405). -/
def State.cutNow (s : State) (k : Nat) : State :=
  match s.curOp k with
  | some o => if o.cut then s.endOp k 0x31 else s
  | none => s

/-- The sector that the samples at hand are those of: the next one of the read in progress, or one that is reread as
misdirected (R131, R133). -/
def State.nextSector (s : State) (k : Nat) : Option (Nat × Nat) :=
  let ops := (s.sliceS k).ops
  let find (j : Nat) (st : SectorSt) : Option (Nat × Nat) := ((ops.getD j {}).sectors.findIdx? (· == st)).map fun i => (j, i)
  match find (ops.length - 1) .todo with
  | some p => some p
  | none => (List.range ops.length).findSome? fun j => if (ops.getD j {}).ended then none else find j .reread

/-- A sector that on-the-fly decoding gave nothing for (R132, R135): deferred where a slot is free, else it goes to step 2 of
the retry ladder; unreadable where no step is allowed. -/
def State.notDecoded (s : State) (k j i : Nat) (raw : List (Option (BitVec 6))) : State :=
  match (s.sliceS k).ops[j]? with
  | none => s
  | some o =>
    if s.maxStep k o = 0 then s.unreadableAt k j i .unreadable
    else
      let d := s.deferSector k j i raw
      if d.1 then d.2 else s.setOp k j { o with sectors := o.sectors.set i .failing }

/-- Where sectors of the read in progress wait to be reread as misdirected and none is still to come, the gate is armed for the
first of them (R133). -/
def State.armReread (s : State) (k : Nat) : State :=
  match s.curOp k with
  | none => s
  | some o =>
    if Desc.op o.desc = 2 ∨ o.sectors.contains .todo ∨ (s.slot (bayOf k) (sliceSlot k 7)).armed then s
    else match o.sectors.findIdx? (· == .reread) with
      | none => s
      | some i => s.rereadFrom k i

/-- SECTOR_DECODE (R131 to R133): the samples accepted through the read gate are decoded on the fly as the next sector of the
read in progress, or as one reread as misdirected. -/
def sectorDecode (k : Slice) (r : SectorRead) (s : State) : State :=
  match s.nextSector k with
  | none => s
  | some (j, i) =>
    match (s.sliceS k).ops[j]? with
    | none => s
    | some o =>
      if Desc.op o.desc = 2 ∨ o.ended ∨ s.rd (ANG_STAT_SRC (bayOf k)) ≠ srcWedge then s
      else if o.cut then s.cutNow k
      else
        let raw := (s.sliceS k).samples.map Prod.snd
        if raw.isEmpty then s
        else
          let lim := s.otfIters k
          let s := s.setOp k j { o with iters := max o.iters (min lim r.iters) }
          let s := s.setSlice k { s.sliceS k with samples := [] }
          let s := match o.sectorBytes i lim r with
            | some d => s.decodedAt k j i (if o.misdir.contains i then o.step else 0) d
            | none => s.notDecoded k j i raw
          s.armReread k

/-- SECTOR_DECODE. -/
def execSectorDecode (k : Slice) (r : SectorRead) (s : State) : Result := clocked s (s.whileRuns k.val (sectorDecode k r))

/-- The first operation with a deferred sector `i`. -/
def State.deferredOp (s : State) (k i : Nat) : Option Nat :=
  (s.sliceS k).ops.findIdx? fun o => o.sectors.getD i .todo == .deferred

/-- DEFERRED_DECODE (R132): step 1 of sector `i` of the oldest operation that deferred it ends, decoded or not within DEF_ITER
local iterations. -/
def deferredDecode (k : Slice) (i : Nat) (r : SectorRead) (s : State) : State :=
  match s.deferredOp k i with
  | none => s
  | some j =>
    match (s.sliceS k).ops[j]? with
    | none => s
    | some o =>
      let lim := s.rd (CS_DEC_DEF_ITER k)
      let o := { o with iters := max o.iters (min lim r.iters), step := max o.step 1 }
      let s := s.setOp k j o
      (match o.sectorBytes i lim r with
        | some d => s.decodedAt k j i 1 d
        | none => s.setOp k j { o with sectors := o.sectors.set i .failing }).showSlice k

/-- DEFERRED_DECODE. -/
def execDeferredDecode (k : Slice) (i : Nat) (r : SectorRead) (s : State) : Result := clocked s (s.whileRuns k.val (deferredDecode k i r))

/-! ### Retry ladder (R135, R136) -/

/-- Revolutions of a step (Retry ladder table). -/
def stepRevs (n : Nat) : Nat := [0, 0, 1, 2, 4, 4, 2, 0].getD n 0

/-- The operation that the retry ladder works on: the first with failing sectors and none still to come. -/
def State.retryOp (s : State) (k : Nat) : Option Nat :=
  (s.sliceS k).ops.findIdx? fun o => ! o.ended && Desc.op o.desc != 2 && o.sectors.contains .failing
    && ! o.sectors.any fun x => x == .todo || x == .reread || x == .deferred

/-- An OFFSET entry for the servo of slice `k`, in 2^−15 track (R135, R181). -/
def offsetEntry (opid h : Nat) (v : Int) : Entry :=
  mkEntry [(0, 64, opid), (64, 8, opOffset), (72, 4, h), (128, 16, (v % 65536).toNat)]

/-- What a step asks of other units. Step 4 requests four off-track offsets through LP 128 + k and then the track's centre
again; step 6 raises the heater to HREAD + 5 %, and an action takes it back to HREAD after the step's two revolutions. -/
def State.stepSetup (s : State) (k step : Nat) (o : SliceOp) : State :=
  let h := Desc.head o.desc
  if step = 4 then
    let p : Int := (s.rd (CS_RETRY_OFF1 k) * 32768 / 100 : Nat)
    let q : Int := (s.rd (CS_RETRY_OFF2 k) * 32768 / 100 : Nat)
    [p, -p, q, -q, 0].foldl (fun s v => s.hwPush (128 + k) (offsetEntry (Desc.opid o.desc) h v)) s
  else if step = 6 then
    let up := min 1023 (o.fmt.hread * 105 / 100)
    let s := (s.setSlice k { s.sliceS k with heater := BitVec.ofNat 10 up }).queueTimed (bayOf k) (ctlWord 3 (actOf k) h 0 up)
    (s.armSlice k 6 h .heater (s.rd (ANG_CNT_VALUE (bayOf k)) + 2 ^ 21) o.fmt.hread).noteStep6 k h
  else s

/-- The local iterations that a step allows (R132, R135): step 2 repeats steps 0 and 1; for the others none is stated. -/
def State.stepIters (s : State) (k step iters : Nat) : Nat :=
  if step = 2 then max (s.otfIters k) (s.rd (CS_DEC_DEF_ITER k)) else iters

/-- The results of one step over the failing sectors, in rotational order. -/
def State.retryResults (s : State) (k j step : Nat) : List Nat → List SectorRead → State
  | [], _ => s
  | i :: r, rs =>
    match (s.sliceS k).ops[j]? with
    | none => s
    | some o =>
      let x := rs.headD {}
      if o.stopped then s
      else
        let lim := s.stepIters k step x.iters
        let s := s.setOp k j { o with
          iters := max o.iters (min lim x.iters), usedDefer := o.usedDefer || (step == 2 && decide (s.otfIters k < x.iters)) }
        State.retryResults (match o.sectorBytes i lim x with
          | some d => s.decodedAt k j i step d
          | none => s) k j step r rs.tail

/-- RETRY_STEP (R135): the next step runs over every failing sector of the operation; beyond the last step or the
revolutions allowed, each sector not decoded is unreadable. -/
def retryStep (k : Slice) (rs : List SectorRead) (s : State) : State :=
  match s.retryOp k with
  | none => s
  | some j =>
    match (s.sliceS k).ops[j]? with
    | none => s
    | some o =>
      let step := max o.step 1 + 1
      let failing := (List.range o.sectors.length).filter fun i => o.sectors.getD i .todo == .failing
      if o.cut then (s.setOp k j { o with ended := true, status := max o.status 0x31 }).showSlice k
      else if s.maxStep k o < step ∨ max 1 (s.rd (CS_RETRY_MAXREV k)) < o.revs + stepRevs step then
        failing.foldl (fun s i => s.unreadableAt k j i .unreadable) s
      else
        let s := s.setOp k j { o with step := step, revs := o.revs + stepRevs step }
        ((s.stepSetup k step o).retryResults k j step failing rs).armReread k

/-- RETRY_STEP. -/
def execRetryStep (k : Slice) (rs : List SectorRead) (s : State) : Result := clocked s (s.whileRuns k.val (retryStep k rs))

/-- NO_ANGLE_TIMEOUT (R130): SRC has not returned within 100 ms of its loss, and the read completes with NO_ANGLE. -/
def noAngleTimeout (k : Slice) (s : State) : State :=
  match s.curOp k with
  | none => s
  | some o =>
    if Desc.op o.desc ≠ 2 ∧ o.lostAt.isSome ∧ s.rd (ANG_STAT_SRC (bayOf k)) ≠ srcWedge then s.endOp k 0x16 else s

/-- NO_ANGLE_TIMEOUT. -/
def execNoAngleTimeout (k : Slice) (s : State) : Result := clocked s (s.whileRuns k.val (noAngleTimeout k))

/-! ### Completions (R125, R126, R136, R137) -/

/-- A sector is good. -/
def sectorGood : SectorSt → Bool
  | .good _ => true
  | _ => false

/-- Symbols of a write are still to be sent, or a frame that carried some, or its edge words, has not been answered (R125). -/
def State.framesOut (s : State) (k : Nat) (o : SliceOp) : Bool :=
  (s.sliceS k).symRuns.any (fun r => r.op == o.serial) ||
    (s.beamS (bayOf k)).sent.any fun f => (if actOf k = 0 then f.op0 else f.op1).contains o.serial

/-- The operation is ready to be posted. -/
def State.opReady (s : State) (k : Nat) (o : SliceOp) : Bool :=
  if Desc.op o.desc = 2 then o.ended && ! s.framesOut k o
  else o.ended && ! o.sectors.contains .deferred
    || o.sectors.all fun x => match x with | .good _ | .unreadable | .misdirected => true | _ => false

/-- STATUS of a completed operation: the highest that applies (R136, R137). -/
def SliceOp.finalStatus (o : SliceOp) : Nat :=
  let l := o.sectors
  if Desc.op o.desc = 2 then o.status
  else
    [o.status,
     if l.any fun x => match x with | .good n => decide (2 ≤ n) | _ => false then 1 else 0,
     if l.contains .unreadable ∧ ¬ o.stopped then 0x20 else 0,
     if l.contains .misdirected then 0x21 else 0].foldl max 0

/-- FLAGS of a completed operation. -/
def SliceOp.flags (o : SliceOp) : Nat :=
  o.adjSuspect.toNat + (o.sectors.any fun x => match x with | .good n => decide (4 ≤ n) | _ => false).toNat * 2
    + o.usedDefer.toNat * 4 + o.lateRev.toNat * 8

/-- The sectors of a write that are good leave the block as what is now on the surface. -/
def State.emitSectors (s : State) (o : SliceOp) (n : Nat) : State :=
  forUpTo n (fun i s => s.emit (.sector (Desc.hport o.desc) (Desc.track o.desc) (Desc.sector o.desc + i) (o.data.getD i []))) s

/-- Post the completion of the oldest operation of slice `k`. -/
def State.postOp (s : State) (k : Nat) (o : SliceOp) : State :=
  let sl := s.sliceS k
  let s := s.setSlice k { sl with ops := sl.ops.drop 1 }
  let s := s.setSched k ((s.schedS k).serve (Desc.cls o.desc) (s.now - o.released))
  let s := s.showSlice k
  let good := (o.sectors.filter sectorGood).length
  let wr := Desc.op o.desc == 2
  let dn := if wr then leadingGood o.sectors else good
  let unc := (o.sectors.filter fun x => x == .unreadable || x == .misdirected).length
  let firstBad := (o.sectors.findIdx? (fun x => ! sectorGood x)).getD 0xFFFF
  let s := if wr then (s.bump (CS_WR_SECT_COUNT k) dn).emitSectors o dn else s
  let s := s.noteOp k (Desc.head o.desc) wr dn (s.now - o.began)
  let st := o.finalStatus
  let s := s.postCompletion k (Desc.opid o.desc) st (if st = 0x30 then o.cause else 0) o.flags dn unc firstBad o.step o.revs o.iters
  if wr then s.bandWriteDone k o.desc dn o.adjSuspect
  else s.adjVerified o.desc ((List.range (Desc.count o.desc)).filter fun i => ! (o.sectors[i]?.elim false sectorGood))

/-- SLICE_COMPLETION (R137): the oldest operation of slice `k`, if it is finished, posts its completion; a write posts only
after the upstream frames of all frames that carried its symbols (R125). -/
def sliceCompletion (k : Slice) (s : State) : State :=
  let s := s.cutNow k
  match (s.sliceS k).ops with
  | [] => s
  | o :: _ => if s.opReady k o then s.postOp k o else s

/-- SLICE_COMPLETION. -/
def execSliceCompletion (k : Slice) (s : State) : Result := clocked s (s.whileRuns k.val (sliceCompletion k))

end Sys2Proof.Machine
end

