-- ==== Sys2Proof/Machine/Facet.lean ====
section
/-! DEFINITION. Sys2Proof/Machine/Facet.lean: the Facet microsequencers (R139 to R165): microwords in both sequencing
modes, nanowords, micro-traps, store protection and scrubbing, the store windows, and bank switching. What a word does
in the engine's datapath is stated by fields and not by operation codes: what rests on the codes is free values. -/
namespace Sys2Proof.Machine
open Sys2Proof

/-! ### State of a Facet -/

/-- The record of a Facet. -/
def State.fct (s : State) (f : FacetId) : FctSt := s.facetS (facetNo f)

/-- The flags Z, N, V, C as the four bits of FCT_SHADOW and FCT_UPC, Z highest (R165; the order is DEDUCED, log entry 15). -/
def flagBits (v : FctSt) : Nat := 8 * v.z.toNat + 4 * v.n.toNat + 2 * v.v.toNat + v.c.toNat

/-- Replace the record of a Facet; FCT_UPC shows the sequencer live (R165). -/
def State.setFct (s : State) (f : FacetId) (v : FctSt) : State :=
  let blk := facetBase f
  let s := s.setFacet (facetNo f) v
  let s := (s.wr (FCT_UPC_UPC blk) v.upc.toNat).wr (FCT_UPC_LC blk) v.lc.toNat
  (s.wr (FCT_UPC_FLAGS blk) (flagBits v)).wr (FCT_UPC_SP blk) v.stack.length

/-- A Facet that is fused off (R139). -/
def State.facetOk (s : State) : FacetId → Bool
  | .slice k => s.sliceOk k
  | .reticle k => s.sliceOk k
  | .comm b => s.bayOk b

/-- The active and the standby bank (R158). -/
def State.activeBank (s : State) (f : FacetId) : FctBank := if s.on (FCT_STAT_BANK (facetBase f)) then (s.fct f).bank1 else (s.fct f).bank0
def State.standbyBank (s : State) (f : FacetId) : FctBank := if s.on (FCT_STAT_BANK (facetBase f)) then (s.fct f).bank0 else (s.fct f).bank1

/-- Replace a bank: the active one or the standby one. -/
def State.setActive (s : State) (f : FacetId) (b : FctBank) : State :=
  let v := s.fct f
  s.setFct f (if s.on (FCT_STAT_BANK (facetBase f)) then { v with bank1 := b } else { v with bank0 := b })
def State.setStandby (s : State) (f : FacetId) (b : FctBank) : State :=
  let v := s.fct f
  s.setFct f (if s.on (FCT_STAT_BANK (facetBase f)) then { v with bank0 := b } else { v with bank1 := b })

/-- The Facet issues words: RUN is 1 and it is not halted. -/
def State.fctRuns (s : State) (f : FacetId) : Bool :=
  s.facetOk f && s.on (FCT_CTL_RUN (facetBase f)) && ! s.on (FCT_STAT_HALT (facetBase f))

/-! ### Words (R141 to R145) -/

/-- SEQ operations in both modes (R142, R143). -/
inductive SeqKind where
  | next | ret | loop | br | jmp | call | goto | brt | naLoop | dispatch | illegal
  deriving DecidableEq, Repr

/-- What a microword's SEQ field asks for (R142, R143). -/
def seqKind (na : Bool) (w : BitVec 20) : SeqKind :=
  let hi := (w.extractLsb' 10 2).toNat
  if na then
    match hi with | 0 => .goto | 1 => .brt | 2 => .naLoop | _ => .dispatch
  else
    match hi with
    | 0 => match (w.extractLsb' 8 2).toNat with | 0 => .next | 1 => .ret | 2 => .loop | _ => .illegal
    | 1 => .br
    | 2 => .jmp
    | _ => .call

/-- Fields of a microword: NP and SEQ[9:0] (R141). -/
def microNp (w : BitVec 20) : Nat := (w.extractLsb' 12 8).toNat
def seqLow (w : BitVec 20) : BitVec 10 := w.extractLsb' 0 10

/-- Common fields of a nanoword (R145). -/
def nanoTsel (w : BitVec 96) : Nat := (w.extractLsb' 92 4).toNat
def nanoTinv (w : BitVec 96) : Bool := w.getLsbD 91
def nanoWait (w : BitVec 96) : Bool := w.getLsbD 90
def nanoMret (w : BitVec 96) : Bool := w.getLsbD 89
def nanoSwp (w : BitVec 96) : Bool := w.getLsbD 88
def nanoLcld (w : BitVec 96) : Bool := w.getLsbD 87
def nanoLcv (w : BitVec 96) : BitVec 8 := w.extractLsb' 79 8
def nanoBrk (w : BitVec 96) : Bool := w.getLsbD 78

/-- Actions armed in an engine's own allowance of slots leave one free (R121, R146). -/
def State.slotFree (s : State) (f : FacetId) : Bool :=
  match f with
  | .slice k => decide (s.armedIn (bayOf k) (8 * actOf k) (8 * actOf k + 8) < 8)
  | .reticle k => decide (s.armedIn (bayOf k) 16 64 < 48)
  | .comm b => decide (s.armedIn b 16 64 < 48)

/-- The condition a nanoword's TSEL selects (R146, R164). -/
def State.condition (s : State) (f : FacetId) (env : FacetEnv) (t : Nat) : Bool :=
  let v := s.fct f
  let outer := env.conds.getLsbD t
  match t with
  | 0 => true
  | 1 => v.lc != 0
  | 2 => match f with
    | .slice k => (s.schedS k).released.isSome
    | .reticle k => ! (s.lp (128 + k)).entries.isEmpty
    | .comm b => ! (s.lp (192 + b)).entries.isEmpty
  | 3 => match f with
    | .slice k => decide (0 < (s.lp (64 + k)).free)
    | .reticle k => decide (0 < (s.lp (224 + bayOf k)).free)
    | .comm b => decide (0 < (s.lp (224 + b)).free)
  | 4 => s.slotFree f
  | 5 => outer
  | 6 => v.z
  | 7 => v.n
  | 8 => v.v
  | t => match f with
    | .slice k => match t with
      | 9 => s.on (ANG_STAT_WOK (bayOf k))
      | 14 => decide (s.rd (CS_STAT_DEFER_USED k) < s.clamp (CS_DEFER_SLOTS k) 8 64)
      | 15 => (s.sliceS k).readGate
      | _ => outer
    | .reticle k => match t with
      | 9 => (s.servoS k).newSample
      | 10 => s.servoStale k
      | 11 => s.rd (SRV_POS_REGION k) == rgFollow
      | 12 => ! s.offTrack k
      | 13 => (s.servoS k).shock
      | 14 => (s.servoS k).gainNew
      | 15 => (s.servoS k).park.isSome
      | _ => outer
    | .comm b => match t with
      | 11 => s.on (SPN_STAT_OBSOK b)
      | 12 => s.rd (ANG_STAT_SRC b) == srcWedge
      | 13 => s.on APR_BUS_STAT_OV
      | 14 => (s.spinS b).cutPhases.isSome
      | 15 => speedBeyond (s.rd (SPN_SPEED_RPM b)) (s.rd (SPN_SPEED_TARGET b)) (max 1 (s.rd (SPN_SPD_BAND b)))
      | _ => outer

/-- The commutation sector floor(θe × 6 / 2^20), where the wedges give θe = (θ P + SPN_EOFS) mod 2^20 (R207). -/
def State.commSector (s : State) (b : Nat) : Nat :=
  (s.rd (ANG_CNT_VALUE b) % 2 ^ 20 * s.rd (SPN_MOTOR_P b) + s.rd (SPN_EOFS_AU b)) % 2 ^ 20 * 6 / 2 ^ 20

/-- The 4-bit dispatch source that TSEL[1:0] selects (R143, R164): from the state, except for the sector that the observer's
angle gives. Start state is SPN_STAT.ST, hysteresis level is the level in effect, and status class is the status over 16
(DEDUCED, log entry 15). -/
def State.dispatchSource (s : State) (f : FacetId) (env : FacetEnv) (t : Nat) : BitVec 4 :=
  match f, t % 4 with
  | .reticle k, 0 => BitVec.ofNat 4 (s.rd (SRV_POS_REGION k))
  | .reticle k, 1 => BitVec.ofNat 4 (s.rd (SRV_POS_ZONE k))
  | .reticle k, 2 => BitVec.ofNat 4 (s.rd (SRV_POS_BAND k))
  | .reticle k, _ => BitVec.ofNat 4 (s.servoS k).opNow
  | .slice k, 0 => BitVec.ofNat 4 (match s.curOp k with | some o => Desc.op o.desc | none => 0)
  | .slice k, 1 => BitVec.ofNat 4 (match s.curOp k with | some o => o.step | none => 0)
  | .slice k, 2 => BitVec.ofNat 4 (match s.curOp k with | some o => o.status / 16 | none => 0)
  | .slice _, _ => 0
  | .comm b, 0 => BitVec.ofNat 4 (s.spin b)
  | .comm b, 1 => if (s.spinS b).wedge then BitVec.ofNat 4 (s.commSector b) else env.dispatch
  | .comm b, 2 => BitVec.ofNat 4 (s.rd (SPN_ILIM_LEVEL b))
  | .comm b, _ => BitVec.ofNat 4 (match (s.spinS b).entry with | some e => e.at 64 8 | none => 0)

/-! ### Halt (R153) -/

/-- The engine of a halted Facet enters its safe state (R153). -/
def State.engineSafe (s : State) (f : FacetId) : State :=
  match f with
  | .slice k =>
    let s := (s.setLaser k 0).queueSafety (bayOf k) (actOf k) (s.sliceS k).head
    s.setSlice k { s.sliceS k with writeGate := false }
  | .reticle k => s.startPark k 7
  | .comm b => s.commHalt b

/-- A Facet halts with a cause (1 double trap, 2 RUN cleared, 3 breakpoint); an event is recorded on the fault channel. -/
def State.haltFacet (s : State) (f : FacetId) (cause : Nat) : State :=
  let blk := facetBase f
  let s := ((s.put (FCT_STAT_HALT blk) true).wr (FCT_STAT_HCAUSE blk) cause).put (FCT_STAT_WAITING blk) false
  (s.event 0 .facetTrap 10 (facetNo f)).engineSafe f

/-- A cause from 0 to 3 arises: pending, or a double trap where a handler runs (R149, R152). -/
def State.hardCause (s : State) (f : FacetId) (n : Nat) : State :=
  if s.on (FCT_STAT_TRAPACT (facetBase f)) then s.haltFacet f 1 else s.facetCause (facetBase f) n

/-! ### Store protection (R155, R156) -/

/-- An error found in word `key` of the active bank (a nanoword j has key 1,024 + j): corrected and counted. -/
def State.correctWord (s : State) (f : FacetId) (key : Nat) : State :=
  let blk := facetBase f
  let b := s.activeBank f
  let s := s.setActive f (b.setErr key 0)
  let s := (s.wr (FCT_ECCADDR_ADDR blk) (key % 1024)).put (FCT_ECCADDR_STORE blk) (1024 ≤ key)
  if key < 1024 then s.bump (FCT_ECC_MCE blk) else s.bump (FCT_ECC_NCE blk)

/-- An uncorrectable error found in word `key` of the active bank. -/
def State.badWord (s : State) (f : FacetId) (key : Nat) : State :=
  let blk := facetBase f
  ((s.wr (FCT_ECCADDR_ADDR blk) (key % 1024)).put (FCT_ECCADDR_STORE blk) (1024 ≤ key)).put (FCT_ECCADDR_UE blk) true

/-- Fetch the check of word `key`: the state after correction, and false where the word cannot be used. -/
def State.fetchCheck (s : State) (f : FacetId) (key : Nat) : Bool × State :=
  match (s.activeBank f).errAt key with
  | 0 => (true, s)
  | 1 => (true, s.correctWord f key)
  | _ => (false, s.badWord f key)

/-- FACET_SCRUB (R155, R156): the scrubber reads its next word of the active bank. -/
def facetScrub (f : FacetId) (found : CodeCheck) (s : State) : State :=
  if ¬ s.facetOk f then s
  else
    let v := s.fct f
    let key := v.scrubAt % 1280
    let held := (s.activeBank f).errAt key
    let s := s.setFct f { v with scrubAt := (key + 1) % 1280 }
    let bad := found == .uncorrectable || held == 2
    let one := found == .correctable || held == 1
    if bad then
      ((s.setActive f ((s.activeBank f).setErr key 2)).badWord f key).event 0 .facetUe 10 (facetNo f)
    else if one then s.correctWord f key
    else s

/-- FACET_SCRUB. -/
def execFacetScrub (f : FacetId) (found : CodeCheck) (s : State) : Result := clocked s (s.whilePowered (facetDom f) (facetScrub f found))

/-! ### The datapath (R164) -/

/-- The sum of a multiply-accumulate, in 40 bits with 30 of fraction (R173): saturated, and whether it saturated. -/
def macSum (acc product : Int) : Int × Bool := (satInt 40 (acc + product), decide (satInt 40 (acc + product) ≠ acc + product))

/-- The coefficient that a nanoword selects: of the gain set in effect of a Reticle engine (R175); where a commutation engine's
lie is not stated, so it is a free value. -/
def State.coefficient (s : State) (f : FacetId) (w : BitVec 96) : Int :=
  match f with
  | .reticle k => s.coeff k (s.servoS k).gainSet (w.extractLsb' 66 6).toNat
  | _ => ((Config.freeWord (s.free + 1)).truncate 16 : BitVec 16).toInt

/-- The datapath of a word (R164, R173). Which operation codes are multiply-accumulates is not stated (`Config.macAdds`): those
add coefficient times state register A; every other result, the destination register and the flags beside V are fresh values
(log entry 14). A slice writes its data RAM where the word's field may ask for it, a free word at a free place. -/
def State.datapath (s : State) (f : FacetId) (w : BitVec 96) : State :=
  let v := s.fct f
  let n := s.free
  let fresh : BitVec 40 := (Config.freeWord n).truncate 40
  let flags (v : FctSt) : FctSt := { v with
    z := Config.freeBool (4 * n), n := Config.freeBool (4 * n + 1), v := Config.freeBool (4 * n + 2), c := Config.freeBool (4 * n + 3) }
  let v' : FctSt := match f with
    | .slice _ =>
      let v := { flags v with regs := smPut v.regs (w.extractLsb' 57 5).toNat fresh, stream := w.extractLsb' 53 4 }
      if w.extractLsb' 42 4 = 0 then v
      else { v with ram := smPut v.ram (Config.freeNat n) ((Config.freeWord (n + 1)).truncate 32) }
    | _ =>
      let v := { flags v with regs := smPut v.regs (w.extractLsb' 54 6).toNat fresh }
      if Config.macAdds (w.extractLsb' 72 6) then
        let a := ((smGet 0 v.regs (w.extractLsb' 60 6).toNat).truncate 16 : BitVec 16).toInt
        let m := macSum v.acc.toInt (s.coefficient f w * a)
        { v with acc := BitVec.ofInt 40 m.1, v := m.2 }
      else { v with acc := fresh }
  ({ s with free := n + 2 } : State).setFct f v'

/-- The action class of a class number (R60). -/
def classNo : Nat → Option ActionClass
  | 0 => some .readGate
  | 1 => some .writeGate
  | 2 => some .laser
  | 3 => some .heater
  | 4 => some .servoSample
  | _ => none

/-- A slice's word arms an action in one of the slice's own slots (R121, R164). How the four bits of the field name class and
slot is not stated (`Config.sliceArm`), and target and payload come from the datapath: free values. -/
def State.armField (s : State) (k : Nat) (w : BitVec 96) : State :=
  match Config.sliceArm (w.extractLsb' 49 4) with
  | none => s
  | some (c, i) => match classNo c with
    | none => s
    | some cls =>
      let n := s.free
      ({ s with free := n + 2 } : State).armSlice k (i % 8) (s.sliceS k).head cls (Config.freeNat n % 2 ^ 32) (Config.freeNat (n + 1) % 2 ^ 48)

/-- The lightpipe field of a slice's word (R164): take the descriptor that waits, push the completion that is ready to LP 64 + k,
push an entry out of the datapath to LP 128 + k. -/
def State.slicePipes (s : State) (k : Slice) (w : BitVec 96) : State :=
  let s := if w.getLsbD 48 then sliceHandover k s else s
  let s := if w.getLsbD 47 then sliceCompletion k s else s
  if w.getLsbD 46 then
    let n := s.free
    ({ s with free := n + 4 } : State).hwPush (128 + k) (mkEntry ((List.range 4).map fun i => (64 * i, 64, (Config.freeWord (n + i)).toNat)))
  else s

/-- The outputs that a word posts: VCM hold, MA hold, write inhibit and park request of a Reticle engine in bits 53 to 50
in that order, or the phase states of a commutation engine in bits 53 to 48, and the lightpipe field of each, pop in its
highest bit and push in the next (R164; the order within the fields is DEDUCED, log entry 15). An output that saturates or
an MA hold that is clipped sets V (R173, R174). -/
def State.posts (s : State) (f : FacetId) (w : BitVec 96) : State :=
  let v := s.fct f
  match f with
  | .slice k => (s.armField k w).slicePipes k w
  | .reticle k =>
    let sh := (w.extractLsb' 39 4).toNat
    let x := roundOut v.acc.toInt sh
    let sat := (w.getLsbD 53 || w.getLsbD 52) && outSaturates v.acc.toInt sh
    let s := if sat ∨ (w.getLsbD 52 ∧ s.clipMa k x ≠ x) then s.setFct f { v with v := true } else s
    let s := if w.getLsbD 52 then s.postMa k x else s
    let s := if w.getLsbD 53 then s.postVcm k x else s
    let s := if s.rd (SRV_STAT_ST k) = stActive then s.setServo k { s.servoS k with mcInhibit := w.getLsbD 51 } else s
    let s := if w.getLsbD 50 ∧ s.on (SRV_CTL_EN k) then s.startPark k 1 else s
    let s := if w.getLsbD 45 then s.popServoAny k else s
    if w.getLsbD 44 then servoResult k s else s
  | .comm b =>
    let st (i : Nat) : Nat := (w.extractLsb' i 2).toNat
    let s := if st 52 = 0 ∧ st 50 = 0 ∧ st 48 = 0 then s
      else
        let n := s.free
        let duty (i : Nat) : Nat := Config.freeNat (n + i) % 1024
        let ph (i d : Nat) : BitVec 16 := BitVec.ofNat 16 (st i * 2 ^ 14 + (if st i = 1 then duty d else 0))
        ({ s with free := n + 3 } : State).postPhases b (ph 52 0) (ph 50 1) (ph 48 2)
    if w.getLsbD 43 then s.popSpinAny b else s

/-- Reserved datapath bits of a nanoword are set (R164). -/
def reservedNano (f : FacetId) (w : BitVec 96) : Bool :=
  match f with
  | .slice _ => false
  | .reticle _ => (w.extractLsb' 0 23) != 0
  | .comm _ => (w.extractLsb' 0 21) != 0

/-! ### Bank switch (R161 to R163) -/

/-- The banks switch (R162); `entry` is where the micro-PC goes, none where the Facet is not running. -/
def State.switchBanks (s : State) (f : FacetId) (entry : Option Nat) : State :=
  let blk := facetBase f
  let mode := s.on (FCT_CTL_NAMODE blk)
  let b := s.standbyBank f
  let s := s.setStandby f { b with na := mode }
  let s := (s.put (FCT_STAT_BANK blk) (! s.on (FCT_STAT_BANK blk))).put (FCT_STAT_NAMODE blk) mode
  let s := ((s.put (FCT_SWAP_ARM blk) false).bumpWrap (FCT_SWAP_COUNT blk)).put (FCT_STAT_WAITING blk) false
  let v := s.fct f
  s.setFct f { v with
    upc := match entry with | some e => BitVec.ofNat 10 e | none => v.upc
    lc := 0, z := false, n := false, v := false, c := false, stack := [], scrubAt := 0, sinceSafe := 0 }

/-- A safe point: the watchdog restarts, and an armed switch happens while no trap handler runs (R161, R163). -/
def State.safePoint (s : State) (f : FacetId) : State :=
  let blk := facetBase f
  let s := s.setFct f { s.fct f with sinceSafe := 0 }
  if s.on (FCT_SWAP_ARM blk) ∧ ¬ s.on (FCT_STAT_TRAPACT blk) then s.switchBanks f (some (s.rd (FCT_SWAP_ENTRY blk))) else s

/-! ### Executing a word (R142 to R152) -/

/-- The lowest cause that a boundary may take (R149, R152). -/
def State.takeable (s : State) (f : FacetId) : Option Nat :=
  let blk := facetBase f
  let pend := s.rd (FCT_TPEND_PEND blk)
  let mask := s.rd (FCT_TMASK_MASK blk) * 16
  let act := s.on (FCT_STAT_TRAPACT blk)
  (List.range 16).find? fun n => pend / 2 ^ n % 2 == 1 && ! act && (n < 4 || mask / 2 ^ n % 2 == 0)

/-- Where a word goes next: micro-PC, loop counter and micro-stack (R142 to R144). -/
def State.nextWord (s : State) (f : FacetId) (env : FacetEnv) (w : BitVec 20) (n : BitVec 96) (cond : Bool) :
    BitVec 10 × BitVec 8 × List (BitVec 10) :=
  let v := s.fct f
  let pc := v.upc
  let a := seqLow w
  let dec := v.lc - 1
  match seqKind (s.activeBank f).na w with
  | .next => (pc + 1, v.lc, v.stack)
  | .ret => (v.stack.headD (pc + 1), v.lc, v.stack.tail)
  | .loop => if v.lc ≠ 0 then (pc - BitVec.zeroExtend 10 (w.extractLsb' 0 8), dec, v.stack) else (pc + 1, v.lc, v.stack)
  | .br => if cond then (pc + a, v.lc, v.stack) else (pc + 1, v.lc, v.stack)
  | .jmp => (a, v.lc, v.stack)
  | .call => (a, v.lc, (pc + 1) :: v.stack)
  | .goto => (a, v.lc, v.stack)
  | .brt => (if cond then a else pc + 1, v.lc, v.stack)
  | .naLoop => if v.lc ≠ 0 then (a, dec, v.stack) else (pc + 1, v.lc, v.stack)
  | .dispatch => ((w.extractLsb' 4 6) ++ s.dispatchSource f env (nanoTsel n), v.lc, v.stack)
  | .illegal => (pc, v.lc, v.stack)

/-- A cycle is spent; a Reticle engine's new-sample line lasts one cycle (R171). -/
def State.spendCycle (s : State) (f : FacetId) : State :=
  let s := s.setFct f { s.fct f with sinceSafe := (s.fct f).sinceSafe + 1 }
  match f with
  | .reticle k => s.setServo k { s.servoS k with newSample := false }
  | _ => s

/-- A word executes (R144 to R151): datapath, posts, loop counter, next address, return from a micro-trap, safe point,
breakpoint. -/
def State.execWord (s : State) (f : FacetId) (env : FacetEnv) (w : BitVec 20) (n : BitVec 96) (cond : Bool) : State :=
  let blk := facetBase f
  let (pc, lc, stack) := s.nextWord f env w n cond
  let s := (s.put (FCT_STAT_WAITING blk) false).bumpWrap (FCT_CYC_COUNT blk)
  let s := (s.spendCycle f).datapath f n
  let s := s.posts f n
  let s := if reservedNano f n then s.facetCause blk 5 else s
  let v := s.fct f
  let s :=
    if nanoMret n then
      let fl := s.rd (FCT_SHADOW_FLAGS blk)
      (s.setFct f { v with
        upc := BitVec.ofNat 10 (s.rd (FCT_SHADOW_UPC blk)), lc := BitVec.ofNat 8 (s.rd (FCT_SHADOW_LC blk))
        z := fl / 8 % 2 == 1, n := fl / 4 % 2 == 1, v := fl / 2 % 2 == 1, c := fl % 2 == 1 }).put (FCT_STAT_TRAPACT blk) false
    else s.setFct f { v with upc := pc, lc := if nanoLcld n then nanoLcv n else lc, stack := stack }
  let s := if nanoSwp n then s.safePoint f else s
  if nanoBrk n ∧ s.on (FCT_CTL_BRKEN blk) then s.haltFacet f 3 else s

/-- The micro-stack allows a CALL or RET (R142). -/
def stackOk (k : SeqKind) (depth : Nat) : Bool :=
  match k with
  | .call => decide (depth < 4)
  | .ret => decide (0 < depth)
  | _ => true

/-- The next cycle of a Facet, where the word at the micro-PC asks for sequencing operation `want` (R142 to R152). A word
whose store reads uncorrectable, an illegal one, and a CALL or RET the micro-stack does not allow raise their cause and are
not executed, whatever operation was asked for (the SEQ of an MRET word is overridden whole, R151); a WAIT word whose
condition is false holds. -/
def State.facetCycle (s : State) (f : FacetId) (want : SeqKind) (env : FacetEnv) : State :=
  if ¬ s.fctRuns f ∨ (s.takeable f).isSome then s
  else
    let pc := (s.fct f).upc.toNat
    let w := (s.activeBank f).microAt pc
    let n := (s.activeBank f).nanoAt (microNp w)
    let kind := seqKind (s.activeBank f).na w
    if (s.activeBank f).errAt pc ≥ 2 then (s.badWord f pc).hardCause f 0
    else if (s.activeBank f).errAt (1024 + microNp w) ≥ 2 then (s.badWord f (1024 + microNp w)).hardCause f 1
    else if kind = .illegal ∨ (nanoMret n ∧ ¬ s.on (FCT_STAT_TRAPACT (facetBase f))) then s.hardCause f 2
    else if kind ≠ want then s
    else if ¬ nanoMret n ∧ ¬ stackOk kind (s.fct f).stack.length then s.hardCause f 3
    else
      let s := (s.fetchCheck f pc).2
      let s := (s.fetchCheck f (1024 + microNp w)).2
      let cond := s.condition f env (nanoTsel n) ^^ nanoTinv n
      if nanoWait n ∧ ¬ cond then
        let s := (s.put (FCT_STAT_WAITING (facetBase f)) true).spendCycle f
        if nanoSwp n then s.safePoint f else s
      else s.execWord f env w n cond

/-- NEXT (R142). -/
def facetNext (f : FacetId) (env : FacetEnv) (s : State) : State := s.facetCycle f .next env
/-- NEXT. -/
def execFacetNext (f : FacetId) (env : FacetEnv) (s : State) : Result := clocked s (s.whileRuns (facetDom f) (facetNext f env))
/-- RET (R142). -/
def facetRet (f : FacetId) (env : FacetEnv) (s : State) : State := s.facetCycle f .ret env
/-- RET. -/
def execFacetRet (f : FacetId) (env : FacetEnv) (s : State) : Result := clocked s (s.whileRuns (facetDom f) (facetRet f env))
/-- LOOP, incrementer mode (R142). -/
def facetLoop (f : FacetId) (env : FacetEnv) (s : State) : State := s.facetCycle f .loop env
/-- LOOP. -/
def execFacetLoop (f : FacetId) (env : FacetEnv) (s : State) : Result := clocked s (s.whileRuns (facetDom f) (facetLoop f env))
/-- BR (R142). -/
def facetBr (f : FacetId) (env : FacetEnv) (s : State) : State := s.facetCycle f .br env
/-- BR. -/
def execFacetBr (f : FacetId) (env : FacetEnv) (s : State) : Result := clocked s (s.whileRuns (facetDom f) (facetBr f env))
/-- JMP (R142). -/
def facetJmp (f : FacetId) (env : FacetEnv) (s : State) : State := s.facetCycle f .jmp env
/-- JMP. -/
def execFacetJmp (f : FacetId) (env : FacetEnv) (s : State) : Result := clocked s (s.whileRuns (facetDom f) (facetJmp f env))
/-- CALL (R142). -/
def facetCall (f : FacetId) (env : FacetEnv) (s : State) : State := s.facetCycle f .call env
/-- CALL. -/
def execFacetCall (f : FacetId) (env : FacetEnv) (s : State) : Result := clocked s (s.whileRuns (facetDom f) (facetCall f env))
/-- GOTO (R143). -/
def facetGoto (f : FacetId) (env : FacetEnv) (s : State) : State := s.facetCycle f .goto env
/-- GOTO. -/
def execFacetGoto (f : FacetId) (env : FacetEnv) (s : State) : Result := clocked s (s.whileRuns (facetDom f) (facetGoto f env))
/-- BRT (R143). -/
def facetBrt (f : FacetId) (env : FacetEnv) (s : State) : State := s.facetCycle f .brt env
/-- BRT. -/
def execFacetBrt (f : FacetId) (env : FacetEnv) (s : State) : Result := clocked s (s.whileRuns (facetDom f) (facetBrt f env))
/-- LOOP, next-address mode (R143). -/
def facetNaLoop (f : FacetId) (env : FacetEnv) (s : State) : State := s.facetCycle f .naLoop env
/-- NA_LOOP. -/
def execFacetNaLoop (f : FacetId) (env : FacetEnv) (s : State) : Result := clocked s (s.whileRuns (facetDom f) (facetNaLoop f env))
/-- DISPATCH (R143). -/
def facetDispatch (f : FacetId) (env : FacetEnv) (s : State) : State := s.facetCycle f .dispatch env
/-- DISPATCH. -/
def execFacetDispatch (f : FacetId) (env : FacetEnv) (s : State) : Result := clocked s (s.whileRuns (facetDom f) (facetDispatch f env))

/-! ### Micro-traps (R149 to R153) -/

/-- A cause is taken: the shadow frame, TRAPACT and the vector (R150). -/
def State.takeTrap (s : State) (f : FacetId) (n : Nat) : State :=
  let blk := facetBase f
  let v := s.fct f
  let s := (s.wr (FCT_SHADOW_UPC blk) v.upc.toNat).wr (FCT_SHADOW_LC blk) v.lc.toNat
  let s := s.wr (FCT_SHADOW_FLAGS blk) (flagBits v)
  let s := (s.put (FCT_STAT_TRAPACT blk) true).put (FCT_STAT_WAITING blk) false
  let s := s.setFct f { s.fct f with upc := BitVec.ofNat 10 (0x3F0 + n) }
  let s := s.wr (FCT_TPEND_PEND blk) (s.rd (FCT_TPEND_PEND blk) - 2 ^ n)
  let s := (s.bump (FCT_TRAPCNT_COUNT blk)).wr (FCT_STAT_LASTTRAP blk) n
  if n = 7 then s.put (FCT_CTL_ATTN blk) false else s

/-- MICRO_TRAP (R149, R150): the lowest pending cause that may be taken is taken. -/
def microTrap (f : FacetId) (s : State) : State :=
  if ¬ s.fctRuns f then s
  else match s.takeable f with
    | some n => s.takeTrap f n
    | none => s
/-- MICRO_TRAP. -/
def execMicroTrap (f : FacetId) (s : State) : Result := clocked s (s.whileRuns (facetDom f) (microTrap f))

/-- FACET_WATCHDOG (R149 cause 6): LIMIT cycles have passed without a safe point; LIMIT 0 disables the watchdog. -/
def facetWatchdog (f : FacetId) (s : State) : State :=
  let blk := facetBase f
  if s.fctRuns f ∧ s.rd (FCT_WDOG_LIMIT blk) ≠ 0 ∧ s.rd (FCT_WDOG_LIMIT blk) ≤ (s.fct f).sinceSafe then s.facetCause blk 6 else s
/-- FACET_WATCHDOG. -/
def execFacetWatchdog (f : FacetId) (s : State) : Result := clocked s (s.whileRuns (facetDom f) (facetWatchdog f))

/-- DOORBELL (R149 cause 7): FCT_CTL.ATTN written 1; it reads 1 until cause 7 is taken. -/
def doorbell (f : FacetId) (s : State) : State :=
  if s.facetOk f then (s.put (FCT_CTL_ATTN (facetBase f)) true).facetCause (facetBase f) 7 else s
/-- DOORBELL. -/
def execDoorbell (f : FacetId) (s : State) : Result := clocked s (s.whileAnswers (facetDom f) (doorbell f))

/-! ### Stores and switching (R157 to R163) -/

/-- STORE_WINDOW_WRITE (R159): a 32-bit write at offset `off` of the block; the check words are read-only. -/
def storeWindowWrite (f : FacetId) (off : BitVec 14) (value : BitVec 32) (s : State) : State :=
  let blk := facetBase f
  if ¬ s.facetOk f then s
  else if s.on (FCT_STAT_BUSY blk) ∨ s.on (FCT_SWAP_ARM blk) then s.put (FCT_STAT_LDERR blk) true
  else
    let b := s.standbyBank f
    let o := off.toNat
    if 0x1000 ≤ o ∧ o < 0x2000 then
      let i := (o - 0x1000) / 4
      s.setStandby f (b.setMicro i (value.truncate 20))
    else if 0x2000 ≤ o ∧ o < 0x3000 then
      let j := (o - 0x2000) / 16
      let w := (o - 0x2000) / 4 % 4
      if w = 3 then s
      else
        let old := b.nanoAt j
        let new := (old &&& ~~~((BitVec.ofNat 96 (2 ^ 32 - 1)) <<< (32 * w))) ||| ((value.zeroExtend 96) <<< (32 * w))
        s.setStandby f (b.setNano j new)
    else s
/-- STORE_WINDOW_WRITE. -/
def execStoreWindowWrite (f : FacetId) (off : BitVec 14) (value : BitVec 32) (s : State) : Result :=
  clocked s (s.whileAnswers (facetDom f) (storeWindowWrite f off value))

/-- FACET_CLEAR (R157): the standby bank begins to be filled with zero words. -/
def facetClear (f : FacetId) (s : State) : State :=
  let blk := facetBase f
  if ¬ s.facetOk f ∨ s.on (FCT_STAT_BUSY blk) then s
  else (s.setFct f { s.fct f with clearing := true }).put (FCT_STAT_BUSY blk) true
/-- FACET_CLEAR. -/
def execFacetClear (f : FacetId) (s : State) : Result := clocked s (s.whileAnswers (facetDom f) (facetClear f))

/-- FACET_CLEAR_DONE: the bank holds zero words with valid check bits (R157). -/
def facetClearDone (f : FacetId) (s : State) : State :=
  if (s.fct f).clearing then
    let s := s.setStandby f { lost := none, na := (s.standbyBank f).na }
    (s.setFct f { s.fct f with clearing := false }).put (FCT_STAT_BUSY (facetBase f)) false
  else s
/-- FACET_CLEAR_DONE. -/
def execFacetClearDone (f : FacetId) (s : State) : Result := clocked s (s.whilePowered (facetDom f) (facetClearDone f))

/-- FACET_VERIFY (R160). -/
def facetVerify (f : FacetId) (s : State) : State :=
  let blk := facetBase f
  if ¬ s.facetOk f ∨ s.on (FCT_STAT_BUSY blk) then s
  else (s.setFct f { s.fct f with verifying := true }).put (FCT_STAT_BUSY blk) true
/-- FACET_VERIFY. -/
def execFacetVerify (f : FacetId) (s : State) : Result := clocked s (s.whileAnswers (facetDom f) (facetVerify f))

/-- The bytes over which a bank is verified (R160). -/
def bankBytes (b : FctBank) : List Byte :=
  ((List.range 1024).flatMap fun i => leBytes 3 (b.microAt i).toNat)
    ++ ((List.range 256).flatMap fun j => leBytes 12 (b.nanoAt j).toNat)

/-- FACET_VERIFY_DONE: FCT_VCRC takes the CRC-32C of the standby bank (R160). -/
def facetVerifyDone (f : FacetId) (s : State) : State :=
  let blk := facetBase f
  if (s.fct f).verifying then
    ((s.setFct f { s.fct f with verifying := false }).put (FCT_STAT_BUSY blk) false).wr (FCT_VCRC_CRC blk)
      (crc32c (bankBytes (s.standbyBank f))).toNat
  else s
/-- FACET_VERIFY_DONE. -/
def execFacetVerifyDone (f : FacetId) (s : State) : Result := clocked s (s.whilePowered (facetDom f) (facetVerifyDone f))

/-- SWAP_ARM (R161, R163): FCT_SWAP is written; a Facet that is not running switches at once. -/
def swapArm (f : FacetId) (armIt : Bool) (entry : BitVec 10) (s : State) : State :=
  let blk := facetBase f
  if ¬ s.facetOk f then s
  else
    let s := (s.wr (FCT_SWAP_ENTRY blk) entry.toNat).put (FCT_SWAP_ARM blk) armIt
    if armIt ∧ ¬ s.fctRuns f then s.switchBanks f none else s
/-- SWAP_ARM. -/
def execSwapArm (f : FacetId) (armIt : Bool) (entry : BitVec 10) (s : State) : Result := clocked s (s.whileAnswers (facetDom f) (swapArm f armIt entry))

/-- BANK_SWITCH (R161, R162): a cycle in which a WAIT word with SWP = 1 holds while a switch is armed. -/
def bankSwitch (f : FacetId) (s : State) : State :=
  let w := (s.activeBank f).microAt (s.fct f).upc.toNat
  let n := (s.activeBank f).nanoAt (microNp w)
  if s.fctRuns f ∧ s.on (FCT_STAT_WAITING (facetBase f)) ∧ nanoWait n ∧ nanoSwp n then s.safePoint f else s
/-- BANK_SWITCH. -/
def execBankSwitch (f : FacetId) (s : State) : Result := clocked s (s.whileRuns (facetDom f) (bankSwitch f))

/-- RUN_START (R163): the Facet starts at FCT_START with LC, flags, stack and TRAPACT cleared. -/
def runStart (f : FacetId) (s : State) : State :=
  let blk := facetBase f
  if ¬ s.facetOk f ∨ s.fctRuns f then s
  else
    let s := ((s.put (FCT_CTL_RUN blk) true).put (FCT_STAT_HALT blk) false).wr (FCT_STAT_HCAUSE blk) 0
    let s := s.put (FCT_STAT_TRAPACT blk) false
    s.setFct f { s.fct f with
      upc := BitVec.ofNat 10 (s.rd (FCT_START_ADDR blk)), lc := 0, z := false, n := false, v := false, c := false
      stack := [], sinceSafe := 0 }
/-- RUN_START. -/
def execRunStart (f : FacetId) (s : State) : Result := clocked s (s.whileAnswers (facetDom f) (runStart f))

/-- RUN_HALT (R153): FCT_CTL.RUN written 0. -/
def runHalt (f : FacetId) (s : State) : State :=
  let blk := facetBase f
  if ¬ s.on (FCT_CTL_RUN blk) then s
  else
    let halted := s.on (FCT_STAT_HALT blk)
    let s := s.put (FCT_CTL_RUN blk) false
    if halted then s else s.haltFacet f 2
/-- RUN_HALT. -/
def execRunHalt (f : FacetId) (s : State) : Result := clocked s (s.whileAnswers (facetDom f) (runHalt f))

end Sys2Proof.Machine
end

