-- ==== Sys2Proof/Machine/Bus.lean ====
section
/-! DEFINITION. Sys2Proof/Machine/Bus.lean: the register windows: which register an address names, which accesses get a
bus error (R3, R15, R38, R40, R41), and the access codes of fields (R12 to R15). -/
namespace Sys2Proof.Machine
open Sys2Proof

/-- A register found at an address: itself, its width, its fields, and whether the address is its high word. -/
structure RegHit where
  reg : Reg
  wide : Bool
  flds : List FldRow
  high : Bool

/-- The indices of a row that place its register `d` bytes above the row's base. -/
def matchIx : List (Nat × Nat) → Nat → Option (List Nat)
  | [], d => if d = 0 then some [] else none
  | (st, cnt) :: r, d => if d / st < cnt then (matchIx r (d % st)).map fun l => d / st :: l else none

/-- The register of a row at an address. -/
def rowHit (r : RegRow) (a : Nat) : Option RegHit :=
  if a < r.base then none
  else match matchIx r.strides (a - r.base) with
    | some ix => some ⟨⟨a, BitVec.ofNat 64 (r.reset ix)⟩, r.wide, r.flds, false⟩
    | none =>
      if r.wide ∧ r.base + 4 ≤ a then
        match matchIx r.strides (a - 4 - r.base) with
        | some ix => some ⟨⟨a - 4, BitVec.ofNat 64 (r.reset ix)⟩, r.wide, r.flds, true⟩
        | none => none
      else none

/-- The rows of the window that holds an address (R38), or none where the address lies in no window. The cipher window
has no register in the spec's tables. -/
def windowRows (a : Nat) : Option (List RegRow) :=
  if a < 0x20000000 then none
  else if a < 0x20400000 then some (if a / 0x4000 % 4 = 2 then fctSliceRows else sliceRows)
  else if a < 0x20600000 then
    some (match a / 0x4000 % 4 with
      | 0 => bayRows
      | 3 => fctCommRows
      | _ => fctReticleRows)
  else if a < 0x20680000 then some przRows
  else if a < 0x20700000 then none
  else if a < 0x20710000 then some []
  else if a < 0x20800000 then none
  else if a < 0x20840000 then some dmaRows
  else if a < 0x20900000 then none
  else if a < 0x20910000 then some hptRows
  else if a < 0x20A00000 then none
  else if a < 0x20A10000 then some lcRows
  else if a < 0x20B00000 then none
  else if a < 0x20B10000 then some memRows
  else if a < 0x20C00000 then none
  else if a < 0x20C10000 then some aprRows
  else if a < 0x20C20000 then some thmRows
  else if a < 0x20D00000 then none
  else if a < 0x20D10000 then some pwrRows
  else if a < 0x20E00000 then none
  else if a < 0x20E10000 then some evrRows
  else if a < 0x20F00000 then none
  else if a < 0x20F10000 then some angRows
  else if a < 0x21000000 then none
  else if a < 0x21010000 then some cfgRows
  else if a < 0x21100000 then none
  else if a < 0x21110000 then some secRows
  else none

/-- The first row of a list that has a register at an address. -/
def findHit : List RegRow → Nat → Option RegHit
  | [], _ => none
  | r :: rs, a => match rowHit r a with
    | some h => some h
    | none => findHit rs a

/-- The power domain whose unit answers an address, if it lies in a switched domain (R561, R40). -/
def windowDomain (a : Nat) : Option Nat :=
  if a < 0x20400000 then some ((a - 0x20000000) / 0x10000)
  else if a < 0x20600000 then some (64 + (a - 0x20400000) / 0x10000)
  else if a < 0x20608000 then some 118
  else if a < 0x20610000 then none
  else if a < 0x20680000 then some (118 + (a - 0x20600000) / 0x10000)
  else if 0x20800000 ≤ a ∧ a < 0x20840000 then some (130 + (a - 0x20800000) / 0x20000)
  else if 0x20900100 ≤ a ∧ a < 0x20900300 then some (116 + (a - 0x20900100) / 0x100)
  else if 0x20F00000 ≤ a ∧ a < 0x20F04000 then some (64 + (a - 0x20F00000) / 0x200)
  else none

/-- A domain's windows answer while it is ON or held in RESET (R40, R572), unless it is fused off (R3, R563). -/
def State.domAnswers (s : State) (n : Nat) : Bool :=
  (s.dom n == 1 || s.dom n == 2)
    && ! (s.part == .fy3232s && ((32 ≤ n && n < 64) || (80 ≤ n && n < 96)))

/-- An address lies in a Facet block (R139). -/
def inFacetBlock (a : Nat) : Bool :=
  (0x20000000 ≤ a && a < 0x20400000 && a / 0x4000 % 4 == 2) || (0x20400000 ≤ a && a < 0x20600000 && a / 0x4000 % 4 != 0)

/-- An address answers only M-level accesses: the security window (R41), Facet blocks (R140), vital words (R500), the flash
controller's registers (R521). -/
def mOnly (a : Nat) : Bool :=
  (0x21100000 ≤ a && a < 0x21110000) || (0x21000100 ≤ a && a < 0x21000128) || (0x20B01000 ≤ a && a < 0x20B01200)
    || inFacetBlock a

/-- The requester may reach the window of an address (R38, R41, R521): `oLevel` says that a Lens core accesses at O level. -/
def agentMay (who : Agent) (oLevel : Bool) (a : Nat) : Bool :=
  match who with
  | .core _ => ! (oLevel && mOnly a)
  | .loupe => true
  | _ => ! (0x21100000 ≤ a && a < 0x21110000)

/-- A register access gets an answer and no bus error (R15, R38, R40, R41): aligned, in a window, of an answering domain. -/
def State.windowOk (s : State) (who : Agent) (oLevel : Bool) (a : Nat) (wide : Bool) : Bool :=
  (windowRows a).isSome && a % (if wide then 8 else 4) == 0 && agentMay who oLevel a
    && (match windowDomain a with
      | none => true
      | some n => s.domAnswers n)

/-- The register at an address of a window. -/
def regAt (a : Nat) : Option RegHit := (windowRows a).bind fun rows => findHit rows a

/-! ### Fields (R13 to R15) -/

/-- The bits of a field in its register. -/
def fldMask (f : FldRow) : Word := BitVec.ofNat 64 (2 ^ f.width - 1) <<< f.lo

/-- The bits of a register that a read returns: write-only fields and reserved bits read 0 (R13, R15). -/
def readMask (flds : List FldRow) : Word :=
  flds.foldl (fun m f => if f.acc = .wo then m else m ||| fldMask f) 0

/-- What a write of `v` over the bits `lane` makes of a field of a register that holds `old` (R13, R14). Vital words,
gain words and write-only fields are left to the operations of their own rules. -/
def writeFld (enabled : Bool) (lane v old : Word) (f : FldRow) : Word :=
  let m := fldMask f &&& lane
  match f.acc with
  | .rw | .rws => (old &&& ~~~m) ||| (v &&& m)
  | .rwl => if enabled then old else (old &&& ~~~m) ||| (v &&& m)
  | .w1c => old &&& ~~~(v &&& m)
  | .w1s => old ||| (v &&& m)
  | .ro | .wo | .vw | .gain => old

/-- A register's contents after a write of `v` over the bits `lane`. -/
def writeFlds (enabled : Bool) (lane v old : Word) (flds : List FldRow) : Word :=
  flds.foldl (fun w f => writeFld enabled lane v w f) old

/-- The bits of a register that an access covers: all of it, its low word or its high word (R12). -/
def laneOf (wide high : Bool) : Word :=
  if wide then 0xFFFFFFFFFFFFFFFF else if high then 0xFFFFFFFF00000000 else 0xFFFFFFFF

/-- The plain write of a register by the access codes of its fields. -/
def State.writeCodes (s : State) (h : RegHit) (lane v : Word) : State :=
  s.setReg h.reg (writeFlds s.enabled lane v (s.reg h.reg) h.flds)

/-- The bits of a write that fall on W1S or WO fields, which start something (R13). -/
def startBits (flds : List FldRow) : Word :=
  flds.foldl (fun m f => if f.acc = .wo ∨ f.acc = .w1s then m ||| fldMask f else m) 0

end Sys2Proof.Machine
end

