-- ==== Sys2Proof/Machine/Keys.lean ====
section
/-! DEFINITION. Sys2Proof/Machine/Keys.lean: ownership slots as the fuses hold them (R369, R370) and the key deriver (R363,
R364): every symmetric key of the device from the fused device secret, the ownership secret and the tenant salts. -/
namespace Sys2Proof.Machine
open Sys2Proof

/-! ### Ownership slots (R369, R370) -/

def State.ownSlot (s : State) (i : Nat) : OwnSlot := smGet {} s.sec.slots i
def State.setOwnSlot (s : State) (i : Nat) (x : OwnSlot) : State := s.setSec { s.sec with slots := smSet {} s.sec.slots i x }

/-- A slot destroyed: every bit of it is blown and reads 1 (R370). -/
def burnt (x : OwnSlot) : OwnSlot :=
  { x with hash := BitVec.allOnes 384, os := BitVec.allOnes 256, blown := true, destroyed := true }

/-- The current slot: the highest-numbered VALID one that is not destroyed. -/
def State.currentSlot (s : State) : Option Nat :=
  ((List.range 8).filter fun i => (s.ownSlot i).valid && ! (s.ownSlot i).destroyed).getLast?

/-- Slots used or destroyed. -/
def State.usedSlots (s : State) : Nat :=
  ((List.range 8).filter fun i => (s.ownSlot i).blown || (s.ownSlot i).valid || (s.ownSlot i).destroyed).length

/-- The lowest slot not used. -/
def State.lowestUnused (s : State) : Option Nat :=
  (List.range 8).find? fun i => ! ((s.ownSlot i).blown || (s.ownSlot i).valid || (s.ownSlot i).destroyed)

/-- The owner key hash of the current slot, 0 if none. -/
def State.ownerHash (s : State) : BitVec 384 := (s.currentSlot.map fun i => (s.ownSlot i).hash).getD 0

/-- OS of the current slot; 32 zero bytes in Factory and Decommissioned (R364). -/
def State.ownerSecret (s : State) : BitVec 256 := (s.currentSlot.map fun i => (s.ownSlot i).os).getD 0

/-- The ownership state 0 Factory, 1 Owned, 2 Decommissioned (R369, R370). -/
def State.ownState (s : State) : Nat :=
  if s.currentSlot.isSome then 1 else if s.usedSlots = 0 then 0 else 2

/-! ### HMAC and HKDF over SHA-384 (R364) -/

/-- Every byte of a string combined with one. -/
def xorWith (c : Byte) (l : List Byte) : List Byte := l.map (· ^^^ c)

/-- A key as HMAC uses it: 128 bytes, a longer one hashed first. -/
def hmacKey (key : List Byte) : List Byte :=
  let k := if 128 < key.length then sha384 key else key
  k ++ List.replicate (128 - k.length) 0

/-- HMAC-SHA-384. -/
def hmac384 (key m : List Byte) : List Byte :=
  sha384 (xorWith 0x5C (hmacKey key) ++ sha384 (xorWith 0x36 (hmacKey key) ++ m))

/-- HKDF-Extract. -/
def hkdfExtract (salt ikm : List Byte) : List Byte := hmac384 salt ikm

/-- HKDF-Expand for at most 48 bytes, which one block gives. -/
def hkdfExpand (prk info : List Byte) (n : Nat) : List Byte := (hmac384 prk (info ++ [0x01])).take n

/-! ### The keys (R363, R364) -/

/-- PRK_D. -/
def State.prkD (s : State) : List Byte := hkdfExtract (beBytes 32 s.ownerSecret.toNat) (beBytes 32 Config.fds.toNat)

/-- The bytes of the owner key hash. -/
def State.ownerHashBytes (s : State) : List Byte := beBytes 48 s.ownerHash.toNat

/-- TS(t): drawn with each security record and each erase of the tenant; zeros in Factory and Decommissioned. -/
def State.tenantSalt (s : State) (t : Nat) : BitVec 256 :=
  if s.currentSlot.isSome then Config.tenantSalt s.sec.saltBase t (smGet 0 s.sec.salts t) else 0

/-- A 256-bit key of a label. -/
def State.derive (s : State) (label : List Byte) : BitVec 256 :=
  BitVec.ofNat 256 (beNat (hkdfExpand s.prkD label 32))

/-- TK(t), with the label "FYTK1". -/
def State.tenantKey (s : State) (t : Nat) : BitVec 256 :=
  s.derive ([0x46, 0x59, 0x54, 0x4B, 0x31] ++ s.ownerHashBytes ++ leBytes 2 t ++ beBytes 32 (s.tenantSalt t).toNat)

/-- KSYS, with the label "FYSYS1". -/
def State.ksys (s : State) : BitVec 256 := s.derive ([0x46, 0x59, 0x53, 0x59, 0x53, 0x31] ++ s.ownerHashBytes)

/-- KPAR, with the label "FYPAR1". -/
def State.kpar (s : State) : BitVec 256 := s.derive ([0x46, 0x59, 0x50, 0x41, 0x52, 0x31] ++ s.ownerHashBytes)

/-- KREC, with the label "FYREC1". -/
def State.krec (s : State) : BitVec 256 := s.derive ([0x46, 0x59, 0x52, 0x45, 0x43, 0x31] ++ s.ownerHashBytes)

/-- KEVR, 48 bytes, with the label "FYEVR1". -/
def State.kevr (s : State) : BitVec 384 :=
  BitVec.ofNat 384 (beNat (hkdfExpand s.prkD ([0x46, 0x59, 0x45, 0x56, 0x52, 0x31] ++ s.ownerHashBytes) 48))

/-- The key of a cipher key slot (R363): KSYS in slot 0, KPAR in slot 1, an object key in any other that holds one. -/
def State.slotKey (s : State) (slot : Nat) : Option (BitVec 256) :=
  if slot = 0 then some s.ksys else if slot = 1 then some s.kpar
  else (s.sec.keys.find? fun p => p.1 == slot).map fun p => p.2.key

/-- Slots that satisfy `p` no longer hold the object keys they held (R377, R383). -/
def State.unslot (s : State) (p : Nat → Bool) : State :=
  { s with host := { s.host with
    objKeys := s.host.objKeys.map fun q => if q.2.slot.any p then (q.1, { q.2 with slot := none }) else q } }

end Sys2Proof.Machine
end

