-- ==== Sys2Proof/Machine/Ecdsa.lean ====
section
/-! DEFINITION. Sys2Proof/Machine/Ecdsa.lean: verification of ECDSA signatures on curve P-384 (FIPS 186-5), which the rules name for
images, ownership records, challenges, sessions and Loupe unlock (R104, R310, R371, R390, R472). -/
namespace Sys2Proof.Machine
open Sys2Proof

/-- The field of P-384. -/
def fieldP : Nat := 2 ^ 384 - 2 ^ 128 - 2 ^ 96 + 2 ^ 32 - 1

/-- The order of its group. -/
def groupN : Nat := 0xffffffffffffffffffffffffffffffffffffffffffffffffc7634d81f4372ddf581a0db248b0a77aecec196accc52973

/-- The constant term of the curve y² = x³ − 3x + b. -/
def curveB : Nat := 0xb3312fa7e23ee7e4988e056be3f82d19181d9c6efe8141120314088f5013875ac656398d8a2ed19d2a85c8edd3ec2aef

/-- A point with coordinates, or the neutral element. -/
abbrev EcPoint := Option (Nat × Nat)

/-- The base point. -/
def basePoint : EcPoint :=
  some (0xaa87ca22be8b05378eb1c71ef320ad746e1d3b628ba79b9859f741e082542a385502f25dbf55296c3a545e3872760ab7,
    0x3617de4a96262c6f5d9e98bf9292dc29f8f41dbd289a147ce9da3113b5f0b8c00a60b1ce1d7e819d7a431d7c90ea0e5f)

/-- Powers modulo `m`, from the highest of 384 bits of the exponent down. -/
def powMod (m x e : Nat) : Nat :=
  (List.range 384).foldl (fun t i => if e.testBit (383 - i) then t * t % m * x % m else t * t % m) 1

/-- The inverse modulo a prime. -/
def invMod (m x : Nat) : Nat := powMod m x (m - 2)

/-- A point lies on the curve. -/
def onCurve (x y : Nat) : Bool := x < fieldP && y < fieldP && y * y % fieldP == (x * x * x + (fieldP - 3) * x + curveB) % fieldP

/-- The third point from a slope. -/
def chord (l x1 y1 x2 : Nat) : EcPoint :=
  let x := (l * l + 2 * fieldP - x1 - x2) % fieldP
  some (x, (l * (x1 + fieldP - x) + fieldP - y1) % fieldP)

/-- The sum of two points. -/
def ecAdd : EcPoint → EcPoint → EcPoint
  | none, q => q
  | p, none => p
  | some (x1, y1), some (x2, y2) =>
    if x1 ≠ x2 then chord ((y2 + fieldP - y1) * invMod fieldP (x2 + fieldP - x1) % fieldP) x1 y1 x2
    else if (y1 + y2) % fieldP = 0 then none
    else chord ((3 * x1 * x1 + (fieldP - 3)) * invMod fieldP (2 * y1) % fieldP) x1 y1 x1

/-- A multiple of a point. -/
def ecMul (k : Nat) (p : EcPoint) : EcPoint :=
  (List.range 384).foldl (fun t i => if k.testBit (383 - i) then ecAdd (ecAdd t t) p else ecAdd t t) none

/-- The point of an uncompressed public key: 04, then its coordinates in 48 bytes each, highest first. -/
def pubPoint (k : List Byte) : EcPoint :=
  let x := beNat ((k.drop 1).take 48)
  let y := beNat (k.drop 49)
  if k.length = 97 ∧ k.head? = some 4 ∧ onCurve x y then some (x, y) else none

/-- A signature, r then s in 48 bytes each, verifies for a message digest under a public key (FIPS 186-5). -/
def ecdsaVerify (pub digest sig : List Byte) : Bool :=
  let r := beNat (sig.take 48)
  let s := beNat (sig.drop 48)
  let w := invMod groupN s
  let q := pubPoint pub
  match ecAdd (ecMul (beNat digest * w % groupN) basePoint) (ecMul (r * w % groupN) q) with
  | none => false
  | some (x, _) => sig.length == 96 && q.isSome && 0 < r && decide (r < groupN) && 0 < s && decide (s < groupN) && x % groupN == r

end Sys2Proof.Machine
end

