-- ==== Sys2Proof/Machine/Format.lean ====
section
/-! DEFINITION. Sys2Proof/Machine/Format.lean: how an HDA is formatted (R248, R249, R253, R576): landing-zone geometry, the walk
that lays out bands, surface headers, band map entries and free-band lists; and what attaching an HDA means for its arms. -/
namespace Sys2Proof.Machine
open Sys2Proof

/-! ### Geometry (R248, R249) -/

/-- CS_SCH_LZ lies in its ranges (R248). -/
def State.lzOk (s : State) (k : Nat) : Bool :=
  let r (lo v hi : Nat) : Bool := decide (lo ≤ v) && decide (v ≤ hi)
  r 1 (s.rd (CS_SCH_LZ_STEP k)) 4 && r 1 (s.rd (CS_SCH_LZ_GIB k)) 8 && r 1 (s.rd (CS_SCH_LZ_G k)) 4

/-- The last landing-zone track of a head (R248). -/
def State.lzLast (s : State) (k h : Nat) : Nat :=
  let t0 := s.rd (CS_SCH_LZ_T0 k)
  let z := (s.zoneOf k h t0).getD 0
  t0 + s.rd (CS_SCH_LZ_STEP k) * (8 + (s.rd (CS_SCH_LZ_GIB k) * 262144 - 1) / max 1 (s.rd (CS_ZONE2_SPT k h z)))

/-- What the walk of R249 finds in each zone from zone `z` on, starting at track `p` or later (over `fuel` zones): zone, first
track of its first band, tracks from one band to the next, and bands. -/
def State.walkZones (s : State) (k h : Nat) : Nat → Nat → Nat → List (Nat × Nat × Nat × Nat)
  | 0, _, _ => []
  | fuel + 1, z, p =>
    let nz := s.rd (CS_HFMT_NZONES k h)
    let stop := if z < nz then s.rd (CS_ZONE0_START_TRACK k h (z + 1)) else s.rd (SRV_MAXTRK_TRACK k) + 1
    let start := max p (s.rd (CS_ZONE0_START_TRACK k h z))
    let nt := (65536 + s.rd (CS_ZONE2_SPT k h z) - 1) / max 1 (s.rd (CS_ZONE2_SPT k h z))
    let g := s.rd (CS_SCH_LZ_G k)
    let n := if start + nt ≤ stop then (stop - start - nt) / (nt + g) + 1 else 0
    (z, start, nt + g, n) :: State.walkZones s k h fuel (z + 1) (if n = 0 then start else start + n * (nt + g))

/-- The walk of a surface (R249): band 0 begins G tracks after the last landing-zone track. -/
def State.walk (s : State) (k h : Nat) : List (Nat × Nat × Nat × Nat) :=
  let from_ := s.lzLast k h + 1 + s.rd (CS_SCH_LZ_G k)
  let z := (s.zoneOf k h from_).getD 0
  s.walkZones k h (s.rd (CS_HFMT_NZONES k h) + 1 - z) z from_

/-- The bands that a walk finds. -/
def walkBands (l : List (Nat × Nat × Nat × Nat)) : Nat := l.foldl (fun t q => t + q.2.2.2) 0

/-- The first track and the zone of each band of a surface, in order. -/
def State.bandsOf (s : State) (k h : Nat) : List (Nat × Nat) :=
  (s.walk k h).flatMap fun q => (List.range q.2.2.2).map fun i => (q.2.1 + i * q.2.2.1, q.1)

/-! ### Formatting (R249, R253) -/

/-- The entry of a band as formatted (R261): FREE, in no band set. -/
def freshBand (band t0 zone : Nat) : BitVec 256 :=
  btSeal (setBtBsid (btSet (btSet (btSet 0 0 32 band) 48 8 zone) 128 24 t0) noBsid)

/-- The band map entries and the free-band list of a surface as formatted. -/
def State.formatMap (s : State) (p : Nat) : State :=
  let l := s.bandsOf (hportSlice p) (hportHead p)
  let s : State := { s with bt := s.bt.filter fun q => q.1 / 2 ^ 15 != p }
  let s := l.zipIdx.foldl (fun s b =>
    (s.busWrite false (s.btAddr (p * 2 ^ 15 + b.2)) (btBytes (freshBand (p * 2 ^ 15 + b.2) b.1.1 b.1.2))).2) s
  s.setRed { s.red with free := smPut s.red.free p (List.range l.length), unformatted := s.red.unformatted.filter (· ≠ p) }

/-- The surface header (R253). -/
def State.surfHeader (s : State) (p : Nat) : SurfHeader :=
  let k := hportSlice p
  let h : SurfHeader := {
    hdaKey := BitVec.ofNat 384 (hdaKey (s.beamS (hportBay p)).id), hport := p, gen := s.va.formats, t0 := s.rd (CS_SCH_LZ_T0 k)
    step := s.rd (CS_SCH_LZ_STEP k), sect := s.lzSect k, g := s.rd (CS_SCH_LZ_G k), bands := walkBands (s.walk k (hportHead p)) }
  { h with crc := crc32c (Config.headerBody h) }

/-- The surfaces of a bay's HDA whose heads are in service. -/
def State.surfacesOf (s : State) (b : Nat) : List Nat :=
  ((List.range 32).map fun i => b * 32 + i).filter fun p => hportNamesHead p
    && decide (hportHead p < s.headCount b (hportAct p)) && ! s.isRetired p

/-- The HDA of a bay is formatted: both copies of each surface's header are written, and its bands are laid out. -/
def State.formatBay (s : State) (b : Nat) : State :=
  let s : State := { s with va := { s.va with formats := s.va.formats + 1, members := smPut s.va.members b (hdaKey (s.beamS b).id) } }
  (s.surfacesOf b).foldl (fun s p => (((s.emit (.header p 0 (s.surfHeader p))).emit (.header p 1 (s.surfHeader p))).formatMap p).delta (.format p)) s

/-- The members of band sets that lay on a bay's HDA are missing from now on (R576, step 6). -/
def State.markGone (s : State) (b : Nat) : State :=
  let l := s.red.sets.flatMap fun q => (q.2.members.zipIdx.filter fun m => hportBay (m.1 / 2 ^ 15) == b).map fun m => (q.1, m.2)
  s.setRed { s.red with gone := (s.red.gone ++ l).eraseDups }

/-- An HDA has been attached. The HDA whose bands the arms hold comes into service with them, where they were ABSENT; SUSPECT
arms await probation (R576, step 5). Any other is formatted, and its arms are ACTIVE (R294, R576, step 6). The vital area
keeps which HDA was formatted in a bay (DESIGN CHOICE, log entry 106). -/
def State.memberAttached (s : State) (b : Nat) : State :=
  let key := hdaKey (s.beamS b).id
  let arms := [2 * b, 2 * b + 1]
  match s.va.members.find? fun q => q.1 == b with
  | some (_, old) =>
    if old = key then s.changeArms arms (fun x => x == armAbsent) armActive
    else (((s.failArms arms).markGone b).formatBay b).changeArms arms (fun _ => true) armActive
  | none => (s.formatBay b).changeArms arms (fun _ => true) armActive

end Sys2Proof.Machine
end

