-- ==== Sys2Proof/Machine/Beam.lean ====
section
/-! DEFINITION. Sys2Proof/Machine/Beam.lean: the Beam links (R73 to R107): downstream and upstream frames, managed words,
lane and frame loss, training, and attach. -/
namespace Sys2Proof.Machine
open Sys2Proof

/-- Values of BL_STAT.STATE (R107). -/
def blOff : Nat := 0
def blDetect : Nat := 1
def blTrain : Nat := 2
def blMeasure : Nat := 3
def blIdent : Nat := 4
def blUp : Nat := 5
def blFault : Nat := 6

/-- Operating frames flow. -/
def State.operating (s : State) (b : Nat) : Bool := s.rd (BL_STAT_STATE b) == blIdent || s.rd (BL_STAT_STATE b) == blUp

/-! ### Managed words (R86, R93) -/

/-- A bay report entry (R93). -/
def State.bayReport (s : State) (b : Nat) (word : BitVec 64) (source : Nat) (resp : BitVec 64) (retries : Nat) : State :=
  s.hwPush (224 + b) (mkEntry [(0, 64, word.toNat), (68, 4, source), (72, 64, resp.toNat), (136, 8, retries), (192, 64, s.wt)])

/-- BL_STAT.MWFULL shows four words outstanding. -/
def State.showMw (s : State) (b : Nat) : State := s.put (BL_STAT_MWFULL b) (decide (4 ≤ (s.beamS b).mwOut.length))

/-- MANAGED_WORD (R86, R107): a write of BL_MW queues a managed word, or is ignored with MWOVF where four are outstanding,
its TAG is, or its 8 bytes equal the last word sent with that TAG. A word of a timed class is no managed word. The first chunk
of a CHALLENGE takes a nonce from the DRBG (R104): the word carries it, as firmware writes it (log entry 98). -/
def managedWord (b : Bay) (w : Word) (s : State) : State :=
  let m := s.beamS b
  let tag := ctlTag w
  if ctlClass w < 8 then s
  else if 4 ≤ m.mwOut.length ∨ m.mwOut.any (fun p => p.1 == tag) ∨ m.mwLast.any (fun p => p.1 == tag && p.2 == w) then
    s.put (BL_STAT_MWOVF b) true
  else
    let s := if ctlClass w = 10 ∧ ctlHead w = 0 then s.drbgDraw else s
    (s.setBeam b { m with mwNew := m.mwNew ++ [w], mwOut := smPut m.mwOut tag { word := w }, mwLast := smPut m.mwLast tag w }).showMw b

/-- MANAGED_WORD. -/
def execManagedWord (b : Bay) (w : Word) (s : State) : Result := done s (s.whileAnswers (64 + b.val) (managedWord b w))

/-- A managed word fails (R86): MWFAIL, an event and a report entry of SOURCE 2. -/
def State.failMw (s : State) (b tag : Nat) (o : ManagedOut) : State :=
  let m := s.beamS b
  let s := s.setBeam b { m with mwOut := smErase m.mwOut tag, mwNew := m.mwNew.filter (· ≠ o.word), mwRetry := m.mwRetry.filter (· ≠ o.word) }
  (((s.put (BL_STAT_MWFAIL b) true).event 5 .mwFail 1 b).bayReport b o.word 2 0 o.retries).showMw b

/-- Every outstanding managed word fails (R86). -/
def State.failAllMw (s : State) (b : Nat) : State := (s.beamS b).mwOut.foldl (fun s p => s.failMw b p.1 p.2) s

/-- MANAGED_WORD_RETRY (R86): no response within 16 frames; the word is repeated exactly, or fails after BL_CTL.RETRY
retries. A CHALLENGE chunk 7 waits for its SIG chunks instead. -/
def managedWordRetry (b : Bay) (tag : Fin 16) (s : State) : State :=
  let m := s.beamS b
  match m.mwOut.find? fun p => p.1 == tag.val with
  | none => s
  | some (_, o) =>
    if ctlClass o.word = 10 ∧ ctlHead o.word = 7 then s
    else if max 1 (s.rd (BL_CTL_RETRY b)) ≤ o.retries then s.failMw b tag o
    else
      (s.setBeam b { m with mwOut := smPut m.mwOut tag { o with retries := o.retries + 1 }, mwRetry := m.mwRetry ++ [o.word] }).bump
        (BL_MWRETRY_COUNT b)

/-- MANAGED_WORD_RETRY. -/
def execManagedWordRetry (b : Bay) (tag : Fin 16) (s : State) : Result := linkClocked s (s.whileRuns (64 + b.val) (managedWordRetry b tag))

/-! ### Downstream frames (R78 to R85, R105) -/

/-- A word that R105 withholds from a bay that is not attached: a write-gate opening or a laser level above 0. -/
def withheld (w : BitVec 64) : Bool :=
  (ctlClass w == 1 && ctlPayload w % 2 == 1) || (ctlClass w == 2 && ctlPayload w % 4096 != 0)

/-- What takes effect at the device when a word leaves: the head whose laser is counted (R123), WRITE_PARAMS in effect (R118),
SRATE and its accounting (R89). -/
def State.wordSent (s : State) (b : Nat) (w : BitVec 64) : State :=
  let a := ctlAct w
  let k := 2 * b + a
  if ctlClass w = 4 then
    let s := s.foldLaser k
    s.setSlice k { s.sliceS k with head := ctlHead w }
  else if ctlClass w = 5 then s.setSlice k { s.sliceS k with params := some (BitVec.ofNat 24 (ctlPayload w)) }
  else if ctlClass w = 6 then
    let m := s.beamS b
    let s := s.setBeam b (if a = 0 then { m with acc0 := 0, got0 := 0 } else { m with acc1 := 0, got1 := 0 })
    s.wr (BL_SRATE_SRATE b a) (ctlPayload w % 2 ^ 17)
  else s

/-- The nonce of a CHALLENGE is what its chunks carried; chunk 7 starts the wait for the signature (R104). After a second
failure no further challenge counts. -/
def State.challengeSent (s : State) (b : Nat) (w : BitVec 64) : State :=
  if ctlClass w ≠ 10 then s
  else
    let m := s.beamS b
    let m := { m with nonce := smPut m.nonce (ctlHead w) (leBytes 6 (ctlPayload w)) }
    if ctlHead w = 7 ∧ m.chalFails < 2 then s.setBeam b { m with challenge := some (BitVec.ofNat 4 (ctlTag w)), sigChunks := [] }
    else s.setBeam b m

/-- Fill slots with the words of a list, in order: at most six in a frame, and at most three timed words of an actuator
(R84, R121). The words sent so far, and those of the list that wait for the next frame. -/
def fillSlots (sent : List (BitVec 64)) : List (BitVec 64) → List (BitVec 64) × List (BitVec 64)
  | [] => (sent, [])
  | w :: r =>
    if sent.length < 6 ∧ (8 ≤ ctlClass w ∨ (sent.filter fun x => ctlClass x < 8 && ctlAct x == ctlAct w).length < 3) then
      fillSlots (sent ++ [w]) r
    else
      let x := fillSlots sent r
      (x.1, w :: x.2)

/-- The symbols that the openings of a write gate give up to the media angle `x`, each with its write (R113), and the
openings with what is left of them. -/
def takeRuns (nw : Nat) (ops : List SliceOp) (x : Nat) : List SymRun → List (Nat × BitVec 3) × List SymRun
  | [] => ([], [])
  | r :: rest =>
    let y := takeRuns nw ops x rest
    match ops.find? fun o => o.serial == r.op with
    | none => y
    | some o =>
      let hi := min (o.posOf x) (r.stop.getD (o.posOf x))
      ((List.range (hi - r.next)).map (fun i => (r.op, symbolAt nw o (r.next + i))) ++ y.1,
       if r.stop = some hi then y.2 else { r with next := max r.next hi } :: y.2)

/-- The write symbols of actuator `a` for the frame whose window ends at the media angle `x` (R79, R113). -/
def State.frameSymbols (s : State) (b a x : Nat) : List (Nat × BitVec 3) × List SymRun :=
  let sl := s.sliceS (2 * b + a)
  let y := takeRuns (s.nWedges b) sl.ops x sl.symRuns
  (y.1.take 1152, y.2)

/-- A servo field of the head in use on slice `k` passes at spindle angle `x` (R109). -/
def State.inServoField (s : State) (k x : Nat) : Bool :=
  let nw := s.nWedges (bayOf k)
  let h := (s.sliceS k).head
  let ha := (x + 2 ^ 20 - s.rd (ANG_SKEW_AU (bayOf k) (actOf k) h) % 2 ^ 20) % 2 ^ 20
  decide (ha - wedgeAngle nw (ha * nw / 2 ^ 20) < s.rd (CS_HFMT_SFW k h))

/-- A new SRATE goes out with the frame whose words take effect in a servo field (R129). -/
def State.sendSrate (s : State) (k : Nat) : State :=
  let b := bayOf k
  match (s.sliceS k).sratePend with
  | none => s
  | some v =>
    if s.inServoField k (s.rd (ANG_CNT_VALUE b) + s.auOf b (s.rd (ANG_DNLAT_NS b))) then
      (s.setSlice k { s.sliceS k with sratePend := none }).queueTimed b (ctlWord 6 (actOf k) (s.sliceS k).head 0 v)
    else s

/-- The writes of actuator `a` whose symbols or edge words a frame carries (R85, R125). -/
def State.frameOps (s : State) (b a : Nat) (syms : List (Nat × BitVec 3)) (slots : List (BitVec 64)) : List Nat :=
  let edge := slots.any fun w => (ctlClass w == 1 || ctlClass w == 2) && ctlAct w == a
  let cur := if edge then (s.curOp (2 * b + a)).map SliceOp.serial else none
  ((s.sliceS (2 * b + a)).ops.map SliceOp.serial).filter fun n => cur == some n || syms.any fun x => x.1 == n

/-- The operating frame that is built next (R78, R84, R105), the words that wait, and the openings of the gates after it. -/
def State.buildFrame (s : State) (b : Nat) : DownFrame × SentFrame × BeamSt × List SymRun × List SymRun :=
  let att := s.on (BL_CTL_ATTACHED b)
  let m := s.beamS b
  let keep (l : List (BitVec 64)) : List (BitVec 64) := if att then l else l.filter fun w => ! withheld w
  let f1 := fillSlots [] m.safety
  let f2 := fillSlots f1.1 (keep m.timed)
  let f3 := fillSlots f2.1 (keep m.resend)
  let f4 := fillSlots f3.1 m.mwRetry
  let f5 := fillSlots f4.1 m.mwNew
  let media := s.rd (ANG_CNT_VALUE b) + s.lead b .writeGate
  let x := media + frameSpan (s.rd (ANG_PERIOD_NS b))
  let y0 := s.frameSymbols b 0 x
  let y1 := s.frameSymbols b 1 x
  let fr : DownFrame := {
    fsn := m.fsn, safe := s.on (BL_CTL_SAFE_REQ b) || ! att, slots := f5.1, vcm := [m.vcm0, m.vcm1, m.ma0, m.ma1]
    phase := if att then [m.pa, m.pb, m.pc] else [0, 0, 0]
    wsym0 := if att then y0.1.map Prod.snd else [], wsym1 := if att then y1.1.map Prod.snd else [] }
  let rec1 : SentFrame := {
    fsn := m.fsn, words := f5.1, op0 := s.frameOps b 0 y0.1 f5.1, op1 := s.frameOps b 1 y1.1 f5.1, media := media }
  (fr, rec1,
   { m with fsn := m.fsn + 1, safety := f1.2, timed := f2.2, resend := f3.2, mwRetry := f4.2, mwNew := f5.2
            sent := (rec1 :: m.sent).take 64 },
   y0.2, y1.2)

/-- An operating frame is built and sent (R78, R84): a timed word that found no slot in it sets COLL (R61). -/
def State.sendFrame (s : State) (b : Nat) : State :=
  let f := s.buildFrame b
  let s := s.setBeam b f.2.2.1
  let s := s.setSlice (2 * b) { s.sliceS (2 * b) with symRuns := f.2.2.2.1 }
  let s := s.setSlice (2 * b + 1) { s.sliceS (2 * b + 1) with symRuns := f.2.2.2.2 }
  let s := if f.2.2.1.timed.isEmpty then s else s.put (ANG_STAT_COLL b) true
  let s := f.1.slots.foldl (fun s w => (s.wordSent b w).challengeSent b w) s
  s.emit (.downFrame b f.1.bytes)

/-- DOWNSTREAM_FRAME (R75, R78, R84, R100, R105): the next frame goes out on D: an operating frame, or, while the link trains, a
training frame. -/
def downstreamFrame (b : Bay) (s : State) : State :=
  if s.operating b then ((s.sendSrate (2 * b)).sendSrate (2 * b + 1)).sendFrame b
  else if s.rd (BL_STAT_STATE b) = blTrain ∨ s.rd (BL_STAT_STATE b) = blMeasure then s.emit (.downFrame b trainingFrame)
  else s

/-- DOWNSTREAM_FRAME. -/
def execDownstreamFrame (b : Bay) (s : State) : Result := linkClocked s (s.whileRuns (64 + b.val) (downstreamFrame b))

/-! ### Training and identity (R100 to R106) -/

/-- The bay is no longer attached: records are written back, the spindle engine and both actuators stop (R105, R199, R226). -/
def State.unattach (s : State) (b : Nat) : State :=
  if s.on (BL_CTL_ATTACHED b) then ((s.endAttach b).put (BL_CTL_ATTACHED b) false).spinDetach b else s

/-- Training begins (R100): every managed word fails, D carries training frames from now on. -/
def State.beginTraining (s : State) (b : Nat) : State :=
  let s := (s.failAllMw b).wr (BL_STAT_STATE b) blTrain
  let m := s.beamS b
  let s := s.setBeam b { m with
    fsn := 0, safety := [], timed := [], resend := [], mwRetry := [], mwNew := [], mwLast := [], sent := [], upSeen := []
    padSet := false, verified := false, challenge := none, sigChunks := [], bad0 := 0, bad1 := 0, badD := 0 }
  let s := ((s.put (BL_STAT_U0UP b) false).put (BL_STAT_U1UP b) false).put (BL_STAT_DUP b) false
  s.emit (.laneD b true)

/-- TRAINING_START (R100): BL_CTL.EN is set, or the link retrains. -/
def trainingStart (b : Bay) (s : State) : State :=
  if ¬ s.bayOk b then s
  else
    let s := s.put (BL_CTL_EN b) true
    (s.setBeam b { s.beamS b with tries := 0, cause := 0 }).beginTraining b

/-- TRAINING_START. -/
def execTrainingStart (b : Bay) (s : State) : Result := done s (s.whileAnswers (64 + b.val) (trainingStart b))

/-- An attempt fails (R100): after BL_CTL.TRIES attempts the link is in FAULT with the cause. -/
def State.failAttempt (s : State) (b cause : Nat) : State :=
  let m := s.beamS b
  let s := s.setBeam b { m with tries := m.tries + 1, cause := cause }
  if max 1 (s.rd (BL_CTL_TRIES b)) ≤ m.tries + 1 then
    ((s.wr (BL_STAT_STATE b) blFault).wr (BL_STAT_FCAUSE b) cause).event 5 .laneDown 1 b
  else s.beginTraining b

/-- All values of a list lie within 1 of each other. -/
def agreeWithin1 (l : List Int) : Bool := l.all fun x => l.all fun y => decide ((x - y).natAbs ≤ 1)

/-- Step 4 (R101): RTT_RAW, U1SKEW and the pads. -/
def State.measureRtt (s : State) (b : Nat) (intervals : List Nat) (skews : List Int) (turn : Nat) : State :=
  let rtt := intervals.headD 0 - turn
  let skew := skews.headD 0
  if ¬ (agreeWithin1 (intervals.map Int.ofNat) ∧ agreeWithin1 skews ∧ -3 ≤ skew ∧ skew ≤ 3) then s.failAttempt b 4
  else if 2250 < (rtt + 1) / 2 then s.failAttempt b 5
  else
    let s := ((s.wr (BL_LAT_RTT_RAW b) rtt).wrInt (BL_LAT_U1SKEW b) skew).wr (BL_LAT_TURN b) turn
    let s := (s.wr (BL_PAD_PAD_DN b) (2700 - rtt / 2)).wr (BL_PAD_PAD_UP b) (2700 - (rtt + 1) / 2)
    let s := (s.wr (ANG_DNLAT_NS b) 96).wr (ANG_UPLAT_NS b) (96 + 48)
    s.setBeam b { s.beamS b with padSet := true }

/-- The link reaches IDENT (R100): operating frames from FSN 0, the identity block taken. The count of failed challenges starts
again with each training, which the spec does not say (DESIGN CHOICE, log entry 98). -/
def State.reachIdent (s : State) (b : Nat) (id : BridgeId) : State :=
  let s := (s.wr (BL_STAT_STATE b) blIdent).wr (ANG_UPLAT_NS b) (96 + id.latSample + 48)
  let s := ((s.put (BL_STAT_U0UP b) true).put (BL_STAT_U1UP b) true).put (BL_STAT_DUP b) true
  s.setBeam b { s.beamS b with fsn := 0, id := id, tries := 0, chalFails := 0, acc0 := 0, acc1 := 0, got0 := 0, got1 := 0 }

/-- TRAINING_STEP_DONE (R100, R101). Where the frames of step 5 do not stand at the exact position FCAUSE is 5, as for the
latency limit: the spec names none (DESIGN CHOICE, log entry 98). -/
def trainingStepDone (b : Bay) (m : TrainMeasure) (s : State) : State :=
  let st := s.rd (BL_STAT_STATE b)
  match m with
  | .lock signal block frame =>
    if st ≠ blTrain then s
    else if ¬ signal then s.failAttempt b 1
    else if ¬ block then s.failAttempt b 2
    else if ¬ frame then s.failAttempt b 3
    else s.wr (BL_STAT_STATE b) blMeasure
  | .rtt i k t => if st ≠ blMeasure then s else s.measureRtt b i k t
  | .pad exact id => if st ≠ blMeasure ∨ ¬ (s.beamS b).padSet then s else if exact then s.reachIdent b id else s.failAttempt b 5

/-- TRAINING_STEP_DONE. -/
def execTrainingStepDone (b : Bay) (m : TrainMeasure) (s : State) : Result := linkClocked s (s.whileRuns (64 + b.val) (trainingStepDone b m))

/-- TRAINING_TIMEOUT (R100): the attempt has not finished within 20 ms. FCAUSE is then 1 where no signal is present, else 2, and
4 in MEASURE: the spec names none (DESIGN CHOICE, log entry 98). -/
def trainingTimeout (b : Bay) (s : State) : State :=
  let st := s.rd (BL_STAT_STATE b)
  if st = blTrain then s.failAttempt b (if s.on (BL_STAT_PRESENT b) then 2 else 1)
  else if st = blMeasure then s.failAttempt b 4
  else s

/-- TRAINING_TIMEOUT. -/
def execTrainingTimeout (b : Bay) (s : State) : Result := linkClocked s (s.whileRuns (64 + b.val) (trainingTimeout b))

/-- LINK_DISABLE (R106): BL_CTL.EN is written 0 and D goes to electrical idle. -/
def linkDisable (b : Bay) (s : State) : State :=
  let s := ((s.closeGates (2 * b) 1).closeGates (2 * b + 1) 1).unattach b
  let s := ((s.failAllMw b).put (BL_CTL_EN b) false).wr (BL_STAT_STATE b) (if s.on (BL_STAT_PRESENT b) then blDetect else blOff)
  let s := ((s.put (BL_STAT_U0UP b) false).put (BL_STAT_U1UP b) false).put (BL_STAT_DUP b) false
  let m := s.beamS b
  (s.setBeam b { m with safety := [], timed := [], resend := [], mwRetry := [], mwNew := [], sent := [], upSeen := [], verified := false }).emit
    (.laneD b false)

/-- LINK_DISABLE. -/
def execLinkDisable (b : Bay) (s : State) : Result := done s (s.whileAnswers (64 + b.val) (linkDisable b))

/-- SIGNAL_DETECT (R106): PRESENT follows signal detect on U0; the link is trained only once EN is set. -/
def signalDetect (b : Bay) (present : Bool) (s : State) : State :=
  let s := s.put (BL_STAT_PRESENT b) present
  if s.on (BL_CTL_EN b) then s else s.wr (BL_STAT_STATE b) (if present then blDetect else blOff)

/-- SIGNAL_DETECT. -/
def execSignalDetect (b : Bay) (present : Bool) (s : State) : Result := linkClocked s (signalDetect b present s)

/-- A challenge fails (R104): a second failure sets AUTHFAIL, and the bay fails (R294). -/
def State.failChallenge (s : State) (b : Nat) : State :=
  let m := s.beamS b
  let s : State := match m.challenge with
    | some t => match m.mwOut.find? (fun p => p.1 == t.toNat) with
      | some (_, o) => s.failMw b t.toNat o
      | none => s
    | none => s
  let s := s.setBeam b { s.beamS b with challenge := none, sigChunks := [], chalFails := m.chalFails + 1 }
  if 1 ≤ m.chalFails then ((s.put (BL_STAT_AUTHFAIL b) true).event 1 .authFail 1 b).failArms [2 * b, 2 * b + 1] else s

/-- CHALLENGE_TIMEOUT (R104): the signature has not arrived within 50 ms. -/
def challengeTimeout (b : Bay) (s : State) : State := if (s.beamS b).challenge.isSome then s.failChallenge b else s

/-- CHALLENGE_TIMEOUT. -/
def execChallengeTimeout (b : Bay) (s : State) : Result := linkClocked s (s.whileRuns (64 + b.val) (challengeTimeout b))

/-- The identity block's contract: version 1.x and every declared latency at most 200 ns (R105). -/
def contractOk (id : BridgeId) : Bool :=
  id.version.toNat / 65536 == 1 && [id.latSample, id.latWg, id.latLaser, id.latHeater, id.latHold, id.latAux].all fun n => decide (n ≤ 200)

/-- The identity block's geometry agrees with the profile (R105): N_w as the profile sets it, at most 12 heads an actuator (R11)
and 1 to 15 pole pairs (R196); no setting of a profile names heads or pole pairs (log entry 98). -/
def State.geometryOk (s : State) (b : Nat) (id : BridgeId) : Bool :=
  id.nw == s.rd (ANG_CTL_NW b) && decide (id.heads0 ≤ 12) && decide (id.heads1 ≤ 12) && decide (1 ≤ id.poles)
    && decide (id.poles ≤ 15)

/-- E_park of an actuator in µJ × 256 (R193): data and ramp phase currents as parts of the declared full scale, at 14.0 V. -/
def State.parkEnergy (s : State) (k fullMa : Nat) : Nat :=
  (s.rd (SRV_PARK_DATA_I k) * s.rd (SRV_PARK_DATA_T k) + s.rd (SRV_PARK_RAMP_I k) * s.rd (SRV_PARK_RAMP_T k)) * fullMa * 14

/-- ATTACH (R105, R106): firmware sets ATTACHED from IDENT after the challenge, with FCAUSE where the identity block does not
fit, or clears it. Its arms come into service, after a format where the HDA is another (R576). A bay whose park may draw more
than 0.3 J for either actuator stays unattached, with an event (R193). -/
def attach (b : Bay) (v : Bool) (s : State) : State :=
  if ¬ v then
    let s := s.unattach b
    if s.rd (BL_STAT_STATE b) = blUp then s.wr (BL_STAT_STATE b) blIdent else s
  else
    let m := s.beamS b
    if s.rd (BL_STAT_STATE b) ≠ blIdent ∨ ¬ m.verified then s
    else if ¬ contractOk m.id then s.wr (BL_STAT_FCAUSE b) 6
    else if ¬ s.geometryOk b m.id then s.wr (BL_STAT_FCAUSE b) 7
    else if 300000 * 256 < s.parkEnergy (2 * b) m.id.vcmMa ∨ 300000 * 256 < s.parkEnergy (2 * b + 1) m.id.vcmMa then
      s.event 7 .servoFault 1 b
    else ((s.put (BL_CTL_ATTACHED b) true).wr (BL_STAT_STATE b) blUp).memberAttached b

/-- ATTACH. -/
def execAttach (b : Bay) (v : Bool) (s : State) : Result := done s (s.whileAnswers (64 + b.val) (attach b v))

/-! ### Loss of lanes and position (R95, R102) -/

/-- All gates of a bay close. -/
def State.closeBay (s : State) (b : Nat) : State := (s.closeGates (2 * b) 1).closeGates (2 * b + 1) 1

/-- LANE_DOWN (R95): BL_CTL.DOWNN consecutive bad frames. U1 fails actuator 1, and the bay stays attached while the link retrains;
U0 or D fail the whole bay. With AUTORT 0 no STATE is named: it is IDENT, and operating frames flow on (DESIGN CHOICE, log
entry 98). -/
def laneDown (b : Bay) (lane : Lane) (s : State) : State :=
  let m := s.beamS b
  let n := max 8 (s.rd (BL_CTL_DOWNN b))
  let run := match lane with | .u0 => m.bad0 | .u1 => m.bad1 | .d => m.badD
  if ¬ s.operating b ∨ run < n then s
  else
    let s := ((s.put (BL_STAT_DOWN b) true).event 5 .laneDown 1 b).closeBay b
    match lane with
    | .u1 =>
      let s := s.put (BL_STAT_U1UP b) false
      let s := (s.suspectArms [2 * b + 1]).startPark (2 * b + 1) 9
      if s.on (BL_CTL_AUTORT b) then (s.setBeam b { s.beamS b with tries := 0, cause := 0 }).beginTraining b else s
    | _ =>
      let s := if lane = .u0 then s.put (BL_STAT_U0UP b) false else s.put (BL_STAT_DUP b) false
      let s := ((s.suspectArms [2 * b, 2 * b + 1]).startPark (2 * b) 9).startPark (2 * b + 1) 9
      let s := s.unattach b
      if s.on (BL_CTL_AUTORT b) then (s.setBeam b { s.beamS b with tries := 0, cause := 0 }).beginTraining b
      else s.wr (BL_STAT_STATE b) blIdent

/-- LANE_DOWN. -/
def execLaneDown (b : Bay) (lane : Lane) (s : State) : Result := linkClocked s (s.whileRuns (64 + b.val) (laneDown b lane))

/-- A frame start slipped (R102): SLIP, an event, all gates closed, the link retrains and its identity is checked anew. -/
def State.frameSlip (s : State) (b : Nat) : State :=
  let s := (((s.put (BL_STAT_SLIP b) true).event 5 .linkSlip 1 b).closeBay b).unattach b
  (s.setBeam b { s.beamS b with tries := 0, cause := 0 }).beginTraining b

/-! ### Upstream frames (R85, R87 to R94) -/

/-- State words of a bad frame are re-sent unless a newer word of the class and actuator is pending (R85). -/
def resendWords (words pending : List (BitVec 64)) : List (BitVec 64) :=
  words.filter fun w => 3 ≤ ctlClass w && ctlClass w ≤ 6 && ! pending.any fun p => ctlClass p == ctlClass w && ctlAct p == ctlAct w

/-- A word that is an edge of actuator `a` (R85). -/
def edgeOf (a : Nat) (w : BitVec 64) : Bool := (ctlClass w == 1 || ctlClass w == 2) && ctlAct w == a

/-- A frame that carried HEAD_SELECT was good: the word has taken effect, and a servo field that begins from now on is the new
head's (R170). -/
def State.headTaken (s : State) (b : Nat) (w : BitVec 64) : State :=
  let k := 2 * b + ctlAct w
  let v := s.servoS k
  if ctlClass w = 4 ∧ v.newHead = some (ctlHead w) then s.setServo k { v with headAt := some s.now } else s

/-- A downstream frame was bad at the bridge (R85): state words are re-sent, a write whose symbols or edge words it carried
ends. -/
def State.frameLost (s : State) (b : Nat) (f : SentFrame) : State :=
  let m := s.beamS b
  let again := resendWords f.words (m.timed ++ m.resend)
  let s := s.setBeam b { m with resend := m.resend ++ again }
  let s := if again.isEmpty then s else s.put (ANG_STAT_COLL b) true
  let act (a : Nat) (ops : List Nat) (s : State) : State :=
    let k := 2 * b + a
    if ops.isEmpty && ! f.words.any (edgeOf a) then s
    else (ops.foldl (fun s n => s.frameFault k f.media n) s).facetCause (sliceFct k) 9
  act 1 f.op1 (act 0 f.op0 s)

/-- DNBAD of a downstream frame is known (R85, R94): reported bad or assumed bad, or reported good. -/
def State.resolveDown (s : State) (b : Nat) (fsn : BitVec 16) (bad : Bool) : State :=
  let m := s.beamS b
  let f := m.sent.find? fun x => x.fsn == fsn
  let s := s.setBeam b { m with sent := m.sent.filter fun x => x.fsn != fsn, badD := if bad then m.badD + 1 else 0 }
  match bad, f with
  | false, none => s.put (BL_STAT_DUP b) true
  | false, some f => f.words.foldl (fun s w => s.headTaken b w) (s.put (BL_STAT_DUP b) true)
  | true, none => s.bump (BL_DNERR_COUNT b)
  | true, some f => (s.bump (BL_DNERR_COUNT b)).frameLost b f

/-- A FAULT response (R92, R93, R99): reported, copied to BL_FAULT and recorded, with what the fault means to other units. -/
def State.bridgeFault (s : State) (b : Nat) (r : BitVec 64) : State :=
  let code := bitsOf r 8 8
  let a := bitsOf r 23 1
  let h := bitsOf r 16 4
  let k := 2 * b + a
  let s := ((s.bayReport b 0 3 r 0).wr (BL_FAULT_LAST b) (bitsOf r 8 32)).event 5 .bridgeFault 1 b
  let s := if code = 2 ∨ code = 4 then s.driveFault (hportOf b a h) else s
  let s := if code = 6 then s.stageOverCurrent b else s
  let s := if code = 8 then (s.countUnload b 0).countUnload b 1 else s
  let s := if code = 9 then s.setBeam b { s.beamS b with storeFault := true } else s
  if code = 1 then (((s.writeFault (2 * b) 6).writeFault (2 * b + 1) 6).facetCause (sliceFct (2 * b)) 11).facetCause (sliceFct (2 * b + 1)) 11
  else if code = 2 ∨ code = 3 ∨ code = 10 then (s.writeFault k 6).facetCause (sliceFct k) 11
  else s

/-- A DONE or READ_DATA response with the TAG of an outstanding word is reported and ends it; a CHALLENGE chunk 7 goes on
waiting for its SIG chunks (R86, R92, R93). A response whose TAG is not outstanding has no word to report: it is dropped
(DESIGN CHOICE, log entry 98). -/
def State.mwAnswer (s : State) (b : Nat) (r : BitVec 64) : State :=
  let tag := bitsOf r 0 4
  let m := s.beamS b
  match m.mwOut.find? fun p => p.1 == tag with
  | none => s
  | some (_, o) =>
    let s := if ctlClass o.word = 10 ∧ ctlHead o.word = 7 then s else s.setBeam b { m with mwOut := smErase m.mwOut tag }
    (s.bayReport b o.word 1 r o.retries).showMw b

/-- Identity block bytes 0x0000 to 0x00FF as a challenge signs them (R103, R104): FAULT_STAT and what the table does not give
are 0. -/
def identBytes (id : BridgeId) : List Byte :=
  let words := leBytes 4 id.version.toNat ++ leBytes 4 id.maker.toNat ++ leBytes 16 id.model.toNat ++ leBytes 16 id.serial.toNat
    ++ leBytes 4 (id.heads0 % 16 + 16 * (id.heads1 % 16) + 256 * (id.nw % 2 ^ 11) + 2 ^ 20 * (id.poles % 16))
    ++ leBytes 1 id.latSample ++ leBytes 1 id.latWg ++ leBytes 1 id.latLaser ++ leBytes 1 id.latHeater
    ++ leBytes 1 id.latHold ++ leBytes 1 id.latAux ++ leBytes 2 id.turn
    ++ leBytes 4 id.inertia ++ leBytes 4 id.vcmMa ++ leBytes 4 id.laserUa ++ leBytes 4 0
    ++ leBytes 4 (id.laserLim0 % 2 ^ 12 + 2 ^ 16 * (id.laserLim1 % 2 ^ 12)) ++ leBytes 4 id.pcStepPs
  words ++ List.replicate (256 - words.length) 0

/-- The challenge verifies (R104): the signature over SHA-384 of "FYBL-ID1", the nonce and the identity block is true under the leaf
of the bridge's chain, and the chain verifies to an HDA-maker anchor of the security policy. -/
def State.challengeTrue (s : State) (b : Nat) (sig : SMap (List Byte)) : Bool :=
  let m := s.beamS b
  let joined (x : SMap (List Byte)) (n : Nat) : List Byte := (List.range n).flatMap fun i => smGet [] x i
  match Config.chainKey m.id.chain s.sec.policy.hdaAnchors with
  | none => false
  | some pub =>
    ecdsaVerify pub (sha384 ([0x46, 0x59, 0x42, 0x4C, 0x2D, 0x49, 0x44, 0x31] ++ joined m.nonce 8 ++ identBytes m.id)) (joined sig 16)

/-- A SIG chunk (R93, R104): reported; when all sixteen have come the challenge is verified. -/
def State.sigChunk (s : State) (b : Nat) (r : BitVec 64) : State :=
  let tag := bitsOf r 0 4
  let n := bitsOf r 8 8
  let m := s.beamS b
  match m.challenge, m.mwOut.find? (fun p => p.1 == tag) with
  | some t, some (_, o) =>
    if t.toNat ≠ tag then s
    else
      let got := if n < 16 ∧ ¬ m.sigChunks.any (fun p => p.1 == n) then smPut m.sigChunks n (leBytes 6 (bitsOf r 16 48)) else m.sigChunks
      let s := (s.bayReport b o.word 1 r o.retries).setBeam b { m with sigChunks := got }
      if got.length < 16 then s
      else if s.challengeTrue b got then
        (s.setBeam b { s.beamS b with
          mwOut := smErase m.mwOut tag, challenge := none, sigChunks := [], chalFails := 0, verified := true }).showMw b
      else s.failChallenge b
  | _, _ => s

/-- One response slot (R92). -/
def State.response (s : State) (b : Nat) (r : BitVec 64) : State :=
  let kind := bitsOf r 4 4
  if kind = 1 ∨ kind = 2 then s.mwAnswer b r
  else if kind = 3 then s.sigChunk b r
  else if kind = 4 then s.bridgeFault b r
  else s

/-- A valid telemetry item (R91, R93): items 2 and 3 are traced under R246; the temperature is checked against the
windows, laser monitors against LMON. -/
def State.telemetry (s : State) (b : Nat) (i : Nat) (v : BitVec 32) : State :=
  if 9 < i then s
  else
    let val := if i = 2 ∨ i = 3 then v.toInt * s.rd (THM_REF_BRG_RATIO b) / 10000 else v.toInt
    let s := s.wrInt (BL_TLM_VALUE b i) val
    if i = 0 then
      let s := (s.setBeam b { s.beamS b with tempAt := some s.now }).checkWindows b
      if s.inWriteWindow b then s else (s.stopBefore (2 * b) 10).stopBefore (2 * b + 1) 10
    else if i = 3 then s.setBeam b { s.beamS b with powerAt := some s.now }
    else if i = 4 ∨ i = 5 then s.laserMonitor (2 * b + (i - 4)) v.toNat
    else s

/-- A media angle has been reached by samples tagged `tag`. -/
def tagReached (tag target : BitVec 32) : Bool := decide ((tag - target).toNat < 2 ^ 31)

/-- The gate actions and servo windows of slice `k` whose targets the tag of an arriving group has reached act on it (R55, R56,
R169). -/
def State.gateTag (s : State) (k : Nat) (tag : BitVec 32) : State :=
  let sl := s.sliceS k
  let due := sl.gateAt.filter fun p => tagReached tag p.1
  s.setSlice k { sl with
    readGate := (due.getLast?.map Prod.snd).getD sl.readGate
    gateAt := sl.gateAt.filter fun p => ! tagReached tag p.1
    servoAt := sl.servoAt.filter fun t => ! tagReached tag t
    servoOpen := sl.servoOpen + (sl.servoAt.filter fun t => tagReached tag t).length }

/-- The samples of one frame on lane `a`, as received or as erasures, are counted, tagged with their media angle, and accepted
where their tag falls inside an open read gate (R55, R89, R94, R130). -/
def State.takeSamples (s : State) (b a : Nat) (got : Option (List (BitVec 6))) : State :=
  let m := s.beamS b
  let k := 2 * b + a
  let acc := (if a = 0 then m.acc0 else m.acc1) + s.rd (BL_SRATE_SRATE b a)
  let had := if a = 0 then m.got0 else m.got1
  let n := acc / 64 - had
  let s := s.setBeam b (if a = 0 then { m with acc0 := acc, got0 := had + n } else { m with acc1 := acc, got1 := had + n })
  let group := match got with
    | some l => l.map some
    | none => List.replicate n none
  let tag := BitVec.ofInt 32 ((s.rd (ANG_CNT_VALUE b) : Int) - s.uplatAu b (s.rd (ANG_PERIOD_NS b)))
  let s := s.gateTag k tag
  let sl := s.sliceS k
  if sl.readGate then s.setSlice k { sl with samples := sl.samples ++ group.map fun x => (tag, x) } else s

/-- 6-bit samples packed from bit 0 of 864 bytes (R89). -/
def packSamples (l : List (BitVec 6)) : List Byte := leBytes 864 (l.foldr (fun x n => x.toNat + 64 * n) 0)

/-- Bytes 0 to 955 of an upstream frame (R87). -/
def upBody (f : UpFrame) : List Byte :=
  [f.typ, BitVec.ofNat 8 (f.lane.toNat * 64 + f.wsafe.toNat * 32 + f.flt.toNat * 16 + f.dnbad.toNat * 8)]
    ++ leBytes 2 f.fsn.toNat ++ leBytes 2 f.ns.toNat ++ [0, 0] ++ halves 4 f.servo ++ halves 4 f.phase
    ++ [f.tlmIndex, if f.tlmValid then 1 else 0] ++ leBytes 4 f.tlmValue.toNat ++ [0, 0]
    ++ ((List.range 6).flatMap fun i => leBytes 8 (f.responses.getD i 0).toNat)
    ++ packSamples (f.samp.take 1152) ++ List.replicate 12 0

/-- The four conditions of a good frame in operation (R76): its position, the type 0xD2, its sync headers, and its CRC. -/
def upGood (f : UpFrame) : Bool := f.posOk && f.typ == 0xD2 && f.headersOk && f.crc == crc32c (upBody f)

/-- The samples that a good frame carries: the first NS of SAMP (R87, R89). -/
def upSamples (f : UpFrame) : List (BitVec 6) := f.samp.take (min 1152 f.ns.toNat)

/-- A good frame on lane `a`: slots, flags, telemetry and, on U0, responses (R87). -/
def State.goodUp (s : State) (b a : Nat) (f : UpFrame) (first : Bool) : State :=
  let m := s.beamS b
  let s := s.setBeam b (if a = 0 then
      { m with bad0 := 0, servo0 := f.servo, servoStale0 := false, phase0 := f.phase, phaseStale0 := false }
    else { m with bad1 := 0, servo1 := f.servo, servoStale1 := false, phase1 := f.phase, phaseStale1 := false })
  let s := if a = 0 then s.put (BL_STAT_U0UP b) true else s.put (BL_STAT_U1UP b) true
  let s := (s.put (BL_STAT_WSAFE b) f.wsafe).put (BL_STAT_FLT b) f.flt
  let s := s.takeSamples b a (some (upSamples f))
  let s := if f.wsafe then (s.writeFault (2 * b) 6).writeFault (2 * b + 1) 6 else s
  let s := if a = 0 ∧ (f.phase.getD 3 0).getLsbD 0 then s.stageOverCurrent b else s
  let s := if first ∧ f.tlmValid then s.telemetry b f.tlmIndex.toNat f.tlmValue else s
  if a = 0 then (f.responses.take 6).foldl (fun s r => s.response b r) s else s

/-- A bad frame on lane `a` (R94). -/
def State.badUp (s : State) (b a : Nat) : State :=
  let m := s.beamS b
  let s := s.setBeam b (if a = 0 then { m with bad0 := m.bad0 + 1, servoStale0 := true, phaseStale0 := true }
    else { m with bad1 := m.bad1 + 1, servoStale1 := true, phaseStale1 := true })
  let s := (s.bump (BL_UPERR_COUNT b a)).takeSamples b a none
  (s.facetCause (reticleFct (2 * b + a)) 9).facetCause (commFct b) 10

/-- UPSTREAM_FRAME (R87 to R94): frame n on lane U0 or U1. What it says of downstream frame n counts once, from the first
good lane; where both lanes are bad, DNBAD is assumed. -/
def upstreamFrame (b : Bay) (lane : Act) (f : UpFrame) (s : State) : State :=
  if ¬ s.operating b then s
  else
    let m := s.beamS b
    let seen := m.upSeen.find? fun p => p.1 == f.fsn
    let known := seen.any fun p => p.2
    let rest := m.upSeen.filter fun p => p.1 != f.fsn
    let s := s.setBeam b { m with upSeen := if seen.isSome then rest else ((f.fsn, upGood f) :: rest).take 16 }
    let s := if upGood f then s.goodUp b lane f (! known) else s.badUp b lane
    let s := if upGood f ∧ ¬ known then s.resolveDown b f.fsn f.dnbad
      else if ¬ upGood f ∧ seen.isSome ∧ ¬ known then s.resolveDown b f.fsn true
      else s
    if f.slip then s.frameSlip b else s

/-- UPSTREAM_FRAME. -/
def execUpstreamFrame (b : Bay) (lane : Act) (f : UpFrame) (s : State) : Result := linkClocked s (s.whileRuns (64 + b.val) (upstreamFrame b lane f))

end Sys2Proof.Machine
end

