-- ==== Sys2Proof/Machine/Digest.lean ====
section
/-! DEFINITION. Sys2Proof/Machine/Digest.lean: roles, the configuration digest, the allowed set and the fence (R533, R540 to R544). -/
namespace Sys2Proof.Machine
open Sys2Proof

/-- Word `w` of a 48-byte value: word 0 holds bytes 0 to 3, byte 0 in [7:0] (R393); the value is big-endian. -/
def wordOf384 (v : BitVec 384) (w : Nat) : Nat := leNat (((beBytes 48 v.toNat).drop (4 * w)).take 4)

/-- Role straps (R533). -/
def roleWorker : Nat := 0
def roleManager : Nat := 1
def roleStandby : Nat := 2
def roleStandalone : Nat := 3

/-- The device's role. -/
def State.role (s : State) : Nat := s.rd CFG_STRAP_ROLE

/-- Words 0, 1 and 2 of every layout, 12 bytes each (R540). -/
def State.layoutBytes (s : State) : List Byte :=
  (List.range 8).flatMap fun l => leBytes 4 (s.reg (PRZ_LAYOUT0 l)).toNat ++ leBytes 4 (s.reg (PRZ_LAYOUT1 l)).toNat
    ++ leBytes 4 (s.reg (PRZ_LAYOUT2 l)).toNat

/-- The ASCII bytes "FYCOL1". -/
def fycol1 : List Byte := [0x46, 0x59, 0x43, 0x4F, 0x4C, 0x31]

/-- The configuration digest (R540) from the measurements, the layouts and the hash of section 3. -/
def State.digestWith (s : State) (prof policy secHash : BitVec 384) : BitVec 384 :=
  BitVec.ofNat 384 (beNat (sha384 (fycol1 ++ beBytes 48 prof.toNat ++ beBytes 48 policy.toNat ++ s.layoutBytes ++ beBytes 48 secHash.toNat)))

/-- The configuration digest of what is active. -/
def State.digestNow (s : State) : BitVec 384 := s.digestWith s.cfg.profMeas s.sec.policyMeas s.cfg.secHash

/-- A digest is in the allowed set in force (R543, R544): on a standalone device, and before any set has been accepted,
every digest is. -/
def State.digestAllowed (s : State) (d : BitVec 384) : Bool :=
  s.role == roleStandalone || s.hie.allowed.isEmpty || s.hie.allowed.contains d

/-- The bytes of CFG_DIGEST, byte 0 first (R545). -/
def State.digestBytes (s : State) : List Byte := (List.range 12).flatMap fun w => leBytes 4 (s.rd (CFG_DIGEST_WORD w))

/-- The digest that CFG_DIGEST shows. -/
def State.digestShown (s : State) : BitVec 384 := BitVec.ofNat 384 (beNat s.digestBytes)

/-- The digest changes at one instant (R529, R541): CFG_DIGEST, the tag, on a standalone device its epoch, and the fence of
a device that comes back into the allowed set. -/
def State.showDigest (s : State) : State :=
  let d := s.digestNow
  if d = s.digestShown then s
  else
    let s := forUpTo 12 (fun w s => s.wr (CFG_DIGEST_WORD w) (wordOf384 d w)) s
    let s := s.wr HIE_TAG_DIGEST (beNat ((beBytes 48 d.toNat).take 2))
    let s := if s.role = roleStandalone then s.bumpWrap HIE_TAG_EPOCH else s
    if s.digestAllowed d ∧ ! s.on HIE_STAT_EXPIRED then s.put HIE_STAT_FENCED false else s

end Sys2Proof.Machine
end

