-- ==== Sys2Proof/Machine/Prism.lean ====
section
/-! DEFINITION. Sys2Proof/Machine/Prism.lean: the Prism engines (R284 to R289): coding over GF(2^8), jobs, and results. -/
namespace Sys2Proof.Machine
open Sys2Proof

/-! ### GF(2^8) with 0x11D (R284) -/

/-- Multiply by x. -/
def gfX (a : Byte) : Byte := if a.getLsbD 7 then (a <<< 1) ^^^ 0x1D else a <<< 1

/-- `n` steps of the shift-and-add product. -/
def gfMulN : Nat → Byte → Byte → Byte
  | 0, _, _ => 0
  | n + 1, a, b => (if b.getLsbD 0 then a else 0) ^^^ gfMulN n (gfX a) (b >>> 1)

/-- The product of two field elements. -/
def gfMul (a b : Byte) : Byte := gfMulN 8 a b

/-- The inverse of a nonzero element, a^254. -/
def gfInv (a : Byte) : Byte :=
  let a2 := gfMul a a
  let a4 := gfMul a2 a2
  let a8 := gfMul a4 a4
  let a16 := gfMul a8 a8
  let a32 := gfMul a16 a16
  let a64 := gfMul a32 a32
  let a128 := gfMul a64 a64
  gfMul (gfMul (gfMul a128 a64) (gfMul a32 a16)) (gfMul (gfMul a8 a4) a2)

/-- The coefficient c(i, j) of R284. -/
def cauchy (i j : Nat) : Byte := gfInv (BitVec.ofNat 8 (0x20 + i) ^^^ BitVec.ofNat 8 j)

/-- Byte-wise sum of two sectors. -/
def xorBytes : List Byte → List Byte → List Byte
  | a :: x, b :: y => (a ^^^ b) :: xorBytes x y
  | [], y => y
  | x, [] => x

/-- Byte-wise product of a sector by an element. -/
def scaleBytes (c : Byte) (x : List Byte) : List Byte := x.map (gfMul c)

/-- Parity member i of a row, from the data members in order (R284). -/
def parityOf (i : Nat) (data : List (List Byte)) : List Byte :=
  ((List.range data.length).zip data).foldl (fun t p => xorBytes t (scaleBytes (cauchy i p.1) p.2)) []

/-- The coefficients of member j over the k data members: a unit row, or a row of the Cauchy matrix. -/
def memberRow (k j : Nat) : List Byte :=
  (List.range k).map fun c => if j < k then (if c = j then 1 else 0) else cauchy (j - k) c

/-- A row of the linear system: coefficients and a sector. -/
abbrev GfRow := List Byte × List Byte

/-- Row `x` less `c` times row `y`. -/
def gfElim (c : Byte) (x y : GfRow) : GfRow := (xorBytes x.1 (scaleBytes c y.1), xorBytes x.2 (scaleBytes c y.2))

/-- Gauss–Jordan elimination from column `col` on, over `n` columns left; `top` holds the rows already reduced. -/
def gfSolve : Nat → Nat → List GfRow → List GfRow → List GfRow
  | 0, _, top, _ => top
  | n + 1, col, top, rest =>
    match rest.find? fun r => r.1.getD col 0 != 0 with
    | none => top
    | some p =>
      let inv := gfInv (p.1.getD col 0)
      let p' : GfRow := (scaleBytes inv p.1, scaleBytes inv p.2)
      let red (r : GfRow) : GfRow := gfElim (r.1.getD col 0) r p'
      gfSolve n (col + 1) (top.map red ++ [p']) ((rest.erase p).map red)

/-- The k data members of a row from any k members of it (R284). -/
def solveRow (k : Nat) (got : List (Nat × List Byte)) : List (List Byte) :=
  (gfSolve k 0 [] (got.map fun p => (memberRow k p.1, p.2))).map Prod.snd

/-! ### Jobs (R285 to R287) -/

def State.prismS (s : State) (e : Nat) : PrismSt := smGet {} s.prisms e
def State.setPrism (s : State) (e : Nat) (v : PrismSt) : State := { s with prisms := smSet {} s.prisms e v }

/-- A job's fields with its descriptor's. -/
structure PrismJob where
  op : Nat
  k : Nat
  m : Nat
  fill : Bool
  u : Nat
  target : Nat
  avoid : Nat
  desc : List Byte
  deriving DecidableEq, Repr

/-- The buffer address, BAND and first INDEX of member j (R286). -/
def PrismJob.buf (p : PrismJob) (j : Nat) : Nat := leNat ((p.desc.drop (8 * j)).take 8)
def PrismJob.band (p : PrismJob) (j : Nat) : Nat := leNat ((p.desc.drop (256 + 8 * j)).take 4)
def PrismJob.index (p : PrismJob) (j : Nat) : Nat := leNat ((p.desc.drop (260 + 8 * j)).take 4)
def PrismJob.bsid (p : PrismJob) : Nat := leNat ((p.desc.drop 512).take 4)

/-- The members a job writes (R286). -/
def PrismJob.targets (p : PrismJob) : List Nat :=
  if p.op = 1 then (List.range p.m).map (p.k + ·)
  else if p.op = 2 then (List.range (p.k + p.m)).filter fun j => p.target.testBit j
  else []

/-- The members a job does not read (R287): those of AVOID and TARGET. -/
def PrismJob.skip (p : PrismJob) : Nat := if p.op = 2 then p.avoid ||| p.target else p.avoid

/-- The job completes with BAD_ARG (R285, R605). -/
def State.badJob (s : State) (onEncode : Bool) (e : Entry) : Bool :=
  let op := e.at 64 8
  let k := e.at 72 8
  let m := e.at 80 8
  let u := e.at 96 16
  let named := e.at 160 32 ||| (if op = 2 then e.at 128 32 else 0)
  e.poison || ! (if onEncode then op == 1 else op == 2 || op == 3)
    || ! (decide (2 ≤ k) && decide (k ≤ 28) && decide (1 ≤ m) && decide (m ≤ 4) && decide (k + m ≤ s.bayCount))
    || ! [64, 128, 256, 512, 1024].contains u
    || decide (e.at 88 8 ≥ 2) || e.at 112 16 != 0 || decide (e.at 192 64 % 64 ≠ 0)
    || decide (2 ^ (k + m) ≤ named) || (op == 2 && e.at 128 32 == 0)

/-- What a job has found so far (R288). -/
structure PrismRun where
  status : Nat := 0
  lost : Nat := 0
  firstLost : Nat := 0xFFFF
  mis : Nat := 0
  erased : Nat := 0
  read : Nat := 0
  deriving DecidableEq, Repr

/-- A sector that is erased by its metadata (R287): BAND all ones, or KIND[7:5] = 7. -/
def erasedMark (b : List Byte) : Bool :=
  leNat ((b.drop 4112).take 4) == 0xFFFFFFFF || (b.getD 4148 0).toNat / 32 == 7

/-- Members read for row `r`, in member order: for ENCODE the data members, for RECONSTRUCT until k sources are found, for
CHECK all. -/
def State.readSources (s : State) (p : PrismJob) (r : Nat) :
    List Nat → List (Nat × List Byte) → PrismRun → List (Nat × List Byte) × PrismRun × State
  | [], got, x => (got, x, s)
  | j :: js, got, x =>
    if x.status ≠ 0 ∨ (p.op = 2 ∧ p.k ≤ got.length) then (got, x, s)
    else if p.skip.testBit j then
      let x := { x with erased := x.erased ||| 2 ^ j }
      if p.op = 1 then (got, { x with status := 2 }, s) else State.readSources s p r js got x
    else match s.busRead false (p.buf j + 4160 * r) 4160 with
      | (none, s) => (got, { x with status := 3 }, s)
      | (some b, s) =>
        let x := { x with read := x.read + 4160 }
        if erasedMark b then
          let x := { x with erased := x.erased ||| 2 ^ j }
          if p.op = 1 then (got, { x with status := 2 }, s) else State.readSources s p r js got x
        else State.readSources s p r js (got ++ [(j, b.take 4096)]) x

/-- Write a list of pieces; false on a bus error. -/
def State.writeAll (s : State) : List (Nat × List Byte) → Bool × State
  | [] => (true, s)
  | (a, b) :: r =>
    match s.busWrite false a b with
    | (none, s) => State.writeAll s r
    | (some _, s) => (false, s)

/-- The FILLMETA fields of sector `r` of member j (R286). -/
def fillMeta (p : PrismJob) (j r : Nat) : List (Nat × List Byte) :=
  let a := p.buf j + 4160 * r + 4096
  let kind : Byte := BitVec.ofNat 8 ((if p.k ≤ j then 32 else 0) + j)
  let addr := p.bsid * 2 ^ 33 + p.index j / p.u * p.k * p.u * 4096 + r * 4096
  [(a + 16, leBytes 4 (p.band j) ++ leBytes 4 (p.index j + r))]
    ++ (if p.k ≤ j then [(a + 24, leBytes 16 0 ++ leBytes 8 addr)] else [])
    ++ [(a + 48, leBytes 4 p.bsid ++ [kind]), (a + 54, (p.desc.drop 516).take 2)]

/-- What row `r` writes to its targets. -/
def rowWrites (p : PrismJob) (r : Nat) (data : List (List Byte)) : List (Nat × List Byte) :=
  p.targets.flatMap fun j =>
    (p.buf j + 4160 * r, if j < p.k then data.getD j [] else parityOf (j - p.k) data)
      :: (if p.fill then fillMeta p j r else [])

/-- One row of a job: the sources, then lost, compared or coded (R287). -/
def State.prismRow (s : State) (p : PrismJob) (x : PrismRun) (r : Nat) : PrismRun × State :=
  if x.status = 2 ∨ x.status = 3 then (x, s)
  else
    let y := s.readSources p r (List.range (if p.op = 1 then p.k else p.k + p.m)) [] x
    let got := y.1
    let x := y.2.1
    let s := y.2.2
    if x.status ≠ 0 then (x, s)
    else if got.length < p.k then
      let w := s.writeAll (p.targets.map fun j => (p.buf j + 4160 * r, List.replicate 4160 0xFF))
      ({ x with lost := x.lost + 1, firstLost := min x.firstLost r, status := if w.1 then 0 else 3 }, w.2)
    else if p.op = 3 then
      if got.length < p.k + p.m then (x, s)
      else
        let data := (got.take p.k).map Prod.snd
        let same := (List.range p.m).all fun i => parityOf i data == (got.getD (p.k + i) (0, [])).2
        ({ x with mis := if same then x.mis else x.mis + 1 }, s)
    else
      let w := s.writeAll (rowWrites p r (solveRow p.k (got.take p.k)))
      ({ x with status := if w.1 then 0 else 3 }, w.2)

/-- After a bus error the contents of a job's targets are undefined (R288): free bytes. -/
def State.undefTargets (s : State) (p : PrismJob) : State :=
  (p.targets.flatMap fun j => (List.range p.u).map fun r => p.buf j + 4160 * r).foldl (fun s a =>
    let w := s.busWrite false a ((List.range 4160).map fun i => Config.freeByte (s.free + i))
    { w.2 with free := s.free + 4160 }) s

/-- A job that is not refused runs over its rows (R286, R287). -/
def State.runJob (s : State) (e : Entry) : PrismRun × State :=
  match s.busRead false (e.at 192 64) 576 with
  | (none, s) => ({ status := 3 }, s)
  | (some d, s) =>
    let p : PrismJob := { op := e.at 64 8, k := e.at 72 8, m := e.at 80 8, fill := e.at 88 1 == 1, u := e.at 96 16,
                          target := e.at 128 32, avoid := e.at 160 32, desc := d }
    let r : PrismRun × State := (List.range p.u).foldl (fun x r => x.2.prismRow p x.1 r) ({ }, s)
    if r.1.status = 3 then (r.1, r.2.undefTargets p) else r

/-- STATUS of a job (R288). -/
def PrismRun.final (x : PrismRun) : Nat := if x.status ≠ 0 then x.status else if x.mis ≠ 0 then 5 else if x.lost ≠ 0 then 1 else 0

/-- Engine `e` takes the job at the head of one of its job lightpipes (R285, R289). -/
def State.takeJob (s : State) (e : Nat) (onEncode : Bool) (ops : Nat → Bool) : State :=
  let n := 512 + 4 * e + (if onEncode then 0 else 1)
  let v := s.prismS e
  let other := (s.lp (512 + 4 * e + (if onEncode then 1 else 0))).entries
  match (s.lp n).entries with
  | [] => s
  | h :: _ =>
    let turn := other.isEmpty || v.fromCheck == onEncode
    if ¬ s.on (PRZ_CTL_EN e) ∨ v.result.isSome ∨ ¬ turn ∨ ¬ (ops (h.at 64 8) ∨ h.poison) then s
    else match s.hwPop n with
      | none => s
      | some (h, s) =>
        let s := s.put (PRZ_STAT_BUSY e) true
        let r : PrismRun × State := if s.badJob onEncode h then ({ status := 4 }, s) else s.runJob h
        let x := r.1
        let s := r.2
        let s := s.wr (PRZ_SRCBYTES_COUNT e) (s.rd (PRZ_SRCBYTES_COUNT e) + x.read)
        let s := s.bump (PRZ_LOSTROWS_COUNT e) x.lost
        s.setPrism e { fromCheck := ! onEncode, result := some (mkEntry [(0, 64, h.at 0 64), (64, 16, x.final), (80, 16, x.lost),
          (96, 16, x.firstLost), (112, 16, x.mis), (128, 32, x.erased)]) }

/-- ENCODE (R286): the parity members of a stripe. -/
def prismEncode (e : Fin 8) (s : State) : State := s.takeJob e true fun _ => true
/-- ENCODE. -/
def execPrismEncode (e : Fin 8) (s : State) : Result := clocked s (s.whileOn (118 + e.val) (prismEncode e))

/-- RECONSTRUCT (R286): the members in TARGET. -/
def prismReconstruct (e : Fin 8) (s : State) : State := s.takeJob e false fun o => o != 3
/-- RECONSTRUCT. -/
def execPrismReconstruct (e : Fin 8) (s : State) : Result := clocked s (s.whileOn (118 + e.val) (prismReconstruct e))

/-- CHECK (R286): compare stored and computed parity. -/
def prismCheck (e : Fin 8) (s : State) : State := s.takeJob e false fun o => o == 3
/-- CHECK. -/
def execPrismCheck (e : Fin 8) (s : State) : Result := clocked s (s.whileOn (118 + e.val) (prismCheck e))

/-- PRISM_RESULT (R288): the result goes to LP 514 + 4e. -/
def prismResult (e : Fin 8) (s : State) : State :=
  match (s.prismS e).result with
  | none => s
  | some r =>
    let s := s.setPrism e { s.prismS e with result := none }
    let s := ((s.put (PRZ_STAT_BUSY e) false).wr (PRZ_STAT_LAST e) (r.at 64 8)).bump (PRZ_JOBS_COUNT e)
    s.hwPush (514 + 4 * e) { r with data := r.data ||| packEntry [(192, 64, s.wt)] }

/-- PRISM_RESULT. -/
def execPrismResult (e : Fin 8) (s : State) : Result := clocked s (s.whileRuns (118 + e.val) (prismResult e))

end Sys2Proof.Machine
end

