-- ==== Sys2Proof/Machine/Redundancy.lean ====
section
/-! DEFINITION. Sys2Proof/Machine/Redundancy.lean: band sets, the Mirror journal, the dirty-region bitmap, member failures,
rebuild, reshape, compaction, checkpoints and recovery (R266 to R273, R275 to R283, R290 to R303). -/
namespace Sys2Proof.Machine
open Sys2Proof

/-- A band set's record. -/
def State.bandSet (s : State) (bsid : Nat) : Option BandSet := (s.red.sets.find? fun p => p.1 == bsid).map Prod.snd

/-- Replace a band set's record. -/
def State.setBandSet (s : State) (bsid : Nat) (x : BandSet) : State := s.setRed { s.red with sets := smPut s.red.sets bsid x }

/-- The band entry as the Band Table holds it is journalled (R271). -/
def State.bandDelta (s : State) (band : Nat) : State :=
  match s.btLine band with
  | some l => s.delta (.band (btSeal l.bytes))
  | none => s

/-- The entry of a member's band changes, while the band is still the band set's, and the change is journalled. -/
def State.updMember (s : State) (bsid band : Nat) (g : BitVec 256 → BitVec 256) : State :=
  let s := (s.btNeed band).2
  match s.btLine band with
  | some l => if btGet l.bytes 160 32 = bsid ∧ g l.bytes ≠ l.bytes then (s.updBt band g).bandDelta band else s
  | none => s

/-- An OPEN band is closed at its WP. -/
def closeEntry (e : BitVec 256) : BitVec 256 := if btState e = bandOpen then setBtState e bandFull else e

/-- The object index of an object is journalled (R268, R271). -/
def State.indexDelta (s : State) (obj : BitVec 128) : State :=
  s.delta (.index obj (s.red.extents.filter fun e => e.obj == obj))

/-! ### Records in bytes (R266, R268, R275) -/

/-- A band set record: 160 bytes with the CRC-32C of bytes 0 to 27 and 32 to 159 (R266). -/
def bandSetBytes (bsid : Nat) (x : BandSet) : List Byte :=
  let head := leBytes 4 bsid ++ leBytes 1 x.layout ++ leBytes 1 x.k ++ leBytes 1 x.m ++ leBytes 1 x.state ++ leBytes 2 x.u ++ leBytes 2 x.next
    ++ leBytes 4 x.epoch ++ leBytes 8 x.live ++ leBytes 4 0
  let tail := (List.range 32).flatMap fun j => leBytes 4 (x.members.getD j 0xFFFFFFFF)
  head ++ leBytes 4 (crc32c (head ++ tail)).toNat ++ tail

/-- A field of a record in bytes: first byte and number. -/
def fieldAt (b : List Byte) (i n : Nat) : Nat := leNat ((b.drop i).take n)

/-- The band set that a record holds; none where its CRC does not match. -/
def bandSetOf (b : List Byte) : Option (Nat × BandSet) :=
  if fieldAt b 28 4 ≠ (crc32c (b.take 28 ++ (b.drop 32).take 128)).toNat then none
  else
    let k := fieldAt b 5 1
    let m := fieldAt b 6 1
    some (fieldAt b 0 4, { layout := fieldAt b 4 1, k := k, m := m, state := fieldAt b 7 1, u := fieldAt b 8 2, next := fieldAt b 10 2
                           epoch := fieldAt b 12 4, live := fieldAt b 16 8
                           members := (List.range (k + m)).map fun j => fieldAt b (32 + 4 * j) 4 })

/-- An extent record: 32 bytes with the CRC-32C of bytes 0 to 27 (R268). -/
def extentBytes (e : Extent) : List Byte :=
  let head := leBytes 8 e.off ++ leBytes 4 e.len ++ leBytes 8 e.addr ++ leBytes 4 e.gen ++ leBytes 4 0
  head ++ leBytes 4 (crc32c head).toNat

/-- The extent that a record of an object's index holds; none where its CRC does not match. -/
def extentOf (obj : BitVec 128) (b : List Byte) : Option Extent :=
  if fieldAt b 28 4 ≠ (crc32c (b.take 28)).toNat then none
  else some { obj := obj, off := fieldAt b 0 8, len := fieldAt b 8 4, addr := fieldAt b 12 8, gen := fieldAt b 20 4 }

/-- A journal record but for its CRC (R275): 124 bytes. -/
def recordHead (r : JRec) : List Byte :=
  leBytes 8 r.jseq ++ leBytes 1 r.ty ++ leBytes 1 r.layout ++ leBytes 2 r.filled ++ leBytes 4 r.bsid ++ leBytes 2 r.slot ++ leBytes 2 0
    ++ leBytes 4 r.lepoch ++ leBytes 8 r.wseq ++ leBytes 4 r.missing ++ leBytes 4 0 ++ leBytes 8 r.prev
    ++ (List.range 76).map (Config.recordBody r)

/-- A journal record as found is valid: its CRC matches (R275, R277). -/
def recordValid (r : FoundRec) : Bool := r.crc == crc32c (recordHead r.body)

/-! ### Draws (R282, R298) -/

/-- S_L of a layout (R304). -/
def State.seedOf (s : State) (l : Nat) : Nat := s.rd (PRZ_LAYOUT1_SEED l) + s.rd (PRZ_LAYOUT2_SEED l) * 2 ^ 32

/-- The key K(b) of a draw (R282). -/
def drawKey (l seed q b : Nat) : Nat :=
  beNat ((sha384 (leBytes 1 l ++ leBytes 8 seed ++ leBytes 8 q ++ leBytes 1 b)).take 4)

/-- An arm is ACTIVE with a FREE band on one of its surfaces (R282). -/
def State.armFree (s : State) (k : Nat) : Bool :=
  s.rd (PRZ_ARM_STATE k) == armActive
    && s.red.free.any fun p => hportSlice p.1 == k && ! p.2.isEmpty && ! s.isRetired p.1 && ! s.red.unformatted.contains p.1

/-- Insert by key, equal keys keeping the order of insertion. -/
def insertKey (x : Nat × Nat) : List (Nat × Nat) → List (Nat × Nat)
  | [] => [x]
  | y :: r => if x.1 < y.1 then x :: y :: r else y :: insertKey x r

/-- Eligible bays in ascending K(b), ties by ascending b, with their keys. -/
def State.rankBays (s : State) (l q : Nat) (ok : Nat → Bool) : List (Nat × Nat) :=
  ((List.range s.bayCount).filter ok).foldl (fun t b => insertKey (drawKey l (s.seedOf l) q b, b) t) []

/-- The next surface in rotation of arm `k` that has a FREE band (R282). -/
def State.nextSurface (s : State) (k : Nat) : Option Nat :=
  let r := smGet 0 s.red.rotate k
  let hs := (List.range 12).map fun i => hportOf (bayOf k) (actOf k) ((r + i) % 12)
  hs.find? fun p => s.red.free.any (fun x => x.1 == p && ! x.2.isEmpty) && ! s.isRetired p && ! s.red.unformatted.contains p

/-- Take the lowest-numbered FREE band of the next surface of an arm: its BAND. -/
def State.takeBand (s : State) (k : Nat) : Option (Nat × State) :=
  match s.nextSurface k with
  | none => none
  | some p =>
    match smGet [] s.red.free p with
    | [] => none
    | n :: r =>
      some (p * 2 ^ 15 + n, (s.setRed { s.red with
        free := smPut s.red.free p r, rotate := smPut s.red.rotate k (hportHead p + 1) }).delta (.free p r))

/-- The arm of a bay that a draw takes: K(b) bit 0 if eligible, else the other. -/
def State.drawArm (s : State) (key b : Nat) : Nat := if s.armFree (2 * b + key % 2) then 2 * b + key % 2 else 2 * b + (1 - key % 2)

/-- The bands of the first `n` ranked bays. -/
def State.takeBands (s : State) : Nat → List (Nat × Nat) → Option (List Nat × State)
  | 0, _ => some ([], s)
  | _ + 1, [] => none
  | n + 1, (key, b) :: r =>
    match s.takeBand (s.drawArm key b) with
    | none => none
    | some (x, s) =>
      match State.takeBands s n r with
      | none => none
      | some (l, s) => some (x :: l, s)

/-- An ACTIVE layout's word 0 (R280, R304). -/
def State.layoutActive (s : State) (l : Nat) : Bool := s.rd (PRZ_LAYOUT0_STATE l) == 1

/-- The entry of a band is OPEN with WP = QP = 0 (R263, OPEN), in a band set (R261). -/
def State.openBand (s : State) (bsid band : Nat) : State :=
  let r := s.btNeed band
  match r.1 with
  | .cached => (r.2.updBt band fun x => setBtLive (setBtBsid (setBtAdj (setBtQp (setBtWp (setBtState x bandOpen) 0) 0) false) bsid) 0).bandDelta band
  | _ => r.2

/-- Draw a band set for layout `l` (R282): none where fewer than k + m bays are eligible, with an event. -/
def State.drawSet (s : State) (l : Nat) : Option Nat × State :=
  let k := s.rd (PRZ_LAYOUT0_K l)
  let m := s.rd (PRZ_LAYOUT0_M l)
  let q := smGet 0 s.red.draws l
  let ranked := s.rankBays l q fun b => s.armFree (2 * b) || s.armFree (2 * b + 1)
  if ¬ s.layoutActive l ∨ ranked.length < k + m then (none, s.event 9 .rebuild 8 l)
  else match s.takeBands (k + m) ranked with
    | none => (none, s.event 9 .rebuild 8 l)
    | some (bands, s) =>
      let bsid := lowestFree s.red.sets 0
      let s := (s.setRed { s.red with draws := smPut s.red.draws l (q + 1) }).setBandSet bsid
        { layout := l, k := k, m := m, state := 1, u := 64 * 2 ^ s.rd (PRZ_LAYOUT0_UCODE l), epoch := s.rd PRZ_LEPOCH_EPOCH, members := bands }
      (some bsid, ((bands.foldl (fun s b => s.openBand bsid b) s).delta (.draws l (q + 1))).delta (.set bsid (s.bandSet bsid)))

/-! ### Stripes and intents (R277, R278, R283, R291) -/

/-- Stripe slots of a band set (R266). -/
def bsSlots (x : BandSet) : Nat := 65536 / max 1 x.u

/-- The layout address of the first byte of slot `i` (R267). -/
def bsSlotAddr (x : BandSet) (bsid i : Nat) : Nat := bsid * 2 ^ 33 + i * x.k * x.u * 4096

/-- The bitmap bits of slot `i` (R290, R291). -/
def bsBits (x : BandSet) (bsid i : Nat) : List Nat :=
  let a := (bsSlotAddr x) bsid i / 2 ^ 30
  let b := ((bsSlotAddr x) bsid (i + 1) - 1) / 2 ^ 30
  (List.range (b + 1 - a)).map fun d => (a + d) % 2 ^ 23

/-- Set the bits of a stripe; the sector of a bit that was clear is written on every home (R291). -/
def State.setBits (s : State) (bits : List Nat) : State :=
  bits.foldl (fun s n =>
    if s.red.dirty.contains n then s else (s.setRed { s.red with dirty := n :: s.red.dirty }).writeBitmap n) s

/-- The open stripe of a filling band set is sealed (R278, R283): its sealing INTENT, its dirty bits, the next slot; the band set is
sealed with its last slot. What remains of the write path is queued. -/
def State.sealStripe (s : State) (b : Nat) : State :=
  match s.bandSet b, s.red.opened.find? fun p => p.1 == b with
  | some x, some (_, o) =>
    if x.state ≠ 1 then s
    else
      let s := s.record { ty := 1, layout := x.layout, filled := max 1 o.filled, bsid := b, slot := x.next, wseq := o.wseq }
      let s := s.setRed { s.red with
        opened := smErase s.red.opened b, open_ := s.red.open_ ++ [(b, x.next)]
        stripes := s.red.stripes ++ [{ bsid := b, slot := x.next, wseq := o.wseq, units := o.units }] }
      let s := s.setBits ((bsBits x) b x.next)
      s.setBandSet b { x with next := x.next + 1, state := if x.next + 1 ≥ (bsSlots x) then 2 else 1 }
  | _, _ => s

/-- Every member of slot `i` has been written: its band's WP lies beyond the unit, or its entry is no longer pinned. -/
def State.slotWritten (s : State) (x : BandSet) (i : Nat) : Bool :=
  x.members.all fun b => match s.btLine b with
    | some l => decide ((i + 1) * x.u ≤ btWp l.bytes)
    | none => true

/-- Committed writes all of whose slots are DONE need no flushing: they are credited (R399). -/
def State.settleSlot (s : State) (q : Nat × Nat) : State :=
  let l := s.host.commits.map fun c => { c with slots := c.slots.filter (· ≠ q) }
  let done := l.filter fun c => c.slots.isEmpty
  let s : State := { s with host := { s.host with commits := l.filter fun c => ! c.slots.isEmpty } }
  done.foldl (fun s c => s.creditAll c.handle) s

/-- DONE is recorded for a slot. -/
def State.slotDone (s : State) (bsid slot : Nat) : State :=
  let s := (s.record { ty := 2, bsid := bsid, slot := slot }).settleSlot (bsid, slot)
  s.setRed { s.red with open_ := s.red.open_.filter (· ≠ (bsid, slot)), ready := s.red.ready.filter (· ≠ (bsid, slot)) }

/-- DONE is recorded for every stripe whose member writes have all completed good (R278). -/
def State.recordDone (s : State) : State :=
  let fin := s.red.open_.filter fun p => match s.bandSet p.1 with
    | some x => s.red.ready.contains p && s.slotWritten x p.2
    | none => false
  fin.foldl (fun s p =>
    s.slotDone p.1 p.2) s

/-- PAD records take the next `n` JSEQ values (R275). -/
def State.padRecords (s : State) (n : Nat) : State := if n = 0 then s else jseqWrite (BitVec.ofNat 64 (s.vwNat 27 + n)) s

/-- The JRNL ring of some pair is full: every sector still holds records that a replay may need (R271). -/
def State.ringFull (s : State) : Bool := s.red.pairs.any fun p => decide (16384 ≤ p.2.ends.length)

/-- JOURNAL_FLUSH (R276, R278, R279): a pair's open sector, completed with PAD records, is written to both of its surfaces
in ring order; `good0` and `good1` say whether each write was good. Its INTENTs then let member writes go; a pair one of
whose surfaces failed is broken. -/
def journalFlush (pair : Fin 16) (good0 good1 : Bool) (s : State) : State :=
  let s := s.checkRoles
  match s.red.pairs.find? fun p => p.1 == pair.val with
  | none => s
  | some (i, p) =>
    match p.sector with
    | [] => s
    | r :: rs =>
      let s := s.padRecords (31 - rs.length)
      let s := if good0 then s.emit (.landing p.s0 p.pos 2) else s
      let s := if good1 then s.emit (.landing p.s1 p.pos 2) else s
      if good0 ∧ good1 then
        let now := (r :: rs).take 32
        let s := match p.debits with
          | h :: _ => s.sectorDone h
          | [] => s
        let ok := (now.filter fun x => x.ty == 1 && decide (1 ≤ x.filled)).map fun x => (x.bsid, x.slot)
        s.setRed { s.red with
          ready := s.red.ready ++ ok
          pairs := smPut s.red.pairs i { p with
            sector := (r :: rs).drop 32, pos := if p.pos = 16399 then 16 else p.pos + 1, prev := r.jseq
            ends := p.ends ++ [(now.getLast?.getD r).jseq], debits := p.debits.drop 1 } }
      else s.newPair i

/-- JOURNAL_FLUSH. -/
def execJournalFlush (pair : Fin 16) (good0 good1 : Bool) (s : State) : Result := clocked s (journalFlush pair good0 good1 s)

/-- BITMAP_CLEAR (R291): a bit clears once no stripe of its region has an unresolved INTENT; its sector goes to the homes when it is
next written, or at the next checkpoint commit. -/
def bitmapClear (region : BitVec 23) (s : State) : State :=
  let s := s.recordDone
  let n := region.toNat
  let busy := (s.red.open_ ++ s.red.resync).any fun p => match s.bandSet p.1 with
    | some x => ((bsBits x) p.1 p.2).contains n
    | none => false
  if busy ∨ ! s.red.dirty.contains n then s
  else s.setRed { s.red with
    dirty := s.red.dirty.filter (· ≠ n), bmapStale := (n / 32768) :: s.red.bmapStale.filter (· ≠ n / 32768) }

/-- BITMAP_CLEAR. -/
def execBitmapClear (region : BitVec 23) (s : State) : Result := clocked s (bitmapClear region s)

/-! ### Member failures (R294 to R296) -/

/-- PROBCNT counts the probations of the last 24 hours (R296). -/
def State.showProbs (s : State) (k : Nat) : State :=
  let l := (smGet [] s.red.probAt k).filter fun t => decide (s.now < t + 86400 * 10 ^ 9)
  (s.setRed { s.red with probAt := smPut s.red.probAt k l }).wr (PRZ_ARM_PROBCNT k) (min 15 l.length)

/-- SLOW_MEMBER (R295): an operation released to the slice, or its seek, has not completed within TMO. The late operation
goes on; firmware sets SUSPECT, or FAILED where PROBCNT has reached PMAX (R294). -/
def slowMember (k : Slice) (s : State) : State :=
  let outstanding := (s.schedS k).released.isSome || ! (s.sliceS k).ops.isEmpty
  if ¬ s.on PRZ_GCTL_SLOWEN ∨ ¬ outstanding ∨ (s.calS k).running.isSome then s
  else
    let s := ((s.put (PRZ_ARM_SLOW k) true).bump (PRZ_ARM_TMOCNT k)).event 9 .prismLost 2 k
    let s := s.showProbs k
    if s.rd PRZ_PROB_PMAX ≤ s.rd (PRZ_ARM_PROBCNT k) then s.failArms [k] else s.suspectArms [k]

/-- SLOW_MEMBER. -/
def execSlowMember (k : Slice) (s : State) : Result := clocked s (slowMember k s)

/-- REATTACH_TIMEOUT (R294): a bay has not been attached again, and both arms are FAILED. -/
def reattachTimeout (b : Bay) (s : State) : State :=
  if s.on (BL_CTL_ATTACHED b) then s
  else s.changeArms [2 * b, 2 * b + 1] (fun x => x == armSuspect || x == armProbation) armFailed

/-- REATTACH_TIMEOUT. -/
def execReattachTimeout (b : Bay) (s : State) : Result := clocked s (reattachTimeout b s)

/-! ### Checkpoints and recovery (R271 to R273, R277, R292) -/

/-- A checkpoint is due (R271): CKPT_INT has passed since the last was started, or a journal ring is 75 % full. -/
def State.ckptDue (s : State) : Bool :=
  decide (s.red.ckptAt + s.rd (CFG_PARAM_VALUE 13) * 10 ^ 9 ≤ s.now) || s.red.pairs.any fun p => decide (3 * 16384 ≤ 4 * p.2.ends.length)

/-- CHECKPOINT_START (R271): none while one is being written. -/
def checkpointStart (s : State) : State :=
  if s.red.running.isSome ∨ ¬ s.ckptDue then s
  else s.setRed { s.red with running := some (s.red.committed + 1, s.red.releasing, s.vwNat 27), ckptAt := s.now }

/-- CHECKPOINT_START. -/
def execCheckpointStart (s : State) : Result := clocked s (checkpointStart s)

/-- Distinct bays of a list of surfaces. -/
def distinctBays (l : List (BitVec 10)) : List Nat := (l.map fun p => hportBay p.toNat).eraseDups

/-- The number of a band on its surface becomes free again, in rising order. -/
def insertNat (n : Nat) : List Nat → List Nat
  | [] => [n]
  | m :: r => if n < m then n :: m :: r else if n = m then m :: r else m :: insertNat n r

/-- A released band is FREE (R270). -/
def State.freeBand (s : State) (band : Nat) : State :=
  let p := band / 2 ^ 15
  let s := ((s.btNeed band).2.updBt band fun e => setBtLive (setBtBsid (if btState e = bandUnusable then e else setBtState e bandFree) noBsid) 0).bandDelta band
  let l := insertNat (band % 2 ^ 15) (smGet [] s.red.free p)
  (s.setRed { s.red with free := smPut s.red.free p l }).delta (.free p l)

/-- A copy of a chunk of 1,024 sectors, as BAND and INDEX, lies in CKPT slot `g` mod 2 of a landing zone (R251, R252, R271). -/
def copyInSlot (g : Nat) (c : Nat × Nat) : Bool :=
  let first := 21008 + g % 2 * 65536
  decide (2 ^ 31 ≤ c.1) && c.1 % 2 ^ 15 == 0 && decide (c.1 < 2 ^ 31 + 2 ^ 25) && decide (first ≤ c.2) && decide (c.2 + 1024 ≤ first + 65536)

/-- The two copies of a chunk lie in their slot, on surfaces of distinct bays. -/
def chunkOk (g : Nat) (c : (Nat × Nat) × (Nat × Nat)) : Bool :=
  copyInSlot g c.1 && copyInSlot g c.2 && hportBay (c.1.1 / 2 ^ 15 % 1024) != hportBay (c.2.1 / 2 ^ 15 % 1024)

/-- The chunk's two copies of 4 MiB, as written. -/
def State.emitChunk (s : State) (c : (Nat × Nat) × (Nat × Nat)) : State :=
  (s.emit (.landingRun (c.1.1 / 2 ^ 15 % 1024) c.1.2 1024 4)).emit (.landingRun (c.2.1 / 2 ^ 15 % 1024) c.2.2 1024 4)

/-- CHECKPOINT_COMMIT (R270 to R272): every chunk and the chunk directory have been written good at the places given, and the root
to the ROOT rings of the listed surfaces; on 4 distinct bays the checkpoint is committed, the bands it no longer refers to
are FREE, and older journal records may go. -/
def checkpointCommit (surfaces : List (BitVec 10)) (chunks : List ((Nat × Nat) × (Nat × Nat))) (dir : (Nat × Nat) × (Nat × Nat))
    (s : State) : State :=
  match s.red.running with
  | none => s
  | some (g, bands, from_) =>
    if (distinctBays surfaces).length < 4 ∨ ¬ (dir :: chunks).all (chunkOk g) then s
    else
      let s := (dir :: chunks).foldl (fun s c => s.emitChunk c) s
      let s := surfaces.foldl (fun s p => s.emit (.landing p.toNat (2 + g % 14) 6)) s
      let s := s.setRed { s.red with
        running := none, committed := g, replayFrom := from_
        root := some { gen := g, wt := s.wt, lepoch := s.rd PRZ_LEPOCH_EPOCH, replay := from_, chunks := chunks.length, dir := dir }
        releasing := s.red.releasing.filter fun b => ! bands.contains b
        journal := s.red.journal.filter fun r => decide (from_ ≤ r.jseq)
        pairs := s.red.pairs.map fun p => (p.1, { p.2 with ends := p.2.ends.filter fun j => decide (from_ ≤ j) }) }
      let s := s.red.bmapStale.foldl (fun s t => s.writeBmap t) s
      bands.foldl (fun s b => s.freeBand b) s

/-- CHECKPOINT_COMMIT. -/
def execCheckpointCommit (surfaces : List (BitVec 10)) (chunks : List ((Nat × Nat) × (Nat × Nat))) (dir : (Nat × Nat) × (Nat × Nat))
    (s : State) : Result := clocked s (checkpointCommit surfaces chunks dir s)

/-! ### Recovery (R253, R273, R277, R292, R406) -/

/-- A copy of a surface header is valid: its CRC matches (R253). -/
def headerValid (h : SurfHeader) : Bool := h.crc == crc32c (Config.headerBody { h with crc := 0 })

/-- A root counts: its CRC matches, and each of its chunks can be read from at least one copy (R272, R273). -/
def rootValid (r : RootFound) : Bool :=
  r.crc == crc32c (Config.rootBody r.root) && r.chunks.length == r.root.chunks && r.chunks.all fun c => c.1 || c.2

/-- The valid root with the highest generation (R273). -/
def bestRoot (l : List RootFound) : Option Root :=
  (l.filter rootValid).foldl (fun t r => match t with
    | none => some r.root
    | some b => if b.gen < r.root.gen then some r.root else t) none

/-- The first 60 bytes of a flush run header (R406). -/
def flushHeaderBytes (h : FlushHeader) : List Byte :=
  [0x46, 0x59, 0x46, 0x4C, 0x55, 0x53, 0x48, 0x31] ++ leBytes 8 h.plgen ++ leBytes 2 h.hport ++ leBytes 2 0 ++ leBytes 4 h.planned
    ++ leBytes 8 h.wseq0 ++ leBytes 8 h.jFirst ++ leBytes 8 h.jLast ++ leBytes 8 h.wt ++ leBytes 4 h.lepoch

/-- The flush run's header sector (R406): "FYFLUSH1", its fields, the CRC-32C of bytes 0 to 59, and zeros. -/
def flushSector0 (h : FlushHeader) : List Byte :=
  flushHeaderBytes h ++ leBytes 4 (crc32c (flushHeaderBytes h)).toNat ++ List.replicate 4032 0

/-- The runs that count: a true header that carries the highest PLGEN found (R406). -/
def runsThatCount (l : List FlushRunFound) : List FlushRunFound :=
  let ok := l.filter fun r => r.crc == crc32c (flushHeaderBytes r.head)
  let top := ok.foldl (fun n r => max n r.head.plgen) 0
  ok.filter fun r => r.head.plgen == top

/-- The sectors of a run that count: within the planned number, their tag verifies, WSEQ at or above WSEQ0 (R406). -/
def sectorsThatCount (r : FlushRunFound) : List FlushSector :=
  r.sectors.filter fun x => decide (1 ≤ x.pos) && decide (x.pos ≤ r.head.planned) && x.tagOk && decide (r.head.wseq0 ≤ x.wseq)

/-- The flushed sectors of a kind that count. -/
def flushedOf (f : RecoveryFound) (kind : Nat) : List FlushSector :=
  ((runsThatCount f.runs).flatMap sectorsThatCount).filter fun x => x.kind == kind

/-- Put a record in JSEQ order; one of two copies with the same JSEQ is taken (R277). -/
def insertRec (r : JRec) : List JRec → List JRec
  | [] => [r]
  | q :: l => if r.jseq < q.jseq then r :: q :: l else if r.jseq = q.jseq then q :: l else q :: insertRec r l

/-- The records that replay takes (R277): valid ones at or above the replay position, from the rings and from the flushed journal
image, in JSEQ order. -/
def replayOf (f : RecoveryFound) (from_ : Nat) : List JRec :=
  let all := f.records ++ (flushedOf f 2).flatMap fun x => x.recs
  ((all.filter fun r => recordValid r && decide (from_ ≤ r.body.jseq)).map fun r => r.body).foldl (fun l r => insertRec r l) []

/-- Load the checkpoint (R273): the band map goes to DRAM; records whose CRC fails are left out. A surface formatted since the
reset has a free-band list already: it keeps its entries. -/
def State.loadImage (s : State) (c : CkptImage) : State :=
  let s : State := { s with host := { s.host with
    objKeys := c.keys.foldl (fun m p => smPut m p.1 { wrapped := p.2 }) [] } }
  let fresh (p : Nat) : Bool := s.red.free.any fun q => q.1 == p
  let s := (c.bandMap.filter fun e => ! fresh (btBand e / 2 ^ 15)).foldl (fun s e =>
    (s.busWrite false (s.btAddr (btBand e)) (btBytes (btSeal e))).2) s
  s.setRed { s.red with
    sets := (c.sets.filterMap bandSetOf).foldl (fun m p => smPut m p.1 p.2) []
    extents := c.extents.filterMap fun p => extentOf p.1 p.2
    free := (c.free.filter fun p => ! fresh p.1).foldl (fun m p => smPut m p.1 p.2) s.red.free
    draws := c.draws.foldl (fun m p => smPut m p.1 p.2) [] }

/-- Apply the item of a DELTA or EPOCH record (R277). -/
def State.applyDelta (s : State) (d : Delta) : State :=
  match d with
  | .band e => (s.btPlace (btBand e) (btSeal e)).2
  | .set b (some x) => s.setBandSet b x
  | .set b none => s.setRed { s.red with sets := smErase s.red.sets b }
  | .index o l => s.setRed { s.red with extents := (s.red.extents.filter fun e => e.obj != o) ++ l }
  | .free p l => s.setRed { s.red with free := smPut s.red.free p l }
  | .draws l n => s.setRed { s.red with draws := smPut s.red.draws l n }
  | .arms _ _ => s
  | .format p => s.formatMap p
  | .reshape old new k m ucode seed =>
    let s := ((s.wr (PRZ_LAYOUT0_K new) k).wr (PRZ_LAYOUT0_M new) m).wr (PRZ_LAYOUT0_UCODE new) ucode
    let s := (s.wr (PRZ_LAYOUT1_SEED new) (seed % 2 ^ 32)).wr (PRZ_LAYOUT2_SEED new) (seed / 2 ^ 32)
    (s.wr (PRZ_LAYOUT0_STATE new) 1).wr (PRZ_LAYOUT0_STATE old) 2
  | .layoutEmpty l => s.wr (PRZ_LAYOUT0_STATE l) 0
  | .key o (some w) => { s with host := { s.host with objKeys := smPut s.host.objKeys o { wrapped := w } } }
  | .key o none => { s with host := { s.host with objKeys := smErase s.host.objKeys o } }

/-- The surface that an item is about: its band map entries or free bands. -/
def deltaSurface : Delta → Option Nat
  | .band e => some (btBand e / 2 ^ 15)
  | .free p _ => some p
  | .format p => some p
  | _ => none

/-- Apply the DELTA and EPOCH records of a replay, in JSEQ order (R277), but for items about surfaces formatted since the reset. -/
def State.applyRecords (s : State) (fresh : Nat → Bool) (l : List JRec) : State :=
  l.foldl (fun s r => match r.item with
    | some d => if (r.ty = 3 ∨ r.ty = 6) ∧ ! ((deltaSurface d).elim false fresh) then s.applyDelta d else s
    | none => s) s

/-- A journal pair goes on where its ring was found to end, and keeps what a replay may need (R271, R275). -/
def JPair.found (p : JPair) (from_ : Nat) (l : List RingFound) : JPair :=
  match l.find? fun r => r.hport == p.s0 || r.hport == p.s1 with
  | some r => { p with pos := r.next, prev := r.prev, ends := r.ends.filter fun j => decide (from_ ≤ j) }
  | none => p

/-- A stripe intent of a list of records that no later DONE or LOST answers (R277). -/
def unresolved (l : List JRec) : List (Nat × Nat) :=
  ((l.filter fun r => r.ty == 1 && ! l.any fun q =>
    (q.ty == 2 || q.ty == 5) && q.bsid == r.bsid && q.slot == r.slot && decide (r.jseq < q.jseq)).map fun r => (r.bsid, r.slot)).eraseDups

/-- DEGRADED records that no later DONE or LOST of their slot answers. -/
def stillDegraded (l : List JRec) : List JRec :=
  l.filter fun r => r.ty == 4 && ! l.any fun q =>
    (q.ty == 2 || q.ty == 5) && q.bsid == r.bsid && q.slot == r.slot && decide (r.jseq < q.jseq)

/-- Leading sectors of an OPEN band (R273): those the checkpoint held already, then those that verify good and carry the band's
BAND and INDEX with a WSEQ newer than the checkpoint. -/
def leadSectors (band wp wseq : Nat) : Nat → List BandSector → Nat
  | i, [] => min i wp
  | i, x :: r =>
    if i < wp ∨ (x.good ∧ x.band = band ∧ x.index = i ∧ wseq ≤ x.wseq) then max (i + 1) (leadSectors band wp wseq (i + 1) r) else i

/-- WP and QP of an OPEN band are restored (R273): both are the number of its leading sectors. -/
def State.restoreOpen (s : State) (wseq : Nat) (p : Nat × List BandSector) : State :=
  let s := (s.btNeed p.1).2
  match s.btLine p.1 with
  | none => s
  | some l =>
    if btState l.bytes ≠ bandOpen then s
    else
      let n := leadSectors p.1 (btWp l.bytes) wseq 0 p.2
      (s.btPlace p.1 (btSeal (setBtQp (setBtWp l.bytes n) n))).2

/-- The extents whose data lies in a stripe slot. -/
def State.slotExtents (s : State) (x : BandSet) (bsid slot : Nat) : List Extent :=
  let lo := bsSlotAddr x bsid slot
  let hi := bsSlotAddr x bsid (slot + 1)
  s.red.extents.filter fun e => decide (e.addr < hi) && decide (lo < e.addr + e.len)

/-- Every object block of some extents is present in recovered flush data (R277). -/
def flushHolds (l : List FlushSector) (ext : List Extent) : Bool :=
  ext.all fun e => (List.range ((e.off + e.len + 4095) / 4096 - e.off / 4096)).all fun i =>
    l.any fun x => x.obj == e.obj && x.addr == (e.off / 4096 + i) * 4096

/-- A slot is abandoned (R277): its band set is sealed, and its member bands are closed at their WP. -/
def State.abandonSlot (s : State) (bsid : Nat) (x : BandSet) : State :=
  let s := s.setBandSet bsid { x with state := 2 }
  let s := s.setRed { s.red with opened := smErase s.red.opened bsid }
  x.members.foldl (fun s b => s.updMember bsid b closeEntry) s

/-- Resolve a stripe whose last INTENT has no later DONE or LOST (R277, Intent resolution). -/
def State.resolveStripe (s : State) (flushed : List FlushSector) (f : StripeFound) : State :=
  match s.bandSet f.bsid with
  | none => s
  | some x =>
    if ¬ s.red.open_.contains (f.bsid, f.slot) then s
    else
      let data := decide (f.data.length = x.k) && f.data.all id
      let whole := decide (f.parity.length = x.m) && f.parity.all (fun n => decide (x.u ≤ n))
      let ext := s.slotExtents x f.bsid f.slot
      let stop := (f.slot + 1) * x.u
      if data ∧ whole ∧ ¬ f.mismatch then s.slotDone f.bsid f.slot
      else if data ∧ ¬ whole then
        let s := (x.members.drop x.k).foldl (fun s b =>
          s.updMember f.bsid b fun e => setBtQp (setBtWp e (max (btWp e) stop)) (max (btWp e) stop)) s
        s.slotDone f.bsid f.slot
      else
        let s := s.setRed { s.red with open_ := s.red.open_.filter (· ≠ (f.bsid, f.slot)) }
        let s := s.abandonSlot f.bsid x
        if ¬ data ∧ flushHolds flushed ext then s.setRed { s.red with rewrite := s.red.rewrite ++ ext }
        else (s.setRed { s.red with extents := s.red.extents.filter fun e => ! ext.contains e }).event 0 .recovery f.bsid f.slot

/-- The written slots whose region maps to a set bit of the bitmap (R292). -/
def State.dirtySlots (s : State) : List (Nat × Nat) :=
  s.red.sets.flatMap fun p => ((List.range p.2.next).filter fun i => (bsBits p.2 p.1 i).any s.red.dirty.contains).map fun i => (p.1, i)

/-- What recovery found of the newest checkpoint is loaded and the journal replayed (R273, R277). -/
def State.replay (s : State) (f : RecoveryFound) (r : Root) (image : CkptImage) : State :=
  let l := replayOf f r.replay
  let fresh (p : Nat) : Bool := s.red.free.any fun q => q.1 == p
  let lost := s.va.pairs.any fun p => ! f.rings.any fun q => q.hport == p.2.1 || q.hport == p.2.2
  let s := (s.loadImage image).applyRecords fresh l
  let e := l.foldl (fun n q => max n q.lepoch) (max r.lepoch (s.rd PRZ_LEPOCH_EPOCH))
  let s := s.setRed { s.red with
    journal := l, committed := r.gen, replayFrom := r.replay, root := some r, running := none, noRoot := false, dirty := f.bitmap
    open_ := unresolved l, ready := [], degraded := stillDegraded l }
  let s := s.setRed { s.red with resync := if lost && (flushedOf f 2).isEmpty then s.dirtySlots else [] }
  (s.wr PRZ_LEPOCH_EPOCH e).setVw 25 (BitVec.ofNat 64 e)

/-- Journal pairs and homes are taken up; what was journalled since the reset joins them. Members whose HDA was exchanged while
the device was off are missing. -/
def State.takeRoles (s : State) (f : RecoveryFound) (r : Root) (made : List JRec) (bays : List Nat) : State :=
  let s := bays.foldl (fun s b => s.markGone b) (s.setRed { s.red with up := true }).checkRoles
  let s := s.setRed { s.red with pairs := s.red.pairs.map fun p => (p.1, p.2.found r.replay f.rings) }
  made.foldl (fun s q => s.journalRecord q) s

/-- The ranges of the flush report are lost (R409, R300); the report has then done its work (DESIGN CHOICE, log entry 107). -/
def State.takeFlushReport (s : State) : State :=
  let s : State := s.va.report.foldl (fun s r =>
    { s with host := { s.host with objects := s.host.objects.map fun p =>
      if p.1 % 2 ^ 128 = r.obj.toNat then (p.1, { p.2 with lost := p.2.lost ++ [(r.off, r.off + r.len)] }) else p } }) s
  { s with va := { s.va with report := [], more := 0 } }

/-- RECOVERY (R253, R273, R277, R292, R409): surface headers are judged; the newest checkpoint whose root is valid is loaded, the
journal replayed, WP and QP of OPEN bands restored from the leading good sectors, the stripes whose INTENT is open resolved,
and resynchronisation begun where some pair yielded neither ring and no journal image was flushed. With no valid root the
object interface stays fenced. -/
def recovery (f : RecoveryFound) (s : State) : State :=
  let s := s.setRed { s.red with
    unformatted := (f.headers.filter fun h => ! headerValid h.2.1 && ! headerValid h.2.2).map Prod.fst }
  match bestRoot f.roots with
  | none => (s.setRed { s.red with noRoot := true }).event 0 .recovery 0 0
  | some r =>
    let image := ((f.images.find? fun p => p.1 == r.gen).map Prod.snd).getD {}
    let t := (s.replay f r image).takeRoles f r s.red.journal (s.red.free.map fun p => hportBay p.1).eraseDups
    let t := f.openBands.foldl (fun s p => s.restoreOpen image.wseq p) t
    ((f.stripes.foldl (fun s x => s.resolveStripe (flushedOf f 3) x) t).takeFlushReport).showDigest

/-- RECOVERY. -/
def execRecovery (rec : RecoveryFound) (s : State) : Result := clocked s (recovery rec s)

end Sys2Proof.Machine
end

