-- ==== Sys2Proof/Machine/Image.lean ====
section
/-! DEFINITION. Sys2Proof/Machine/Image.lean: the bytes of SPI flash, its header and its boot control record (R518, R519, R522),
and images as bytes: format, segments, signature blocks and verification (R386, R387, R470 to R474), and the sections of a
profile (R525). -/
namespace Sys2Proof.Machine
open Sys2Proof

/-- Replace what the flash controller and firmware keep of images and profiles. -/
def State.setCfg (s : State) (x : CfgSt) : State := { s with cfg := x }

/-! ### SPI flash (R518, R519) -/

/-- A byte of the flash; unlisted bytes are erased. -/
def State.flashByte (s : State) (a : Nat) : Byte := smGet 0xFF s.cfg.flash a

/-- Density in bytes. -/
def State.flashSize (s : State) : Nat := s.rd CFG_FL_SIZE_MBIT * 2 ^ 17

/-- Bytes from an address, 0xFF beyond the density. -/
def State.flashBytes (s : State) (a n : Nat) : List Byte :=
  (List.range n).map fun i => if a + i < s.flashSize then s.flashByte (a + i) else 0xFF

/-- A block of 64 KiB is erased. -/
def State.eraseBlock (s : State) (b : Nat) : State := s.setCfg { s.cfg with flash := s.cfg.flash.filter fun p => p.1 / 65536 != b }

/-- The device writes bytes of its own into erased flash. -/
def State.storeFlash (s : State) (a : Nat) (bs : List Byte) : State :=
  s.setCfg { s.cfg with flash := bs.zipIdx.foldl (fun m p => smSet 0xFF m (a + p.2) p.1) s.cfg.flash }

/-- A copy of the flash header is valid: "FYFLASH1", format 1, CRC-32C of bytes 0 to 251 (R519). -/
def flashHeaderOk (h : List Byte) : Bool :=
  h.take 8 == [0x46, 0x59, 0x46, 0x4C, 0x41, 0x53, 0x48, 0x31] && fieldAt h 8 1 == 1 && fieldAt h 252 4 == (crc32c (h.take 252)).toNat

/-- Region entry `i` of a header (R519): its type byte, and its offset and size in blocks of 64 KiB. -/
def flashRegion (h : List Byte) (i : Nat) : Byte × Nat × Nat := (h.getD (16 + 8 * i) 0, fieldAt h (16 + 8 * i + 4) 2, fieldAt h (16 + 8 * i + 6) 2)

/-- Two of a list of places (first, size) overlap. -/
def placesOverlap : List (Nat × Nat) → Bool
  | [] => false
  | (a, n) :: r => r.any (fun q => decide (a < q.1 + q.2) && decide (q.1 < a + n)) || placesOverlap r

/-- The regions of a header fit the flash (R519): apart, within the density, of their minimum sizes. -/
def regionsOk (h : List Byte) (size : Nat) : Bool :=
  let l := (List.range 14).map (flashRegion h)
  ! placesOverlap (l.map Prod.snd) && l.all fun r => decide ((r.2.1 + r.2.2) * 65536 ≤ size) && decide (Config.regionMin r.1 ≤ r.2.2)

/-- The first valid copy of the header is there and its regions fit. -/
def State.headerOk (s : State) : Bool :=
  let a := s.flashBytes 0 256
  let b := s.flashBytes 0x10000 256
  if flashHeaderOk a then regionsOk a s.flashSize else flashHeaderOk b && regionsOk b s.flashSize

/-! ### Image slots and boot control (R519, R522, R523) -/

/-- The set of an image (R522): 0 firmware, 1 policy, 2 to 4 microcode by target, 5 to 8 profiles. -/
def setOf (kind target : Nat) : Nat := if kind = 1 then 0 else if kind = 2 then 1 else if kind = 3 then 2 + target else 5 + target

/-- The size of a slot of a set, default layout (R519; log entry 109). -/
def slotSize (j : Nat) : Nat := if j ≤ 1 then 4 * 2 ^ 20 else if j ≤ 4 then 2 ^ 16 else 2 ^ 18

/-- Where a slot of a set lies, default layout (R519; log entry 109). -/
def slotBase (j slot : Nat) : Nat :=
  (if j = 0 then 0x0B00000 else if j = 1 then 0x1300000 else if j ≤ 4 then 0x0280000 + 2 * (j - 2) * 0x10000 else 0x0080000 + 2 * (j - 5) * 0x40000)
    + slot * slotSize j

/-- The bytes of a slot. -/
def State.slotBytes (s : State) (j slot : Nat) : List Byte := s.flashBytes (slotBase j slot) (slotSize j)

/-- States of the other slot (R522). -/
def slotEmpty : Nat := 0
def slotWriting : Nat := 1
def slotStaged : Nat := 2
def slotTrial : Nat := 3

def State.bootEntry (s : State) (j : Nat) : BootEntry := smGet {} s.cfg.sets j

/-- An entry of the boot control record in bytes (R522). -/
def bootEntryBytes (e : BootEntry) : List Byte :=
  leBytes 1 (e.active.getD 0xFF) ++ leBytes 1 e.other ++ leBytes 1 e.tries ++ leBytes 1 0 ++ leBytes 4 e.verActive.toNat
    ++ leBytes 4 e.verOther.toNat ++ leBytes 4 0

/-- The boot control record: 152 bytes (R522). -/
def State.bootControl (s : State) : List Byte :=
  let body := leBytes 4 s.cfg.bootGen ++ (List.range 9).flatMap fun j => bootEntryBytes (s.bootEntry j)
  body ++ leBytes 4 (crc32c body).toNat

/-- The copies A and B of the boot control record, default layout (R519). -/
def bootCopy (toB : Bool) : Nat := if toB then 0x60000 else 0x50000

/-- The record is written into the copy that does not hold the newer valid one, its GEN one higher (R229, R522). -/
def State.writeBootControl (s : State) : State :=
  let toB := nextCopy s.cfg.bootB
  let s := (s.setCfg { s.cfg with bootGen := (s.cfg.bootGen + 1) % 2 ^ 32, bootB := some toB }).eraseBlock (bootCopy toB / 65536)
  s.storeFlash (bootCopy toB) s.bootControl

/-- An entry changes, in the record in flash too. -/
def State.setBootEntry (s : State) (j : Nat) (x : BootEntry) : State :=
  if s.bootEntry j = x then s else (s.setCfg { s.cfg with sets := smSet {} s.cfg.sets j x }).writeBootControl

/-- The entry of a set in the bytes of a boot control record. -/
def entryOf (b : List Byte) (j : Nat) : BootEntry :=
  let e := (b.drop (4 + 16 * j)).take 16
  { active := if fieldAt e 0 1 ≤ 1 then some (fieldAt e 0 1) else none, other := fieldAt e 1 1, tries := fieldAt e 2 1
    verActive := BitVec.ofNat 32 (fieldAt e 4 4), verOther := BitVec.ofNat 32 (fieldAt e 8 4) }

/-- A copy of the boot control record, if its CRC matches. -/
def State.bootCopyFound (s : State) (b : Bool) : Option (List Byte) :=
  let l := s.flashBytes (bootCopy b) 152
  if fieldAt l 148 4 = (crc32c (l.take 148)).toNat then some l else none

/-- The boot control record is read: the valid copy with the higher GEN (R229, R522); with no valid copy every set has no ACTIVE
slot and an EMPTY one (log entry 109). -/
def State.readBootControl (s : State) : State :=
  let pick (l : List Byte) (b : Bool) : State :=
    s.setCfg { s.cfg with
      sets := (List.range 9).foldl (fun m j => smSet {} m j (entryOf l j)) [], bootGen := fieldAt l 0 4, bootB := some b }
  match s.bootCopyFound false, s.bootCopyFound true with
  | some a, some b => if genLater (fieldAt a 0 4) (fieldAt b 0 4) then pick a false else pick b true
  | some a, none => pick a false
  | none, some b => pick b true
  | none, none => s.setCfg { s.cfg with sets := [], bootGen := 0, bootB := none }

/-- The other slot of a set becomes EMPTY. -/
def State.emptySlot (s : State) (j : Nat) : State :=
  let s := s.setBootEntry j { s.bootEntry j with other := slotEmpty, tries := 0 }
  s.setCfg { s.cfg with staging := smErase s.cfg.staging j }

/-- The slot of a set that is not the ACTIVE one; slot 0 where none is. -/
def BootEntry.otherSlot (e : BootEntry) : Nat := 1 - e.active.getD 1

/-- The other slot of a set becomes ACTIVE. -/
def State.activateSlot (s : State) (j : Nat) : State :=
  let e := s.bootEntry j
  s.setBootEntry j { active := some e.otherSlot, other := slotEmpty, tries := 0, verActive := e.verOther, verOther := e.verActive }

/-- The slot of a set that a boot runs (R524): the TRIAL one in place of the ACTIVE one. -/
def State.runSlot (s : State) (j : Nat) : Option Nat :=
  let e := s.bootEntry j
  if e.other = slotTrial then some e.otherSlot else e.active

/-! ### Images as bytes (R470 to R472) -/

def imgKind (l : List Byte) : Nat := fieldAt l 9 1
def imgSvn (l : List Byte) : Nat := fieldAt l 10 1
def imgTarget (l : List Byte) : Nat := fieldAt l 11 1
def imgVersion (l : List Byte) : BitVec 32 := BitVec.ofNat 32 (fieldAt l 12 4)
def imgLength (l : List Byte) : Nat := fieldAt l 16 4
def imgSegs (l : List Byte) : Nat := fieldAt l 20 4
def imgEntry (l : List Byte) : Word := BitVec.ofNat 64 (fieldAt l 24 8)
def imgSigOff (l : List Byte) : Nat := fieldAt l 88 4

/-- The bytes of `l` from `i`, `n` of them, are all 0. -/
def zeroBytes (l : List Byte) (i n : Nat) : Bool := ((l.drop i).take n).all (· == 0)

/-- The header lies within R470: "FYIMG001", format 1, and MAGIC to SIGOFF as R474 lists them; its reserved bytes are 0. -/
def imgHeaderOk (l : List Byte) : Bool :=
  let k := imgKind l
  l.take 8 == [0x46, 0x59, 0x49, 0x4D, 0x47, 0x30, 0x30, 0x31] && fieldAt l 8 1 == 1 && decide (1 ≤ k) && decide (k ≤ 4)
    && decide (imgTarget l < if k = 3 then 3 else if k = 4 then 4 else 1)
    && imgLength l == imgSigOff l + 512 && decide (1024 ≤ imgLength l) && decide (imgLength l ≤ 64 * 2 ^ 20)
    && decide (1 ≤ imgSegs l) && decide (imgSegs l ≤ 64) && imgSigOff l % 64 == 0 && zeroBytes l 92 164

/-- Entry `i` of the segment table. -/
def segmentAt (l : List Byte) (i : Nat) : Segment :=
  let o := 256 + 32 * i
  { addr := fieldAt l o 8, len := fieldAt l (o + 8) 4, foff := fieldAt l (o + 12) 4, ty := fieldAt l (o + 16) 1, access := fieldAt l (o + 17) 1 }

/-- The segments of an image. -/
def segments (l : List Byte) : List Segment := (List.range (imgSegs l)).map (segmentAt l)

/-- The bytes of a word of a segment's store: 4 for a microword, 12 for a nanoword (R471). -/
def segWord (g : Segment) : Nat := if g.ty = 3 then 4 else if g.ty = 4 then 12 else 1

/-- Where a segment lies in the file: nothing for a zero-fill. -/
def segInFile (g : Segment) : Nat × Nat := (g.foff, if g.ty = 2 then 0 else g.len)

/-- An entry lies within R471: address, type, rights, alignment, place in the file between the table and SIGOFF. -/
def segmentOk (l : List Byte) (g : Segment) : Bool :=
  decide (g.addr < 2 ^ 40) && decide (g.ty ≤ 5) && decide (g.access < 8) && (decide (2 < g.ty) || g.addr % 4096 == 0)
    && (if g.ty = 2 then g.foff == 0
        else g.foff % 64 == 0 && decide (256 + 32 * imgSegs l ≤ g.foff) && decide (g.foff + g.len ≤ imgSigOff l))
    && g.len % segWord g == 0

/-- The segments of types for which `p` holds, as places of their memory or store. -/
def segmentPlaces (gs : List Segment) (p : Nat → Bool) : List (Nat × Nat) := (gs.filter fun g => p g.ty).map fun g => (g.addr, g.len / segWord g)

/-- The segment table lies within R471: every entry, its reserved bytes, and no overlap in the file or in memory. -/
def segmentsOk (l : List Byte) : Bool :=
  let gs := segments l
  gs.all (segmentOk l) && (List.range (imgSegs l)).all (fun i => zeroBytes l (256 + 32 * i + 18) 14)
    && ! placesOverlap (gs.map segInFile) && ! placesOverlap (segmentPlaces gs (· < 3))
    && ! placesOverlap (segmentPlaces gs (· == 3)) && ! placesOverlap (segmentPlaces gs (· == 4))

/-- The data of a segment in the file. -/
def segData (l : List Byte) (g : Segment) : List Byte := (l.drop g.foff).take g.len

/-- A SHA-384 value as a number. -/
def sha384Num (m : List Byte) : BitVec 384 := BitVec.ofNat 384 (beNat (sha384 m))

/-- The measurement of an image (R470). -/
def imgMeas (l : List Byte) : BitVec 384 := sha384Num (l.take 256)

/-- DIGEST matches the bytes from 256 to SIGOFF − 1 (R470). -/
def imgDigestOk (l : List Byte) : Bool := (l.drop 40).take 48 == sha384 ((l.drop 256).take (imgSigOff l - 256))

/-- Signature block `i`: 0 Melwick's, 1 the owner's (R472). -/
def sigBlock (l : List Byte) (i : Nat) : List Byte := (l.drop (imgSigOff l + 256 * i)).take 256

/-- The key of a signature block. -/
def blockKey (b : List Byte) : List Byte := b.take 97

/-- The signature of a block is true: over SHA-384 of "FYIMG-SIG" and the header, the block's fill 0 (R472). A block of zeros holds
no key and so no true signature. -/
def blockTrue (l b : List Byte) : Bool :=
  zeroBytes b 97 31 && zeroBytes b 224 32
    && ecdsaVerify (blockKey b) (sha384 ([0x46, 0x59, 0x49, 0x4D, 0x47, 0x2D, 0x53, 0x49, 0x47] ++ l.take 256)) ((b.drop 128).take 96)

/-! ### Sections of a profile (R525) -/

/-- The sections of a profile body: type and content; none where one runs past the body. LENGTH counts the content (log entry 109). -/
def sectionsOf : Nat → List Byte → Option (List (Nat × List Byte))
  | 0, _ => none
  | fuel + 1, b =>
    let n := fieldAt b 4 4
    if b.isEmpty then some []
    else if b.length < 8 + n ∨ n % 8 ≠ 0 then none
    else (sectionsOf fuel (b.drop (8 + n))).map fun r => (fieldAt b 0 2, (b.drop 8).take n) :: r

/-- The body of a profile: its one segment of type 5. -/
def profileBody (l : List Byte) : List Byte :=
  match (segments l).filter fun g => g.ty == 5 with
  | [g] => segData l g
  | _ => []

/-- The sections of a profile image. -/
def profileSections (l : List Byte) : Option (List (Nat × List Byte)) := sectionsOf ((profileBody l).length + 1) (profileBody l)

/-- The content of the section of a type. -/
def sectionOf (x : List (Nat × List Byte)) (ty : Nat) : Option (List Byte) := (x.find? fun q => q.1 == ty).map Prod.snd

/-- Entries of `n` bytes. -/
def entriesOf (n : Nat) (b : List Byte) : List (List Byte) := (List.range (b.length / n)).map fun i => (b.drop (n * i)).take n

/-- A register setting in bytes. -/
def settingOf (b : List Byte) : Setting :=
  { addr := fieldAt b 0 8, value := BitVec.ofNat 32 (fieldAt b 8 4), mask := BitVec.ofNat 32 (fieldAt b 12 4) }

/-- A member in bytes: its device ID and IPv6 address highest byte first. -/
def memberOf (b : List Byte) : Member :=
  { devId := BitVec.ofNat 384 (beNat (b.take 48)), ip := BitVec.ofNat 128 (beNat ((b.drop 48).take 16)), role := fieldAt b 64 1
    port := fieldAt b 65 1 }

/-- Sections 1, 3 and 4 are there and no type is repeated (0x0103); section 5 is judged beside the role. -/
def requiredSections (x : List (Nat × List Byte)) : Bool :=
  [1, 3, 4].all (fun t => x.any fun q => q.1 == t) && (x.map Prod.fst).all fun t => (x.filter fun q => q.1 == t).length == 1

/-- A profile image as its sections give it, with the status of its verification. -/
def profileOf (status : Nat) (l : List Byte) : Profile :=
  let found := profileSections l
  let x := found.getD []
  let of_ (t : Nat) : List Byte := (sectionOf x t).getD []
  { status := status, target := imgTarget l, sectionsOk := found.isSome && requiredSections x
    settings := (entriesOf 16 (of_ 1)).map settingOf
    params := (entriesOf 16 (of_ 2)).map fun b => (fieldAt b 0 4, fieldAt b 8 8)
    policy := Config.secPolicy (of_ 3)
    layout := (entriesOf 4 (of_ 4)).map fun b => BitVec.ofNat 32 (leNat b)
    members := (sectionOf x 5).map fun b => (entriesOf 80 b).map memberOf
    policyData := (sectionOf x 6).map fun b => (fieldAt b 0 8, b.drop 8)
    depths := Config.profileDepths x
    meas := imgMeas l, secHash := sha384Num (of_ 3) }

/-- The ownership record of a profile that carries a CLAIM (R371, R386). -/
def claimOf (l : List Byte) : Option OwnerRec :=
  let r := (profileOf 0 l).policy.ownRec
  if imgKind l = 4 ∧ r.action = 1 then some r else none

/-! ### Verification (R386, R387, R472 to R474) -/

/-- Statuses of verification (R474). -/
def imgOk : Nat := 0
def imgFormat : Nat := 1
def imgDigest : Nat := 2
def imgMelwick : Nat := 3
def imgOwner : Nat := 4
def imgSvnLow : Nat := 5
def imgRefused : Nat := 6
def imgPfail : Nat := 7
def imgBusError : Nat := 8

/-- A key is Melwick's (R386, R472): its hash is one of the four of the boot ROM whose revocation fuse is unblown. -/
def State.melwickKey (s : State) (key : List Byte) : Bool :=
  (s.sec.romKeys.zip s.sec.revoked).any fun q => ! q.2 && q.1 == sha384Num key

/-- A key is the owner's (R472): it hashes to the current slot, or for a profile with a CLAIM it is NEWPUB. -/
def State.ownerKey (s : State) (l key : List Byte) : Bool :=
  match claimOf l with
  | some r => key == r.newPub
  | none => s.currentSlot.isSome && sha384Num key == s.ownerHash

/-- Melwick's block is there, its key accepted and its signature true. -/
def State.melwickSigned (s : State) (l : List Byte) : Bool := s.melwickKey (blockKey (sigBlock l 0)) && blockTrue l (sigBlock l 0)

/-- The owner's block is there, its key accepted and its signature true. -/
def State.ownerSigned (s : State) (l : List Byte) : Bool := s.ownerKey l (blockKey (sigBlock l 1)) && blockTrue l (sigBlock l 1)

/-- Melwick's signature is needed (R386, R473). -/
def State.needMelwick (s : State) (l : List Byte) : Bool :=
  if imgKind l = 1 ∨ imgKind l = 3 then true
  else if s.ownState = 1 then ! s.sec.policy.ownerOnly
  else ! ((claimOf l).isSome && s.ownerSigned l)

/-- The owner's signature is needed (R386, R473). -/
def State.needOwner (s : State) (l : List Byte) : Bool := s.ownState == 1 || ((claimOf l).isSome && ! s.melwickSigned l)

/-- The fused minimum of a kind (R387). -/
def State.svnMin (s : State) (kind : Nat) : Nat := s.sec.svn.getD (kind - 1) 0

/-- The status of an image whose format is good (R474): the first check that fails. Every kind is accepted in every ownership state
once its signatures hold (R369, R386). -/
def State.signedStatus (s : State) (l : List Byte) : Nat :=
  if ! imgDigestOk l then imgDigest
  else if s.needMelwick l && ! s.melwickSigned l then imgMelwick
  else if s.needOwner l && ! s.ownerSigned l then imgOwner
  else if imgSvn l < s.svnMin (imgKind l) then imgSvnLow
  else imgOk

/-- The status of verifying an image (R474), its bytes at hand. -/
def State.imageStatus (s : State) (l : List Byte) : Nat := if imgHeaderOk l && segmentsOk l then s.signedStatus l else imgFormat

/-- IMGVER's verification of the image whose first byte lies at `a` (R468, R474): header, then segment table, then the rest are read;
a bus error on the way is BUS_ERROR. The image's bytes come with the status. -/
def State.verifyAt (s : State) (a : Nat) : Nat × List Byte × State :=
  match s.busRead true a 256 with
  | (none, s) => (imgBusError, [], s)
  | (some h, s) =>
    if ! imgHeaderOk h then (imgFormat, h, s)
    else match s.busRead true (a + 256) (32 * imgSegs h) with
      | (none, s) => (imgBusError, h, s)
      | (some t, s) =>
        if ! segmentsOk (h ++ t) then (imgFormat, h, s)
        else match s.busRead true (a + 256 + 32 * imgSegs h) (imgLength h - 256 - 32 * imgSegs h) with
          | (none, s) => (imgBusError, h, s)
          | (some r, s) => (s.signedStatus (h ++ t ++ r), h ++ t ++ r, s)

/-- The profile in a slot of profile `n`, verified. -/
def State.slotProfile (s : State) (n slot : Nat) : Profile :=
  let l := s.slotBytes (5 + n) slot
  let st := s.imageStatus l
  profileOf (if st = imgOk ∧ imgKind l ≠ 4 then imgFormat else st) l

/-- The STAGED profile of number `n`, if any (R528, R529). -/
def State.stagedProfile (s : State) (n : Nat) : Option Profile :=
  let e := s.bootEntry (5 + n)
  if e.other = slotStaged then some (s.slotProfile n e.otherSlot) else none

/-- The profile in the ACTIVE slot of number `n`, if any. -/
def State.activeProfile (s : State) (n : Nat) : Option Profile := (s.bootEntry (5 + n)).active.map fun i => s.slotProfile n i

end Sys2Proof.Machine
end

