-- ==== Sys2Proof/Machine/Packet.lean ====
section
/-! DEFINITION. Sys2Proof/Machine/Packet.lean: transport packets in bytes: the prefix (R308), session keys and GCM protection
(R311, R312), the bodies of each kind (R313, R316, R317, R324, R534) and the SESSION OPEN exchange (R309, R310). -/
namespace Sys2Proof.Machine
open Sys2Proof

/-! ### Session keys and protection (R311) -/

/-- Bytes encrypted or decrypted under a key and a nonce: combined with the key stream. -/
def gcmCrypt (key : BitVec 256) (nonce : List Byte) (bs : List Byte) : List Byte :=
  bs.zipIdx.map fun p => p.1 ^^^ Config.gcmStream key nonce p.2

/-- `info` of an epoch and a direction: "FYSS1", SID, epoch, 1 from the host and 2 from the device. -/
def keyInfo (sid epoch : Nat) (fromHost : Bool) : List Byte :=
  [0x46, 0x59, 0x53, 0x53, 0x31] ++ leBytes 2 sid ++ leBytes 2 epoch ++ [if fromHost then 1 else 2]

/-- K of an epoch and a direction. -/
def packetKey (prk : List Byte) (sid epoch : Nat) (fromHost : Bool) : BitVec 256 :=
  BitVec.ofNat 256 (beNat (hkdfExpand prk (keyInfo sid epoch fromHost ++ [0x6B, 0x65, 0x79]) 32))

/-- The nonce of a packet: IV combined with the PN, highest byte first. -/
def packetNonce (prk : List Byte) (sid epoch : Nat) (fromHost : Bool) (pn : Nat) : List Byte :=
  let iv := hkdfExpand prk (keyInfo sid epoch fromHost ++ [0x69, 0x76]) 12
  (iv.zip (leBytes 4 0 ++ beBytes 8 pn)).map fun p => p.1 ^^^ p.2

/-- The prefix of a datagram (R308). -/
def prefixBytes (magic : Byte) (ver kind sid epoch plen pn : Nat) : List Byte :=
  [magic] ++ leBytes 1 (16 * ver + kind) ++ leBytes 2 sid ++ leBytes 2 epoch ++ leBytes 2 plen ++ leBytes 8 pn

/-- The tag that a received packet of these plaintext bytes has under the session's keys of its EPOCH (R308, R311). -/
def packetTag (prk : List Byte) (pkt : Pkt) (plain : List Byte) : BitVec 128 :=
  let sid := pkt.sid.toNat
  let e := pkt.epoch.toNat
  let key := packetKey prk sid e true
  let nonce := packetNonce prk sid e true pkt.pn.toNat
  Config.gcmTag key nonce (prefixBytes pkt.magic pkt.ver.toNat pkt.kind.toNat sid e pkt.plen pkt.pn.toNat) (gcmCrypt key nonce plain)

/-- A packet of the device under protection: prefix, encrypted body, tag. -/
def protectPacket (prk : List Byte) (kind sid epoch plen pn : Nat) (plain : List Byte) : List Byte :=
  let pre := prefixBytes 0xF3 1 kind sid epoch plen pn
  let key := packetKey prk sid epoch false
  let nonce := packetNonce prk sid epoch false pn
  let c := gcmCrypt key nonce plain
  pre ++ c ++ leBytes 16 (Config.gcmTag key nonce pre c).toNat

/-! ### Bodies received (R313, R314, R317, R324) -/

/-- Header bytes 16 to 63 of a CMD or DATA packet and its data (R313). -/
def capsuleBytes (c : Capsule) : List Byte :=
  leBytes 4 c.seq.toNat ++ [c.opc, c.flags] ++ leBytes 2 c.rsvd.toNat ++ leBytes 16 c.obj.toNat ++ leBytes 8 c.offset.toNat
    ++ leBytes 4 c.length.toNat ++ leBytes 4 c.doff.toNat ++ leBytes 8 c.arg.toNat ++ c.data

/-- A DATA packet: SEQ, DOFF and zeros, then its bytes (R314). -/
def dataBody (seq doff : BitVec 32) (bytes : List Byte) : List Byte :=
  leBytes 4 seq.toNat ++ leBytes 32 0 ++ leBytes 4 doff.toNat ++ leBytes 8 0 ++ bytes

/-- An ACK's body (R317). -/
def ackBody (largest : Nat) (map : BitVec 256) (win : Nat) : List Byte := leBytes 8 largest ++ leBytes 32 map.toNat ++ leBytes 4 win ++ leBytes 4 0

/-- A control header (R324). -/
def controlBytes (ctag op status arg : Nat) : List Byte :=
  leBytes 2 ctag ++ leBytes 1 op ++ leBytes 1 0 ++ leBytes 2 status ++ leBytes 2 0 ++ leBytes 8 arg

/-! ### Bodies sent (R314, R316, R317, R324, R534) -/

/-- A completion (R316). -/
def cplBytes (c : Cpl) : List Byte :=
  leBytes 4 c.seq.toNat ++ leBytes 2 c.status ++ leBytes 2 c.flags ++ leBytes 4 c.actlen ++ leBytes 4 c.coll ++ leBytes 4 c.clim.toNat
    ++ leBytes 4 c.result ++ leBytes 8 c.wt

/-- What follows the prefix of a packet of the device, in clear. -/
def bodyBytes : TxBody → List Byte
  | .cpl c => cplBytes c
  | .data seq doff b => dataBody seq (BitVec.ofNat 32 doff) b
  | .ack n m clim => ackBody n m clim.toNat
  | .ctlr ctag op st b => controlBytes ctag.toNat op st 0 ++ b
  | .hellor b => b
  | .frame ty member term tag seq b =>
    leBytes 1 ty ++ leBytes 1 0 ++ leBytes 2 member ++ leBytes 4 term.toNat ++ leBytes 4 tag.toNat ++ leBytes 4 seq ++ b

/-- KIND of a packet of the device (R308). -/
def bodyKind : TxBody → Nat
  | .data .. => 2
  | .cpl .. => 3
  | .ack .. => 4
  | .ctlr .. => 6
  | .frame .. => 7
  | .hellor .. => 9

/-- PLEN of a packet of the device: the data after a 64-byte header, 0 for kinds without one (R308). -/
def bodyLen : TxBody → Nat
  | .data _ _ b => b.length
  | _ => 0

/-- A packet with the bytes of its datagram, under the keys of its session and epoch (R311). -/
def TxPkt.protect (prk : List Byte) (p : TxPkt) : TxPkt :=
  { p with bytes := protectPacket prk (bodyKind p.body) p.sid p.epoch (bodyLen p.body) p.pn (bodyBytes p.body) }

/-! ### SESSION OPEN (R309, R310) -/

/-- The body that the segments of a HELLO make, if they are 1 to 16 whole segments of at most 1,024 bytes, each once. -/
def helloBody (l : List (List Byte)) : Option (List Byte) :=
  let n := l.length
  if 1 ≤ n ∧ n ≤ 16 ∧ (l.all fun g => 2 ≤ g.length && g.length ≤ 1024 && g.getD 1 0 == BitVec.ofNat 8 (n - 1))
      ∧ (List.range n).all fun i => l.any fun g => g.getD 0 0 == BitVec.ofNat 8 i then
    some ((List.range n).flatMap fun i => ((l.find? fun g => g.getD 0 0 == BitVec.ofNat 8 i).getD []).drop 2)
  else none

/-- A body in segments, each with its header (R309). -/
def segmentsOf (b : List Byte) : List (List Byte) :=
  let n := max 1 ((b.length + 1021) / 1022)
  (List.range n).map fun i => [BitVec.ofNat 8 i, BitVec.ofNat 8 (n - 1)] ++ (b.drop (1022 * i)).take 1022

/-- Fields of a HELLO's body (R309, Open exchange table). -/
def helloCookie (b : List Byte) : Word := BitVec.ofNat 64 (leNat (b.take 8))
def helloTenant (b : List Byte) : BitVec 16 := BitVec.ofNat 16 (leNat ((b.drop 10).take 2))
def helloRxwin (b : List Byte) : Nat := leNat ((b.drop 14).take 4)
def helloReqcred (b : List Byte) : Nat := leNat ((b.drop 18).take 2)
def helloKey (b : List Byte) : List Byte := (b.drop 20).take 97
def helloNonce (b : List Byte) : List Byte := (b.drop 117).take 32
def helloChain (b : List Byte) : List Byte := (b.drop 151).take (leNat ((b.drop 149).take 2))
def helloSigAt (b : List Byte) : Nat := 151 + leNat ((b.drop 149).take 2)
def helloSig (b : List Byte) : List Byte := (b.drop (helloSigAt b)).take 96

/-- SIG of a HELLO is true under a leaf key (R309): over SHA-384 of "FYSS-OPEN" and every body byte before it; the body ends with it
and Q is a point of the curve. -/
def helloSigned (b pub : List Byte) : Bool :=
  b.length == helloSigAt b + 96 && (pubPoint (helloKey b)).isSome
    && ecdsaVerify pub (sha384 ([0x46, 0x59, 0x53, 0x53, 0x2D, 0x4F, 0x50, 0x45, 0x4E] ++ b.take (helloSigAt b))) (helloSig b)

/-- The device's ephemeral private key made of a draw: 1 to n − 1. -/
def ephemeral (draw : BitVec 512) : Nat := draw.toNat % (groupN - 1) + 1

/-- PRK of a session (R311): HKDF-Extract of the shared secret's x-coordinate, salted with both nonces. -/
def sessionPrk (d : Nat) (b nonce : List Byte) : List Byte :=
  match ecMul d (pubPoint (helloKey b)) with
  | some (x, _) => hkdfExtract (helloNonce b ++ nonce) (beBytes 48 x)
  | none => []

/-- A point as an uncompressed key. -/
def pointBytes : EcPoint → List Byte
  | some (x, y) => [4] ++ beBytes 48 x ++ beBytes 48 y
  | none => []

/-- HELLOR's body where no session is created: COOKIE and STATUS. -/
def refusalBody (b : List Byte) (st : Nat) : List Byte := b.take 8 ++ leBytes 2 st

/-- HELLOR's body but for SIG. -/
def hellorBody (b : List Byte) (sid clim psize : Nat) (q nonce chain : List Byte) : List Byte :=
  b.take 8 ++ leBytes 2 0 ++ leBytes 2 (helloTenant b).toNat ++ leBytes 2 sid ++ leBytes 4 clim ++ leBytes 2 psize ++ q ++ nonce
    ++ leBytes 2 chain.length ++ chain

/-- HELLOR's body with DIK's signature over SHA-384 of "FYSS-RESP", the HELLO body and what comes before it. -/
def signedHellor (b r : List Byte) : List Byte := r ++ Config.dikSign (sha384 ([0x46, 0x59, 0x53, 0x53, 0x2D, 0x52, 0x45, 0x53, 0x50] ++ b ++ r))

end Sys2Proof.Machine
end

