-- ==== Sys2Proof/Machine/Session.lean ====
section
/-! DEFINITION. Sys2Proof/Machine/Session.lean: the host ports, the session table, packets and their acknowledgement,
credit, completions, freeze, RESTART and SESSION RESET (R305 to R338). The table's rows stand for the policy program's
handling of capsules: the spec gives the entries of LP256 to LP511 no format. -/
namespace Sys2Proof.Machine
open Sys2Proof

/-- Replace what the host ports and the object layer hold. -/
def State.setHost (s : State) (h : HostSt) : State := { s with host := h }

/-- `a` is later than `b` (R320): sequence numbers compare modulo 2^32. -/
def seqLater (a b : BitVec 32) : Bool := decide (1 ≤ (a - b).toNat) && decide ((a - b).toNat < 2 ^ 31)

/-- An open session. -/
def State.sess (s : State) (sid : Sid) : Option SessSt := (s.host.sessions.find? fun p => p.1 == sid.toNat).map Prod.snd

/-- HPT_GSTAT shows the open sessions and the commands received and not completed (R338). -/
def State.showHost (s : State) : State :=
  (s.wr HPT_GSTAT_SESSIONS s.host.sessions.length).wr HPT_GSTAT_INFLIGHT
    (s.host.sessions.foldl (fun t p => t + p.2.cmds.length) 0)

/-- Replace a session's record. -/
def State.setSess (s : State) (sid : Sid) (x : SessSt) : State :=
  (s.setHost { s.host with sessions := smPut s.host.sessions sid.toNat x }).showHost

/-- A session closes. -/
def State.closeSess (s : State) (sid : Sid) : State :=
  (s.setHost { s.host with sessions := smErase s.host.sessions sid.toNat }).showHost

/-- PSIZE of a port (R307). -/
def State.psize (s : State) (p : Nat) : Nat := if s.on (HPT_PCTL_JUMBO p) then 8192 else 1024

/-- The collimation tag in force (R541). -/
def State.collTag (s : State) : Nat := (s.reg HIE_TAG).toNat % 2 ^ 32

/-! ### Receiving (R306 to R308, R312, R319) -/

/-- Port `p` works: its domain is ON (R572) and its clocks run (R36). -/
def State.portUp (s : State) (p : Nat) : Bool := s.dom (116 + p) == 2 && s.hrefOk && s.sysrefOk

/-- Port `p` takes datagrams: transport and port enabled, its domain ON, no power-loss flush under way (R338, R405, R572). -/
def State.portOpen (s : State) (p : Nat) : Bool :=
  s.on HPT_GCTL_EN && s.on (HPT_PCTL_EN p) && s.portUp p && ! s.idled (116 + p) && ! s.on APR_STAT_FROZEN

/-- The address family is accepted, and a tag, if any, is the port's VLAN (R306). -/
def State.frameOk (s : State) (p : Nat) (v6 : Bool) (vlan : Option (BitVec 12)) : Bool :=
  (if v6 then s.on (HPT_PCTL_V6EN p) else s.on (HPT_PCTL_V4EN p))
    && (match vlan with
      | none => true
      | some v => s.rd (HPT_PCTL_VLAN p) != 0 && v.toNat == s.rd (HPT_PCTL_VLAN p))

/-- A UDP datagram for the transport (R306): no fragment, checksum right, destination port HPT_GCTL.UDP. -/
def State.udpOk (s : State) (fragment ok : Bool) (port : Nat) : Bool := ! fragment && ok && port == s.rd HPT_GCTL_UDP

/-- The packet prefix and the body's size are those of a packet of kind `k` from a host (R308): of a CMD or DATA packet PLEN counts
the bytes after its 64-byte header. -/
def prefixOk (pkt : Pkt) (k : Nat) (plain : List Byte) : Bool :=
  pkt.magic == 0xF3 && pkt.ver == 1 && pkt.kind.toNat == k && pkt.sized && pkt.plen == (if k ≤ 2 then plain.length - 48 else 0)

/-- A datagram that carries more than PSIZE bytes of payload is discarded (R307). -/
def State.networkOk (s : State) (pkt : Pkt) : Bool :=
  s.portOpen pkt.port.val && s.frameOk pkt.port.val pkt.v6 pkt.vlan && s.udpOk pkt.fragment pkt.udpOk pkt.udp
    && decide (pkt.plen ≤ s.psize pkt.port.val)

/-- A failed packet of R312: counted, and an event on the security channel. -/
def State.authFailed (s : State) (p : Nat) (old : Bool) : State :=
  (if old then s.bump (HPT_OLDEP_COUNT p) else s.bump (HPT_AUTHF_COUNT p)).event 1 .authBurst 7 p

/-- The PN has been seen, or lies below the window of the 1,024 highest (R319). -/
def pnDuplicate (seen : List Nat) (pn : Nat) : Bool :=
  seen.contains pn || decide (pn + 1024 ≤ seen.foldl max 0)

/-- Take a PN into the window. -/
def pnAccept (seen : List Nat) (pn : Nat) : List Nat :=
  let l := pn :: seen
  l.filter fun n => decide (l.foldl max 0 < n + 1024)

/-- Receive a packet of kind `k` whose body says `plain` in clear (R306 to R308, R312, R319): the session and the state where it is
accepted. `counts` says that the packet asks for an acknowledgement (R317). -/
def State.receive (s : State) (pkt : Pkt) (k : Nat) (plain : List Byte) (counts : Bool) : Option SessSt × State :=
  let p := pkt.port.val
  if ! s.networkOk pkt then (none, s)
  else if ! prefixOk pkt k plain then (none, s.bump (HPT_DROP_COUNT p))
  else match s.sess pkt.sid with
    | none => (none, s.authFailed p false)
    | some x =>
      if pkt.epoch.toNat ≠ x.epoch then (none, s.authFailed p true)
      else if pkt.tag ≠ packetTag x.prk pkt plain then (none, s.authFailed p false)
      else if p ≠ x.port ∧ k ≠ 5 then (none, s.bump (HPT_OLDEP_COUNT p))
      else if x.member ≠ none then (none, s.bump (HPT_DROP_COUNT p))
      else if pnDuplicate x.seen pkt.pn.toNat then (none, s.bump (HPT_DUP_COUNT p))
      else
        let x := { x with
          seen := pnAccept x.seen pkt.pn.toNat, heard := s.now, peer := pkt.src, old := none
          ackDue := if counts then x.ackDue + 1 else x.ackDue
          ackSince := if counts ∧ x.ackSince = none then some s.now else x.ackSince }
        let s := (s.bump (HPT_RXOK_COUNT p)).setSess pkt.sid x
        (some x, s)

/-! ### Sending (R314, R317, R318, R320, R321) -/

/-- The device's time-out at first transmission, in ns (R318). -/
def State.rtoStart (s : State) (x : SessSt) : Nat := max (s.clamp HPT_RTO_MIN 50 10000 * 1000) (2 * x.srtt)

/-- The engine of the next session job: the next in turn whose domain is ON, else the next in turn. -/
def State.sealEngine (s : State) : Nat :=
  (((List.range 8).map fun i => (s.host.turn + i) % 8).find? fun c => s.dom (126 + c / 2) == 2).getD (s.host.turn % 8)

/-- A session job stands for a packet to be sealed: it goes to LP 544 + 4c (R21, R33). -/
def State.pushSeal (s : State) (j : SealJob) : State :=
  let c := s.sealEngine
  (s.setHost { s.host with turn := (c + 1) % 8 }).hwPush (544 + 4 * c) (mkEntry [(0, 64, j.opid)])

/-- The port puts a packet out: read data is first sealed by a cipher engine (R33), any other packet goes at once. -/
def State.transmit (s : State) (pkt : TxPkt) : State :=
  match pkt.body with
  | .data seq _ _ =>
    let j : SealJob := { opid := 2 ^ 62 + s.host.sealOps, sid := pkt.sid, seq := seq, pkt := pkt }
    (s.setHost { s.host with sealing := s.host.sealing ++ [j], sealOps := s.host.sealOps + 1 }).pushSeal j
  | _ => s.emit (.packet pkt)

/-- A packet of the session goes out under its next PN; kinds other than ACK are kept until acknowledged. A session
whose port is quiesced keeps it waiting (R337). -/
def State.sendFor (s : State) (x : SessSt) (sid : Sid) (body : TxBody) (keep : Bool) : SessSt × State :=
  if ! s.portUp x.port ∨ s.on APR_STAT_FROZEN then ({ x with queued := x.queued ++ [body] }, s)
  else
    let pkt : TxPkt := { port := x.port, peer := x.peer, sid := sid.toNat, epoch := x.epoch, pn := x.pn, body := body }
    let pkt := pkt.protect x.prk
    let u : Unacked := { pkt := pkt, at_ := s.now, rto := s.rtoStart x }
    ({ x with pn := x.pn + 1, unacked := if keep then x.unacked ++ [u] else x.unacked }, s.transmit pkt)

/-- Send a body and store the session. -/
def State.sendTo (s : State) (sid : Sid) (body : TxBody) (keep : Bool) : State :=
  match s.sess sid with
  | none => s
  | some x =>
    let r := s.sendFor x sid body keep
    r.2.setSess sid r.1

/-- The MAP of an ACK (R317): bit i set where PN LARGEST − 1 − i was received. -/
def ackMap (seen : List Nat) (largest : Nat) : BitVec 256 :=
  (List.range 256).foldl (fun m i => if i + 1 ≤ largest ∧ seen.contains (largest - 1 - i) then m ||| ((1 : BitVec 256) <<< i) else m) 0

/-- Send an ACK now (R317). -/
def State.sendAck (s : State) (sid : Sid) : State :=
  match s.sess sid with
  | none => s
  | some x =>
    let n := x.seen.foldl max 0
    let r := s.sendFor { x with ackDue := 0, ackSince := none } sid (.ack n (ackMap x.seen n) x.clim) false
    r.2.setSess sid r.1

/-- An ACK goes out at once when HPT_ACK.NPKT packets are unacknowledged (R317). -/
def State.ackIfMany (s : State) (sid : Sid) : State :=
  match s.sess sid with
  | none => s
  | some x => if s.clamp HPT_ACK_NPKT 1 255 ≤ x.ackDue then s.sendAck sid else s

/-- Read-data bytes of a session that are not acknowledged (R321). -/
def readOutstanding (x : SessSt) : Nat :=
  x.unacked.foldl (fun t u => match u.pkt.body with | .data _ _ b => t + b.length | _ => t) 0

/-- CLIM that the device grants (R320): at most MAXCRED beyond the last completed command, never lower than before, and
never more than 8,192 over all sessions. -/
def State.grantClim (s : State) (sid : Sid) (x : SessSt) : BitVec 32 :=
  let others := (s.host.sessions.filter fun p => p.1 != sid.toNat).foldl (fun t p => t + (p.2.clim - p.2.last).toNat) 0
  let n := min (min (s.clamp HPT_CRED_MAXCRED 1 256) x.reqcred) (8192 - others)
  let want := x.last + BitVec.ofNat 32 n
  if seqLater want x.clim then want else x.clim

/-- Send what the window admits of a command's read data, in ascending DOFF (R314, R321); a round may be one packet even
where the window is smaller than PSIZE. -/
def State.pumpData (s : State) (sid : Sid) (seq : BitVec 32) : Nat → State
  | 0 => s
  | fuel + 1 =>
    match s.sess sid with
    | none => s
    | some x =>
      match x.cmds.find? fun c => c.cap.seq == seq with
      | none => s
      | some c =>
        match c.toSend with
        | [] => s
        | (doff, b) :: r =>
          let out := readOutstanding x
          if x.rxwin < out + b.length ∧ out ≠ 0 then s
          else
            let cmds := x.cmds.map fun d => if d.cap.seq = seq then { d with toSend := r } else d
            let t := s.sendFor { x with cmds := cmds } sid (.data seq doff b) true
            (t.2.setSess sid t.1).pumpData sid seq fuel

/-- The data of a packet that could not go out waits for the session's port (R337). -/
def State.holdPacket (s : State) (j : SealJob) : State :=
  match s.sess (BitVec.ofNat 14 j.sid) with
  | none => s
  | some x => s.setSess (BitVec.ofNat 14 j.sid) { x with
      queued := x.queued ++ [j.pkt.body], unacked := x.unacked.filter fun u => u.pkt.pn != j.pkt.pn }

/-- A sealed packet goes out, and its time-out runs from now (R318). -/
def State.sendSealed (s : State) (j : SealJob) : State :=
  if ! s.portUp j.pkt.port ∨ s.on APR_STAT_FROZEN then s.holdPacket j
  else match s.sess (BitVec.ofNat 14 j.sid) with
    | none => s
    | some x =>
      let l := x.unacked.map fun u => if u.pkt.pn = j.pkt.pn then { u with at_ := s.now } else u
      (s.setSess (BitVec.ofNat 14 j.sid) { x with unacked := l }).emit (.packet j.pkt)

/-- The host-port unit takes the results of its session jobs from the head of LP 546 + 4c: a sealed packet goes out; a job
that came poisoned (BAD_ARG) is given again. Another requester's result at the head, or a poisoned one, is not its own. -/
def State.portTake (s : State) (c : Nat) : Nat → State
  | 0 => s
  | fuel + 1 =>
    match (s.lp (546 + 4 * c)).entries with
    | [] => s
    | e :: _ =>
      match s.host.sealing.find? fun j => j.opid == e.at 0 64 && ! e.poison with
      | none => s
      | some j =>
        match s.hwPop (546 + 4 * c) with
        | none => s
        | some (_, s) =>
          if e.at 64 16 = 0 then
            ((s.setHost { s.host with sealing := s.host.sealing.filter fun i => i.opid != j.opid }).sendSealed j).portTake c fuel
          else (s.pushSeal j).portTake c fuel

/-- Every byte of a command's read data has been sent at least once (R316, R322). -/
def State.dataSent (s : State) (sid : Sid) (x : SessSt) (c : CmdSt) : Bool :=
  c.toSend.isEmpty && ! (s.host.sealing.any fun j => j.sid == sid.toNat && j.seq == c.cap.seq)
    && ! x.queued.any fun b => match b with | .data q _ _ => q == c.cap.seq | _ => false

/-- Data cut into packets of PSIZE, the last one shorter (R314). -/
def cutData (psize : Nat) : Nat → Nat → List Byte → List (Nat × List Byte)
  | 0, _, _ => []
  | fuel + 1, doff, b =>
    if b.isEmpty then [] else (doff, b.take psize) :: cutData psize fuel (doff + psize) (b.drop psize)

/-! ### Commands: opcodes, flags and the checks made at resolution (R339 to R342) -/

def opcPut : Nat := 1
def opcWrite : Nat := 2
def opcAppend : Nat := 3
def opcGet : Nat := 4
def opcStat : Nat := 5
def opcDelete : Nat := 6
def opcList : Nat := 7
def opcCommit : Nat := 8
def opcDescribe : Nat := 0x20
def opcPowerHint : Nat := 0x21
def opcAttest : Nat := 0x22
def opcProfile : Nat := 0x23
def opcImage : Nat := 0x24

/-- The opcodes of the Commands table (R339). -/
def opcKnown (o : Nat) : Bool := (1 ≤ o && o ≤ 8) || (0x20 ≤ o && o ≤ 0x24)

/-- Write-class commands (R339). -/
def opcWriteClass (o : Nat) : Bool := o == 1 || o == 2 || o == 3 || o == 6 || o == 8

/-- Commands for which the Commands table requires an object. -/
def opcNamesObject (o : Nat) : Bool := (1 ≤ o && o ≤ 6) || o == 8

/-- Commands with host data (R339). -/
def opcTakesData (o : Nat) : Bool := o == 1 || o == 2 || o == 3 || o == opcAttest || o == opcImage

/-- Commands that take an OFFSET. -/
def opcTakesOffset (o : Nat) : Bool := o == 2 || o == 4 || o == opcImage

/-- A CFLAGS bit of a capsule. -/
def capFlag (c : Capsule) (i : Nat) : Bool := c.flags.getLsbD i
def flCreate : Nat := 0
def flExcl : Nat := 1
def flIfver : Nat := 2
def flPart : Nat := 3
def flNowait : Nat := 4
def flAbort : Nat := 5
def flReplace : Nat := 6
def flLast : Nat := 7

/-- CFLAGS bits given for an opcode (R339). -/
def flagsAllowed (o : Nat) : Byte :=
  if o = 1 then 0x16 else if o = 2 then 0x1F else if o = 3 then 0x15 else if o = 6 then 0x04
  else if o = 8 then 0x70 else if o = opcImage then 0x80 else 0

/-- The CFLAGS of a capsule are given for its opcode, EXCL on WRITE only with CREATE, IFVER and PART not together (R339). -/
def flagsOk (c : Capsule) : Bool :=
  let o := c.opc.toNat
  (c.flags &&& ~~~flagsAllowed o) == 0
    && ! (o == 2 && capFlag c flExcl && ! capFlag c flCreate) && ! (capFlag c flIfver && capFlag c flPart)

/-- ARG as the Commands table shows it (R339, R350, R358, R360, R361). -/
def argOk (c : Capsule) : Bool :=
  let o := c.opc.toNat
  if o = 1 ∨ o = 3 ∨ o = 6 then capFlag c flIfver || c.arg == 0
  else if o = 2 then if capFlag c flPart then c.arg != 0 else capFlag c flIfver || c.arg == 0
  else if o = 8 then true
  else if o = opcPowerHint then
    let deep := bitsOf c.arg 32 3
    bitsOf c.arg 35 13 == 0 && decide (1 ≤ deep) && decide (deep ≤ 4)
  else if o = opcProfile then c.arg.toNat < 4
  else if o = opcImage then
    let kind := bitsOf c.arg 0 8
    let target := bitsOf c.arg 8 8
    bitsOf c.arg 16 48 == 0 && decide (1 ≤ kind) && decide (kind ≤ 4) && decide (target < if kind = 4 then 4 else 1)
  else c.arg == 0

/-- LENGTH shown as 0 in the Commands table. -/
def lengthShownZero (o : Nat) : Bool := o == 5 || o == 6 || o == 8 || o == 0x20 || o == 0x21 || o == 0x23

/-- Check 2 of R341: the byte index of the first field in error (0x1011). -/
def badField (c : Capsule) : Option Nat :=
  let o := c.opc.toNat
  if ! flagsOk c then some 21
  else if c.rsvd != 0 || c.doff != 0 then some (if c.rsvd != 0 then 22 else 52)
  else if ! opcNamesObject o && o != opcList && c.obj != 0 then some 24
  else if ! opcTakesOffset o && c.offset != 0 then some 40
  else if lengthShownZero o && c.length != 0 then some 48
  else if ! argOk c then some 56
  else none

/-- LENGTH lies in the Commands table's range (R342). -/
def lengthOk (o n : Nat) : Bool :=
  if o = 1 ∨ o = 2 then n ≤ 16777216
  else if o = 3 ∨ o = opcImage then 1 ≤ n && n ≤ 16777216
  else if o = opcList then 32 ≤ n && n ≤ 4194304 && n % 32 == 0
  else if o = opcAttest then n == 48
  else true

/-- Check 4 of R341 (R342): status and byte index. -/
def badLength (c : Capsule) : Option (Nat × Nat) :=
  let o := c.opc.toNat
  let n := c.length.toNat
  if o ≠ opcGet ∧ n = 0xFFFFFFFF then some (0x1013, 48)
  else if ! lengthOk o n then some (0x1014, 48)
  else if opcTakesOffset o ∧ 2 ^ 40 ≤ c.offset.toNat then some (0x1012, 40)
  else if o = opcWrite ∧ 2 ^ 40 ≤ c.offset.toNat + n then some (0x1110, 0)
  else none

/-- The entry of a tenant in the active security policy (R374). -/
def State.tenantRow (s : State) (t : Nat) : Option TenantRow := s.sec.policy.tenants.find? fun r => r.index == t

/-- The tenant has the right that a command needs (R339, R369, R376): outside Owned only Manage is honoured. -/
def State.hasRight (s : State) (t o : Nat) : Bool :=
  if o = opcDescribe ∨ o = opcAttest then true
  else match s.tenantRow t with
    | none => false
    | some r =>
      if opcWriteClass o then r.write && s.rd SEC_STAT_OWN == 1
      else if o ≤ 8 then r.read && s.rd SEC_STAT_OWN == 1
      else r.manage

/-- Checks 1 to 5 of R341: the first failure, as status and INFO. -/
def State.resolveChecks (s : State) (t : Nat) (c : Capsule) : Option (Nat × Nat) :=
  let o := c.opc.toNat
  if ! opcKnown o then some (0x1010, 20)
  else match badField c with
    | some i => some (0x1011, i)
    | none =>
      if opcNamesObject o ∧ c.obj = 0 then some (0x1017, 24)
      else match badLength c with
        | some e => some e
        | none => if s.hasRight t o then none else some (0x3010, 0)

/-- Policy resolves a command (R341, R351): its checks, and a ticket where it names an object. -/
def State.resolveCmd (s : State) (t : Nat) (c : CmdSt) : CmdSt × State :=
  match s.resolveChecks t c.cap with
  | some (st, info) => ({ c with resolved := true, fixed := some (st, 0, 0), info := info }, s)
  | none =>
    if opcNamesObject c.cap.opc.toNat then
      ({ c with resolved := true, ticket := s.host.tickets + 1 }, s.setHost { s.host with tickets := s.host.tickets + 1 })
    else ({ c with resolved := true }, s)

/-- A session's lightpipe of the 64 of port `p` from `base` on (R21). -/
def lane (base p : Nat) (sid : Sid) : Nat := base + 64 * p + sid.toNat % 64

/-- An entry that stands for a command or a completion: SEQ in bits 31 to 0, the session ID in bits 45 to 32. The spec gives the
entries of LP256 to LP511 no format (DESIGN CHOICE, log entry 51). -/
def hostEntry (sid : Nat) (seq : BitVec 32) : Entry := mkEntry [(0, 32, seq.toNat), (32, 14, sid)]

/-- The session table passes commands to policy in SEQ order, on LP 256 + 64p + (session ID mod 64) (R21, R30, R322); a gap
holds what lies beyond it, FROZEN holds all. -/
def State.passCmds (s : State) (sid : Sid) : Nat → State
  | 0 => s
  | fuel + 1 =>
    match s.sess sid with
    | none => s
    | some x =>
      if x.frozen ≠ none then s
      else match x.cmds.find? fun c => c.cap.seq == x.next with
        | none => s
        | some _ =>
          ((s.setSess sid { x with next := x.next + 1 }).hwPush (lane 256 x.port sid) (hostEntry sid.toNat x.next)).passCmds sid fuel

/-- Policy resolves a command that it has taken; in a FROZEN session it gets its ticket at RESUME (R354). -/
def State.takeCmd (s : State) (sid : Sid) (x : SessSt) (c : CmdSt) : State :=
  let r := s.resolveCmd x.tenant c
  let c := if x.frozen.isSome then { r.1 with ticket := 0 } else r.1
  r.2.setSess sid { x with cmds := x.cmds.map fun d => if d.cap.seq = c.cap.seq then c else d }

/-- The oldest command that a session has passed and policy has not taken. -/
def oldestPassed (x : SessSt) : Option CmdSt := x.cmds.find? fun c => ! c.resolved && seqLater x.next c.cap.seq

/-- The command that an entry of lightpipe `n` stands for. A poisoned entry's fields are not used (R605): firmware relates it to
the oldest command of that lightpipe it has not taken. -/
def State.passedCmd (s : State) (n : Nat) (e : Entry) : Option (Sid × SessSt × CmdSt) :=
  if e.poison then
    s.host.sessions.findSome? fun p =>
      if n % 64 = p.1 % 64 then (oldestPassed p.2).map fun c => (BitVec.ofNat 14 p.1, p.2, c) else none
  else
    let sid : Sid := BitVec.ofNat 14 (e.at 32 14)
    match s.sess sid with
    | none => none
    | some x => (x.cmds.find? fun c => ! c.resolved && c.cap.seq.toNat == e.at 0 32).map fun c => (sid, x, c)

/-- Policy takes the commands that stand in lightpipe `n`, oldest first, and resolves them (R322, R341). -/
def State.policyTake (s : State) (n : Nat) : Nat → State
  | 0 => s
  | fuel + 1 =>
    match s.hwPop n with
    | none => s
    | some (e, s) =>
      match s.passedCmd n e with
      | none => s.policyTake n fuel
      | some (sid, x, c) => (s.takeCmd sid x c).policyTake n fuel

/-- Policy takes what a session's lightpipes of both ports hold. -/
def State.takeLanes (s : State) (sid : Sid) : State :=
  let s := s.policyTake (lane 256 0 sid) ((s.lp (lane 256 0 sid)).entries.length + s.stalled.length)
  s.policyTake (lane 256 1 sid) ((s.lp (lane 256 1 sid)).entries.length + s.stalled.length)
/-! ### Data of a command (R313 to R315) -/

/-- The bytes of a command's data that it needs. -/
def capNeeds (c : Capsule) : Nat := if opcTakesData c.opc.toNat ∧ c.length ≠ 0xFFFFFFFF then c.length.toNat else 0

/-- Place data at DOFF: bytes beyond LENGTH are ignored and set EXCESS (R315). -/
def placeData (c : CmdSt) (doff : Nat) (b : List Byte) : CmdSt :=
  let need := capNeeds c.cap
  let keep := b.take (need - doff)
  let c := if keep.length < b.length then { c with excess := true } else c
  if keep.isEmpty then c else { c with chunks := c.chunks ++ [(doff, keep)] }

/-- How far from offset `n` on the chunks cover the data without a gap. -/
def coverTo (l : List (Nat × List Byte)) : Nat → Nat → Nat
  | 0, n => n
  | fuel + 1, n =>
    match l.find? fun p => decide (p.1 ≤ n) && decide (n < p.1 + p.2.length) with
    | none => n
    | some p => coverTo l fuel (p.1 + p.2.length)

/-- Every byte of the command's data has arrived. -/
def dataComplete (c : CmdSt) : Bool := coverTo c.chunks c.chunks.length 0 == capNeeds c.cap

/-- The byte at offset `i` of the command's data: the first received (R319). -/
def dataByte (c : CmdSt) (i : Nat) : Byte :=
  match c.chunks.find? fun p => decide (p.1 ≤ i) && decide (i < p.1 + p.2.length) with
  | some p => p.2.getD (i - p.1) 0
  | none => 0

/-- The command's data in order. -/
def dataBytes (c : CmdSt) : List Byte := (List.range (capNeeds c.cap)).map (dataByte c)

/-! ### Completion, error log and freeze (R316, R325, R328) -/

/-- A status whose class freezes the session (R323). -/
def statusFreezes (st : Nat) : Bool := 0x0200 ≤ st

/-- A command leaves the session's list. -/
def dropCmd (x : SessSt) (seq : BitVec 32) : SessSt := { x with cmds := x.cmds.filter fun c => c.cap.seq != seq }

/-- The error-log entry of a failing command (R325): the spec's event code list gives EVCODE, so it is 0 where no event
was recorded. -/
def State.logEntry (s : State) (c : CmdSt) (st actlen : Nat) : LogEntry :=
  { seq := c.cap.seq, status := st, opc := c.cap.opc, obj := c.cap.obj, offset := c.cap.offset, length := c.cap.length
    actlen := actlen, info := c.info, coll := s.collTag, wt := s.wt }

/-- The host-port unit pops completions from lightpipe `n` of port `p` and sends them, while the port works (R21, R33); a
poisoned entry is discarded and nothing sent for it, and firmware pushes again the completion it carried, the oldest of that
lightpipe (R605). -/
def State.portPop (s : State) (p n : Nat) : Nat → State
  | 0 => s
  | fuel + 1 =>
    if ! s.portUp p ∨ s.on APR_STAT_FROZEN then s
    else match s.hwPop n with
      | none => s
      | some (e, s) =>
        match s.host.cpls.find? fun q => q.1 == n && (e.poison || e.data == (hostEntry q.2.1 q.2.2.seq).data) with
        | none => s.portPop p n fuel
        | some q =>
          let rest := s.host.cpls.erase q
          if e.poison then ((s.setHost { s.host with cpls := rest ++ [q] }).hwPush n (hostEntry q.2.1 q.2.2.seq)).portPop p n fuel
          else ((s.setHost { s.host with cpls := rest }).sendTo (BitVec.ofNat 14 q.2.1) (.cpl q.2.2) true).portPop p n fuel

/-- Firmware pushes a completion to LP 384 + 64p + (session ID mod 64), and the host-port unit takes what it can (R21, R33). -/
def State.pushCpl (s : State) (sid : Sid) (p : Nat) (c : Cpl) : State :=
  let n := lane 384 p sid
  let s := (s.setHost { s.host with cpls := s.host.cpls ++ [(n, sid.toNat, c)] }).hwPush n (hostEntry sid.toNat c.seq)
  s.portPop p n ((s.lp n).entries.length + s.stalled.length)

/-- Command `c` commits and completes (R316, R322, R328): its completion is sent, W and CLIM follow, and a freezing class
freezes the session, whose held commands give up their tickets (R354). -/
def State.complete (s : State) (sid : Sid) (c : CmdSt) (st actlen result : Nat) : State :=
  match s.sess sid with
  | none => s
  | some x =>
    let bad := statusFreezes st
    let x := dropCmd x c.cap.seq
    let x := { x with last := c.cap.seq, mark := c.cap.seq, markFailed := bad }
    let x := if bad then { x with
        frozen := some c.cap.seq
        log := (s.logEntry c st actlen :: x.log).take 4
        cmds := x.cmds.map fun d => { d with ticket := 0, evaluated := false, ready := false } }
      else x
    let x := { x with clim := s.grantClim sid x }
    let cpl : Cpl := { seq := c.cap.seq, status := st, flags := bad.toNat + 2 * c.excess.toNat, actlen := actlen
                       coll := s.collTag, clim := x.clim, result := result, wt := s.wt }
    (s.setSess sid x).pushCpl sid x.port cpl

/-! ### The rows -/

/-- HELLOR goes out in segments, in clear (R308, R309), and is kept for a repeat of its OPEN. -/
def State.helloAnswer (s : State) (p : Port) (m : HelloMsg) (b r : List Byte) : State :=
  let l := (segmentsOf r).map fun g =>
    ({ port := p.val, peer := m.src, body := .hellor g, bytes := prefixBytes 0xF3 1 9 0 0 0 0 ++ g } : TxPkt)
  let d : HelloDone := { body := b, at_ := s.now, answer := l }
  l.foldl (fun s x => s.emit (.packet x)) (s.setHost { s.host with hellos := d :: s.host.hellos })

/-- The prefix of a SESSION OPEN (R308, R309): SID, EPOCH, PLEN and PN are 0. -/
def helloPrefixOk (m : HelloMsg) : Bool :=
  m.magic == 0xF3 && m.ver == 1 && m.kind == 8 && m.sid == 0 && m.epoch == 0 && m.plen == 0 && m.pn == 0

/-- The member that a HELLO of TENANT bit 15 comes from (R366, R534): its chain verifies to a Melwick root and its device ID stands in
the members section with the address it came from. -/
def State.helloPeer (s : State) (m : HelloMsg) (b : List Byte) : Option Nat :=
  (Config.chainKey (helloChain b) Config.melwickRoots).bind fun pub =>
    (s.cfg.members.getD []).findIdx? fun x => x.devId == sha384Num pub && x.ip.toNat == m.src / 2 ^ 16

/-- The status of an OPEN (R310, R323, R327, R376, R534). -/
def State.helloStatus (s : State) (m : HelloMsg) (b : List Byte) : Nat :=
  let t := (helloTenant b).toNat % 1024
  let rack := (helloTenant b).getLsbD 15
  if 16384 ≤ s.host.sessions.length then 0x7001
  else if ! rack && ! ((s.tenantRow t).elim false fun r => r.enabled) then 0x3003
  else if rack && (s.helloPeer m b).isNone then 0x3001
  else match Config.chainKey (helloChain b) (if rack then Config.melwickRoots else ((s.tenantRow t).map fun r => r.anchors).getD []) with
    | none => 0x3001
    | some pub => if helloSigned b pub then 0 else 0x3002

/-- A session is created and answered (R309 to R311): the device's ephemeral key and nonce are drawn from the DRBG, PRK is derived. -/
def State.openSess (s : State) (p : Port) (m : HelloMsg) (b : List Byte) : State :=
  let d := ephemeral (Config.cryptoBytes s.free)
  let nonce := beBytes 32 ((Config.cryptoBytes (s.free + 1)).toNat % 2 ^ 256)
  let s : State := { s with free := s.free + 2 }
  let s := s.drbgDraw.drbgDraw
  let sid : Sid := BitVec.ofNat 14 (lowestFree s.host.sessions 0)
  let x : SessSt := { port := p.val, peer := m.src, tenant := (helloTenant b).toNat % 1024, rxwin := helloRxwin b
                      prk := sessionPrk d b nonce
                      member := if (helloTenant b).getLsbD 15 then s.helloPeer m b else none
                      reqcred := max 1 (min 256 (helloReqcred b)), heard := s.now }
  let x := { x with clim := s.grantClim sid x }
  let chain := (Config.identityChain (s.flashBytes 0x20000 0x10000)).getD []
  let r := hellorBody b sid.toNat x.clim.toNat (s.psize p.val) (pointBytes (ecMul d basePoint)) nonce chain
  ((s.setSess sid x).bump (HPT_RXOK_COUNT p.val)).helloAnswer p m b (signedHellor b r)

/-- HELLO (R309, R310): a SESSION OPEN is received and answered; a repeat of body and COOKIE within 10 s gets the same HELLOR. Under
an entropy fault it is discarded and counted (R368). -/
def hello (p : Port) (m : HelloMsg) (s : State) : State :=
  if ! (s.portOpen p.val && s.frameOk p.val m.v6 m.vlan && s.udpOk m.fragment m.udpOk m.udp) then s
  else match helloBody m.segs with
    | none => s.bump (HPT_DROP_COUNT p.val)
    | some b =>
      if ! helloPrefixOk m ∨ s.on SEC_STAT_ENTFLT then s.bump (HPT_DROP_COUNT p.val)
      else
        let s := s.setHost { s.host with hellos := s.host.hellos.filter fun d => decide (s.now ≤ d.at_ + 10 ^ 10) }
        match s.host.hellos.find? fun d => d.body == b with
        | some d => d.answer.foldl (fun s x => s.emit (.packet x)) s
        | none =>
          let st := s.helloStatus m b
          if st ≠ 0 then s.helloAnswer p m b (refusalBody b st) else s.openSess p m b

/-- HELLO. -/
def execHello (p : Port) (m : HelloMsg) (s : State) : Result := portClocked s (hello p m s)

/-- A completion not yet acknowledged is sent again for a repeated CMD (R319), with a new PN. -/
def State.repeatCpl (s : State) (sid : Sid) (x : SessSt) (seq : BitVec 32) : State :=
  match x.unacked.find? fun u => match u.pkt.body with | .cpl c => c.seq == seq | _ => false with
  | none => s
  | some u =>
    let x := { x with unacked := x.unacked.filter fun v => v.pkt.pn != u.pkt.pn }
    let r := s.sendFor x sid u.pkt.body true
    r.2.setSess sid r.1

/-- CMD (R313, R319, R320, R322): a capsule is received; a SEQ beyond CLIM has no effect and an ACK answers it at once. -/
def hostCmd (pkt : Pkt) (c : Capsule) (s : State) : State :=
  match s.receive pkt 1 (capsuleBytes c) true with
  | (none, s) => s
  | (some x, s) =>
    let sid := pkt.sid
    if seqLater c.seq x.clim then (s.bump (HPT_DROP_COUNT x.port)).sendAck sid
    else if x.void.any fun v => ! seqLater v.1 c.seq && ! seqLater c.seq v.2 then s.ackIfMany sid
    else if ! seqLater c.seq x.last then (s.repeatCpl sid x c.seq).ackIfMany sid
    else if x.cmds.any fun d => d.cap.seq == c.seq then s.ackIfMany sid
    else
      let early := x.early.filter fun e => e.1 == c.seq
      let d := placeData { cap := c, at_ := s.now } 0 c.data
      let d := early.foldl (fun d e => placeData d e.2.1 e.2.2.1) d
      let x := { x with cmds := x.cmds ++ [d], early := x.early.filter fun e => e.1 != c.seq }
      let s := s.setSess sid x
      (s.passCmds sid (x.cmds.length + 1)).ackIfMany sid

/-- CMD. -/
def execHostCmd (pkt : Pkt) (c : Capsule) (s : State) : Result := portClocked s (hostCmd pkt c s)

/-- DATA (R314): a payload is placed at DOFF of its command, or held where the command has not been received. -/
def hostData (pkt : Pkt) (seq doff : BitVec 32) (bytes : List Byte) (s : State) : State :=
  match s.receive pkt 2 (dataBody seq doff bytes) true with
  | (none, s) => s
  | (some x, s) =>
    let sid := pkt.sid
    let s := if ! seqLater seq x.last then s
      else if x.cmds.any fun d => d.cap.seq == seq then
        s.setSess sid { x with cmds := x.cmds.map fun d => if d.cap.seq = seq then placeData d doff.toNat bytes else d }
      else s.setSess sid { x with early := x.early ++ [(seq, doff.toNat, bytes, s.now)] }
    s.ackIfMany sid

/-- DATA. -/
def execHostData (pkt : Pkt) (seq doff : BitVec 32) (bytes : List Byte) (s : State) : Result :=
  portClocked s (hostData pkt seq doff bytes s)

/-- An ACK body acknowledges a PN (R317). -/
def ackCovers (largest : Nat) (map : BitVec 256) (pn : Nat) : Bool :=
  pn == largest || (decide (pn < largest) && decide (largest - 1 - pn < 256) && map.getLsbD (largest - 1 - pn))

/-- ACK (R317, R318, R321): acknowledged packets are released, RXWIN is taken, waiting read data goes on. -/
def hostAck (pkt : Pkt) (largest : Word) (map : BitVec 256) (win : BitVec 32) (s : State) : State :=
  match s.receive pkt 4 (ackBody largest.toNat map win.toNat) false with
  | (none, s) => s
  | (some x, s) =>
    let n := largest.toNat
    let gone := x.unacked.filter fun u => ackCovers n map u.pkt.pn
    let rtts := (gone.filter fun u => u.retries == 0).map fun u => s.now - u.at_
    let srtt := rtts.foldl (fun t r => if t = 0 then r else (7 * t + r) / 8) x.srtt
    let x := { x with unacked := x.unacked.filter fun u => ! ackCovers n map u.pkt.pn
                      rxwin := win.toNat, srtt := srtt }
    let s := s.setSess pkt.sid x
    x.cmds.foldl (fun s c => s.pumpData pkt.sid c.cap.seq (c.toSend.length + 1)) s

/-- ACK. -/
def execHostAck (pkt : Pkt) (largest : Word) (map : BitVec 256) (win : BitVec 32) (s : State) : Result :=
  portClocked s (hostAck pkt largest map win s)

/-- Answer a control request and store the response (R319, R324). -/
def State.answerCtl (s : State) (sid : Sid) (ctag : BitVec 16) (op st : Nat) (body : List Byte) : State :=
  match s.sess sid with
  | none => s
  | some x =>
    let b : TxBody := .ctlr ctag op st body
    let r := s.sendFor { x with lastCtl := some (ctag, b) } sid b true
    r.2.setSess sid r.1

/-- Receive a CTL (R319, R324): a CTAG equal to that of the last CTL answered gets the stored response again. -/
def State.receiveCtl (s : State) (pkt : Pkt) (ctag : BitVec 16) (op arg : Nat) : Option SessSt × State :=
  match s.receive pkt 5 (controlBytes ctag.toNat op 0 arg) true with
  | (none, s) => (none, s)
  | (some x, s) =>
    if pkt.port.val ≠ x.port then (none, s.bump (HPT_OLDEP_COUNT pkt.port.val))
    else match x.lastCtl with
      | some (t, b) => if t = ctag then (none, s.sendTo pkt.sid b true) else (some x, s)
      | none => (some x, s)

/-- LOG READ (R325, R326): the chosen error-log entry, or 0x2001. -/
def logRead (pkt : Pkt) (ctag : BitVec 16) (entry : Word) (s : State) : State :=
  match s.receiveCtl pkt ctag 3 entry.toNat with
  | (none, s) => s
  | (some x, s) =>
    if 4 ≤ entry.toNat then s.answerCtl pkt.sid ctag 3 0x1001 []
    else match x.log[entry.toNat]? with
      | none => s.answerCtl pkt.sid ctag 3 0x2001 []
      | some e => s.answerCtl pkt.sid ctag 3 0
          (leBytes 4 e.seq.toNat ++ leBytes 2 e.status ++ leBytes 1 e.opc.toNat ++ [0] ++ leBytes 16 e.obj.toNat
            ++ leBytes 8 e.offset.toNat ++ leBytes 4 e.length.toNat ++ leBytes 4 e.actlen ++ leBytes 8 e.info
            ++ leBytes 2 e.evcode ++ leBytes 2 e.unit ++ leBytes 4 e.coll ++ leBytes 8 e.wt)

/-- LOG_READ. -/
def execLogRead (pkt : Pkt) (ctag : BitVec 16) (entry : Word) (s : State) : Result := portClocked s (logRead pkt ctag entry s)

/-- The 12-byte response of RESTART (R329). -/
def restartBody (first last clim : BitVec 32) : List Byte := leBytes 4 first.toNat ++ leBytes 4 last.toNat ++ leBytes 4 clim.toNat

/-- RESTART with RESUME (R329, R354): the held commands run in SEQ order with new tickets. -/
def restartResume (pkt : Pkt) (ctag : BitVec 16) (s : State) : State :=
  match s.receiveCtl pkt ctag 4 0 with
  | (none, s) => s
  | (some x, s) =>
    match x.frozen with
    | none => s.answerCtl pkt.sid ctag 4 0x1002 []
    | some f =>
      let held := x.cmds.filter fun c => c.resolved && c.fixed.isNone && opcNamesObject c.cap.opc.toNat
      let order := held.map fun c => (c.cap.seq - f).toNat
      let base := s.host.tickets
      let give (c : CmdSt) : CmdSt :=
        if c.resolved && c.fixed.isNone && opcNamesObject c.cap.opc.toNat then
          { c with ticket := base + 1 + (order.filter fun n => decide (n < (c.cap.seq - f).toNat)).length }
        else c
      let x := { x with frozen := none, cmds := x.cmds.map give }
      let s := (s.setHost { s.host with tickets := base + held.length }).setSess pkt.sid x
      let s := s.passCmds pkt.sid (x.cmds.length + 1)
      s.answerCtl pkt.sid ctag 4 0 (restartBody (f + 1) x.clim x.clim)

/-- RESTART_RESUME. -/
def execRestartResume (pkt : Pkt) (ctag : BitVec 16) (s : State) : Result := portClocked s (restartResume pkt ctag s)

/-- The staging and the Ledger debit of commands that are discarded are released (R330). -/
def State.releaseCmds (s : State) (cmds : List CmdSt) : State :=
  cmds.foldl (fun s c => match c.handle with
    | none => s
    | some h => (s.withdraw h).2) s

/-- RESTART with DISCARD (R329): every SEQ up to CLIM is void; the host goes on at LAST + 1 under a new CLIM. -/
def restartDiscard (pkt : Pkt) (ctag : BitVec 16) (s : State) : State :=
  match s.receiveCtl pkt ctag 4 1 with
  | (none, s) => s
  | (some x, s) =>
    match x.frozen with
    | none => s.answerCtl pkt.sid ctag 4 0x1002 []
    | some f =>
      let s := s.releaseCmds x.cmds
      let y := { x with frozen := none, cmds := [], early := [], void := (f + 1, x.clim) :: x.void, last := x.clim, next := x.clim + 1 }
      let y := { y with clim := s.grantClim pkt.sid y }
      (s.setSess pkt.sid y).answerCtl pkt.sid ctag 4 0 (restartBody (f + 1) x.clim y.clim)

/-- RESTART_DISCARD. -/
def execRestartDiscard (pkt : Pkt) (ctag : BitVec 16) (s : State) : Result := portClocked s (restartDiscard pkt ctag s)

/-- Commands later than W are discarded, and nothing of the old epoch is kept (R330, R331). -/
def State.resetWork (s : State) (x : SessSt) : SessSt × State :=
  ({ x with cmds := [], early := [], unacked := [], queued := [], frozen := none, void := [] }, s.releaseCmds x.cmds)

/-- The completions and packets of a session that are still inside the device are dropped with it. -/
def State.dropOut (s : State) (sid : Sid) : State :=
  s.setHost { s.host with
    cpls := s.host.cpls.filter fun q => q.2.1 != sid.toNat, sealing := s.host.sealing.filter fun j => j.sid != sid.toNat }

/-- The device resets and closes a session internally (R336, R372, R567): R330 with nothing sent. -/
def State.resetAndClose (s : State) (sid : Sid) : State :=
  match s.sess sid with
  | none => s
  | some x => (((s.resetWork x).2).dropOut sid).closeSess sid

/-- Every session is reset internally and closed. -/
def State.closeAll (s : State) : State := s.host.sessions.foldl (fun s p => s.resetAndClose (BitVec.ofNat 14 p.1)) s

/-- SESSION RESET carried out (R330, R331): W is fixed, later commands are discarded, RESET-ACK goes out under the next
epoch with PN 0; with CLOSE, or from epoch 65,535, the session closes. -/
def State.doReset (s : State) (sid : Sid) (x : SessSt) (port : Nat) (ctag : BitVec 16) (close : Bool) : State :=
  let closes := close || x.epoch == 65535
  let r := (s.dropOut sid).resetWork x
  let y := { r.1 with port := port, epoch := (x.epoch + 1) % 65536, last := x.mark, next := x.mark + 1, clim := x.mark
                      seen := [], ackDue := 0, ackSince := none, pn := 0, dormant := false }
  let y := { y with clim := r.2.grantClim sid y }
  let body := leBytes 4 x.mark.toNat ++ leBytes 2 y.epoch ++ leBytes 2 (x.markFailed.toNat + 2 * closes.toNat)
    ++ leBytes 4 y.clim.toNat ++ leBytes 4 r.2.collTag
  let b : TxBody := .ctlr ctag 2 0 body
  let pkt : TxPkt := { port := port, peer := y.peer, sid := sid.toNat, epoch := y.epoch, pn := 0, body := b }
  let pkt := pkt.protect x.prk
  let y := { y with pn := 1, lastCtl := some (ctag, b), old := some (x.epoch, ctag, pkt, s.now)
                    unacked := [{ pkt := pkt, at_ := s.now, rto := s.rtoStart y }] }
  let t := r.2.emit (.packet pkt)
  if closes then t.closeSess sid else t.setSess sid y

/-- A repeat of the last SESSION RESET under the old epoch (R335). -/
def isOldReset (x : SessSt) (pkt : Pkt) (ctag : BitVec 16) (plain : List Byte) : Bool :=
  match x.old with
  | some (e, t, _, _) => pkt.epoch.toNat == e && t == ctag && pkt.tag == packetTag x.prk pkt plain
  | none => false

/-- SESSION RESET (R330 to R336). -/
def sessionReset (pkt : Pkt) (ctag : BitVec 16) (close : Bool) (s : State) : State :=
  let plain := controlBytes ctag.toNat 2 0 close.toNat
  match s.sess pkt.sid with
  | some x =>
    if s.networkOk pkt && prefixOk pkt 5 plain && isOldReset x pkt ctag plain then
      match x.old with
      | some (_, _, a, _) => s.emit (.packet a)
      | none => s
    else
      match s.receive pkt 5 plain true with
      | (none, s) => s
      | (some x, s) =>
        match x.lastCtl with
        | some (t, b) => if t = ctag then s.sendTo pkt.sid b true else s.doReset pkt.sid x pkt.port.val ctag close
        | none => s.doReset pkt.sid x pkt.port.val ctag close
  | none => (s.receive pkt 5 plain true).2

/-- SESSION_RESET. -/
def execSessionReset (pkt : Pkt) (ctag : BitVec 16) (close : Bool) (s : State) : Result := portClocked s (sessionReset pkt ctag close s)

/-- ARP_REQUEST (R306): answered for the port's IPv4 address. -/
def arpRequest (p : Port) (target : BitVec 32) (s : State) : State :=
  if s.portOpen p.val && s.on (HPT_PCTL_V4EN p.val) && target.toNat == s.rd (HPT_IP4_ADDR p.val) then
    s.emit (.arpReply p.val (s.rd (HPT_MAC_ADDR p.val)))
  else s

/-- ARP_REQUEST. -/
def execArpRequest (p : Port) (target : BitVec 32) (s : State) : Result := portClocked s (arpRequest p target s)

/-- The port's IPv6 global address: word 0 holds the first octets (R338). -/
def State.ip6 (s : State) (p : Nat) : Nat :=
  ((s.rd (HPT_IP6_ADDR p 0) * 2 ^ 32 + s.rd (HPT_IP6_ADDR p 1)) * 2 ^ 32 + s.rd (HPT_IP6_ADDR p 2)) * 2 ^ 32
    + s.rd (HPT_IP6_ADDR p 3)

/-- The link-local address formed from a MAC address (R306; the modified EUI-64 form, PRESUMED, log entry 40). -/
def linkLocal (mac : Nat) : Nat :=
  0xFE80 * 2 ^ 112 + ((mac / 2 ^ 24) ^^^ 0x020000) * 2 ^ 40 + 0xFFFE * 2 ^ 24 + mac % 2 ^ 24

/-- NEIGHBOUR_DISCOVERY (R306). -/
def neighbourDiscovery (p : Port) (target : BitVec 128) (s : State) : State :=
  if s.portOpen p.val && s.on (HPT_PCTL_V6EN p.val)
      && (target.toNat == s.ip6 p.val || target.toNat == linkLocal (s.rd (HPT_MAC_ADDR p.val))) then
    s.emit (.neighbourReply p.val (s.rd (HPT_MAC_ADDR p.val)))
  else s

/-- NEIGHBOUR_DISCOVERY. -/
def execNeighbourDiscovery (p : Port) (target : BitVec 128) (s : State) : Result := portClocked s (neighbourDiscovery p target s)

/-- ECHO_REQUEST (R306). -/
def echoRequest (p : Port) (v6 : Bool) (payload : List Byte) (s : State) : State :=
  if s.portOpen p.val && s.frameOk p.val v6 none then s.emit (.echoReply p.val v6 payload) else s

/-- ECHO_REQUEST. -/
def execEchoRequest (p : Port) (v6 : Bool) (payload : List Byte) (s : State) : Result := portClocked s (echoRequest p v6 payload s)

/-- ACK_DELAY (R317): the ACK delay of a session expires, or NPKT packets are unacknowledged. -/
def ackDelay (sid : Sid) (s : State) : State :=
  match s.sess sid with
  | none => s
  | some x => if x.ackDue = 0 then s else s.sendAck sid

/-- ACK_DELAY. -/
def execAckDelay (sid : Sid) (s : State) : Result := portClocked s (ackDelay sid s)

/-- RETRANSMISSION_TIMEOUT (R318, R336): the packet's content goes out under a new PN and its time-out doubles; after
RETRIES of them the session is out of contact: W is fixed under R330, nothing is sent, and it stays dormant. -/
def retransmissionTimeout (sid : Sid) (pn : Word) (s : State) : State :=
  match s.sess sid with
  | none => s
  | some x =>
    match x.unacked.find? fun u => u.pkt.pn == pn.toNat with
    | none => s
    | some u =>
      if s.clamp HPT_RTO_RETRIES 1 15 ≤ u.retries then
        let r := (s.dropOut sid).resetWork x
        r.2.setSess sid { r.1 with dormant := true, heard := s.now }
      else
        let pkt := TxPkt.protect x.prk { u.pkt with pn := x.pn, peer := x.peer }
        let v : Unacked := { pkt := pkt, at_ := s.now, retries := u.retries + 1, rto := min (2 * u.rto) (s.clamp HPT_RTO_MAX 1 255 * 1000000) }
        let x := { x with pn := x.pn + 1, unacked := x.unacked.map fun w => if w.pkt.pn = u.pkt.pn then v else w }
        ((s.bump (HPT_RETX_COUNT x.port)).setSess sid x).transmit pkt

/-- RETRANSMISSION_TIMEOUT. -/
def execRetransmissionTimeout (sid : Sid) (pn : Word) (s : State) : Result := portClocked s (retransmissionTimeout sid pn s)

/-- DATA_T_TIMEOUT (R315): a command whose data is short gets its status; it completes in its turn. -/
def dataTTimeout (sid : Sid) (seq : BitVec 32) (s : State) : State :=
  match s.sess sid with
  | none => s
  | some x => s.setSess sid { x with cmds := x.cmds.map fun c =>
      if c.cap.seq = seq ∧ c.fixed = none ∧ ! dataComplete c then
        { c with fixed := some (0x1101, 0, 0), ticket := 0 } else c }

/-- DATA_T_TIMEOUT. -/
def execDataTTimeout (sid : Sid) (seq : BitVec 32) (s : State) : Result := portClocked s (dataTTimeout sid seq s)

/-- DATA_HOLD_EXPIRY (R314): held DATA whose SEQ names no received command is discarded. -/
def dataHoldExpiry (sid : Sid) (seq : BitVec 32) (s : State) : State :=
  match s.sess sid with
  | none => s
  | some x => s.setSess sid { x with early := x.early.filter fun e => e.1 != seq }

/-- DATA_HOLD_EXPIRY. -/
def execDataHoldExpiry (sid : Sid) (seq : BitVec 32) (s : State) : Result := portClocked s (dataHoldExpiry sid seq s)

/-- IDLE_TIMEOUT (R336): no valid packet came for IDLE, or a dormant session's IDLE ends; the session closes. -/
def idleTimeout (sid : Sid) (s : State) : State := s.resetAndClose sid

/-- IDLE_TIMEOUT. -/
def execIdleTimeout (sid : Sid) (s : State) : Result := portClocked s (idleTimeout sid s)

/-- OLD_EPOCH_KEY_EXPIRY (R335). -/
def oldEpochKeyExpiry (sid : Sid) (s : State) : State :=
  match s.sess sid with
  | none => s
  | some x => s.setSess sid { x with old := none }

/-- OLD_EPOCH_KEY_EXPIRY. -/
def execOldEpochKeyExpiry (sid : Sid) (s : State) : Result := portClocked s (oldEpochKeyExpiry sid s)

/-- PORT_LINK_CHANGE (R305, R338). -/
def portLinkChange (p : Port) (up : Bool) (s : State) : State :=
  let n := p.val
  let s := ((s.put (HPT_PSTAT_LINK n) up).put (HPT_PSTAT_ANDONE n) (up && s.on (HPT_PCTL_AN n))).put (HPT_PSTAT_FECLOCK n) up
  if up then s else s.put (HPT_PSTAT_DOWNEV n) true

/-- PORT_LINK_CHANGE. -/
def execPortLinkChange (p : Port) (up : Bool) (s : State) : Result := portClocked s (portLinkChange p up s)

/-- The packets of a session that waited for its port go out when the port returns or the session is rebound (R337). -/
def State.flushQueued (s : State) (sid : Sid) : State :=
  match s.sess sid with
  | none => s
  | some x => x.queued.foldl (fun s b => s.sendTo sid b true) (s.setSess sid { x with queued := [] })

/-- The packets of every session bound to port `p` that waited for it go out (R337). -/
def State.portReturned (s : State) (p : Nat) : State :=
  let s := s.host.sessions.foldl (fun s q => if q.2.port = p then s.flushQueued (BitVec.ofNat 14 q.1) else s) s
  forUpTo 64 (fun i s => s.portPop p (384 + 64 * p + i) ((s.lp (384 + 64 * p + i)).entries.length + s.stalled.length)) s

end Sys2Proof.Machine
end

