-- ==== Sys2Proof/Machine/Cipher.lean ====
section
/-! DEFINITION. Sys2Proof/Machine/Cipher.lean: the cipher engines (R363, R377 to R381), the DRBG and the entropy source
(R368). AES itself is a free function of key, nonce and bytes. -/
namespace Sys2Proof.Machine
open Sys2Proof

/-! ### Object jobs (R377 to R381) -/

def csDone : Nat := 0
def csTagfail : Nat := 1
def csBadArg : Nat := 2
def csBusError : Nat := 3
def csUnwrapFail : Nat := 4
def csKeysWithheld : Nat := 5
def csNoEntropy : Nat := 6
def csNoKey : Nat := 7

/-- A result to be posted (R380): OPID, STATUS, FAILCNT and FIRSTFAIL. -/
def cipherEntry (job : Entry) (status fails first : Nat) : Entry :=
  mkEntry [(0, 64, job.at 0 64), (64, 16, status), (80, 16, fails), (96, 16, first)]

/-- Keep a result of engine `c` until it is posted. -/
def State.cipherPost (s : State) (c : Nat) (e : Entry) : State :=
  s.setSec { s.sec with results := smPut s.sec.results c (smGet [] s.sec.results c ++ [e]) }

/-- The job's OP. -/
def jobOp (e : Entry) : Nat := e.at 64 8

/-- Engine `c` pops its next object job where that job is for the row `op`; a poisoned job, or one with no such OP, is
popped by the row of EVICT. The engine's domain must be ON (R561). -/
def State.cipherPop (s : State) (c op : Nat) : Option (Entry × State) :=
  match (s.lp (545 + 4 * c)).entries with
  | [] => none
  | e :: _ =>
    let other := jobOp e = 0 ∨ 5 < jobOp e
    if s.dom (126 + c / 2) ≠ 2 ∨ s.idled (126 + c / 2) then none
    else if jobOp e = op ∨ (op = 5 ∧ other) then s.hwPop (545 + 4 * c) else none

/-- Fields that every job must have right: no poison, reserved bits 0, a slot below 32,768. -/
def jobBad (e : Entry) : Bool := e.poison || e.at 72 8 != 0 || e.at 122 6 != 0 || decide (32768 ≤ e.at 96 16)

/-- SEAL and OPEN: COUNT in 1 to 1,024 and BUF 64-byte aligned. -/
def jobBufBad (e : Entry) : Bool := jobBad e || e.at 80 16 == 0 || decide (1024 < e.at 80 16) || e.at 128 6 != 0

/-- The sector buffer of sector `i`. -/
def jobBuf (e : Entry) (i : Nat) : Nat := e.at 128 64 + 4160 * i

/-- Read the sectors of a job; none on a bus error. -/
def State.readSectors (s : State) (e : Entry) : List Nat → Option (List (List Byte)) × State
  | [] => (some [], s)
  | i :: r =>
    match s.busRead false (jobBuf e i) 4160 with
    | (none, s) => (none, s)
    | (some b, s) =>
      match State.readSectors s e r with
      | (none, s) => (none, s)
      | (some l, s) => (some (b :: l), s)

/-- WSEQ of a sector: metadata bytes 56 to 63, after the 4,096 user bytes (R111, R112, R378). -/
def sectorWseq (b : List Byte) : Nat := leNat ((b.drop 4152).take 8)

/-- The nonce of a sector (R378): WSEQ in 8 bytes, then INDEX, bytes 20 to 23, in 4. -/
def sectorNonce (b : List Byte) : List Byte := (b.drop 4152).take 8 ++ (b.drop 4116).take 4

/-- The additional data of a sector: metadata bytes 16 to 63. -/
def sectorAad (b : List Byte) : List Byte := (b.drop 4112).take 48

/-- The tag that a sector's user bytes have under a key, as ciphertext. -/
def sectorTag (key : BitVec 256) (b : List Byte) : List Byte :=
  leBytes 16 (Config.gcmTag key (sectorNonce b) (sectorAad b) (b.take 4096)).toNat

/-- A sector sealed: its user bytes encrypted, its tag in bytes 0 to 15 of the metadata (R378). -/
def sealSector (key : BitVec 256) (b : List Byte) : List Byte :=
  let c := gcmCrypt key (sectorNonce b) (b.take 4096) ++ b.drop 4096
  c.take 4096 ++ sectorTag key c ++ b.drop 4112

/-- A sector's tag verifies under a key. -/
def sectorOpens (key : BitVec 256) (b : List Byte) : Bool := sectorTag key b == (b.drop 4096).take 16

/-- Write pieces of sector `i` in place; false on a bus error. -/
def State.cipherWrite (s : State) (e : Entry) (l : List (Nat × List Byte)) : Bool × State :=
  l.foldl (fun r p =>
    let w := r.2.busWrite false (jobBuf e p.1) p.2
    (r.1 && w.1.isNone, w.2)) (true, s)

/-- A job that names a slot with no key completes with NO_KEY; any other goes on under its key. -/
def State.withKey (s : State) (c : Nat) (e : Entry) (run : BitVec 256 → State) : State :=
  match s.slotKey (e.at 96 16) with
  | none => s.cipherPost c (cipherEntry e csNoKey 0 0xFFFF)
  | some k => run k

/-- SEAL (R378, R379): the user bytes are encrypted in place and the tags written; a WSEQ not below SEC_WSEQ is BAD_ARG. -/
def cipherSeal (c : Fin 8) (s : State) : State :=
  match s.cipherPop c.val 1 with
  | none => s
  | some (e, s) =>
    if jobBufBad e then s.cipherPost c.val (cipherEntry e csBadArg 0 0xFFFF)
    else s.withKey c.val e fun k =>
      match s.readSectors e (List.range (e.at 80 16)) with
      | (none, s) => s.cipherPost c.val (cipherEntry e csBusError 0 0xFFFF)
      | (some bs, s) =>
        if bs.any fun b => decide (s.vwNat 26 ≤ sectorWseq b) then s.cipherPost c.val (cipherEntry e csBadArg 0 0xFFFF)
        else
          let w := s.cipherWrite e (bs.zipIdx.map fun p => (p.2, sealSector k p.1))
          w.2.cipherPost c.val (cipherEntry e (if w.1 then csDone else csBusError) 0 0xFFFF)

/-- SEAL. -/
def execCipherSeal (c : Fin 8) (s : State) : Result := clocked s (cipherSeal c s)

/-- OPEN (R380): sectors whose tags verify are decrypted in place; a failing sector's bytes stay. -/
def cipherOpen (c : Fin 8) (s : State) : State :=
  match s.cipherPop c.val 2 with
  | none => s
  | some (e, s) =>
    if jobBufBad e then s.cipherPost c.val (cipherEntry e csBadArg 0 0xFFFF)
    else s.withKey c.val e fun k =>
      match s.readSectors e (List.range (e.at 80 16)) with
      | (none, s) => s.cipherPost c.val (cipherEntry e csBusError 0 0xFFFF)
      | (some bs, s) =>
        let bad := (bs.zipIdx.filter fun p => ! sectorOpens k p.1).map Prod.snd
        let good := bs.zipIdx.filter fun p => sectorOpens k p.1
        let w := s.cipherWrite e (good.map fun p => (p.2, gcmCrypt k (sectorNonce p.1) (p.1.take 4096)))
        let st := if ! w.1 then csBusError else if bad.isEmpty then csDone else csTagfail
        w.2.cipherPost c.val (cipherEntry e st bad.length (bad.headD 0xFFFF))

/-- OPEN. -/
def execCipherOpen (c : Fin 8) (s : State) : Result := clocked s (cipherOpen c s)

/-- GENKEY and LOADKEY: object slots only, TENANT below 1,024, WRAP 8-byte aligned (R380). -/
def jobKeyBad (e : Entry) : Bool := jobBad e || decide (e.at 96 16 < 2) || e.at 192 3 != 0

/-- An object key is in the job's slot. -/
def State.putKey (s : State) (e : Entry) (key : BitVec 256) : State :=
  (s.unslot (· == e.at 96 16)).setSec { s.sec with keys := smPut s.sec.keys (e.at 96 16) { tenant := e.at 112 10, key := key } }

/-- GENKEY (R377, R368): a key drawn from the DRBG into a slot, its form wrapped under TK(t) written to WRAP. -/
def cipherGenkey (c : Fin 8) (s : State) : State :=
  match s.cipherPop c.val 3 with
  | none => s
  | some (e, s) =>
    if jobKeyBad e then s.cipherPost c.val (cipherEntry e csBadArg 0 0xFFFF)
    else if s.on SEC_STAT_KEYSOFF then s.cipherPost c.val (cipherEntry e csKeysWithheld 0 0xFFFF)
    else if s.on SEC_STAT_ENTFLT then s.cipherPost c.val (cipherEntry e csNoEntropy 0 0xFFFF)
    else
      let key := (Config.cryptoBytes s.free).setWidth 256
      let s : State := { s.drbgDraw with free := s.free + 1 }
      let w := s.busWrite false (e.at 192 64) (leBytes 40 (Config.keyWrap (s.tenantKey (e.at 112 10)) key).toNat)
      if w.1.isSome then w.2.cipherPost c.val (cipherEntry e csBusError 0 0xFFFF)
      else (w.2.putKey e key).cipherPost c.val (cipherEntry e csDone 0 0xFFFF)

/-- GENKEY. -/
def execCipherGenkey (c : Fin 8) (s : State) : Result := clocked s (cipherGenkey c s)

/-- LOADKEY (R377): the wrapped key at WRAP is unwrapped under TK(t) into a slot, or UNWRAP_FAIL. -/
def cipherLoadkey (c : Fin 8) (s : State) : State :=
  match s.cipherPop c.val 4 with
  | none => s
  | some (e, s) =>
    if jobKeyBad e then s.cipherPost c.val (cipherEntry e csBadArg 0 0xFFFF)
    else if s.on SEC_STAT_KEYSOFF then s.cipherPost c.val (cipherEntry e csKeysWithheld 0 0xFFFF)
    else match s.busRead false (e.at 192 64) 40 with
      | (none, s) => s.cipherPost c.val (cipherEntry e csBusError 0 0xFFFF)
      | (some b, s) =>
        match Config.keyUnwrap (s.tenantKey (e.at 112 10)) (BitVec.ofNat 320 (leNat b)) with
        | none => s.cipherPost c.val (cipherEntry e csUnwrapFail 0 0xFFFF)
        | some key => (s.putKey e key).cipherPost c.val (cipherEntry e csDone 0 0xFFFF)

/-- LOADKEY. -/
def execCipherLoadkey (c : Fin 8) (s : State) : Result := clocked s (cipherLoadkey c s)

/-- EVICT (R380, R383): the slot is zeroised; slots 0 and 1 and unknown OPs are BAD_ARG. -/
def cipherEvict (c : Fin 8) (s : State) : State :=
  match s.cipherPop c.val 5 with
  | none => s
  | some (e, s) =>
    let slot := e.at 96 16
    if jobBad e ∨ jobOp e ≠ 5 ∨ slot < 2 then s.cipherPost c.val (cipherEntry e csBadArg 0 0xFFFF)
    else if (s.slotKey slot).isNone then s.cipherPost c.val (cipherEntry e csNoKey 0 0xFFFF)
    else ((s.unslot (· == slot)).setSec { s.sec with keys := smErase s.sec.keys slot }).cipherPost c.val (cipherEntry e csDone 0 0xFFFF)

/-- EVICT. -/
def execCipherEvict (c : Fin 8) (s : State) : Result := clocked s (cipherEvict c s)

/-- SESSION_JOB (R33, R380, R381, R605): a session job of the host-port unit is popped, its packet sealed, and the result kept; a
poisoned job gives BAD_ARG. The spec gives session jobs no format: the job carries its OPID alone (log entry 51). -/
def sessionJob (c : Fin 8) (s : State) : State :=
  if s.dom (126 + c.val / 2) ≠ 2 ∨ s.idled (126 + c.val / 2) then s
  else match s.hwPop (544 + 4 * c.val) with
    | none => s
    | some (e, s) => s.cipherPost c.val (cipherEntry e (if e.poison then csBadArg else csDone) 0 0xFFFF)

/-- SESSION_JOB. -/
def execSessionJob (c : Fin 8) (s : State) : Result := clocked s (sessionJob c s)

/-- CIPHER_RESULT (R380, R381): the oldest result is posted to LP 546 + 4c with its WT, whose head the host-port unit takes
where it is its own. -/
def cipherResult (c : Fin 8) (s : State) : State :=
  match smGet [] s.sec.results c.val with
  | [] => s
  | e :: r =>
    let s := s.setSec { s.sec with results := if r.isEmpty then smErase s.sec.results c.val else smPut s.sec.results c.val r }
    let s := s.hwPush (546 + 4 * c.val) { e with data := e.data ||| packEntry [(192, 64, s.wt)] }
    s.portTake c.val (s.lp (546 + 4 * c.val)).entries.length

/-- CIPHER_RESULT. -/
def execCipherResult (c : Fin 8) (s : State) : Result := clocked s (cipherResult c s)

/-! ### Randomness (R368) -/

/-- DRBG_RESEED (R368): the reseed of every 1 s; that of 2^20 requests comes with the request itself. -/
def drbgReseed (s : State) : State := s.reseedDrbg

/-- DRBG_RESEED. -/
def execDrbgReseed (s : State) : Result := clocked s (drbgReseed s)

/-- RESEED (R368): SEC_CTL.RESEED is written with 1. -/
def reseed (s : State) : State := s.reseedDrbg

/-- RESEED. -/
def execReseed (s : State) : Result := clocked s (reseed s)

/-- ENTROPY_HEALTH_FAILURE (R368). -/
def entropyHealthFailure (s : State) : State :=
  ((s.put SEC_STAT_ENTFLT true).bump SEC_DRBG_HEALTHFAIL).event 1 .entropy 0 0

/-- ENTROPY_HEALTH_FAILURE. -/
def execEntropyHealthFailure (s : State) : Result := clocked s (entropyHealthFailure s)

/-- ENTROPY_FAULT_CLEAR (R368): 1,024 passing windows in a row and a reseed. -/
def entropyFaultClear (s : State) : State := if s.on SEC_STAT_ENTFLT then s.reseedDrbg.put SEC_STAT_ENTFLT false else s

/-- ENTROPY_FAULT_CLEAR. -/
def execEntropyFaultClear (s : State) : Result := clocked s (entropyFaultClear s)

end Sys2Proof.Machine
end

