-- ==== Sys2Proof/Machine/Security.lean ====
section
/-! DEFINITION. Sys2Proof/Machine/Security.lean: ownership (R369 to R375), the security policy at activation (R374, R384,
R387, R391), Loupe unlock (R390), fuses (R391, R392) and the TAP's standard instructions (R389, R604). -/
namespace Sys2Proof.Machine
open Sys2Proof

/-! ### What the registers show of the fuses (R392, R393) -/

/-- SEC_STAT, SEC_OWNHASH, SEC_SVN and vital word 16 show the fuses (R393, R392), and SEC_DEVID the device ID, SHA-384 of DIK's
public key (R366). -/
def State.showFuses (s : State) : State :=
  let s := ((s.wr SEC_STAT_OWN s.ownState).wr SEC_STAT_SLOT (s.currentSlot.getD 15)).wr SEC_STAT_USED s.usedSlots
  let s := s.put SEC_STAT_LOUPE_DEAD s.sec.loupeFuse
  let s := forUpTo 12 (fun w s => (s.wr (SEC_OWNHASH_WORD w) (wordOf384 s.ownerHash w)).wr (SEC_DEVID_WORD w) (wordOf384 (sha384Num Config.dikPub) w)) s
  let l := s.sec.svn
  let s := (((s.wr SEC_SVN_FW (l.getD 0 0)).wr SEC_SVN_POLICY (l.getD 1 0)).wr SEC_SVN_UCODE (l.getD 2 0)).wr SEC_SVN_PROFILE (l.getD 3 0)
  s.setVw 16 (s.reg SEC_STAT &&& 0x3FF)

/-! ### Refusals of an ownership action and of a policy (R372, R375) -/

/-- The record's SLOT is already VALID or destroyed: CLAIM and TRANSFER write it, DECOMMISSION destroys it (R372). -/
def State.ownDone (s : State) (r : OwnerRec) : Bool :=
  let x := s.ownSlot r.slot
  if r.action = 3 then x.destroyed else x.valid || x.destroyed

/-- The action is allowed in the ownership state (R369, R375). -/
def State.ownAllowed (s : State) (r : OwnerRec) : Bool :=
  if r.action = 1 then s.ownState != 1
  else if r.action = 2 then s.ownState == 1
  else r.action == 3 && s.ownState == 1 && s.currentSlot == some r.slot

/-- SEC_DEVID equals a device ID. -/
def State.isDevice (s : State) (id : BitVec 384) : Bool :=
  (List.range 12).all fun w => s.rd (SEC_DEVID_WORD w) == wordOf384 id w

/-- Bytes 0 to 175 of an ownership record (R371): "FYOWN001", ACTION, SLOT, DEVID, NEWPUB and zeros. -/
def ownHead (r : OwnerRec) : List Byte :=
  [0x46, 0x59, 0x4F, 0x57, 0x4E, 0x30, 0x30, 0x31] ++ leBytes 1 r.action ++ leBytes 1 r.slot ++ leBytes 6 0 ++ beBytes 48 r.devId.toNat
    ++ (r.newPub ++ List.replicate 97 0).take 97 ++ leBytes 15 0

/-- A signature of an ownership record verifies under a key (R371): over SHA-384 of "FYOWN" and bytes 0 to 175. -/
def ownSigTrue (r : OwnerRec) (key sig : List Byte) : Bool := ecdsaVerify key (sha384 ([0x46, 0x59, 0x4F, 0x57, 0x4E] ++ ownHead r)) sig

/-- The signatures the action needs (R371): SIGNEW under NEWPUB, SIGCUR under OWNER_PUB, which must hash to the current slot. -/
def State.ownSigned (s : State) (r : OwnerRec) (ownerPub : List Byte) : Bool :=
  let cur := sha384Num ownerPub == s.ownerHash && ownSigTrue r ownerPub r.sigCur
  if r.action = 1 then ownSigTrue r r.newPub r.sigNew else if r.action = 2 then ownSigTrue r r.newPub r.sigNew && cur else cur

/-- The first reason among 0x0303 to 0x0307 that refuses a record (R375); none where there is nothing to do. -/
def State.ownRefused (s : State) (r : OwnerRec) (ownerPub : List Byte) : Option Nat :=
  if r.action = 0 ∨ s.ownDone r then none
  else if (r.action = 1 ∨ r.action = 2) ∧ s.lowestUnused ≠ some r.slot then some 0x0303
  else if ! (s.ownAllowed r && s.isDevice r.devId) then some 0x0304
  else if ! s.ownSigned r ownerPub then some 0x0305
  else if ! s.on SEC_STAT_VFUSE then some 0x0306
  else if s.on SEC_STAT_ENTFLT then some 0x0307
  else none

/-- A tenant index occurs twice. -/
def dupTenant : List TenantRow → Bool
  | [] => false
  | r :: rs => rs.any (fun x => x.index == r.index) || dupTenant rs

/-- The ownership state that holds once the policy's action is done. -/
def State.ownAfter (s : State) (r : OwnerRec) : Nat :=
  if r.action = 0 ∨ s.ownDone r then s.ownState else if r.action = 3 then 2 else 1

/-- The tenant table is valid (R374, R375, 0x0309). -/
def tenantsOk (own : Nat) (l : List TenantRow) : Bool :=
  ! dupTenant l && decide (l.length ≤ 1024)
    && l.all fun r => decide (r.index < 1024) && ! r.anchors.isEmpty && (own == 1 || ! (r.read || r.write))

/-- The family 0x03xx of the enable check, in the order of R375. -/
def State.policyRefused (s : State) (p : Profile) : Option Nat :=
  let x := p.policy
  if p.status = imgMelwick ∨ p.status = imgOwner then some 0x0301
  else if s.ownState = 1 ∧ sha384Num x.ownerPub ≠ s.ownerHash then some 0x0302
  else match s.ownRefused x.ownRec x.ownerPub with
    | some r => some r
    | none =>
      if ! tenantsOk (s.ownAfter x.ownRec) x.tenants then some 0x0309
      else if (List.range 4).any fun i => decide (x.minSvn.getD i 0 < s.sec.svn.getD i 0) then some 0x030A
      else none

/-! ### The ownership actions (R372, R373) -/

/-- R372, step 1: sessions are reset internally and closed; open stripes are sealed, so that acknowledged data goes to
media by the member writes of the stripes. -/
def State.drainHost (s : State) : State := s.red.opened.foldl (fun s p => s.sealStripe p.1) s.closeAll

/-- R372, step 4: the security record is written afresh with new tenant salts; the count of boots under it restarts. -/
def State.newRecord (s : State) : State :=
  let s := s.setSec { s.sec with records := s.sec.records + 1, saltBase := s.sec.records + 1, salts := [], sealedSlot := s.currentSlot }
  let s : State := { s with va := { s.va with bootCount := 0 } }
  (s.setVw 28 0).setReg SEC_BOOTCNT 0

/-- What redundancy holds is forgotten; the debits of its journal sectors are credited. -/
def State.forgetRed (s : State) : State :=
  let s := (s.red.pairs.flatMap fun p => p.2.debits).foldl (fun s h => s.sectorDone h) s
  { s with bt := [], red := {} }

/-- R372, step 5: landing zones and band maps of every attached HDA are formatted under the new keys; what was written
before is unreadable. Journal pairs and bitmap homes are chosen anew. -/
def State.reformat (s : State) : State :=
  let s := s.forgetRed
  let s := s.setHost { s.host with objects := [], parts := [], objKeys := [], keyOps := [], evict := [] }
  let s := forUpTo s.bayCount (fun b s => if s.on (BL_CTL_ATTACHED b) then s.formatBay b else s) s
  ((s.setSec { s.sec with keys := [] }).setRed { s.red with up := true }).checkRoles

/-- The enable check ends (R530, R372). -/
def State.endCheck (s : State) (reason : Nat) : State :=
  let s := (s.wr CFG_STATUS_REASON reason).put CFG_STATUS_BUSY false
  let s : State := { s with cfg := { s.cfg with owner := none, check := none } }
  if reason = 0 then s else s.put CFG_ENABLE_EN false

/-- Steps 4 to 6 of R372. -/
def State.finishOwn (s : State) : State := ((s.newRecord.reformat).showFuses.event 3 .ownership 0 0).endCheck 0

/-- A read-back mismatch destroys the slot: 0x0308, the ownership state unchanged (R373). -/
def State.ownFailed (s : State) (slot : Nat) : State :=
  (s.setOwnSlot slot (burnt (s.ownSlot slot))).showFuses.endCheck 0x0308

/-- The record is the one whose action the enable check waits for. -/
def State.ownPending (s : State) (r : OwnerRec) (action : Nat) : Bool :=
  s.on CFG_STATUS_BUSY && s.cfg.owner == some r && r.action == action

/-- Step 2 of R372: the owner key hash and an ownership secret from the DRBG are blown into a slot, and VALID. -/
def State.blowSlot (s : State) (i : Nat) (key : List Byte) : State :=
  let os := (Config.cryptoBytes s.free).setWidth 256
  ({ s with free := s.free + 1 } : State).setOwnSlot i { hash := sha384Num key, os := os, blown := true, valid := true }

/-- CLAIM (R372): drain, blow a new slot, new security record, reformat. -/
def claim (r : OwnerRec) (readBackOk : Bool) (s : State) : State :=
  if ! s.ownPending r 1 then s
  else
    let s := s.drainHost.drbgDraw
    if ! readBackOk then s.ownFailed r.slot
    else (s.blowSlot r.slot r.newPub).finishOwn

/-- CLAIM. -/
def execClaim (r : OwnerRec) (readBackOk : Bool) (s : State) : Result := clocked s (claim r readBackOk s)

/-- TRANSFER (R372): as CLAIM, and the previous current slot is destroyed. -/
def transfer (r : OwnerRec) (readBackOk : Bool) (s : State) : State :=
  if ! s.ownPending r 2 then s
  else
    let old := s.currentSlot
    let s := s.drainHost.drbgDraw
    if ! readBackOk then s.ownFailed r.slot
    else
      let s := s.blowSlot r.slot r.newPub
      let s := match old with
        | some i => s.setOwnSlot i (burnt (s.ownSlot i))
        | none => s
      s.finishOwn

/-- TRANSFER. -/
def execTransfer (r : OwnerRec) (readBackOk : Bool) (s : State) : Result := clocked s (transfer r readBackOk s)

/-- DECOMMISSION (R372): drain, and the current slot is destroyed. -/
def decommission (r : OwnerRec) (s : State) : State :=
  if ! s.ownPending r 3 then s
  else
    let s := s.drainHost
    (s.setOwnSlot r.slot (burnt (s.ownSlot r.slot))).finishOwn

/-- DECOMMISSION. -/
def execDecommission (r : OwnerRec) (s : State) : Result := clocked s (decommission r s)

/-- The current slot is VALID and the security record is still that of the old ownership: steps 4 and 5 run again (R373). -/
def State.finishBoot (s : State) (slot : Nat) : State :=
  if s.sec.sealedSlot = some slot then s.showFuses else s.newRecord.reformat.showFuses

/-- What boot finds of an interrupted action (R373): slots blown and not VALID are destroyed; of two VALID slots the lower
is destroyed; a security record of the old ownership is written again. -/
def State.resolveSlots (s : State) : State :=
  let s := forUpTo 8 (fun i s =>
    let x := s.ownSlot i
    if x.blown && ! x.valid && ! x.destroyed then s.setOwnSlot i (burnt x) else s) s
  match s.currentSlot with
  | none => s.showFuses
  | some c => (forUpTo c (fun i s =>
      let x := s.ownSlot i
      if x.valid && ! x.destroyed then s.setOwnSlot i (burnt x) else s) s).finishBoot c

/-! ### Fuses (R387, R391, R392) -/

/-- SEC_FUSE_STAT.ERR of a command that is refused at once. -/
def State.fuseError (s : State) (e : Nat) : State := s.wr SEC_FUSE_STAT_ERR e

/-- Start programming (R392): one command at a time, and only with VFUSE. -/
def State.fuseStart (s : State) (c : FuseCmd) : State :=
  if s.on SEC_FUSE_STAT_BUSY then s.fuseError 3
  else if ! s.on SEC_STAT_VFUSE then s.fuseError 1
  else ((s.setSec { s.sec with fuse := some c }).put SEC_FUSE_STAT_BUSY true).fuseError 0

/-- Do something for every Facet, by its register base (R139). -/
def State.allFacets (s : State) (f : State → Nat → State) : State :=
  let s := forUpTo 64 (fun k s => f s (facetBase (.slice (Fin.ofNat 64 k)))) s
  let s := forUpTo 64 (fun k s => f s (facetBase (.reticle (Fin.ofNat 64 k)))) s
  forUpTo 32 (fun b s => f s (facetBase (.comm (Fin.ofNat 32 b)))) s

/-- The Loupe fuse is blown (R391): every unlock ends, BRKEN reads 0 in every Facet. -/
def State.blowLoupe (s : State) : State :=
  let s := (s.setSec { s.sec with loupeFuse := true, unlocked := false, halted := [] }).showFuses
  (s.allFacets fun s base => s.put (FCT_CTL_BRKEN base) false).event 4 .fuse 0 0

/-- The SVN fuse of a kind rises to a value, at most 32 (R387). -/
def State.raiseSvn (s : State) (kind v : Nat) : State :=
  let l := s.sec.svn
  (s.setSec { s.sec with svn := l.set (kind - 1) (max (l.getD (kind - 1) 0) (min 32 v)) }).showFuses.event 4 .fuse 0 kind

/-- LOUPE_KILL (R391): SEC_FUSE_CMD OP 1. -/
def loupeKill (s : State) : State := s.fuseStart .loupeKill

/-- LOUPE_KILL. -/
def execLoupeKill (s : State) : Result := clocked s (loupeKill s)

/-- SVN_RAISE (R387, R393): SEC_FUSE_CMD OP 2 raises the SVN of KIND to that of the active policy; kinds other than 1 to 4
are ignored. -/
def svnRaise (kind : BitVec 4) (s : State) : State :=
  let k := kind.toNat
  if k = 0 ∨ 4 < k then s else s.fuseStart (.svn k (s.sec.policy.minSvn.getD (k - 1) 0))

/-- SVN_RAISE. -/
def execSvnRaise (kind : BitVec 4) (s : State) : Result := clocked s (svnRaise kind s)

/-- FUSE_COMMAND_DONE (R392): BUSY clears; ERR 2 where the read-back failed. -/
def fuseCommandDone (readBackOk : Bool) (s : State) : State :=
  match s.sec.fuse with
  | none => s
  | some c =>
    let s := (s.setSec { s.sec with fuse := none }).put SEC_FUSE_STAT_BUSY false
    if ! readBackOk then s.fuseError 2
    else
      let s := s.fuseError 0
      match c with
      | .loupeKill => s.blowLoupe
      | .svn k v => s.raiseSvn k v

/-- FUSE_COMMAND_DONE. -/
def execFuseCommandDone (readBackOk : Bool) (s : State) : Result := clocked s (fuseCommandDone readBackOk s)

/-! ### Activation of a security policy (R384, R387, R391) -/

/-- A tenant is erased (R384): its sessions close without reply, its keys leave their slots, a new TS(t) goes into a new
security record; its objects stay listed without their keys. -/
def State.eraseTenant (s : State) (t : Nat) : State :=
  let s := s.host.sessions.foldl (fun s p => if p.2.tenant = t ∧ p.2.member = none then s.resetAndClose (BitVec.ofNat 14 p.1) else s) s
  let s := s.setSec { s.sec with
    keys := s.sec.keys.filter (fun p => p.2.tenant != t)
    salts := smPut s.sec.salts t (smGet 0 s.sec.salts t + 1)
    records := s.sec.records + 1 }
  let obj := s.host.objects.map fun p => if p.2.tenant = t then (p.1, { p.2 with keyDead := true }) else p
  (s.setHost { s.host with objects := obj, parts := s.host.parts.filter fun p => p.tenant != t }).unslot fun n =>
    ! s.sec.keys.any fun p => p.1 == n

/-- A security policy becomes the active one: tenant erases, fused minima where VFUSE is present, LOUPE_KILL. -/
def State.activatePolicy (s : State) (x : SecPolicy) : State :=
  let up := (List.range 1024).filter fun t => decide (smGet 0 s.sec.terase t < smGet 0 x.terase t)
  let s := up.foldl (fun s t => s.eraseTenant t) s
  let s := s.setSec { s.sec with policy := x, terase := x.terase }
  if ! s.on SEC_STAT_VFUSE then s
  else
    let s := forUpTo 4 (fun i s => if s.sec.svn.getD i 0 < x.minSvn.getD i 0 then s.raiseSvn (i + 1) (x.minSvn.getD i 0) else s) s
    if x.loupeKill ∧ ! s.sec.loupeFuse then s.blowLoupe else s

/-! ### Loupe and TAP (R389 to R391, R604) -/

/-- The unlock's signature is true (R390): over SHA-384 of "FYLP-UNL", the device ID and the nonce, under a Melwick key, or in Owned
under OWNER_PUB. -/
def State.unlockSigned (s : State) (nonce key sig : List Byte) : Bool :=
  let id := (List.range 12).flatMap fun w => leBytes 4 (s.rd (SEC_DEVID_WORD w))
  let pub := if s.ownState = 1 then s.sec.policy.ownerPub else key
  (s.ownState == 1 || s.melwickKey key)
    && ecdsaVerify pub (sha384 ([0x46, 0x59, 0x4C, 0x50, 0x2D, 0x55, 0x4E, 0x4C] ++ id ++ nonce)) sig

/-- LOUPE_UNLOCK (R390): a nonce is drawn and signed with the key given; in Owned the device drains (`drained` says within
30 s), zeroises key slots 2 to 32,767 and withholds PRK_D. DIK signs the receipt (R367), whose format is stated nowhere. -/
def loupeUnlock (key sig : List Byte) (drained : Bool) (s : State) : State :=
  let owned := s.ownState == 1
  if s.sec.loupeFuse || s.on SEC_STAT_ENTFLT then s
  else
    let nonce := beBytes 48 ((Config.cryptoBytes s.free).toNat % 2 ^ 384)
    let s : State := { s with free := s.free + 1 }
    let s := s.drbgDraw
    if ! s.unlockSigned nonce key sig || (owned && ! s.sec.policy.debugAllow) then s
    else
      let s := if owned then s.drainHost else s
      if owned && ! drained then s
      else
        let s := if owned then ((s.unslot fun _ => true).setSec { s.sec with keys := [] }).put SEC_STAT_KEYSOFF true else s
        let receipt := Config.dikSign (Config.receiptDigest (BitVec.ofNat 384 (beNat nonce)))
        ((s.setSec { s.sec with unlocked := true, receipt := receipt }).put SEC_STAT_LOUPE_USED true).event 1 .loupe 0 0

/-- LOUPE_UNLOCK. -/
def execLoupeUnlock (key sig : List Byte) (drained : Bool) (s : State) : Result := done s (loupeUnlock key sig drained s)

/-- The TAP's instruction register takes a code. -/
def State.tapCode (s : State) (code : BitVec 8) (extest : Bool) : State := s.setSec { s.sec with tapCode := code, extest := extest }

/-- EXTEST (R604): the boundary-scan cells drive their balls. -/
def extest (cells : BitVec 412) (s : State) : State :=
  let s := s.tapCode 0x00 true
  (s.setSec { s.sec with cells := cells }).emit (.tap 412 cells.toNat)

/-- EXTEST. -/
def execExtest (cells : BitVec 412) (s : State) : Result := done s (extest cells s)

/-- The IDCODE value (R604). -/
def State.idcodeValue (s : State) : Nat := if s.part = .fy3232s then 0x132325D3 else 0x132645D3

/-- IDCODE (R604). -/
def idcode (s : State) : State := (s.tapCode 0x01 false).emit (.tap 32 s.idcodeValue)

/-- IDCODE. -/
def execIdcode (s : State) : Result := done s (idcode s)

/-- SAMPLE/PRELOAD (R604): the cells are captured or preloaded and drive nothing. -/
def samplePreload (cells : BitVec 412) (s : State) : State :=
  let s := s.tapCode 0x02 false
  (s.setSec { s.sec with cells := cells }).emit (.tap 412 cells.toNat)

/-- SAMPLE_PRELOAD. -/
def execSamplePreload (cells : BitVec 412) (s : State) : Result := done s (samplePreload cells s)

/-- BYPASS, or any unassigned code (R604): the one-bit bypass register is selected. -/
def bypass (code : BitVec 8) (s : State) : State := (s.tapCode code false).emit (.tap 1 0)

/-- BYPASS. -/
def execBypass (code : BitVec 8) (s : State) : Result := done s (bypass code s)

end Sys2Proof.Machine
end

