-- ==== Sys2Proof/Machine/Profile.lean ====
section
/-! DEFINITION. Sys2Proof/Machine/Profile.lean: SPI flash (R518 to R521), image verification (R472 to R474, R386), boot
control (R522 to R524), profiles and the enable check (R525 to R532). -/
namespace Sys2Proof.Machine
open Sys2Proof

/-! ### The enable check (R420, R525 to R532 and the chapters that define the other codes) -/

/-- Set the bits of a register setting: field ← (field & ~MASK) | (VALUE & MASK), on RW and RWL fields (R526). -/
def State.applySetting (s : State) (x : Setting) : State :=
  match regAt x.addr with
  | none => s
  | some h =>
    let mask := if h.high then (x.mask.zeroExtend 64) <<< 32 else x.mask.zeroExtend 64
    let value := if h.high then (x.value.zeroExtend 64) <<< 32 else x.value.zeroExtend 64
    let may := h.flds.foldl (fun m f => if f.acc = .rw ∨ f.acc = .rwl ∨ f.acc = .gain then m ||| fldMask f else m) 0
    let m := mask &&& may
    s.setReg h.reg ((s.reg h.reg &&& ~~~m) ||| (value &&& m))

/-- Word `i` of the layout table section (R525): words 0 to 3 of each layout. -/
def State.applyLayout (s : State) (l : List (BitVec 32)) : State :=
  forUpTo 8 (fun i s =>
    let w (j : Nat) : Word := ((l.getD (4 * i + j) 0).zeroExtend 64)
    (((s.setReg (PRZ_LAYOUT0 i) (w 0 &&& 0x3771F)).setReg (PRZ_LAYOUT1 i) (w 1)).setReg (PRZ_LAYOUT2 i) (w 2)).setReg (PRZ_LAYOUT3 i) (w 3)) s

/-- IDs of the parameters (R527). -/
def paramIds : List Nat := List.range 22 ++ (List.range 32).map (64 + ·)

/-- A parameter's value lies in its range (R527). -/
def paramOk (i v : Nat) : Bool :=
  let r (lo hi : Nat) : Bool := decide (lo ≤ v) && decide (v ≤ hi)
  match i with
  | 0 => r 1 168 | 1 => r 100000 40000000 | 2 => r 0 100 | 3 => true | 4 => true | 5 => true
  | 6 => r 10 600 | 7 => r 0 100 | 8 => r 1 20 | 9 => r 10 3600 | 10 => r 10 1000 | 11 => r 1 64 | 12 => r 0 300
  | 13 => r 10 600 | 14 => r 10 90 | 15 => r 4 256 | 16 => v == 0 || r 10000 (2 ^ 32 - 1)
  | 17 => r 10000 2000000 | 18 => r 10000 2000000 | 19 => r 1 64 | 20 => r 10 300 | 21 => r 0 60
  | i => decide (64 ≤ i) && decide (i < 96)

/-- Parameters in force: those given, the default of every other (R526). -/
def State.applyParams (s : State) (l : List (Nat × Nat)) : State :=
  paramIds.foldl (fun s i => match l.find? fun p => p.1 == i with
    | some p => s.wr (CFG_PARAM_VALUE i) p.2
    | none => s.wr (CFG_PARAM_VALUE i) (cfgParamReset i)) s

/-- The configuration in force with a profile laid over it (R526, R529). Where a PROFILE SELECT changes a lightpipe's depth
while CFG_ENABLE reads 1, the new depth bounds the credit that pops return from then on, and no credit is set again: R24
sets credits when CFG_ENABLE is set and states nothing of this case (DESIGN CHOICE, log entry 93). -/
def State.overlay (s : State) (p : Profile) : State :=
  let s := ((p.settings.foldl (fun s x => s.applySetting x) s).applyParams p.params).applyLayout p.layout
  { s with lpDepth := p.depths.foldl (fun m x => smSet 16 m x.1 x.2) [] }

/-- A setting is unaligned, outside every window, or names a field that is not RW or RWL (0x0104). -/
def settingBad (x : Setting) : Bool :=
  let a := x.addr
  a % 4 != 0 || (windowRows a).isNone
    || match regAt a with
      | none => false
      | some h =>
        let mask := if h.high then (x.mask.zeroExtend 64) <<< 32 else x.mask.zeroExtend 64
        h.flds.any fun f => f.acc != .rw && f.acc != .rwl && f.acc != .gain && (fldMask f &&& mask) != 0

/-- A setting names a fused-off unit (0x0105). -/
def State.settingFused (s : State) (x : Setting) : Bool :=
  s.part == .fy3232s && match windowDomain x.addr with
    | some n => (32 ≤ n && n < 64) || (80 ≤ n && n < 96)
    | none => false

/-- A setting would change an RWL field (0x0111). -/
def State.settingLocked (s : State) (x : Setting) : Bool :=
  match regAt x.addr with
  | none => false
  | some h => h.flds.any fun f => f.acc == .rwl && ((s.applySetting x).reg h.reg &&& fldMask f) != (s.reg h.reg &&& fldMask f)

/-- The depths of the lightpipes other than LP0 to LP63 exceed 16,384 entries, or one is no power of two from 4 to 256
(R22). Those of units fused off take none. -/
def State.depthsBad (s : State) : Bool :=
  let ns := (List.range 1024).filter fun n => 64 ≤ n && ! s.lpDead n
  decide (16384 < ns.foldl (fun t n => t + s.depth n) 0) || s.lpDepth.any fun p => ! [4, 8, 16, 32, 64, 128, 256].contains p.2

/-- The memory areas of 0x0108: address and size. -/
def State.cfgAreas (s : State) (p : Profile) : List (Nat × Nat) :=
  ((List.range 64).filter s.sliceOk).map (fun k => (s.rd (CS_DEFER_BASE_ADDR k), s.rd (CS_DEFER_SLOTS k) * 49152))
    ++ [(s.rd PRZ_JRNL_BASE_ADDR, 2 ^ 26), (s.rd PRZ_BMAP_BASE_ADDR, 2 ^ 20),
        (s.rd EVR_RING_BASE_ADDR / 2 ^ 20 * 2 ^ 20, 2 ^ 20)]
    ++ (match p.policyData with | some d => [(d.1, max 1 d.2.length)] | none => [])

/-- 0x0108: areas overlap, lie outside installed memory, or the ring is not in SRAM at a multiple of 1 MiB. -/
def State.areasBad (s : State) (p : Profile) : Bool :=
  let l := s.cfgAreas p
  placesOverlap l || l.any (fun x => ! (s.isMem x.1 && s.isMem (x.1 + x.2 - 1)))
    || s.rd EVR_RING_BASE_ADDR % 2 ^ 20 != 0 || ! isSram (s.rd EVR_RING_BASE_ADDR)

/-- The first true condition's code. -/
def firstCode : List (Bool × Nat) → Option Nat
  | [] => none
  | (c, n) :: r => if c then some n else firstCode r

/-- Required sections are there: members unless standalone (0x0103). -/
def State.sectionsOk (s : State) (p : Profile) : Bool :=
  p.sectionsOk && p.layout.length == 32 && (s.role == roleStandalone || p.members.isSome)

/-- Family 0x01xx on a configuration `t` made of `s` and the profile; `select` is a PROFILE SELECT of profile `n`. -/
def State.family1 (s t : State) (p : Profile) (n : Nat) (select : Bool) : Option Nat :=
  firstCode [
    (p.status != imgOk && p.status != imgMelwick && p.status != imgOwner, 0x0101), (p.target != n, 0x0102), (! s.sectionsOk p, 0x0103),
    (p.settings.any settingBad, 0x0104), (p.settings.any s.settingFused, 0x0105),
    ((p.params.any fun x => ! (paramIds.contains x.1 && paramOk x.1 x.2))
      || paramIds.any (fun i => ! paramOk i (t.rd (CFG_PARAM_VALUE i))), 0x0106),
    (t.depthsBad, 0x0107), (t.areasBad p, 0x0108),
    (t.rd MEM_DRAM_SIZE == 0 || decide (15 * t.rd MEM_DRAM_RAW < 16 * t.rd MEM_DRAM_SIZE), 0x0110),
    (select && p.settings.any s.settingLocked, 0x0111)]

/-- Family 0x02xx (R420). -/
def State.family2 (t : State) : Option Nat :=
  let between (lo v hi : Nat) : Bool := decide (lo ≤ v) && decide (v ≤ hi)
  let idle (n : Nat) : Nat := t.rd (APR_IDLE_MS n)
  firstCode [
    (t.rd APR_BANK_C == 0 || ! between 50 (t.rd APR_BANK_EFF) 100 || decide (4000 ≤ t.rd APR_BANKV_VMIN), 0x0201),
    (! between 50 (t.rd APR_CTL_DERATE) 95, 0x0202),
    (decide (100 < t.rd APR_CTL_KCF) || ! between 50 (t.rd APR_CTL_REGEFF) 95, 0x0203),
    (! between 1 (t.rd APR_STAGE_LIMIT) 16384 || decide (t.rd MEM_DRAM_SIZE * 512 < t.rd APR_STAGE_LIMIT), 0x0204),
    (idle 0 == 0 || idle 1 == 0 || idle 2 == 0 || decide (idle 1 ≤ idle 0) || decide (idle 2 ≤ idle 1)
      || (idle 3 != 0 && decide (idle 3 ≤ idle 2)), 0x0205),
    (decide (t.rdInt THM_WWIN_WHI ≤ t.rdInt THM_WWIN_WLO) || decide (t.rdInt THM_WWIN_RHI ≤ t.rdInt THM_WWIN_RLO)
      || decide (t.rdInt THM_WWIN_WLO < t.rdInt THM_WWIN_RLO) || decide (t.rdInt THM_WWIN_RHI < t.rdInt THM_WWIN_WHI), 0x0206),
    (decide (t.rd APR_FIXED_MJ < 10000) || t.rd APR_FLUSH_TMAX == 0, 0x0207),
    ((List.range 8).any (fun i => t.rd (THM_PARAM_C i) == 0 || t.rd (THM_PARAM_R i) == 0) || t.rd THM_RLAT_R == 0, 0x0208)]

/-- Heads of slice `k` with a zone table. -/
def State.formattedHeads (s : State) (k : Nat) : List Nat := (List.range 12).filter fun h => s.rd (CS_ZONE2_SPT k h 0) != 0

/-- A landing-zone track lies outside the zone that holds LZ_T0 (0x0520). -/
def State.lzOutside (s : State) (k h : Nat) : Bool := s.zoneOf k h (s.lzLast k h) != s.zoneOf k h (s.rd (CS_SCH_LZ_T0 k))

/-- A surface's walk yields more than 32,768 bands (0x0521). -/
def State.tooManyBands (s : State) (k h : Nat) : Bool := decide (32768 < walkBands (s.walk k h))

/-- A layout that is not EMPTY. -/
def State.layoutUsed (s : State) (l : Nat) : Bool := s.rd (PRZ_LAYOUT0_STATE l) == 1 || s.rd (PRZ_LAYOUT0_STATE l) == 2

/-- Family 0x05xx (R248, R251, R261, R280, R4, R50, R198, R532). -/
def State.family5 (t : State) : Option Nat :=
  let ks := (List.range 64).filter t.sliceOk
  let bs := List.range t.bayCount
  let ls := (List.range 8).filter t.layoutUsed
  let base := t.rd MEM_BT_BASE_ADDR
  firstCode [
    (bs.any fun b => decide (t.rd (ANG_CTL_NW b) < 256) || decide (1024 < t.rd (ANG_CTL_NW b)), 0x0501),
    (bs.any fun b => decide (t.rd (CFG_PARAM_VALUE (64 + b)) < 3600) || decide (10000 < t.rd (CFG_PARAM_VALUE (64 + b))), 0x0502),
    (ks.any fun k => t.lzOk k && (t.formattedHeads k).any fun h => t.lzOutside k h, 0x0520),
    (ks.any fun k => t.lzOk k && (t.formattedHeads k).any fun h => t.tooManyBands k h, 0x0521),
    (base % 2 ^ 30 != 0 || ! (t.isDram base && t.isDram (base + 2 ^ 30 - 1)), 0x0522),
    (ks.any fun k => ! t.lzOk k, 0x0523),
    (ls.any fun l => decide (t.rd (PRZ_LAYOUT0_K l) < 2) || decide (28 < t.rd (PRZ_LAYOUT0_K l)) || t.rd (PRZ_LAYOUT0_M l) == 0
      || decide (4 < t.rd (PRZ_LAYOUT0_M l)) || decide (t.bayCount < t.rd (PRZ_LAYOUT0_K l) + t.rd (PRZ_LAYOUT0_M l)), 0x0530),
    (ls.any fun l => decide (4 < t.rd (PRZ_LAYOUT0_UCODE l)), 0x0531),
    (! ls.any (fun l => t.rd (PRZ_LAYOUT0_STATE l) == 1), 0x0532)]

/-- Family 0x06xx (R532). -/
def State.family6 (t : State) : Option Nat :=
  let ps := (List.range 2).filter fun p => t.on (HPT_PCTL_EN p)
  let mac (p : Nat) : Nat := t.rd (HPT_MAC_ADDR p)
  let both := ps.length == 2
  firstCode [
    (ps.any fun p => mac p == 0 || mac p / 2 ^ 40 % 2 == 1, 0x0601),
    (ps.any fun p => ! (t.on (HPT_PCTL_V4EN p) || t.on (HPT_PCTL_V6EN p)) || (t.on (HPT_PCTL_V4EN p) && t.rd (HPT_IP4_ADDR p) == 0)
      || (t.on (HPT_PCTL_V6EN p) && t.ip6 p == 0), 0x0602),
    (decide (t.rd HPT_GCTL_UDP < 1024), 0x0603),
    (both && ((t.on (HPT_PCTL_V4EN 0) && t.on (HPT_PCTL_V4EN 1) && t.rd (HPT_IP4_ADDR 0) == t.rd (HPT_IP4_ADDR 1))
      || (t.on (HPT_PCTL_V6EN 0) && t.on (HPT_PCTL_V6EN 1) && t.ip6 0 == t.ip6 1)), 0x0604),
    (ps.any fun p => t.rd (HPT_PCTL_VLAN p) == 4095, 0x0605)]

/-- A device ID occurs twice among the members. -/
def dupMember : List Member → Bool
  | [] => false
  | m :: r => r.any (fun x => x.devId == m.devId) || dupMember r

/-- The strap value of a role of the members section (R525, R533). -/
def strapOfRole (r : Nat) : Nat := if r = 0 then roleWorker else if r = 1 then roleManager else roleStandby

/-- Family 0x04xx (R532, R540 to R544). -/
def State.family4 (s t : State) (p : Profile) : Option Nat :=
  let l := p.members.getD []
  let me := l.find? fun m => s.isDevice m.devId
  let floor := t.rd (CFG_PARAM_VALUE 17)
  let budget := t.rd (CFG_PARAM_VALUE 16)
  let rack := s.role != roleStandalone
  firstCode [
    (! s.digestAllowed (t.digestWith p.meas s.sec.policyMeas p.secHash), 0x0401),
    (rack && (decide (64 < l.length) || dupMember l || me.isNone), 0x0402),
    (rack && ((me.map fun m => strapOfRole m.role) != some s.role || (l.filter fun m => m.role == 1).length != 1
      || decide (1 < (l.filter fun m => m.role == 2).length)), 0x0403),
    (decide (t.rd (CFG_PARAM_VALUE 18) < floor) || (budget != 0 && decide (budget < l.length * floor)), 0x0404)]

/-- The enable check of configuration `t` (R531): families in the order 0x01xx, 0x03xx, 0x02xx, 0x05xx, 0x06xx, 0x04xx;
0 where it passes. -/
def State.checkConf (s t : State) (p : Profile) (n : Nat) (select : Bool) : Nat :=
  ((s.family1 t p n select).or ((s.policyRefused p).or (t.family2.or (t.family5.or (t.family6.or (s.family4 t p)))))).getD 0

/-- The enable check of the configuration in force with a profile laid over it (R526, R529). -/
def State.checkReason (s : State) (p : Profile) (n : Nat) (select : Bool) : Nat := s.checkConf (s.overlay p) p n select

/-- Credits of every lightpipe at enable (R24): its depth less the entries it holds, and for LP0 to LP63 less the
operations popped and not completed. Credits that cores held reserved are dropped: R24 gives the producer credit without
them and states nothing of them (DESIGN CHOICE, log entry 93). -/
def State.setCredits (s : State) : State :=
  forUpTo 1024 (fun n s =>
    let l := s.lp n
    let busy := if n < 64 then (s.schedS n).queue.length + (s.schedS n).released.toList.length + (s.sliceS n).ops.length else 0
    let free := if s.lpDead n then 0 else s.depth n - (l.entries.length + busy)
    (s.setLp n { l with free := free, resv := [] }).grantStalled n free) s

/-- A profile whose settings, parameters and layouts are in force takes effect: its security policy, its members, the
digest. -/
def State.takeConf (s : State) (p : Profile) : State :=
  let s := s.activatePolicy p.policy
  let s := (s.setCfg { s.cfg with profMeas := p.meas, secHash := p.secHash, members := p.members }).showDigest
  if s.role = roleStandalone then (s.wr APR_GRANT_MW (s.rd (CFG_PARAM_VALUE 18))).showGeff else s

/-- The profile that a reset or the SMBus selects (R528): CFG_BOOTSEL where VALID, the strap otherwise. -/
def State.bootProfile (s : State) : Nat := if s.on CFG_BOOTSEL_VALID then s.rd CFG_BOOTSEL_PROFILE else s.rd CFG_STRAP_PROFILE

/-- The profile that a write of CFG_ENABLE judges: that of the selected number, its STAGED slot or else its ACTIVE one (log entry
109). -/
def State.checkedProfile (s : State) : Profile :=
  ((s.stagedProfile s.bootProfile).or (s.activeProfile s.bootProfile)).getD { status := imgFormat }

/-- ENABLE_CHECK (R530, R531): 1 is written to CFG_ENABLE while it reads 0; BUSY sets and the check runs. -/
def enableCheck (s : State) : State :=
  if s.on CFG_ENABLE_EN ∨ s.cfg.check.isSome ∨ s.cfg.owner.isSome then s
  else
    let v := s.checkedProfile
    let r := s.checkConf s v s.bootProfile false
    (s.setCfg { s.cfg with check := some { reason := r, profile := v } }).put CFG_STATUS_BUSY true

/-- ENABLE_CHECK. -/
def execEnableCheck (s : State) : Result := clocked s (enableCheck s)

/-- ENABLE_CHECK_DONE (R530, R372): on a pass CFG_ENABLE reads 1 and credits are set; an ownership action still to be done
runs next with BUSY 1. On a failure REASON holds the code. -/
def enableCheckDone (s : State) : State :=
  match s.cfg.check with
  | none => s
  | some c =>
    if c.reason ≠ 0 then s.endCheck c.reason
    else
      let s := s.takeConf c.profile
      let s := ((s.put CFG_ENABLE_EN true).wr CFG_STATUS_REASON 0).setCredits
      let r := c.profile.policy.ownRec
      if r.action = 0 ∨ s.ownDone r then s.endCheck 0
      else s.setCfg { s.cfg with check := none, owner := some r }

/-- ENABLE_CHECK_DONE. -/
def execEnableCheckDone (s : State) : Result := clocked s (enableCheckDone s)

/-- CFG_DISABLE (R530): 0 is written to CFG_ENABLE; ignored while the transport is enabled or any bay is attached. -/
def cfgDisable (s : State) : State :=
  if s.on HPT_GCTL_EN ∨ (List.range 32).any (fun b => s.on (BL_CTL_ATTACHED b)) then s else s.put CFG_ENABLE_EN false

/-- CFG_DISABLE. -/
def execCfgDisable (s : State) : Result := clocked s (cfgDisable s)

/-! ### SPI flash (R518, R521) -/

/-- The flash runs an operation of code `op` (R521): nothing where one runs already. -/
def State.flashStart (s : State) (op : Nat) : State :=
  if s.on CFG_FL_STAT_BUSY then s
  else
    let o : FlashOp := { op := op, addr := s.rd CFG_FL_ADDR_ADDR, len := s.rd CFG_FL_LEN_BYTES }
    (s.setCfg { s.cfg with flOp := some o, rxf := [] }).put CFG_FL_STAT_BUSY true

/-- Move bytes of the running read into the 256-byte receive FIFO (R521). -/
def State.flashFill (s : State) : State :=
  match s.cfg.flOp with
  | none => s
  | some o =>
    let n := min (256 - s.cfg.rxf.length) o.len
    if o.op = 1 then
      s.setCfg { s.cfg with rxf := s.cfg.rxf ++ s.flashBytes o.addr n, flOp := some { o with addr := o.addr + n, len := o.len - n } }
    else if o.op = 4 then
      let f := (List.range n).map fun i => Config.freeByte (s.free + i)
      { s with free := s.free + n, cfg := { s.cfg with rxf := s.cfg.rxf ++ f, flOp := some { o with len := o.len - n } } }
    else s

/-- FLASH_READ (R521): OP 1. -/
def flashRead (s : State) : State := (s.flashStart 1).flashFill

/-- FLASH_READ. -/
def execFlashRead (s : State) : Result := clocked s (flashRead s)

/-- A program or erase touches the header or identity region (R519, R521). -/
def flashProtected (o : FlashOp) : Bool := o.addr < 0x30000

/-- Check protection as a program or erase starts: ERR 2 unless the Loupe is unlocked. -/
def State.flashGuard (s : State) : State :=
  match s.cfg.flOp with
  | none => s
  | some o => if flashProtected o ∧ ! s.sec.unlocked then s.setCfg { s.cfg with flOp := some { o with failed := 2 } } else s

/-- PROGRAM (R521): OP 2, one page of at most 256 bytes. -/
def flashProgram (s : State) : State := if s.on CFG_FL_STAT_BUSY then s else (s.flashStart 2).flashGuard

/-- PROGRAM. -/
def execFlashProgram (s : State) : Result := clocked s (flashProgram s)

/-- ERASE (R521): OP 3, a 64 KiB block. -/
def flashErase (s : State) : State := if s.on CFG_FL_STAT_BUSY then s else (s.flashStart 3).flashGuard

/-- ERASE. -/
def execFlashErase (s : State) : Result := clocked s (flashErase s)

/-- SFDP_READ (R518): OP 4; the flash part's parameter tables are free bytes. -/
def sfdpRead (s : State) : State := (s.flashStart 4).flashFill

/-- SFDP_READ. -/
def execSfdpRead (s : State) : Result := clocked s (sfdpRead s)

/-- Program bytes: bits go from 1 to 0 only; bytes beyond the page are not programmed. -/
def State.flashPut (s : State) (a : Nat) (bs : List Byte) : State :=
  let page := a / 256
  let w := bs.zipIdx.foldl (fun m p =>
    if (a + p.2) / 256 = page ∧ a + p.2 < s.flashSize then smSet 0xFF m (a + p.2) (smGet 0xFF m (a + p.2) &&& p.1) else m) s.cfg.flash
  s.setCfg { s.cfg with flash := w }

/-- FLASH_OPERATION_DONE (R521): the operation ends; a read whose bytes do not fit the FIFO has overrun it, and a program
whose bytes have not come has underrun it. -/
def flashOperationDone (devError : Bool) (s : State) : State :=
  match s.cfg.flOp with
  | none => s
  | some o =>
    let s := (s.setCfg { s.cfg with flOp := none }).put CFG_FL_STAT_BUSY false
    if o.failed ≠ 0 then s.wr CFG_FL_STAT_ERR o.failed
    else if devError then s.wr CFG_FL_STAT_ERR 1
    else if (o.op = 1 ∨ o.op = 4) ∧ o.len ≠ 0 then (s.put CFG_FL_STAT_OVF true).wr CFG_FL_STAT_ERR 3
    else if o.op = 2 then
      let n := min 256 o.len
      if s.cfg.txf.length < n then ((s.setCfg { s.cfg with txf := [] }).put CFG_FL_STAT_OVF true).wr CFG_FL_STAT_ERR 3
      else (s.flashPut o.addr (s.cfg.txf.take n)).setCfg { (s.flashPut o.addr (s.cfg.txf.take n)).cfg with txf := s.cfg.txf.drop n }
    else if o.op = 3 then
      let b := o.addr / 65536
      s.eraseBlock b
    else s

/-- FLASH_OPERATION_DONE. -/
def execFlashOperationDone (devError : Bool) (s : State) : Result := clocked s (flashOperationDone devError s)

end Sys2Proof.Machine
end

