-- ==== Sys2Proof/Machine/Recorder.lean ====
section
/-! DEFINITION. Sys2Proof/Machine/Recorder.lean: the event recorder: entries, records, rate limits, the ring, the hold
buffer, freezes, draining and flushing (R546 to R559). -/
namespace Sys2Proof.Machine
open Sys2Proof

/-- Replace what the recorder holds. -/
def State.setEvr (s : State) (x : EvrSt) : State := { s with evr := x }

/-- Channels 1 to 4 are privileged (R546). -/
def privileged (ch : Nat) : Bool := decide (1 ≤ ch) && decide (ch ≤ 4)

/-- Undrained records (R554). -/
def State.undrained (s : State) : Nat := (s.rd EVR_HEAD_SEQ + 2 ^ 32 - s.rd EVR_DRAIN_SEQ) % 2 ^ 32

/-- Free slots of the ring (R554). -/
def State.ringFree (s : State) : Nat := 32768 - s.undrained

/-- LOWSPACE shows fewer than 1,024 free slots. -/
def State.showSpace (s : State) : State := s.put EVR_STAT_LOWSPACE (decide (s.ringFree < 1024))

/-- The ring accepts a record of channel `ch` (R554). -/
def State.ringTakes (s : State) (ch : Nat) : Bool := if ch ≤ 4 then decide (0 < s.ringFree) else decide (1024 ≤ s.ringFree)

/-- A record of a channel is dropped and counted (R554). -/
def State.dropRecord (s : State) (ch : Nat) : State :=
  let s := (s.bump EVR_LOST_COUNT).put EVR_STAT_LOSTEV true
  s.setEvr { s.evr with drops := smSet 0 s.evr.drops ch (smGet 0 s.evr.drops ch + 1) }

/-- The CODE of a record. -/
def recCode (d : BitVec 256) : Nat := (d.extractLsb' 48 10).toNat

/-- The MAC of a record on a privileged channel (R550): the first 16 bytes of HMAC-SHA-384 under KEVR over "FYEV1", the record's
bytes 0 to 15 and the MAC before it on its channel. -/
def recordMac (kevr : BitVec 384) (prev data : BitVec 128) : BitVec 128 :=
  BitVec.ofNat 128 (leNat ((hmac384 (beBytes 48 kevr.toNat)
    ([0x46, 0x59, 0x45, 0x56, 0x31] ++ leBytes 16 data.toNat ++ leBytes 16 prev.toNat)).take 16))

/-- A record on a privileged channel carries the MAC in bytes 16 to 31, and the channel's chain moves on (R550). -/
def State.macRecord (s : State) (r : EvrRec) : BitVec 256 × State :=
  if privileged r.ch then
    let m := recordMac s.evr.kevr (smGet 0 s.evr.macs r.ch) (r.data.extractLsb' 0 128)
    let d := (r.data &&& BitVec.ofNat 256 (2 ^ 128 - 1)) ||| (m.zeroExtend 256 <<< 128)
    (d, s.setEvr { s.evr with macs := smPut s.evr.macs r.ch m })
  else (r.data, s)

/-- A FAULT interrupt goes to the cores of EVR_FROUTE (R558). -/
def State.routeFault (s : State) : State :=
  (List.range 16).foldl (fun s c =>
    if (s.rd EVR_FROUTE_MASK).testBit c then s.setCore c { s.core c with fault := true } else s) s

/-- A flush starts, or is extended to HEAD (R557); it ends a freeze (R555). A PFAIL or a thermal shutdown limits it to 512
records. -/
def State.startEvrFlush (s : State) (limit : Bool) : State :=
  let s := (s.put EVR_CTL_FREEZE false).put EVR_STAT_FLUSHING true
  let head := s.rd EVR_HEAD_SEQ
  let old := match s.evr.flush with
    | some (_, l) => l
    | none => none
  s.setEvr { s.evr with flush := some (head, if limit then some 512 else old) }

/-- Write one record into its slot of the ring (R554): none where the write meets a bus error. HEAD moves on, channel 0
interrupts, and a code with the FLUSH attribute starts a flush. -/
def State.ringStore (s : State) (r : EvrRec) : Option State :=
  let x := s.macRecord r
  let base := s.rd EVR_RING_BASE_ADDR / 2 ^ 20 * 2 ^ 20
  let a := base + s.rd EVR_HEAD_SEQ % 32768 * 32
  match x.2.busWrite false a (leBytes 32 x.1.toNat) with
  | (some _, _) => none
  | (none, s) =>
    let s := (s.bumpWrap EVR_HEAD_SEQ).showSpace
    let s := if r.ch = 0 then s.routeFault else s
    some (if s.on (EVR_CODE_FLUSH (recCode r.data)) then s.startEvrFlush false else s)

/-- A record goes into the ring, or is dropped (R554). -/
def State.ringPut (s : State) (r : EvrRec) : State :=
  if ! s.ringTakes r.ch then s.dropRecord r.ch
  else match s.ringStore r with
    | some s' => s'
    | none => s.dropRecord r.ch

/-- The recorder writes to its ring: enabled and not frozen (R555). -/
def State.ringLive (s : State) : Bool := s.on EVR_CTL_EN && ! s.on EVR_CTL_FREEZE

/-- A stamped record goes to the ring, or to the hold buffer of 256 (R555). -/
def State.putRecord (s : State) (r : EvrRec) : State :=
  if s.ringLive then s.ringPut r
  else if s.evr.held.length < 256 then
    (s.setEvr { s.evr with held := s.evr.held ++ [r] }).wr EVR_STAT_HELD (s.evr.held.length + 1)
  else s.dropRecord r.ch

/-- A record as stamped (R549): time, code, PRE_EPOCH, unit and 22 argument bytes. -/
def State.stamp (s : State) (ch code unit : Nat) (arg : BitVec 176) : EvrRec :=
  let pre := if s.on ANG_WT_STAT_EPOCH then 0 else 1
  { ch := ch, data := packEntry [(0, 48, s.wt / 1024), (48, 10, code), (58, 1, pre), (64, 16, unit), (80, 176, arg.toNat)] }

/-- Recorder codes (R547). -/
def codeSummary (ch : Nat) : Nat := 32 * ch
def codeChain (ch : Nat) : Nat := 32 * ch + 1
def codeLost (ch : Nat) : Nat := 32 * ch + 2

/-- The CHAIN_START record of a channel whose chain is due (R550), before any other of its records; it stays due where that record is
dropped. -/
def State.startChain (s : State) (ch : Nat) : State :=
  if ! s.evr.chainDue.contains ch then s
  else
    let t := s.setEvr { s.evr with macs := smPut s.evr.macs ch 0 }
    let t := t.putRecord (s.stamp ch (codeChain ch) 0 (BitVec.ofNat 176 (s.vwNat 28 % 2 ^ 32)))
    if smGet 0 t.evr.drops ch = smGet 0 s.evr.drops ch then t.setEvr { t.evr with chainDue := t.evr.chainDue.filter (· ≠ ch) } else t

/-- A record is written on its channel: CHAIN_START before the first one, and after an ownership record, written under the
old key, the keys are switched and a fresh chain starts on each of channels 1 to 4 (R550). -/
def State.writeRecord (s : State) (r : EvrRec) : State :=
  let s := (s.startChain r.ch).putRecord r
  if r.ch = 3 ∧ recCode r.data = eventCodeOf 3 .ownership then
    let s := s.setEvr { s.evr with chainDue := [1, 2, 3, 4], kevr := s.kevr }
    [1, 2, 3, 4].foldl (fun s c => s.startChain c) s
  else s

/-- A LOST record with its argument (R548, R554). -/
def State.writeLost (s : State) (ch arg : Nat) : State :=
  s.writeRecord (s.stamp ch (codeLost ch) 0 (BitVec.ofNat 176 (arg % 2 ^ 32)))

/-- Tokens of a code's bucket now (R552): one more every 1/RATE s of ANG_WT, up to BURST; buckets start full. -/
def State.tokensNow (s : State) (code : Nat) : Nat :=
  let burst := s.rd (EVR_CODE_BURST code)
  let rate := s.rd (EVR_CODE_RATE code)
  match s.evr.buckets.find? fun p => p.1 == code with
  | none => burst
  | some p => min burst (p.2.tokens + (s.wt * rate / 10 ^ 9 - p.2.at_ * rate / 10 ^ 9))

/-- The rate limit judges an entry of a code (R552): whether it passes, and the state after. -/
def State.rateLimit (s : State) (code : Nat) : Bool × State :=
  if s.on (EVR_CODE_UNLIM code) then (true, s)
  else
    let n := s.tokensNow code
    let b : CodeBucket := { tokens := n - 1, at_ := s.wt }
    let s := s.setEvr { s.evr with buckets := smPut s.evr.buckets code b }
    if 0 < n then (true, s)
    else (false, s.setEvr { s.evr with supp := smSet 0 s.evr.supp code (smGet 0 s.evr.supp code + 1) })

/-- EVENT_ENTRY (R548): the recorder pops the oldest entry of channel `ch` and writes, suppresses or replaces its record. -/
def eventEntry (ch : Fin 32) (s : State) : State :=
  match s.hwPop (640 + ch.val) with
  | none => s
  | some (e, s) =>
    let c := ch.val
    let code := e.at 0 10
    if e.poison then s.writeLost c 0xFFFFFFFE
    else if code / 32 ≠ c ∨ code % 32 ≤ 2 ∨ e.at 10 6 ≠ 0 then s.writeLost c 0xFFFFFFFF
    else
      let l := s.rateLimit code
      if l.1 then l.2.writeRecord (l.2.stamp c code (e.at 16 16) (e.data.extractLsb' 32 176)) else l.2

/-- EVENT_ENTRY. -/
def execEventEntry (ch : Fin 32) (s : State) : Result := clocked s (eventEntry ch s)

/-- The SUMMARY argument of a channel (R553): codes that suppressed, the total, and on other than privileged channels the
code with the most, lowest on a tie, and its count. -/
def summaryArg (ch : Nat) (l : List (Nat × Nat)) : BitVec 176 :=
  let total := l.foldl (fun t p => t + p.2) 0
  let top := l.foldl (fun (t : Nat × Nat) p => if t.2 < p.2 then p else t) (0, 0)
  let more := if privileged ch then 0 else top.1 * 2 ^ 48 + (top.2 % 2 ^ 32) * 2 ^ 64
  BitVec.ofNat 176 (l.length + (total % 2 ^ 32) * 2 ^ 16 + more)

/-- SUMMARY (R553): at a whole second of ANG_WT, one record on each channel that had suppressions; the counts restart. -/
def evrSummary (s : State) : State :=
  let all := s.evr.supp
  let s := s.setEvr { s.evr with supp := [] }
  (List.range 32).foldl (fun s ch =>
    let l := all.filter fun p => p.1 / 32 == ch
    if l.isEmpty then s else s.writeRecord (s.stamp ch (codeSummary ch) 0 (summaryArg ch l))) s

/-- SUMMARY. -/
def execEvrSummary (s : State) : Result := clocked s (evrSummary s)

/-- LOST (R554): the condition under which channel `ch` dropped has ended, and its LOST record is written; where that write
itself meets a bus error the count goes on. -/
def evrLost (ch : Fin 32) (s : State) : State :=
  let n := smGet 0 s.evr.drops ch.val
  if n = 0 ∨ ! s.ringLive ∨ ! s.ringTakes ch.val then s
  else
    let t := (s.setEvr { s.evr with drops := smErase s.evr.drops ch.val }).writeLost ch.val n
    t.setEvr { t.evr with drops := smSet 0 t.evr.drops ch.val (if smGet 0 t.evr.drops ch.val = 0 then 0 else n + smGet 0 t.evr.drops ch.val) }

/-- LOST. -/
def execEvrLost (ch : Fin 32) (s : State) : Result := clocked s (evrLost ch s)

/-! ### Freeze and enable (R555) -/

/-- The held records enter the ring in order with HELD set (R555). -/
def State.releaseHeld (s : State) : State :=
  if ! s.ringLive then s
  else
    let l := s.evr.held
    let s := (s.setEvr { s.evr with held := [] }).wr EVR_STAT_HELD 0
    l.foldl (fun s r => s.ringPut { r with data := r.data ||| ((1 : BitVec 256) <<< 59) }) s

/-- FREEZE (R555): EVR_CTL.FREEZE is written. -/
def freeze (v : Bool) (s : State) : State := if v then s.put EVR_CTL_FREEZE true else (s.put EVR_CTL_FREEZE false).releaseHeld
/-- FREEZE. -/
def execFreeze (v : Bool) (s : State) : Result := clocked s (freeze v s)

/-- FREEZE_TIMEOUT (R555): FREEZE_MAX ms have passed. -/
def freezeTimeout (s : State) : State := if s.on EVR_CTL_FREEZE then (s.put EVR_CTL_FREEZE false).releaseHeld else s
/-- FREEZE_TIMEOUT. -/
def execFreezeTimeout (s : State) : Result := clocked s (freezeTimeout s)

/-- EVR_CTL.EN is written (R555). -/
def State.evrEnable (s : State) (v : Bool) : State := (s.put EVR_CTL_EN v).releaseHeld

/-- EVR_DRAIN is written: a write that would pass HEAD or move backward is ignored (R556). -/
def State.evrDrain (s : State) (v : Nat) : State :=
  if (v + 2 ^ 32 - s.rd EVR_DRAIN_SEQ) % 2 ^ 32 ≤ s.undrained then (s.wr EVR_DRAIN_SEQ v).showSpace else s

/-! ### Draining and flushing (R556, R557) -/

/-- The bytes of the ring record with sequence number `q`. -/
def State.ringRecord (s : State) (q : Nat) : List Byte :=
  let base := s.rd EVR_RING_BASE_ADDR / 2 ^ 20 * 2 ^ 20
  (List.range 32).map fun i => s.byteAt (base + q % 32768 * 32 + i)

/-- LOG_DRAIN (R556): with 128 undrained records, firmware writes a log sector to both surfaces of the log pair, the
lowest-numbered journal pair; once both writes are `good`, DRAIN and the log sector number move on. -/
def logDrain (good : Bool) (s : State) : State :=
  match s.red.pairs with
  | [] => s
  | p :: _ =>
    if s.undrained < 128 ∨ ! good then s
    else
      let q := s.rd EVR_LZSEQ_SEQ
      let sector := 16400 + q % 4096
      let l := (List.range 128).flatMap fun i => s.ringRecord (s.rd EVR_DRAIN_SEQ + i)
      let s := (s.emit (.logSector p.2.s0 sector q l)).emit (.logSector p.2.s1 sector q l)
      ((s.bumpWrap EVR_LZSEQ_SEQ).wr EVR_DRAIN_SEQ (s.rd EVR_DRAIN_SEQ + 128)).showSpace

/-- LOG_DRAIN. -/
def execLogDrain (good : Bool) (s : State) : Result := clocked s (logDrain good s)

/-- EVENT_FLUSH (R557): a trigger starts a flush of the undrained records, or extends the one that runs. -/
def eventFlush (trigger : FlushTrigger) (s : State) : State :=
  match trigger with
  | .pfail => if s.on APR_STAT_PFAIL then (s.startEvrFlush true).releaseHeld else s
  | .shutdown => if s.on THM_STAT_SHUT then (s.startEvrFlush true).releaseHeld else s
  | .record => (s.startEvrFlush false).releaseHeld
  | .command => (s.startEvrFlush false).releaseHeld

/-- EVENT_FLUSH. -/
def execEventFlush (trigger : FlushTrigger) (s : State) : Result := clocked s (eventFlush trigger s)

/-- The event log region of SPI flash in the default layout (R519). -/
def logBase : Nat := 0x700000
def logSize : Nat := 0x400000

/-- One record goes to the flash log's write point; the block ahead of it is kept erased (R557). -/
def State.logRecord (s : State) (bs : List Byte) : State :=
  let w := s.cfg.logNext % logSize
  let s := s.flashPut (logBase + w) bs
  let next := (w + 32) % logSize
  let ahead := (next / 65536 + 1) * 65536 % logSize
  let fl := if next % 65536 = 0 then s.cfg.flash.filter fun p => p.1 < logBase + ahead || logBase + ahead + 65536 ≤ p.1 else s.cfg.flash
  s.setCfg { s.cfg with flash := fl, logNext := next }

/-- The channel of a ring record. -/
def recChannel (bs : List Byte) : Nat := leNat ((bs.drop 6).take 2) % 1024 / 32

/-- EVENT_FLUSH_DONE (R557): the undrained records have been written, those of channels 0 to 4 first, at most the limit of
a PFAIL or shutdown; FLUSHDONE sets. -/
def eventFlushDone (s : State) : State :=
  match s.evr.flush with
  | none => s
  | some (to_, limit) =>
    let from_ := s.rd EVR_DRAIN_SEQ
    let n := min 32768 ((to_ + 2 ^ 32 - from_) % 2 ^ 32)
    let l := (List.range n).map fun i => s.ringRecord (from_ + i)
    let l := (l.filter fun r => decide (recChannel r ≤ 4)) ++ l.filter fun r => decide (4 < recChannel r)
    let l := match limit with
      | some m => l.take m
      | none => l
    let s := l.foldl (fun s r => s.logRecord r) s
    ((s.setEvr { s.evr with flush := none }).put EVR_STAT_FLUSHING false).put EVR_STAT_FLUSHDONE true

/-- EVENT_FLUSH_DONE. -/
def execEventFlushDone (s : State) : Result := clocked s (eventFlushDone s)

/-- Words `0` to `n − 1` of a row of 32-bit registers as one number. -/
def State.rowNat (s : State) (f : Nat → Fld) : Nat → Nat
  | 0 => 0
  | n + 1 => s.rowNat f n + s.rd (f n) * 2 ^ (32 * n)

/-- MAC_VERIFY (R559): whether the record of EVR_VBUF carries the MAC that it has under KEVR after the MAC of EVR_VPREV. -/
def macVerify (s : State) : State :=
  let r := BitVec.ofNat 256 (s.rowNat EVR_VBUF_WORD 8)
  let prev := BitVec.ofNat 128 (s.rowNat EVR_VPREV_WORD 4)
  (s.put EVR_VCTL_DONE true).put EVR_VCTL_OK
    (r.extractLsb' 128 128 == recordMac s.evr.kevr prev (r.extractLsb' 0 128))

/-- MAC_VERIFY. -/
def execMacVerify (s : State) : Result := clocked s (macVerify s)

end Sys2Proof.Machine
end

