-- ==== Sys2Proof/Machine/Dma.lean ====
section
/-! DEFINITION. Sys2Proof/Machine/Dma.lean: DMA channels: shadow sets, load checks, completions, errors, disabling and
the request lines (R501 to R516). The beats of a burst stand in Transfer.lean. -/
namespace Sys2Proof.Machine
open Sys2Proof

/-- The record of channel 16d + i. -/
def State.dmaS (s : State) (d i : Nat) : DmaChSt := smGet {} s.dma.chans (16 * d + i)
/-- Replace it. -/
def State.setDma (s : State) (d i : Nat) (x : DmaChSt) : State :=
  { s with dma := { s.dma with chans := smSet {} s.dma.chans (16 * d + i) x } }

/-- Channel i holds a transfer (DMA_ENG_STAT.ACTIVE). -/
def State.dmaActive (s : State) (d i : Nat) : Bool := (s.rd (DMA_ENG_STAT_ACTIVE d)).testBit i

/-- Set or clear bit i of ACTIVE. -/
def State.markActive (s : State) (d i : Nat) (v : Bool) : State :=
  let m := s.rd (DMA_ENG_STAT_ACTIVE d)
  if m.testBit i = v then s else s.wr (DMA_ENG_STAT_ACTIVE d) (if v then m + 2 ^ i else m - 2 ^ i)

/-- The channel and its engine are enabled and its domain is ON. -/
def State.dmaOn (s : State) (d i : Nat) : Bool := s.on (DMA_ENG_CTL_EN d) && s.on (DMA_CH_CTL_EN d i) && s.dom (130 + d / 2) == 2 && ! s.idled (130 + d / 2)

/-- Statuses of a completion (R515). -/
def dmDone : Nat := 0
def dmReadErr : Nat := 1
def dmWriteErr : Nat := 2
def dmBadDesc : Nat := 3

/-! ### Fields of CFG (R505) -/

def cfgOp (c : Nat) : Nat := c % 4
def cfgPrio (c : Nat) : Nat := c / 4 % 8
def cfgReq (c : Nat) : Nat := c / 32 % 32
def cfgBurst (c : Nat) : Nat := c / 1024 % 8
def cfgSinc (c : Nat) : Bool := c.testBit 13
def cfgDinc (c : Nat) : Bool := c.testBit 14
def cfgWide (c : Nat) : Bool := c.testBit 15
def cfgSwrap (c : Nat) : Nat := c / 2 ^ 16 % 32
def cfgDwrap (c : Nat) : Nat := c / 2 ^ 21 % 32
def cfgNotify (c : Nat) : Bool := c.testBit 26
def cfgCore (c : Nat) : Nat := c / 2 ^ 27 % 16

/-- A reserved request source (R512). -/
def reqReserved (r : Nat) : Bool := ! (decide (r ≤ 5) || (decide (8 ≤ r) && decide (r ≤ 23)))

/-- A wrap value that R506 refuses. -/
def wrapBad (n : Nat) : Bool := (decide (1 ≤ n) && decide (n ≤ 7)) || n == 31

/-- An address lies in a register window (R38). -/
def inWindow (a : Nat) : Bool := (windowRows a).isSome

/-- A side of a transfer that R506 refuses: in a register window it must be fixed, aligned to RWID and a multiple of it
long; fixed in memory it must be aligned to 64. -/
def sideBad (a cnt : Nat) (inc wide : Bool) : Bool :=
  let n := if wide then 8 else 4
  if inWindow a then inc || a % n != 0 || cnt % n != 0
  else ! inc && (isSram a || inDramRange a) && a % 64 != 0

/-- A transfer that completes with BAD_DESC when it loads (R506). -/
def dmaBad (src dst : Word) (cnt cfg : Nat) : Bool :=
  let op := cfgOp cfg
  cnt == 0 || op == 0 || op == 3 || cfgBurst cfg == 7 || cfg.testBit 31
    || wrapBad (cfgSwrap cfg) || wrapBad (cfgDwrap cfg) || reqReserved (cfgReq cfg)
    || (op == 1 && sideBad src.toNat cnt (cfgSinc cfg) (cfgWide cfg)) || sideBad dst.toNat cnt (cfgDinc cfg) (cfgWide cfg)
    || decide (2 ^ 40 ≤ dst.toNat) || (op == 1 && decide (2 ^ 40 ≤ src.toNat))

/-! ### Completion (R515) -/

/-- The completion entry. -/
def State.dmaEntry (s : State) (d i status : Nat) : Entry :=
  mkEntry [(0, 64, s.rd (DMA_TAG_TAG d i)), (64, 8, 16 * d + i), (72, 8, status), (96, 32, s.rd (DMA_CNT_BYTES d i)),
    (128, 64, if status = dmReadErr ∨ status = dmWriteErr then s.rd (DMA_ERRADDR_ADDR d i) else 0), (192, 64, s.wt)]

/-- Lightpipe `n` has credit for a push and no push waits before it. -/
def State.hasCredit (s : State) (n : Nat) : Bool := decide (0 < (s.lp n).free) && ! s.stalled.any fun p => p.1 == n

/-- The transfer of channel i completes with a status (R515): LASTST, DONE, DONECNT, and with NOTIFY the entry to the
inbox, held with CPLWAIT while the inbox has no credit. -/
def State.dmaComplete (s : State) (d i status : Nat) : State :=
  let cfg := s.rd (DMA_CFG_CFG d i)
  let e := s.dmaEntry d i status
  let s := ((s.wr (DMA_CH_STAT_LASTST d i) status).put (DMA_CH_STAT_DONE d i) (status == dmDone)).bumpWrap (DMA_DONECNT_COUNT d i)
  let s := if s.on (DMA_CH_STAT_IDLE d i) then s
    else (s.put (DMA_CH_STAT_IDLE d i) true).wr (DMA_ENG_STAT_OUTST d) (s.rd (DMA_ENG_STAT_OUTST d) - 1)
  let s := s.markActive d i false
  if ! cfgNotify cfg then s
  else if s.hasCredit (672 + cfgCore cfg) then s.lpAppend (672 + cfgCore cfg) e
  else (s.setDma d i { s.dmaS d i with wait := some e }).put (DMA_CH_STAT_CPLWAIT d i) true

/-- The channel stops on an error (R509): ERR, the lowest failing address, and the completion. -/
def State.dmaFail (s : State) (d i status addr : Nat) : State :=
  ((s.put (DMA_CH_STAT_ERR d i) true).wr (DMA_ERRADDR_ADDR d i) addr).dmaComplete d i status

/-- DMA_COMPLETION (R515): every beat of a transfer whose CNT has reached 0 has been answered. -/
def dmaCompletion (ch : DmaCh) (s : State) : State :=
  let d := ch.d.val
  let i := ch.i.val
  if s.dmaActive d i ∧ s.rd (DMA_CNT_BYTES d i) = 0 ∧ ! s.on (DMA_CH_STAT_ERR d i) then s.dmaComplete d i dmDone else s

/-- DMA_COMPLETION. -/
def execDmaCompletion (ch : DmaCh) (s : State) : Result := clocked s (dmaCompletion ch s)

/-- DMA_COMPLETION_PUSH (R515): the held completion is pushed once the inbox has credit. -/
def dmaCompletionPush (ch : DmaCh) (s : State) : State :=
  let d := ch.d.val
  let i := ch.i.val
  let n := 672 + cfgCore (s.rd (DMA_CFG_CFG d i))
  match (s.dmaS d i).wait with
  | none => s
  | some e =>
    if s.hasCredit n then
      ((s.lpAppend n e).setDma d i { s.dmaS d i with wait := none }).put (DMA_CH_STAT_CPLWAIT d i) false
    else s

/-- DMA_COMPLETION_PUSH. -/
def execDmaCompletionPush (ch : DmaCh) (s : State) : Result := clocked s (dmaCompletionPush ch s)

/-- DMA_BUS_ERROR (R509, R510): a beat of the transfer in progress is answered with a bus error at `addr`. -/
def dmaBusError (ch : DmaCh) (write : Bool) (addr : BitVec 40) (s : State) : State :=
  let d := ch.d.val
  let i := ch.i.val
  if s.dmaActive d i ∧ ! s.on (DMA_CH_STAT_ERR d i) then s.dmaFail d i (if write then dmWriteErr else dmReadErr) addr.toNat else s

/-- DMA_BUS_ERROR. -/
def execDmaBusError (ch : DmaCh) (write : Bool) (addr : BitVec 40) (s : State) : Result := clocked s (dmaBusError ch write addr s)

/-! ### Shadow sets (R503, R504) -/

/-- DMA_ARM (R504): ARM is written 1. -/
def dmaArm (ch : DmaCh) (s : State) : State :=
  let d := ch.d.val
  let i := ch.i.val
  if s.on (DMA_CH_STAT_SHV d i) ∨ s.on (DMA_CH_CTL_LPQ d i) then s.put (DMA_CH_STAT_SHERR d i) true
  else (s.setDma d i { s.dmaS d i with poison := false }).put (DMA_CH_STAT_SHV d i) true

/-- DMA_ARM. -/
def execDmaArm (ch : DmaCh) (s : State) : Result := clocked s (dmaArm ch s)

/-- DMA_DESCRIPTOR_POP (R504): with LPQ = 1 the channel pops the next entry into its shadow set while SHV is 0; while ERR
is 1 it pops nothing (R511). -/
def dmaDescriptorPop (ch : DmaCh) (s : State) : State :=
  let d := ch.d.val
  let i := ch.i.val
  if ! s.dmaOn d i ∨ ! s.on (DMA_CH_CTL_LPQ d i) ∨ s.on (DMA_CH_STAT_SHV d i) ∨ s.on (DMA_CH_STAT_ERR d i) then s
  else match s.hwPop (576 + 16 * d + i) with
    | none => s
    | some (e, s) =>
      let s := ((s.wr (DMA_SH_SRC_SRC d i) (e.at 0 64)).wr (DMA_SH_DST_DST d i) (e.at 64 64)).wr (DMA_SH_CNT_BYTES d i) (e.at 128 32)
      let s := (s.wr (DMA_SH_CFG_CFG d i) (e.at 160 32)).wr (DMA_SH_TAG_TAG d i) (e.at 192 64)
      (s.setDma d i { s.dmaS d i with poison := e.poison }).put (DMA_CH_STAT_SHV d i) true

/-- DMA_DESCRIPTOR_POP. -/
def execDmaDescriptorPop (ch : DmaCh) (s : State) : Result := clocked s (dmaDescriptorPop ch s)

/-- SHADOW_LOAD (R503, R506, R605): an idle channel with no held completion and no error loads its valid shadow set and checks
it. Of a poisoned entry only TAG is copied: it completes with BAD_DESC, and its NOTIFY and CORE are not acted on. -/
def shadowLoad (ch : DmaCh) (s : State) : State :=
  let d := ch.d.val
  let i := ch.i.val
  if ! s.dmaOn d i ∨ s.dmaActive d i ∨ (s.dmaS d i).wait.isSome ∨ ! s.on (DMA_CH_STAT_SHV d i) ∨ s.on (DMA_CH_STAT_ERR d i) then s
  else
    let src := s.reg (DMA_SH_SRC d i)
    let dst := s.reg (DMA_SH_DST d i)
    let cnt := s.rd (DMA_SH_CNT_BYTES d i)
    let poison := (s.dmaS d i).poison
    let cfg := if poison then 0 else s.rd (DMA_SH_CFG_CFG d i)
    let bad := poison || dmaBad src dst cnt cfg
    let s := if poison then s else ((s.wr (DMA_SRC_ADDR d i) src.toNat).wr (DMA_DST_ADDR d i) dst.toNat).wr (DMA_CNT_BYTES d i) cnt
    let s := (s.wr (DMA_CFG_CFG d i) cfg).wr (DMA_TAG_TAG d i) (s.rd (DMA_SH_TAG_TAG d i))
    let s := ((s.put (DMA_CH_STAT_SHV d i) false).setDma d i {}).markActive d i true
    if bad then s.dmaComplete d i dmBadDesc else s

/-- SHADOW_LOAD. -/
def execShadowLoad (ch : DmaCh) (s : State) : Result := clocked s (shadowLoad ch s)

/-- DMA_ERR_CLEAR (R511): 1 is written to ERR. -/
def dmaErrClear (ch : DmaCh) (s : State) : State := s.put (DMA_CH_STAT_ERR ch.d.val ch.i.val) false
/-- DMA_ERR_CLEAR. -/
def execDmaErrClear (ch : DmaCh) (s : State) : Result := clocked s (dmaErrClear ch s)

/-! ### Bursts (R507 to R509) -/

/-- The address that follows `a` by `n` bytes on a side (R507): fixed, or counting modulo its wrap. -/
def dmaNext (a : Nat) (inc : Bool) (wrap n : Nat) : Nat :=
  if ! inc then a
  else if wrap = 0 then (a + n) % 2 ^ 40
  else a - a % 2 ^ wrap + (a % 2 ^ wrap + n) % 2 ^ wrap

/-- Bytes up to the end of a burst that an incrementing side sets (R508): its 4 KiB boundary and its wrap boundary. -/
def dmaRoom (a : Nat) (inc : Bool) (wrap : Nat) : Nat :=
  let page := if inc then 4096 - a % 4096 else 4096
  if inc ∧ wrap ≠ 0 then min page (2 ^ wrap - a % 2 ^ wrap) else page

/-- The length of the next burst of channel `i` (R508). -/
def State.burstLen (s : State) (d i : Nat) : Nat :=
  let cfg := s.rd (DMA_CFG_CFG d i)
  let n := min (64 * 2 ^ cfgBurst cfg) (s.rd (DMA_CNT_BYTES d i))
  let n := min n (dmaRoom (s.rd (DMA_DST_ADDR d i)) (cfgDinc cfg) (cfgDwrap cfg))
  if cfgOp cfg = 1 then min n (dmaRoom (s.rd (DMA_SRC_ADDR d i)) (cfgSinc cfg) (cfgSwrap cfg)) else n

/-- The destination address of the next run: a fixed memory side repeats its 64 bytes (R507). -/
def runAddr (a moved : Nat) (inc : Bool) : Nat := if inc ∨ inWindow a then a else a + moved % 64

/-- Bytes of the burst after a failing beat are undefined at the destination (R509): free bytes where it is memory. -/
def State.freeDest (s : State) (d i left : Nat) : State :=
  let a := s.rd (DMA_DST_ADDR d i)
  if inWindow a then s
  else
    let bs := (List.range left).map fun j => Config.freeByte (s.free + j)
    (({ s with free := s.free + left }).busWrite false (runAddr a (s.dmaS d i).moved (cfgDinc (s.rd (DMA_CFG_CFG d i)))) bs).2

/-! ### Disabling (R516) -/

/-- The channel stops at once (R516): its transfer, held completion and shadow set are dropped; where a transfer was active
DMA_CNT and the active addresses are free values, and so are the destination bytes of the burst that was next (log entry 45). -/
def State.dmaDrop (s : State) (d i : Nat) : State :=
  let s := if s.dmaActive d i then
      let s := if s.rd (DMA_CNT_BYTES d i) = 0 then s else s.freeDest d i (s.burstLen d i)
      let f (n : Nat) : Nat := (Config.freeWord (s.free + n)).toNat
      let t := ((s.wr (DMA_CNT_BYTES d i) (f 0)).wr (DMA_SRC_ADDR d i) (f 1)).wr (DMA_DST_ADDR d i) (f 2)
      { t with free := s.free + 3 }
    else s
  let s := if s.on (DMA_CH_STAT_IDLE d i) then s
    else (s.put (DMA_CH_STAT_IDLE d i) true).wr (DMA_ENG_STAT_OUTST d) (s.rd (DMA_ENG_STAT_OUTST d) - 1)
  let s := ((s.markActive d i false).put (DMA_CH_STAT_SHV d i) false).put (DMA_CH_STAT_CPLWAIT d i) false
  s.setDma d i {}

/-- DMA_CHANNEL_DISABLE (R516): 0 is written to DMA_CH_CTL.EN. -/
def dmaChannelDisable (ch : DmaCh) (s : State) : State := (s.put (DMA_CH_CTL_EN ch.d.val ch.i.val) false).dmaDrop ch.d.val ch.i.val
/-- DMA_CHANNEL_DISABLE. -/
def execDmaChannelDisable (ch : DmaCh) (s : State) : Result := clocked s (dmaChannelDisable ch s)

/-- DMA_ENGINE_DISABLE (R516): 0 is written to DMA_ENG_CTL.EN. -/
def dmaEngineDisable (d : Fin 4) (s : State) : State := forUpTo 16 (fun i s => s.dmaDrop d.val i) (s.put (DMA_ENG_CTL_EN d.val) false)
/-- DMA_ENGINE_DISABLE. -/
def execDmaEngineDisable (d : Fin 4) (s : State) : Result := clocked s (dmaEngineDisable d s)

/-! ### Requests (R512, R600) -/

/-- The level at a GPIO ball: an input's as last sampled, an output's as driven (R600). -/
def State.gpioLevel (s : State) (n : Nat) : Bool :=
  if (s.rd PWR_GPIO_DIR_OE).testBit n then (s.rd PWR_GPIO_OUT_LEVEL).testBit n else (s.rd PWR_GPIO_IN_LEVEL).testBit n

/-- PWR_GPIO_IN follows the balls: inputs take `levels`, outputs what they drive (R600). -/
def State.sampleGpio (s : State) (levels : Nat) : State :=
  let v := (List.range 16).foldl (fun m n =>
    if (if (s.rd PWR_GPIO_DIR_OE).testBit n then (s.rd PWR_GPIO_OUT_LEVEL).testBit n else levels.testBit n) then m + 2 ^ n else m) 0
  s.wr PWR_GPIO_IN_LEVEL v

/-- The request line of source `r` is asserted (R512, R521, R556, R578, R600). -/
def State.dmaRequest (s : State) (r : Nat) : Bool :=
  if r = 0 then true
  else if r = 1 then decide (64 ≤ s.cfg.rxf.length)
  else if r = 2 then decide (s.cfg.txf.length + 64 ≤ 256)
  else if r = 3 then decide (64 ≤ s.pwr.inbound.length)
  else if r = 4 then decide (s.pwr.outbound.length + 64 ≤ 128)
  else if r = 5 then decide (128 ≤ s.undrained)
  else if 8 ≤ r ∧ r ≤ 23 then
    ! (s.rd PWR_GPIO_DIR_OE).testBit (r - 8) && s.gpioLevel (r - 8) == (s.rd PWR_GPIO_POL_REQ).testBit (r - 8)
  else false

end Sys2Proof.Machine
end

