-- ==== Sys2Proof/Machine/Policy.lean ====
section
/-! DEFINITION. Sys2Proof/Machine/Policy.lean: what the policy program does with the engines and the arms: object keys (R377),
data staged in stripes and sealed stripes on their way to media (R30, R278, R283), reads (R33, R34), rebuild (R297 to R301),
compaction and reshape (R269, R270, R302) and resynchronisation (R292). Policy's operations carry OPIDs of their own, with
bit 63 set; their results are taken at the start of a command that goes on with them (DESIGN CHOICE, log entry 105). -/
namespace Sys2Proof.Machine
open Sys2Proof

/-! ### Policy's operations -/

/-- Send operations to lightpipes, each under the next OPID of policy: their OPIDs. -/
def State.issue (s : State) (l : List (Nat × Entry)) : List Nat × State :=
  l.foldl (fun r p =>
    let id := 2 ^ 63 + r.2.red.ops
    let t := r.2.setRed { r.2.red with ops := r.2.red.ops + 1 }
    (r.1 ++ [id], t.hwPush p.1 { p.2 with data := p.2.data ||| packEntry [(0, 64, id)] })) ([], s)

/-- Take policy's results from the head of lightpipe `n`. -/
def State.takeResults (s : State) (n : Nat) : Nat → State
  | 0 => s
  | fuel + 1 =>
    match (s.lp n).entries with
    | [] => s
    | e :: _ =>
      if e.poison ∨ e.at 0 64 < 2 ^ 63 then s
      else match s.hwPop n with
        | none => s
        | some (_, s) => (s.setRed { s.red with results := s.red.results ++ [(e.at 0 64, e.data)] }).takeResults n fuel

/-- Policy takes its results of the Prism engines, the cipher engines and the slices. -/
def State.pollOps (s : State) : State :=
  let take (n : Nat) (s : State) : State := s.takeResults n (s.lp n).entries.length
  forUpTo 64 (fun k s => take (64 + k) s) (forUpTo 8 (fun c s => take (546 + 4 * c) s) (forUpTo 8 (fun e s => take (514 + 4 * e) s) s))

/-- The result of an operation, if it has been taken. -/
def State.resultOf (s : State) (id : Nat) : Option (BitVec 256) := (s.red.results.find? fun p => p.1 == id).map Prod.snd

/-- Results that have been acted on are dropped. -/
def State.forget (s : State) (ids : List Nat) : State :=
  s.setRed { s.red with results := s.red.results.filter fun p => ! ids.contains p.1 }

/-- STATUS of a result: bytes 8 and 9 in every format (R137, R288, R380). -/
def resultStatus (d : BitVec 256) : Nat := (d.extractLsb' 64 16).toNat

/-- Every operation of a list has a result. -/
def State.allBack (s : State) (ids : List Nat) : Bool := ids.all fun i => (s.resultOf i).isSome

/-- Every operation of a list ended with a status that satisfies `p`. -/
def State.allGood (s : State) (ids : List Nat) (p : Nat → Bool) : Bool :=
  ids.all fun i => (s.resultOf i).elim false fun d => p (resultStatus d)

/-! ### Object keys (R377, R383) -/

/-- Objects are held by tenant and ID: another tenant's object is reported as an absent one (R340). -/
def objKey (t : Nat) (obj : BitVec 128) : Nat := t * 2 ^ 128 + obj.toNat

/-- Replace what the object layer holds of keys. -/
def State.putObjKey (s : State) (key : Nat) (k : ObjKey) : State :=
  { s with host := { s.host with objKeys := smPut s.host.objKeys key k } }

/-- The object's key as it is held. -/
def State.objKeyAt (s : State) (key : Nat) : Option ObjKey := (s.host.objKeys.find? fun p => p.1 == key).map Prod.snd

/-- The slot that holds an object's key. -/
def State.keySlot (s : State) (key : Nat) : Option Nat :=
  (s.objKeyAt key).bind fun k => k.slot.bind fun n => if s.sec.keys.any (fun p => p.1 == n) then some n else none

/-- The lowest object slot that holds no key and is promised to none. -/
def State.emptyKeySlot (s : State) : Nat :=
  ((List.range 32766).map (· + 2)).find? (fun n => ! s.sec.keys.any (fun p => p.1 == n) && ! s.host.keyOps.any fun p => p.2.2.1 == n) |>.getD 2

/-- What asking for an object's key gives: its slot, a wait for a job, or a status. -/
inductive KeyAnswer where
  | ready (slot : Nat) | waits | fails (status : Nat)
  deriving DecidableEq, Repr

/-- Ask a cipher engine for a key (R377): GENKEY for an object that has none, LOADKEY for a wrapped one; the wrapped form stands
at `pool`. -/
def State.askKey (s : State) (p : Plan) (key : Nat) : State :=
  let slot := s.emptyKeySlot
  let job (s : State) (op : Nat) : State :=
    let r := s.issue [(545 + 4 * p.cipher.val, mkEntry [(64, 8, op), (96, 16, slot), (112, 10, key / 2 ^ 128), (192, 64, p.pool.toNat)])]
    { r.2 with host := { r.2.host with keyOps := smPut r.2.host.keyOps key (r.1.headD 0, slot, p.pool.toNat) } }
  match s.objKeyAt key with
  | none => job s 3
  | some k => job (s.busWrite false p.pool.toNat (leBytes 40 k.wrapped.toNat)).2 4

/-- A key job has ended: the key is the object's, a new one is journalled (R377), or the command fails (R377, R368). -/
def State.keyBack (s : State) (key slot wrap : Nat) (d : BitVec 256) : KeyAnswer × State :=
  let s : State := { s with host := { s.host with keyOps := smErase s.host.keyOps key } }
  let st := resultStatus d
  if st = csUnwrapFail then (.fails 0x3011, s)
  else if st = csKeysWithheld ∨ st = csNoEntropy then (.fails 0x7010, s)
  else if st ≠ csDone then (.waits, s)
  else match s.objKeyAt key with
    | some k => (.ready slot, s.putObjKey key { k with slot := some slot })
    | none =>
      match s.busRead false wrap 40 with
      | (none, s) => (.waits, s)
      | (some b, s) =>
        let w := BitVec.ofNat 320 (leNat b)
        (.ready slot, (s.putObjKey key { slot := some slot, wrapped := w }).delta (.key key (some w)))

/-- An object's key is needed in a slot (R377). -/
def State.needKey (s : State) (p : Plan) (key : Nat) : KeyAnswer × State :=
  match s.keySlot key with
  | some n => (.ready n, s)
  | none =>
    match s.host.keyOps.find? fun q => q.1 == key with
    | none => (.waits, s.askKey p key)
    | some (_, id, slot, wrap) =>
      match s.resultOf id with
      | none => (.waits, s)
      | some d => (s.forget [id]).keyBack key slot wrap d

/-- A job that names a slot is still queued (R380). -/
def State.slotInUse (s : State) (n : Nat) : Bool :=
  ((List.range 8).any fun c => (s.lp (545 + 4 * c)).entries.any fun e => e.at 96 16 == n)
    || s.stalled.any fun p => decide (545 ≤ p.1) && decide (p.1 ≤ 573) && p.1 % 4 == 1 && p.2.at 96 16 == n

/-- The key of a deleted object is destroyed (R383): its wrapped form leaves the index, and its slot is evicted. -/
def State.dropKey (s : State) (key : Nat) : State :=
  match s.objKeyAt key with
  | none => s
  | some k =>
    let s : State := { s with host := { s.host with
      objKeys := smErase s.host.objKeys key, evict := s.host.evict ++ k.slot.toList } }
    s.delta (.key key none)

/-- EVICT jobs go to a cipher engine for the slots to be evicted that no queued job names (R380, R383). -/
def State.evictKeys (s : State) : State :=
  let l := s.host.evict.filter fun n => ! s.slotInUse n
  let t : State := { s with host := { s.host with evict := s.host.evict.filter s.slotInUse } }
  (t.issue (l.map fun n => (545, mkEntry [(64, 8, 5), (96, 16, n)]))).2

/-! ### Staging data in stripes (R30, R268, R282, R283) -/

/-- The lowest-numbered filling band set. -/
def State.openSet (s : State) : Option (Nat × BandSet) := s.red.sets.find? fun p => p.2.state == 1

/-- The lowest ACTIVE layout. -/
def State.firstLayout (s : State) : Option Nat := (List.range 8).find? fun l => s.layoutActive l

/-- Sectors of 4,160 bytes that hold bytes in order, the rest zeros (R112, R283). -/
def unitBytes (sectors : Nat) (bs : List Byte) : List Byte :=
  (List.range sectors).flatMap fun i =>
    let b := (bs.drop (4096 * i)).take 4096
    b ++ List.replicate (4160 - b.length) 0

/-- The opening INTENT of a stripe is recorded before its data (R278), with the first WSEQ of its member writes (R379). -/
def State.openStripe (s : State) (b : Nat) (x : BandSet) : State :=
  match s.red.opened.find? fun p => p.1 == b with
  | some _ => s
  | none =>
    let r := s.drawWseq.getD (0, s)
    (r.2.setRed { r.2.red with opened := smPut r.2.red.opened b { wseq := r.1 } }).record
      { ty := 1, layout := x.layout, filled := 0, bsid := b, slot := x.next }

/-- Data of an object from offset `off` on is staged at `buf` in the open stripe of the filling band set, a stripe at a time;
a stripe whose data units are all filled is sealed (R283). The runs it takes; none where no band set can be drawn (R282) or
a byte cannot be stored. -/
def State.placeData (s : State) (key : Nat) : Nat → Nat → Nat → List Byte → Option (List Run) × State
  | 0, _, _, _ => (some [], s)
  | fuel + 1, off, buf, bs =>
    if bs.isEmpty then (some [], s)
    else
      let s : State := if s.openSet.isSome then s else match s.firstLayout with
        | none => s
        | some l => (s.drawSet l).2
      match s.openSet with
      | none => (none, s)
      | some (b, x) =>
        let s := s.openStripe b x
        let o := smGet {} s.red.opened b
        let unit := x.u * 4096
        let units := min ((bs.length + unit - 1) / max 1 unit) (x.k - o.filled)
        let len := min bs.length (units * unit)
        match s.busWrite false buf (unitBytes (units * x.u) (bs.take len)) with
        | (some _, s) => (none, s)
        | (none, s) =>
          let new := (List.range units).map fun i : Nat =>
            ({ j := o.filled + i, buf := buf + i * x.u * 4160, key := key, off := off + i * unit } : StagedUnit)
          let s := s.setRed { s.red with
            opened := smPut s.red.opened b { o with filled := o.filled + units, units := o.units ++ new } }
          let s := if x.k ≤ o.filled + units then s.sealStripe b else s
          let run : Run := { addr := (bsSlotAddr x) b x.next + o.filled * unit, len := len }
          let r := s.placeData key fuel (off + len) (buf + units * x.u * 4160) (bs.drop len)
          (r.1.map (run :: ·), r.2)

/-- Stage data: new intents wait while a journal ring is full (R271), and writes wait where no band set can be drawn, which an
event records (R282). -/
def State.stageData (s : State) (key off buf : Nat) (bs : List Byte) : Option (List Run) × State :=
  if s.ringFull then (none, s)
  else
    let r := s.placeData key (bs.length / 4096 + 2) off buf bs
    match r.1 with
    | some l => (some l, r.2)
    | none => (none, if s.openSet.isSome then s else s.event 9 .rebuild 8 (s.firstLayout.getD 0))

/-- What is left of an extent outside a range of its object; its generation rises (R268). -/
def cutExtent (obj : BitVec 128) (lo hi : Nat) (e : Extent) : List Extent :=
  if e.obj ≠ obj ∨ e.off + e.len ≤ lo ∨ hi ≤ e.off then [e]
  else
    (if e.off < lo then [{ e with len := lo - e.off, gen := e.gen + 1 }] else [])
      ++ (if hi < e.off + e.len then [{ e with off := hi, len := e.off + e.len - hi, addr := e.addr + (hi - e.off), gen := e.gen + 1 }] else [])

/-- The live bytes of a band set. -/
def State.liveBytes (s : State) (bsid : Nat) : Nat :=
  (s.red.extents.filter fun e => e.addr / 2 ^ 33 == bsid).foldl (fun t e => t + e.len) 0

/-- The pieces of units that hold `n` bytes from layout address `a` on (R267): slot, member, first row, rows, and bytes of the
range that come before it. -/
def unitPieces (x : BandSet) (bsid a : Nat) : Nat → Nat → Nat → List (Nat × Nat × Nat × Nat × Nat × Nat)
  | 0, _, _ => []
  | fuel + 1, done, n =>
    if n = 0 then []
    else
      let r := a + done - bsid * 2 ^ 33
      let unit := max 1 (x.u * 4096)
      let slot := r / (max 1 x.k * unit)
      let j := r / unit % max 1 x.k
      let first := r % unit
      let len := min n (unit - first)
      (slot, j, first / 4096, (first + len + 4095) / 4096 - first / 4096, done, len) :: unitPieces x bsid a fuel (done + len) (n - len)

/-- The sectors of data member `j` of a band set that extents refer to; a block at a cut counts for each extent that holds a part
of it. For a parity member, those of the data member with most (DESIGN CHOICE, log entry 108). -/
def State.bandLive (s : State) (bsid : Nat) (x : BandSet) (j : Nat) : Nat :=
  let l := (s.red.extents.filter fun e => e.addr / 2 ^ 33 == bsid).flatMap fun e => unitPieces x bsid e.addr (e.len / 4096 + 2) 0 e.len
  let of (i : Nat) : Nat := (l.filter fun q => q.2.1 == i).foldl (fun t q => t + q.2.2.2.1) 0
  if j < x.k then of j else (List.range x.k).foldl (fun t i => max t (of i)) 0

/-- LIVE of a band set's bands follows the extents (R261). -/
def State.showLive (s : State) (bsid : Nat) (x : BandSet) : State :=
  x.members.zipIdx.foldl (fun s m =>
    s.updMember bsid m.1 fun e => setBtLive e (s.bandLive bsid x m.2)) s

/-- Band set records follow the extents that have changed (R266), and are journalled (R271). -/
def State.countLive (s : State) : State :=
  s.red.sets.foldl (fun s p =>
    let n := s.liveBytes p.1
    if n = p.2.live then s
    else
      let x := { p.2 with live := n }
      ((s.setBandSet p.1 x).delta (.set p.1 (some x))).showLive p.1 x) s

/-- A write over a range adds the extents of its runs and cuts the old ones back (R268); the index is journalled (R271). -/
def State.newExtents (s : State) (obj : BitVec 128) (off : Nat) (l : List Run) : State :=
  if l.isEmpty then s
  else
    let n := l.foldl (fun t r => t + r.len) 0
    let cut := s.red.extents.flatMap (cutExtent obj off (off + n))
    let add := (l.foldl (fun (t : Nat × List Extent) r =>
      (t.1 + r.len, t.2 ++ [{ obj := obj, off := t.1, len := r.len, addr := r.addr, gen := 1 }])) (off, [])).2
    ((s.setRed { s.red with extents := cut ++ add }).indexDelta obj).countLive

/-- An object's extents are released (R270). -/
def State.dropExtents (s : State) (obj : BitVec 128) : State :=
  if s.red.extents.any fun e => e.obj == obj then
    ((s.setRed { s.red with extents := s.red.extents.filter fun e => e.obj != obj }).indexDelta obj).countLive
  else s

/-! ### Operations on media and engines -/

/-- An operation's sectors cut at the ends of tracks (R255). -/
def trackRuns (spt : Nat) : Nat → Nat → Nat → List (Nat × Nat)
  | 0, _, _ => []
  | fuel + 1, index, n =>
    if n = 0 ∨ spt = 0 then []
    else
      let c := min n (spt - index % spt)
      (index, c) :: trackRuns spt fuel (index + c) (n - c)

/-- READ or WRITE operations on sectors of a band and a buffer (R249, R255): none where the band's entry cannot be had. -/
def State.bandOps (s : State) (op cls band index n buf : Nat) : List (Nat × Entry) × State :=
  let s := (s.btNeed band).2
  match s.btLine band with
  | none => ([], s)
  | some l =>
    let p := band / 2 ^ 15
    let k := hportSlice p
    let spt := s.rd (CS_ZONE2_SPT k (hportHead p) (btZone l.bytes))
    ((trackRuns spt (n + 1) index n).map fun r => (k, mkEntry [(64, 4, op), (68, 4, cls), (72, 3, 7), (80, 10, p),
      (96, 24, btT0 l.bytes + r.1 / max 1 spt), (120, 12, r.1 % max 1 spt), (136, 12, r.2), (152, 32, band), (184, 32, r.1),
      (216, 40, buf + (r.1 - index) * 4160)]), s)

/-- A Prism descriptor (R286). -/
def descBytes (bufs : List Nat) (members : List (Nat × Nat)) (bsid epoch : Nat) : List Byte :=
  ((List.range 32).flatMap fun j => leBytes 8 (bufs.getD j 0))
    ++ ((List.range 32).flatMap fun j => leBytes 4 (members.getD j (0, 0)).1 ++ leBytes 4 (members.getD j (0, 0)).2)
    ++ leBytes 4 bsid ++ leBytes 2 epoch ++ List.replicate 58 0

/-- Metadata bytes 16 to 63 of a sector (R112, R254). -/
def metaBytes (band index : Nat) (obj : BitVec 128) (addr bsid kind epoch wseq : Nat) : List Byte :=
  leBytes 4 band ++ leBytes 4 index ++ leBytes 16 obj.toNat ++ leBytes 8 addr ++ leBytes 4 bsid ++ leBytes 1 kind ++ [0]
    ++ leBytes 2 epoch ++ leBytes 8 wseq

/-- A Prism job entry but for its OPID (R285). -/
def prismEntry (op : Nat) (x : BandSet) (fill : Bool) (target avoid desc : Nat) : Entry :=
  mkEntry [(64, 8, op), (72, 8, x.k), (80, 8, x.m), (88, 1, fill.toNat), (96, 16, x.u), (128, 32, target), (160, 32, avoid), (192, 64, desc)]

/-- A SEAL or OPEN job entry but for its OPID (R380). -/
def cipherJob (op count slot buf : Nat) : Entry := mkEntry [(64, 8, op), (80, 16, count), (96, 16, slot), (128, 64, buf)]

/-! ### Sealed stripes on their way to media (R30, R278, R283) -/

/-- The buffers of a stripe's members: where its units are staged, and from `pool` on for the others. -/
def stripeBufs (x : BandSet) (units : List StagedUnit) (pool : Nat) : List Nat :=
  (List.range (x.k + x.m)).map fun j => ((units.find? fun u => u.j == j).map fun u => u.buf).getD (pool + j * x.u * 4160)

/-- WSEQs of the member writes of a stripe (R379): the first was drawn with its intent. -/
def State.drawMany (s : State) : Nat → List Nat × State
  | 0 => ([], s)
  | n + 1 =>
    let r := s.drawWseq.getD (0, s)
    let q := r.2.drawMany n
    (r.1 :: q.1, q.2)

/-- Write pieces, and say whether all were stored. -/
def State.putPieces (s : State) (l : List (Nat × List Byte)) : Bool × State := s.writeAll l

/-- Zero sectors for the units that hold no data (R283), the metadata of every sector, and the descriptor (R254, R286). -/
def stripeImage (x : BandSet) (j : StripeJob) (bufs wseqs : List Nat) (desc epoch : Nat) : List (Nat × List Byte) :=
  let sector (m i : Nat) : Nat × List Byte :=
    let a := bufs.getD m 0 + 4160 * i + 4096
    match j.units.find? fun u => u.j == m with
    | some u => (a + 16, metaBytes (x.members.getD m 0) (j.slot * x.u + i) (BitVec.ofNat 128 u.key) (u.off + 4096 * i) j.bsid m epoch (wseqs.getD m 0))
    | none =>
      if m < x.k then (a + 16, metaBytes (x.members.getD m 0) (j.slot * x.u + i) 0 0 j.bsid m epoch (wseqs.getD m 0))
      else (a + 56, leBytes 8 (wseqs.getD m 0))
  let empty := (List.range x.k).filter fun m => ! j.units.any fun u => u.j == m
  (empty.map fun m => (bufs.getD m 0, List.replicate (x.u * 4160) 0))
    ++ ((List.range (x.k + x.m)).flatMap fun m => (List.range x.u).map (sector m))
    ++ [(desc, descBytes bufs (x.members.map fun b => (b, j.slot * x.u)) j.bsid epoch)]

/-- Step 6 (R30): the buffers are made ready and an ENCODE job with FILLMETA goes to the Prism engine. -/
def State.stripeEncode (s : State) (p : Plan) (x : BandSet) (j : StripeJob) : StripeJob × State :=
  let bufs := stripeBufs x j.units p.pool.toNat
  let w := s.drawMany (x.k + x.m - 1)
  let r := w.2.putPieces (stripeImage x j bufs (j.wseq :: w.1) p.desc.toNat (s.rd PRZ_LEPOCH_EPOCH % 65536))
  if ! r.1 then (j, r.2)
  else
    let q := r.2.issue [(512 + 4 * p.prism.val, prismEntry 1 x true 0 0 p.desc.toNat)]
    ({ j with bufs := bufs, stage := 1, ops := q.1 }, q.2)

/-- The key slot of a member's unit (R378): the object's for data, KPAR for parity and for units without object data. -/
def State.unitSlot (s : State) (j : StripeJob) (m : Nat) : Nat :=
  ((j.units.find? fun u => u.j == m).bind fun u => s.keySlot u.key).getD 1

/-- Step 7 (R30): each unit goes to the cipher engine to be sealed. -/
def State.stripeSealUnits (s : State) (p : Plan) (x : BandSet) (j : StripeJob) (ms : List Nat) : StripeJob × State :=
  let q := s.issue (ms.map fun m => (545 + 4 * p.cipher.val, cipherJob 1 x.u (s.unitSlot j m) (j.bufs.getD m 0)))
  ({ j with stage := 2, ops := q.1 }, q.2)

/-- Step 8 (R30, R278): the member writes go to their arms; a member whose arm is not ACTIVE is left out. -/
def State.stripeWrites (s : State) (x : BandSet) (j : StripeJob) : StripeJob × State :=
  let r := (List.range (x.k + x.m)).foldl (fun (t : List MemberWrite × State) m =>
    let o := t.2.bandOps 2 0 (x.members.getD m 0) (j.slot * x.u) x.u (j.bufs.getD m 0)
    let q := o.2.issue o.1
    (t.1 ++ [{ j := m, ops := q.1 }], q.2)) ([], s)
  ({ j with stage := 4, writes := r.1 }, r.2)

/-- Member `m` of a slot could not be written (R278): it and the slots of its band set not yet written for that member are
DEGRADED, the band set takes no further INTENT, and its other members are closed as written. -/
def State.degrade (s : State) (j : StripeJob) (x : BandSet) (m : Nat) : State :=
  let slots := (s.red.open_.filter fun p => p.1 == j.bsid).map Prod.snd
  let s := slots.foldl (fun s i =>
    let r : JRec := { ty := 4, layout := x.layout, bsid := j.bsid, slot := i, missing := 2 ^ m }
    let t := s.record r
    t.setRed { t.red with degraded := t.red.degraded ++ [r] }) s
  let s := s.sealStripe j.bsid
  let s := match s.bandSet j.bsid with
    | some y => (s.setBandSet j.bsid { y with state := if y.state = 1 then 2 else y.state })
    | none => s
  ((List.range x.members.length).filter (· ≠ m)).foldl (fun s i =>
    let b := x.members.getD i 0
    if s.red.open_.any fun p => p.1 == j.bsid && p.2 != j.slot then s
    else s.updMember j.bsid b closeEntry) s

/-- The unit's sectors from its band's WP on are written again (R126, R259). -/
def State.writeAgain (s : State) (x : BandSet) (j : StripeJob) (m : Nat) : MemberWrite × State :=
  let b := x.members.getD m 0
  let first := max (j.slot * x.u) (match s.btLine b with | some l => btWp l.bytes | none => 0)
  let o := s.bandOps 2 0 b first ((j.slot + 1) * x.u - first) (j.bufs.getD m 0 + (first - j.slot * x.u) * 4160)
  let q := o.2.issue o.1
  ({ j := m, ops := q.1, again := true }, q.2)

/-- The member writes of a stripe come back (R278): a short one is written again from FIRSTBAD once; one that cannot be made
good, or whose arm has left ACTIVE, is DEGRADED; DONE is recorded once all are good. -/
def State.stripeBack (s : State) (x : BandSet) (j : StripeJob) : Option StripeJob × State :=
  let r := j.writes.foldl (fun (t : List MemberWrite × State) w =>
    let active := t.2.rd (PRZ_ARM_STATE (hportSlice (x.members.getD w.j 0 / 2 ^ 15))) == armActive
    if ! t.2.allBack w.ops then (t.1 ++ [w], t.2)
    else if ! w.ops.isEmpty && t.2.allGood w.ops (· == 0) then (t.1, t.2.forget w.ops)
    else if active && ! w.again && ! w.ops.isEmpty then
      let q := (t.2.forget w.ops).writeAgain x j w.j
      (t.1 ++ [q.1], q.2)
    else (t.1, (t.2.forget w.ops).degrade j x w.j)) ([], s)
  if ! r.1.isEmpty then (some { j with writes := r.1 }, r.2)
  else
    let bad := r.2.red.degraded.any fun q => q.bsid == j.bsid && q.slot == j.slot
    (none, if bad then r.2 else r.2.slotDone j.bsid j.slot)

/-- A sealed stripe goes one step on, where what it waits for has come: `first` says that no earlier slot of its band set still
waits to be written. -/
def State.stepStripe (s : State) (p : Plan) (first : Bool) (j : StripeJob) : Option StripeJob × State :=
  match s.bandSet j.bsid with
  | none => (none, s)
  | some x =>
    let keep (r : StripeJob × State) : Option StripeJob × State := (some r.1, r.2)
    if j.stage = 0 then keep (s.stripeEncode p x j)
    else if j.stage = 1 then
      if ! s.allBack j.ops then (some j, s)
      else if s.allGood j.ops (· == 0) then keep ((s.forget j.ops).stripeSealUnits p x j (List.range (x.k + x.m)))
      else (some { j with stage := 0, ops := [] }, s.forget j.ops)
    else if j.stage = 2 then
      if s.allBack j.ops && s.allGood j.ops (· == 0) then (some { j with stage := 3, ops := [] }, s.forget j.ops) else (some j, s)
    else if j.stage = 3 then
      if first && s.red.ready.contains (j.bsid, j.slot) then keep (s.stripeWrites x j) else (some j, s)
    else s.stripeBack x j

/-- The sealed stripes of a band set go on, each by one step. -/
def State.stepStripes (s : State) (p : Plan) (bsid : Nat) : State :=
  (s.red.stripes.filter fun j => j.bsid == bsid).foldl (fun s j =>
    let first := ! s.red.stripes.any fun i => i.bsid == bsid && decide (i.slot < j.slot) && decide (i.stage < 4)
    let r := s.stepStripe p first j
    r.2.setRed { r.2.red with stripes := r.2.red.stripes.flatMap fun i =>
      if i.bsid = j.bsid ∧ i.slot = j.slot then r.1.toList else [i] }) s

/-- STRIPE_SEAL (R30, R278, R283): the open stripe of a filling band set is sealed, and its sealed stripes go on to media. -/
def stripeSeal (bsid : BitVec 32) (plan : Plan) (s : State) : State :=
  ((s.pollOps.sealStripe bsid.toNat).stepStripes plan bsid.toNat)

/-- STRIPE_SEAL. -/
def execStripeSeal (bsid : BitVec 32) (plan : Plan) (s : State) : Result := clocked s (stripeSeal bsid plan s)

/-! ### Fetching units from media (R33, R34, R287, R299) -/

/-- Member `j` of a band set is missing: its arm is FAILED or its surface retired (R297), or its HDA was exchanged (R576). -/
def State.memberMissing (s : State) (bsid : Nat) (x : BandSet) (j : Nat) : Bool :=
  let p := x.members.getD j 0 / 2 ^ 15
  s.rd (PRZ_ARM_STATE (hportSlice p)) == armFailed || s.isRetired p || s.red.gone.contains (bsid, j)

/-- A member's arm cannot serve now (R287, R294). -/
def State.memberAway (s : State) (bsid : Nat) (x : BandSet) (j : Nat) : Bool :=
  s.memberMissing bsid x j || s.rd (PRZ_ARM_STATE (hportSlice (x.members.getD j 0 / 2 ^ 15))) != armActive

/-- The layout address of the first byte of a unit (R267). -/
def unitAddr (x : BandSet) (bsid slot j : Nat) : Nat := bsSlotAddr x bsid slot + j * x.u * 4096

/-- The object, by tenant and ID, whose data a unit holds. -/
def State.unitObject (s : State) (x : BandSet) (bsid slot j : Nat) : Option Nat :=
  let a := unitAddr x bsid slot j
  (s.red.extents.find? fun e => decide (e.addr < a + x.u * 4096) && decide (a < e.addr + e.len)).bind fun e =>
    (s.host.objKeys.find? fun p => p.1 % 2 ^ 128 == e.obj.toNat).map Prod.fst

/-- The key that a unit is opened and sealed under (R378): KPAR for parity and for units without object data. -/
def State.pieceKey (s : State) (p : Plan) (x : BandSet) (bsid slot j : Nat) : KeyAnswer × State :=
  if x.k ≤ j then (.ready 1, s)
  else match s.unitObject x bsid slot j with
    | none => (.ready 1, s)
    | some key => s.needKey p key

/-- READ operations for a piece (R33, step 2), once its key is at hand. -/
def State.readPieceOps (s : State) (p : Plan) (cls : Nat) (x : BandSet) (q : Piece) : Piece × State :=
  if s.memberAway q.bsid x q.j then ({ q with stage := 4 }, s)
  else match s.pieceKey p x q.bsid q.slot q.j with
    | (.waits, s) => (q, s)
    | (.fails _, s) => ({ q with stage := 4 }, s)
    | (.ready _, s) =>
      let o := s.bandOps 1 cls (x.members.getD q.j 0) (q.slot * x.u + q.row) q.rows q.buf
      if o.1.isEmpty then ({ q with stage := 4 }, o.2)
      else
        let r := o.2.issue o.1
        ({ q with stage := 1, ops := r.1 }, r.2)

/-- OPEN jobs for a piece (R33, step 5): one, or one a sector after a job in which more than one tag failed. -/
def State.openPiece (s : State) (p : Plan) (x : BandSet) (q : Piece) : Piece × State :=
  match s.pieceKey p x q.bsid q.slot q.j with
  | (.ready slot, s) =>
    let l := if q.single then (List.range q.rows).map fun i => cipherJob 2 1 slot (q.buf + 4160 * i) else [cipherJob 2 q.rows slot q.buf]
    let r := s.issue (l.map fun e => (545 + 4 * p.cipher.val, e))
    ({ q with stage := 2, ops := r.1 }, r.2)
  | (_, s) => ({ q with stage := 4 }, s)

/-- A sector whose tag failed is marked as erased (R287). -/
def State.markBad (s : State) (q : Piece) (i : Nat) : Piece × State :=
  ({ q with bad := q.bad ++ [q.row + i] }, (s.busWrite false (q.buf + 4160 * i + 4112) (leBytes 4 0xFFFFFFFF)).2)

/-- The OPEN jobs of a piece have ended. A whole piece with one failing tag is marked there; with more, its sectors are read
again and opened one by one. -/
def State.pieceOpened (s : State) (p : Plan) (cls : Nat) (x : BandSet) (q : Piece) : Piece × State :=
  let t := s.forget q.ops
  if q.single then
    let r := q.ops.zipIdx.foldl (fun (t : Piece × State) o =>
      match (s.resultOf o.1).map resultStatus with
      | some 0 => t
      | _ => t.2.markBad t.1 o.2) (q, t)
    ({ r.1 with stage := 3, ops := [] }, r.2)
  else match s.resultOf (q.ops.headD 0) with
    | none => (q, s)
    | some d =>
      if resultStatus d = csDone then ({ q with stage := 3, ops := [] }, t)
      else if resultStatus d ≠ csTagfail then ({ q with stage := 4, ops := [] }, t)
      else if (d.extractLsb' 80 16).toNat = 1 then
        let r := t.markBad q (d.extractLsb' 96 16).toNat
        ({ r.1 with stage := 3, ops := [] }, r.2)
      else t.readPieceOps p cls x { q with stage := 0, ops := [], single := true }

/-- A piece goes one step on, where what it waits for has come. Unreadable sectors of a READ come marked (R134). -/
def State.stepPiece (s : State) (p : Plan) (cls : Nat) (q : Piece) : Piece × State :=
  match s.bandSet q.bsid with
  | none => ({ q with stage := 4 }, s)
  | some x =>
    if q.stage = 0 then s.readPieceOps p cls x q
    else if q.stage = 1 then
      if ! s.allBack q.ops then (q, s)
      else if s.allGood q.ops fun st => st == 0 || st == 1 || st == 0x20 || st == 0x21 then (s.forget q.ops).openPiece p x q
      else ({ q with stage := 4, ops := [] }, s.forget q.ops)
    else if q.stage = 2 then (if s.allBack q.ops then s.pieceOpened p cls x q else (q, s))
    else (q, s)

/-- A piece that stands for a whole unit at its place in a pool of unit buffers. -/
def wholePiece (x : BandSet) (bsid slot pool j : Nat) : Piece :=
  { bsid := bsid, slot := slot, j := j, row := 0, rows := x.u, buf := pool + j * x.u * 4160 }

/-- The other members' pieces for a reconstruction, arms with the shortest queues first (R299). -/
def State.otherPieces (s : State) (x : BandSet) (q : Piece) (pool : Nat) : List Piece :=
  let load (i : Nat) : Nat :=
    let k := hportSlice (x.members.getD i 0 / 2 ^ 15)
    (s.lp k).entries.length + (s.schedS k).queue.length
  (((List.range (x.k + x.m)).filter (· ≠ q.j)).foldl (fun l i => insertKey (load i, i) l) []).map fun i => wholePiece x q.bsid q.slot pool i.2

/-- A piece is under way or plain. -/
def pieceLive (q : Piece) : Bool := decide (1 ≤ q.stage) && decide (q.stage ≤ 3)

/-- The pieces go on; more are begun, in member order, until `need` are under way or plain. -/
def State.stepPieces (s : State) (p : Plan) (cls need : Nat) : List Piece → Nat → List Piece × State
  | [], _ => ([], s)
  | q :: l, n =>
    let r := if q.stage = 0 ∧ need ≤ n then (q, s) else s.stepPiece p cls q
    let t := r.2.stepPieces p cls need l (if pieceLive r.1 then n + 1 else n)
    (r.1 :: t.1, t.2)

/-- Rows of a reconstructed unit that the engine marked as lost (R287). -/
def State.lostRowsAt (s : State) (buf u : Nat) : List Nat × State :=
  (List.range u).foldl (fun (t : List Nat × State) i =>
    match t.2.busRead false (buf + 4160 * i + 4112) 4 with
    | (some b, s) => (if leNat b = 0xFFFFFFFF then t.1 ++ [i] else t.1, s)
    | (none, s) => (t.1, s)) ([], s)

/-- RECONSTRUCT for a unit (R33, step 6; R299): from the plain pieces, the rest in AVOID. `band` is what FILLMETA names. -/
def State.reconstruct (s : State) (p : Plan) (x : BandSet) (f : UnitFetch) (fill : Bool) (band : Nat) : UnitFetch × State :=
  let q := f.want
  let avoid := (f.others.filter fun o => o.stage != 3).foldl (fun n o => n + 2 ^ o.j) 0
  let bufs := (List.range (x.k + x.m)).map fun i => f.pool + i * x.u * 4160
  let members := (x.members.zipIdx.map fun b => (if b.2 = q.j then band else b.1, q.slot * x.u))
  let w := s.busWrite false p.desc.toNat (descBytes bufs members q.bsid (s.rd PRZ_LEPOCH_EPOCH % 65536))
  if w.1.isSome then (f, w.2)
  else
    let r := w.2.issue [(513 + 4 * p.prism.val, prismEntry 2 x fill (2 ^ q.j) avoid p.desc.toNat)]
    ({ f with job := r.1.head? }, r.2)

/-- A reconstruction job has ended: the unit is had; where rows are lost and survivors are still unread, they are read and the
job runs again; otherwise those rows are lost (R299). -/
def State.reconstructed (s : State) (x : BandSet) (f : UnitFetch) (id : Nat) (d : BitVec 256) : UnitFetch × State :=
  let s := s.forget [id]
  let st := resultStatus d
  if st = 0 then ({ f with stage := 2, job := none }, s)
  else if st ≠ 1 then ({ f with job := none }, s)
  else if f.others.any fun o => o.stage == 0 then ({ f with job := none, all := true }, s)
  else
    let l := s.lostRowsAt (f.pool + f.want.j * x.u * 4160) x.u
    ({ f with stage := 2, job := none, lost := l.1 }, l.2)

/-- A fetch from the other members goes on (R34, R299): lost where fewer than k can be had, or not to be had now where an arm
that is not FAILED stands out. -/
def State.stepOthers (s : State) (p : Plan) (cls : Nat) (x : BandSet) (f : UnitFetch) (fill : Bool) (band : Nat) : UnitFetch × State :=
  match f.job with
  | some id =>
    match s.resultOf id with
    | none => (f, s)
    | some d => s.reconstructed x f id d
  | none =>
    let r := s.stepPieces p cls (if f.all then x.k + x.m else x.k) f.others 0
    let f := { f with others := r.1 }
    let plain := (f.others.filter fun o => o.stage == 3).length
    if f.others.any (fun o => o.stage == 1 || o.stage == 2) then (f, r.2)
    else if x.k ≤ plain then r.2.reconstruct p x f fill band
    else if f.others.any fun o => o.stage == 0 then (f, r.2)
    else ({ f with stage := if f.others.any (fun o => o.stage == 4 && ! r.2.memberMissing o.bsid x o.j) then 4 else 3 }, r.2)

/-- A fetch goes on. A unit that its own member cannot give whole, unreadable or failing its tag, is an erasure and comes from
the others (R34). -/
def State.stepFetch (s : State) (p : Plan) (cls : Nat) (f : UnitFetch) : UnitFetch × State :=
  match s.bandSet f.want.bsid with
  | none => ({ f with stage := 3 }, s)
  | some x =>
    if f.stage = 0 then
      let r := s.stepPiece p cls f.want
      if r.1.stage = 3 ∧ r.1.bad = [] then ({ f with want := r.1, stage := 2 }, r.2)
      else if r.1.stage = 3 ∨ r.1.stage = 4 then ({ f with want := r.1, stage := 1, others := r.2.otherPieces x r.1 f.pool }, r.2)
      else ({ f with want := r.1 }, r.2)
    else if f.stage = 1 then s.stepOthers p cls x f false (x.members.getD f.want.j 0)
    else (f, s)

/-- Fetches go on, each by one step. -/
def State.stepFetches (s : State) (p : Plan) (cls : Nat) (l : List UnitFetch) : List UnitFetch × State :=
  l.foldl (fun (t : List UnitFetch × State) f =>
    let r := t.2.stepFetch p cls f
    (t.1 ++ [r.1], r.2)) ([], s)

/-- A fetch has ended. -/
def fetchOver (f : UnitFetch) : Bool := decide (2 ≤ f.stage)

/-- A wanted row of a fetch is lost, or the whole unit. -/
def fetchFails (f : UnitFetch) : Bool :=
  f.stage == 3 || f.stage == 4 || f.lost.any fun i => decide (f.want.row ≤ i) && decide (i < f.want.row + f.want.rows)

/-- Where the wanted sectors of a fetch stand once it is had. -/
def fetchBuf (x : BandSet) (f : UnitFetch) : Nat :=
  if f.others.isEmpty then f.want.buf else f.pool + (f.want.j * x.u + f.want.row) * 4160

/-- A slot's data still stands in DRAM (R35): its stripe is open, or not all of its member writes are done. -/
def State.slotInDram (s : State) (x : BandSet) (bsid slot : Nat) : Bool :=
  (slot == x.next && s.red.opened.any fun p => p.1 == bsid) || s.red.open_.contains (bsid, slot)

/-- The fetches that a range of an extent needs, with buffers from `pool` on: none for what still stands in DRAM (R35). -/
def State.fetchesFor (s : State) (e : Extent) (lo hi pool : Nat) : List UnitFetch :=
  match s.bandSet (e.addr / 2 ^ 33) with
  | none => []
  | some x =>
    let b := e.addr / 2 ^ 33
    let lo := max lo e.off
    let hi := min hi (e.off + e.len)
    let size := (x.k + x.m + 1) * x.u * 4160
    (((unitPieces x b (e.addr + (lo - e.off)) ((hi - lo) / 4096 + 2) 0 (hi - lo)).filter fun q => ! s.slotInDram x b q.1).zipIdx).map fun q =>
      { want := { bsid := b, slot := q.1.1, j := q.1.2.1, row := q.1.2.2.1, rows := q.1.2.2.2.1, buf := pool + q.2 * size }
        off := lo + q.1.2.2.2.2.1, len := q.1.2.2.2.2.2, pool := pool + q.2 * size + x.u * 4160 }

/-! ### Probation (R296) -/

/-- A class-2 VERIFY of landing-zone sectors of a surface (R252, R296). -/
def State.lzVerify (s : State) (p sector count : Nat) : Entry :=
  let k := hportSlice p
  let t0 := s.rd (CS_SCH_LZ_T0 k)
  let spt := max 1 (s.rd (CS_ZONE2_SPT k (hportHead p) ((s.zoneOf k (hportHead p) t0).getD 0)))
  mkEntry [(64, 4, 3), (68, 4, 2), (75, 1, 1), (80, 10, p), (96, 24, t0 + s.rd (CS_SCH_LZ_STEP k) * (8 + sector / spt)),
    (120, 12, sector % spt), (136, 12, count), (152, 32, 2 ^ 31 + p * 2 ^ 15), (184, 32, sector)]

/-- Written bands of an arm, with their WP. -/
def State.writtenBands (s : State) (k : Nat) : List (Nat × Nat) :=
  ((s.red.sets.flatMap fun p => p.2.members).filter fun b => hportSlice (b / 2 ^ 15) == k).filterMap fun b =>
    match s.btLine b with
    | some l => if 0 < btWp l.bytes then some (b, btWp l.bytes) else none
    | none => none

/-- The VERIFYs of written band sectors: the `n` first of an even spread over the arm's written bands. -/
def State.bandVerifies (s : State) (k n : Nat) : List (Nat × Entry) :=
  let l := s.writtenBands k
  if l.isEmpty then []
  else (List.range n).flatMap fun i =>
    let b := l.getD (i % l.length) (0, 1)
    (s.bandOps 3 2 b.1 (i / l.length * 4096 % max 1 b.2) 1 0).1

/-- PROBATION (R296, R573): PRZ_PROB.DELAY after SUSPECT, with the bay attached and the arm's slice and bay domains ON, the arm
enters PROBATION and the test begins with its VERIFYs: the headers of its active surfaces, then band sectors. -/
def probation (k : Slice) (s : State) : State :=
  if s.rd (PRZ_ARM_STATE k) ≠ armSuspect ∨ ¬ s.on (BL_CTL_ATTACHED (bayOf k)) ∨ s.dom k ≠ 2 ∨ s.dom (64 + bayOf k) ≠ 2 then s
  else
    let s := s.changeArms [k] (fun _ => true) armProbation
    let s := (s.setRed { s.red with probAt := smPut s.red.probAt k (s.now :: smGet [] s.red.probAt k) }).showProbs k
    let hs := ((s.surfacesOf (bayOf k)).filter fun p => hportSlice p == k.val).map fun p => (k.val, s.lzVerify p 0 1)
    let n := s.rd PRZ_PROB_N
    let r := s.issue ((hs ++ s.bandVerifies k (n - hs.length)).take n)
    r.2.setRed { r.2.red with probations := smPut r.2.red.probations k { since := s.now, ops := r.1 } }

/-- PROBATION. -/
def execProbation (k : Slice) (s : State) : Result := clocked s (probation k s)

/-- A probation test has ended. -/
def State.endProbation (s : State) (k : Nat) (ok : Bool) : State :=
  let s := s.setRed { s.red with probations := smErase s.red.probations k }
  if ok then s.changeArms [k] (fun _ => true) armActive else s.failArms [k]

/-- PROBATION_RESULT (R296): the test goes on as its operations come back, and the arm is ACTIVE once all ended with 0x0000 or
0x0001 within PTMO, else FAILED. `wrote` says whether the 64 sectors at the end of the FLUSH area were written good. -/
def probationResult (k : Slice) (wrote : Bool) (s : State) : State :=
  let s := s.pollOps
  match s.red.probations.find? fun p => p.1 == k.val with
  | none => s
  | some (_, t) =>
    if s.rd (PRZ_ARM_STATE k) ≠ armProbation then s.setRed { s.red with probations := smErase s.red.probations k }
    else if t.since + s.rd PRZ_PROB_PTMO * 1000000 < s.now then s.endProbation k false
    else if ! s.allBack t.ops then s
    else if ! s.allGood t.ops (fun st => st == 0 || st == 1) then (s.forget t.ops).endProbation k false
    else
      let s := s.forget t.ops
      let put (s : State) (x : Probation) : State := s.setRed { s.red with probations := smPut s.red.probations k x }
      match (s.surfacesOf (bayOf k)).find? fun p => hportSlice p == k.val with
      | none => s.endProbation k false
      | some p =>
        let first := s.lzSect k - 64
        if t.stage = 0 then put (s.emit (.landingRun p first 64 3)) { t with ops := [], stage := 1 }
        else if t.stage = 1 then
          if ! wrote then s.endProbation k false
          else
            let r := s.issue [(k.val, s.lzVerify p first 64)]
            put r.2 { t with ops := r.1, stage := 2 }
        else s.endProbation k true

/-- PROBATION_RESULT. -/
def execProbationResult (k : Slice) (wrote : Bool) (s : State) : Result := clocked s (probationResult k wrote s)

/-! ### Rebuild (R297 to R301) -/

/-- The bays a replacement may lie on (R298). -/
def State.replaceOk (s : State) (bsid : Nat) (x : BandSet) (b : Nat) : Bool :=
  let surviving := ((List.range x.members.length).filter fun j => ! s.memberMissing bsid x j).map fun j => hportBay (x.members.getD j 0 / 2 ^ 15)
  let others := (s.red.replace.filter fun p => p.1 / 64 == bsid).map fun p => hportBay (p.2 / 2 ^ 15)
  (s.armFree (2 * b) || s.armFree (2 * b + 1)) && ! surviving.contains b && ! others.contains b

/-- Choose and open a replacement band for member `j` (R298). -/
def State.replaceMember (s : State) (bsid j : Nat) (x : BandSet) : State :=
  match s.rankBays x.layout (2 ^ 63 + bsid) (s.replaceOk bsid x) with
  | [] => s
  | (key, b) :: _ =>
    match s.takeBand (s.drawArm key b) with
    | none => s
    | some (band, s) =>
      let s := s.openBand bsid band
      s.setRed { s.red with replace := smPut s.red.replace (bsid * 64 + j) band }

/-- The replacement is member `j` (R299): DELTA and EPOCH records, and the old band becomes UNUSABLE. -/
def State.installMember (s : State) (bsid j band : Nat) (x : BandSet) : State :=
  let old := x.members.getD j 0
  let s := s.setBandSet bsid { x with members := x.members.set j band }
  let s := (s.delta (.set bsid (s.bandSet bsid))).raiseEpoch none
  let s := s.updMember bsid old fun e => setBtState e bandUnusable
  s.setRed { s.red with
    replace := smErase s.red.replace (bsid * 64 + j), rebuilds := smErase s.red.rebuilds (bsid * 64 + j)
    gone := s.red.gone.filter (· ≠ (bsid, j)) }

/-- The WP of a band that is cached. -/
def State.wpOf (s : State) (band : Nat) : Nat := match s.btLine band with | some l => btWp l.bytes | none => 65536

/-- The object ranges whose data lay in lost rows of data member `j` (R300). -/
def State.rangesIn (s : State) (x : BandSet) (bsid slot j : Nat) (rows : List Nat) : List LostRange :=
  if x.k ≤ j then []
  else rows.flatMap fun i =>
    let a := unitAddr x bsid slot j + 4096 * i
    (s.red.extents.filter fun e => decide (e.addr < a + 4096) && decide (a < e.addr + e.len)).map fun e =>
      let lo := max a e.addr
      { obj := e.obj, off := e.off + (lo - e.addr), len := min (a + 4096) (e.addr + e.len) - lo, bsid := bsid }

/-- A range is lost in its object's index (R300). -/
def State.markLost (s : State) (r : LostRange) : State :=
  { s with host := { s.host with objects := s.host.objects.map fun p =>
    if p.1 % 2 ^ 128 = r.obj.toNat then (p.1, { p.2 with lost := p.2.lost ++ [(r.off, r.off + r.len)] }) else p } }

/-- Rows of a slot are lost (R300): LOST, the ranges in their objects' indices, the rebuild report and an event. -/
def State.loseRows (s : State) (x : BandSet) (bsid slot j : Nat) (rows : List Nat) : State :=
  if rows.isEmpty then s
  else
    let l := s.rangesIn x bsid slot j rows
    let s := s.record { ty := 5, layout := x.layout, bsid := bsid, slot := slot, missing := 2 ^ j, row0 := rows.headD 0, rows := rows.length }
    let s := l.foldl (fun s r => s.markLost r) s
    (s.setRed { s.red with report := s.red.report ++ l }).eventWith 0 .rebuild 8 bsid [bsid, slot, l.length]

/-- Rebuild operations run in class 0 where the band set has no redundancy left, else in class 2 (R297). -/
def State.rebuildClass (s : State) (bsid : Nat) (x : BandSet) : Nat :=
  if x.m ≤ ((List.range x.members.length).filter fun j => s.memberMissing bsid x j).length then 0 else 2

/-- The metadata that policy adds to a rebuilt unit (R286, R299, R300, R379): a fresh WSEQ, OBJ and ADDR of data sectors, and
lost-row placeholders whole. -/
def State.rebuiltMeta (s : State) (x : BandSet) (f : UnitFetch) (band wseq : Nat) : List (Nat × List Byte) :=
  let q := f.want
  let buf := f.pool + q.j * x.u * 4160
  let key := s.unitObject x q.bsid q.slot q.j
  let ext := s.red.extents
  (List.range x.u).flatMap fun i =>
    let a := buf + 4160 * i
    let la := unitAddr x q.bsid q.slot q.j + 4096 * i
    let addr := match ext.find? fun e => decide (e.addr < la + 4096) && decide (la < e.addr + e.len) with
      | some e => e.off + la - e.addr
      | none => 0
    if f.lost.contains i then
      [(a, List.replicate 4112 0 ++ metaBytes band (q.slot * x.u + i) 0 0 q.bsid (7 * 32 + q.j) (s.rd PRZ_LEPOCH_EPOCH % 65536) wseq)]
    else if q.j < x.k then
      [(a + 4120, leBytes 16 (key.getD 0 % 2 ^ 128) ++ leBytes 8 addr), (a + 4152, leBytes 8 wseq)]
    else [(a + 4152, leBytes 8 wseq)]

/-- A rebuilt unit is sealed (R299, R378): placeholders under KPAR, sectors one by one where there are any. -/
def State.rebuildSeal (s : State) (p : Plan) (x : BandSet) (f : UnitFetch) (band : Nat) : Option (List Nat) × State :=
  match s.pieceKey p x f.want.bsid f.want.slot f.want.j with
  | (.ready slot, s) =>
    let w := s.drawWseq.getD (0, s)
    let r := w.2.putPieces (w.2.rebuiltMeta x f band w.1)
    let buf := f.pool + f.want.j * x.u * 4160
    if ! r.1 then (none, r.2)
    else
      let l := if f.lost.isEmpty then [cipherJob 1 x.u slot buf]
        else (List.range x.u).map fun i => cipherJob 1 1 (if f.lost.contains i then 1 else slot) (buf + 4160 * i)
      let o := r.2.issue (l.map fun e => (545 + 4 * p.cipher.val, e))
      (some o.1, o.2)
  | (_, s) => (none, s)

/-- One slot of a rebuild goes on (R299): fetch from the survivors, seal, write; none once it is written. -/
def State.stepRebuild (s : State) (p : Plan) (x : BandSet) (band : Nat) (r : RebuildJob) : Option RebuildJob × State :=
  let f := r.fetch
  let q := f.want
  let cls := s.rebuildClass q.bsid x
  if r.stage = 0 then
    let t := if f.stage = 1 then s.stepOthers p cls x f true band else (f, s)
    let f := t.1
    let s := t.2
    if f.stage = 1 then (some { r with fetch := f }, s)
    else
      let f := if f.stage = 2 then f else { f with stage := 2, lost := List.range x.u }
      let s := s.loseRows x q.bsid q.slot q.j f.lost
      let bad := ! f.lost.isEmpty || f.others.any fun o => ! o.bad.isEmpty
      let s := if bad then s.setRed { s.red with relocate := s.red.relocate ++ [(q.bsid, q.slot)] } else s
      (some { r with fetch := f, stage := 1 }, s)
  else if r.stage = 1 then
    if r.ops.isEmpty then
      match s.rebuildSeal p x f band with
      | (none, s) => (some r, s)
      | (some ids, s) => (some { r with ops := ids }, s)
    else if s.allBack r.ops && s.allGood r.ops (· == 0) then
      let o := (s.forget r.ops).bandOps 2 cls band (q.slot * x.u) x.u (f.pool + q.j * x.u * 4160)
      let i := o.2.issue o.1
      (some { r with stage := 2, ops := i.1 }, i.2)
    else (some r, s)
  else if s.allBack r.ops then (none, s.forget r.ops)
  else (some r, s)

/-- Another band set comes first (R297): it misses more members, or as many and has the lower BSID, and its rebuild can go on. -/
def State.othersFirst (s : State) (bsid : Nat) (x : BandSet) : Bool :=
  let missing (b : Nat) (y : BandSet) : List Nat := (List.range y.members.length).filter fun j => s.memberMissing b y j
  let c := (missing bsid x).length
  s.red.sets.any fun p =>
    let l := missing p.1 p.2
    (decide (c < l.length) || (c == l.length && decide (p.1 < bsid)))
      && l.any fun j => s.red.replace.any (fun q => q.1 == p.1 * 64 + j) || (List.range s.bayCount).any (s.replaceOk p.1 p.2)

/-- A slot of member `j` goes on to be rebuilt onto `band`: none once it is written. -/
def State.rebuildSlot (s : State) (p : Plan) (b j slot band : Nat) (x : BandSet) : Bool × State :=
  let q := wholePiece x b slot p.pool.toNat j
  let fresh : RebuildJob := { fetch := { want := q, pool := p.pool.toNat, others := s.otherPieces x q p.pool.toNat, stage := 1 } }
  let r := s.stepRebuild p x band (((s.red.rebuilds.find? fun p => p.1 == b * 64 + j).map Prod.snd).getD fresh)
  (r.1.isNone, r.2.setRed { r.2.red with rebuilds := match r.1 with
    | none => smErase r.2.red.rebuilds (b * 64 + j)
    | some v => smPut r.2.red.rebuilds (b * 64 + j) v })

/-- The lowest DEGRADED slot of a member whose arm is back is reconstructed and written to its band, and DONE is recorded (R296). -/
def State.repairSlot (s : State) (p : Plan) (b j : Nat) (x : BandSet) : State :=
  match (s.red.degraded.filter fun r => r.bsid == b && r.missing.testBit j).map (fun r => r.slot) with
  | [] => s
  | i :: l =>
    if s.memberAway b x j then s
    else
      let slot := l.foldl min i
      let r := s.rebuildSlot p b j slot (x.members.getD j 0) x
      if ! r.1 then r.2
      else
        let t := r.2.setRed { r.2.red with degraded := r.2.red.degraded.filter fun r => ! (r.bsid == b && r.slot == slot && r.missing == 2 ^ j) }
        if t.red.degraded.any fun r => r.bsid == b && r.slot == slot then t else t.slotDone b slot

/-- The bytes of a band set's data capacity (R267). -/
def bsCapacity (x : BandSet) : Nat := x.k * 65536 * 4096

/-- Free bands of an arm. -/
def State.freeOnArm (s : State) (k : Nat) : Nat :=
  (s.red.free.filter fun p => hportSlice p.1 == k).foldl (fun t p => t + p.2.length) 0

/-- A sealed band set is a compaction candidate (R269): below COMPACT_PCT of its capacity, or an arm has fewer than
FREE_MIN free bands. -/
def State.candidate (s : State) (bsid : Nat) (x : BandSet) : Bool :=
  x.state == 2
    && (decide (s.liveBytes bsid * 100 < s.rd (CFG_PARAM_VALUE 14) * (bsCapacity x))
      || (List.range (2 * s.bayCount)).any fun k => s.rd (PRZ_ARM_STATE k) == armActive && decide (s.freeOnArm k < s.rd (CFG_PARAM_VALUE 15)))

/-- A member of a band set is missing. -/
def State.anyMissing (s : State) (bsid : Nat) (x : BandSet) : Bool := (List.range x.members.length).any fun j => s.memberMissing bsid x j

/-- A band set with a missing member is rebuilt by compaction, in place of R299 (R301): its live bytes are below REB_COMPACT. -/
def State.rebuiltByMove (s : State) (bsid : Nat) (x : BandSet) : Bool :=
  decide (2 ≤ x.state) && s.anyMissing bsid x && decide (s.liveBytes bsid * 100 < min 90 (s.rd PRZ_REB_REB_COMPACT) * (bsCapacity x))

/-- A band set is compacted (R269, R301): as a candidate while it is whole, and in place of a rebuild. -/
def State.compacts (s : State) (bsid : Nat) (x : BandSet) : Bool :=
  if s.anyMissing bsid x then s.rebuiltByMove bsid x else s.candidate bsid x || x.state == 3

/-- REBUILD (R296 to R301): one slot of a missing member band is rebuilt onto its replacement, which is chosen first where there
is none yet, and again where its arm has failed (R301); after the last written slot the replacement becomes the member. A member
whose arm is back has its DEGRADED slots written. -/
def rebuild (bsid : BitVec 32) (member : Fin 32) (plan : Plan) (s : State) : State :=
  let s := s.pollOps
  let b := bsid.toNat
  let j := member.val
  match s.bandSet b with
  | none => s
  | some x =>
    if x.members.length ≤ j then s
    else if ¬ s.memberMissing b x j then s.repairSlot plan b j x
    else if s.othersFirst b x ∨ s.rebuiltByMove b x then s
    else match s.red.replace.find? fun p => p.1 == b * 64 + j with
      | none => s.replaceMember b j x
      | some (_, band) =>
        if s.rd (PRZ_ARM_STATE (hportSlice (band / 2 ^ 15))) = armFailed then
          s.setRed { s.red with replace := smErase s.red.replace (b * 64 + j), rebuilds := smErase s.red.rebuilds (b * 64 + j) }
        else
          let slot := s.wpOf band / max 1 x.u
          if x.next ≤ slot then s.installMember b j band x else (s.rebuildSlot plan b j slot band x).2

/-- REBUILD. -/
def execRebuild (bsid : BitVec 32) (member : Fin 32) (plan : Plan) (s : State) : Result := clocked s (rebuild bsid member plan s)

/-! ### Compaction, rewriting of slots and reshape (R269, R270, R292, R302) -/

/-- Band sets awaiting release: their bands become FREE only after a checkpoint that no longer refers to them (R270). -/
def State.releaseSet (s : State) (bsid : Nat) (x : BandSet) : State :=
  let s := s.delta (.set bsid none)
  s.setRed { s.red with
    sets := smErase s.red.sets bsid, gone := s.red.gone.filter fun p => p.1 != bsid
    releasing := s.red.releasing ++ ((x.members.zipIdx.filter fun m => ! s.red.gone.contains (bsid, m.2)).map Prod.fst)
    relocate := s.red.relocate.filter fun p => p.1 != bsid }

/-- A move of extents begins (R269): the fetches of each, in class 3, with buffers from `pool` on. -/
def State.startMove (s : State) (bsid pool : Nat) (l : List Extent) : State :=
  let parts := (l.foldl (fun (t : Nat × List (Extent × List UnitFetch)) e =>
    let fs := s.fetchesFor e e.off (e.off + e.len) t.1
    (t.1 + fs.length * 33 * 1024 * 4160, t.2 ++ [(e, fs)])) (pool, [])).2
  s.setRed { s.red with moves := smPut s.red.moves bsid { parts := parts } }

/-- The bytes of an extent, from the object's contents: what its fetches found is that (R378), or it stands in DRAM (R35). -/
def State.extentData (s : State) (e : Extent) : Nat × List Byte :=
  match s.host.objects.find? fun p => p.1 % 2 ^ 128 == e.obj.toNat with
  | none => (e.obj.toNat, [])
  | some p => (p.1, (List.range e.len).map fun i => smGet 0 p.2.bytes (e.off + i))

/-- The wanted rows that a fetch has not got are lost (R300). -/
def State.loseFetch (s : State) (f : UnitFetch) : State :=
  let q := f.want
  let rows := (List.range q.rows).map (q.row + ·)
  match s.bandSet q.bsid with
  | some x => s.loseRows x q.bsid q.slot q.j (if f.stage = 2 then rows.filter f.lost.contains else rows)
  | none => s

/-- A moved extent is staged in a new stripe and replaces the old one, if the index still holds that one with its generation
(R269, step 4). A part that is lost stays lost and is not moved (R300). -/
def State.moveExtent (s : State) (buf : Nat) (e : Extent) (fs : List UnitFetch) : Option Nat × State :=
  if ! s.red.extents.contains e then (some buf, s)
  else
    let lost := fs.filter fetchFails
    let s := lost.foldl State.loseFetch s
    let d := s.extentData e
    if d.2.isEmpty then (some buf, s)
    else match s.stageData d.1 e.off buf d.2 with
      | (none, s) => (none, s)
      | (some l, s) =>
        let add := (l.foldl (fun (t : Nat × List Extent) r =>
          (t.1 + r.len, t.2 ++ [{ obj := e.obj, off := t.1, len := r.len, addr := r.addr, gen := e.gen + 1 }])) (e.off, [])).2
        let s := s.setRed { s.red with extents := s.red.extents.flatMap fun x => if x = e then add else [x] }
        (some (l.foldl (fun t r => t + (r.len / 4096 + 1024) * 4160) buf), s.indexDelta e.obj)

/-- A move goes on (R269): its fetches, then the extents are staged anew; true once it is over. -/
def State.stepMove (s : State) (p : Plan) (bsid : Nat) (m : MoveJob) : Bool × State :=
  let r := m.parts.foldl (fun (t : List (Extent × List UnitFetch) × State) q =>
    let f := t.2.stepFetches p 3 q.2
    (t.1 ++ [(q.1, f.1)], f.2)) ([], s)
  let s := r.2
  if r.1.any fun q => ! q.2.all fetchOver then (false, s.setRed { s.red with moves := smPut s.red.moves bsid { parts := r.1 } })
  else
    let t := r.1.foldl (fun (t : Option Nat × State) q => match t.1 with
      | none => t
      | some buf => t.2.moveExtent buf q.1 q.2) (some p.pool.toNat, s)
    match t.1 with
    | none => (false, t.2.setRed { t.2.red with moves := smPut t.2.red.moves bsid { parts := r.1 } })
    | some _ => (true, (t.2.setRed { t.2.red with moves := smErase t.2.red.moves bsid }).countLive)

/-- A band set is set to compacting and each of its bands to COMPACT (R269, step 1). -/
def State.setCompacting (s : State) (bsid : Nat) (x : BandSet) : State :=
  let y := { x with state := 3 }
  let s := (s.setBandSet bsid y).delta (.set bsid (some y))
  x.members.foldl (fun s b => s.updMember bsid b fun e => if btState e = bandFull then setBtState e bandCompact else e) s

/-- Compact a band set (R269): set it to compacting, move its live extents, and release it after the last. -/
def State.compactSet (s : State) (p : Plan) (bsid : Nat) (x : BandSet) : State :=
  match s.red.moves.find? fun q => q.1 == bsid with
  | none =>
    (if x.state = 3 then s else s.setCompacting bsid x).startMove bsid p.pool.toNat (s.red.extents.filter fun e => e.addr / 2 ^ 33 == bsid)
  | some (_, m) =>
    let r := s.stepMove p bsid m
    if r.1 ∧ x.state = 3 then r.2.releaseSet bsid x else r.2

/-- The extents whose data lies in a slot. -/
def State.extentsIn (s : State) (x : BandSet) (bsid slot : Nat) : List Extent :=
  s.red.extents.filter fun e => decide (e.addr < bsSlotAddr x bsid (slot + 1)) && decide (bsSlotAddr x bsid slot < e.addr + e.len)

/-- The data of slots that are to be written again whole goes to new ones (R260, R292, R299), once no member is missing. -/
def State.relocateSlots (s : State) (p : Plan) (bsid : Nat) (x : BandSet) : State :=
  match s.red.moves.find? fun q => q.1 == bsid with
  | some (_, m) => (s.stepMove p bsid m).2
  | none =>
    let slots := (s.red.relocate.filter fun q => q.1 == bsid).map Prod.snd
    let l := (slots.flatMap fun i => s.extentsIn x bsid i).eraseDups
    let t := s.setRed { s.red with relocate := s.red.relocate.filter fun q => q.1 != bsid }
    if slots.isEmpty then s else t.startMove bsid p.pool.toNat l

/-- The resynchronisation of a slot goes on (R292): all k + m units are read and CHECK runs; a slot with a mismatch or an erased
row is written again. -/
def State.resyncSlot (s : State) (p : Plan) (bsid slot : Nat) (x : BandSet) : State :=
  let key := bsid * 65536 + slot
  let pool := p.pool.toNat
  let c := ((s.red.checks.find? fun q => q.1 == key).map Prod.snd).getD
    ((List.range (x.k + x.m)).map fun j => wholePiece x bsid slot pool j, none)
  let finish (s : State) (again : Bool) : State := s.setRed { s.red with
    checks := smErase s.red.checks key, resync := s.red.resync.filter (· ≠ (bsid, slot))
    relocate := if again then s.red.relocate ++ [(bsid, slot)] else s.red.relocate }
  match c.2 with
  | some id =>
    match s.resultOf id with
    | none => s
    | some d => finish (s.forget [id]) (resultStatus d != 0)
  | none =>
    let r := s.stepPieces p 0 (x.k + x.m) c.1 0
    let s := r.2.setRed { r.2.red with checks := smPut r.2.red.checks key (r.1, none) }
    if r.1.any fun q => decide (q.stage < 3) then s
    else
      let avoid : Nat := (r.1.filter fun q => q.stage == 4).foldl (fun n q => n + 2 ^ q.j) 0
      let bufs := (List.range (x.k + x.m)).map fun i => pool + i * x.u * 4160
      let w := s.busWrite false p.desc.toNat (descBytes bufs (x.members.map fun b => (b, slot * x.u)) bsid (s.rd PRZ_LEPOCH_EPOCH % 65536))
      if avoid ≠ 0 ∨ r.1.any (fun q => ! q.bad.isEmpty) then finish s true
      else if w.1.isSome then w.2
      else
        let o := w.2.issue [(513 + 4 * p.prism.val, prismEntry 3 x false 0 0 p.desc.toNat)]
        o.2.setRed { o.2.red with checks := smPut o.2.red.checks key (r.1, o.1.head?) }

/-- COMPACTION (R269, R270, R292, R299, R301): a band set's slots that await resynchronisation are checked first; then slots to be
written again are; then a candidate is compacted. -/
def compaction (bsid : BitVec 32) (plan : Plan) (s : State) : State :=
  let s := s.pollOps
  let b := bsid.toNat
  match s.bandSet b with
  | none => s
  | some x =>
    match s.red.resync.find? fun q => q.1 == b with
    | some q => s.resyncSlot plan b q.2 x
    | none =>
      if s.compacts b x then s.compactSet plan b x
      else if s.anyMissing b x then s
      else s.relocateSlots plan b x

/-- COMPACTION. -/
def execCompaction (bsid : BitVec 32) (plan : Plan) (s : State) : Result := clocked s (compaction bsid plan s)

/-- A layout's k, m and unit code are within R280. -/
def State.layoutOk (s : State) (k m ucode : Nat) : Bool :=
  decide (2 ≤ k) && decide (k ≤ 28) && decide (1 ≤ m) && decide (m ≤ 4) && decide (k + m ≤ s.bayCount) && decide (ucode ≤ 4)

/-- A change of the layout table that goes on only where the digest it gives is in the allowed set (R302, R544): then the EPOCH record
`item`, the table, and the digest at one instant. -/
def State.changeLayouts (s : State) (item : Delta) (g : State → State) : State :=
  if ! s.digestAllowed (g s).digestNow then s else (g (s.raiseEpoch (some item))).showDigest

/-- RESHAPE (R302, R303): the new layout is written ACTIVE and the old one set DRAINING in one change; band sets of a
DRAINING layout move by compaction once whole; the entry becomes EMPTY after its last band set. -/
def reshape (step : ReshapeStep) (plan : Plan) (s : State) : State :=
  let s := s.pollOps
  match step with
  | .start old new k m ucode seed =>
    if old = new ∨ ¬ s.layoutActive old ∨ s.rd (PRZ_LAYOUT0_STATE new) % 3 ≠ 0 ∨ ¬ s.layoutOk k m ucode ∨ s.activeBays < k + m then s
    else
      s.changeLayouts (.reshape old new k m ucode seed.toNat) fun s =>
        let s := ((s.wr (PRZ_LAYOUT0_K new) k).wr (PRZ_LAYOUT0_M new) m).wr (PRZ_LAYOUT0_UCODE new) ucode
        let s := (s.wr (PRZ_LAYOUT1_SEED new) (seed.toNat % 2 ^ 32)).wr (PRZ_LAYOUT2_SEED new) (seed.toNat / 2 ^ 32)
        let s := (s.wr (PRZ_LAYOUT3_CEPOCH new) (s.rd PRZ_LEPOCH_EPOCH)).wr (PRZ_LAYOUT0_STATE new) 1
        s.wr (PRZ_LAYOUT0_STATE old) 2
  | .move bsid =>
    match s.bandSet bsid.toNat with
    | none => s
    | some x =>
      if s.rd (PRZ_LAYOUT0_STATE x.layout) ≠ 2 ∨ s.anyMissing bsid.toNat x then s
      else s.compactSet plan bsid.toNat x
  | .finish old =>
    if s.rd (PRZ_LAYOUT0_STATE old) ≠ 2 ∨ s.red.sets.any (fun p => p.2.layout == old.val) then s
    else s.changeLayouts (.layoutEmpty old) fun s => s.wr (PRZ_LAYOUT0_STATE old) 0

/-- RESHAPE. -/
def execReshape (step : ReshapeStep) (plan : Plan) (s : State) : Result := clocked s (reshape step plan s)

end Sys2Proof.Machine
end

