-- ==== Sys2Proof/Machine/Objects.lean ====
section
/-! DEFINITION. Sys2Proof/Machine/Objects.lean: the object and management commands (R339 to R362, R388): evaluation, the
effect of each command, and its commit in session order (R322). A command's life is CMD (checks 1 to 5, ticket), then
EVALUATION_POINT (checks 6 to 9, snapshot), then the command's own row (staging and the Ledger for writes, data for reads),
then its commit, at once where its turn has come and by COMMAND_COMMIT otherwise. -/
namespace Sys2Proof.Machine
open Sys2Proof

/-! ### Objects and part sets (R340, R350) -/

/-- An object of a tenant. -/
def State.object (s : State) (t : Nat) (obj : BitVec 128) : Option ObjSt :=
  (s.host.objects.find? fun p => p.1 == objKey t obj).map Prod.snd

/-- Replace or create an object. -/
def State.setObject (s : State) (t : Nat) (obj : BitVec 128) (x : ObjSt) : State :=
  s.setHost { s.host with objects := smPut s.host.objects (objKey t obj) x }

/-- An open part set of an object. -/
def State.partSet (s : State) (t : Nat) (obj : BitVec 128) (id : Word) : Option PartSet :=
  s.host.parts.find? fun p => p.tenant == t && p.obj == obj && p.id == id

/-- Drop part sets of an object: one ID, or all. -/
def State.dropParts (s : State) (t : Nat) (obj : BitVec 128) (id : Option Word) : State :=
  s.setHost { s.host with parts := s.host.parts.filter fun p =>
    ! (p.tenant == t && p.obj == obj && (id.isNone || id == some p.id)) }

/-- Write bytes into contents; bytes that are 0 are not listed. -/
def putContents (m : SMap Byte) (off : Nat) (bs : List Byte) : SMap Byte :=
  bs.zipIdx.foldl (fun m p => smSet 0 m (off + p.2) p.1) m

/-- Bytes of contents. -/
def getContents (m : SMap Byte) (off n : Nat) : List Byte := (List.range n).map fun i => smGet 0 m (off + i)

/-! ### Room for data (R341) -/

/-- New data finds room (check 9 of R341): a band set is filling, or one can be drawn from bays whose arms keep more than
FREE_MIN free bands, the reserve for compaction and rebuild. -/
def State.hasRoom (s : State) : Bool :=
  s.openSet.isSome ||
    match s.firstLayout with
    | none => false
    | some l =>
      let ok (k : Nat) : Bool := s.armFree k && decide (s.rd (CFG_PARAM_VALUE 15) < s.freeOnArm k)
      decide (s.rd (PRZ_LAYOUT0_K l) + s.rd (PRZ_LAYOUT0_M l)
        ≤ ((List.range s.bayCount).filter fun b => ok (2 * b) || ok (2 * b + 1)).length)

/-! ### Commands in their sessions -/

/-- A command of a session. -/
def State.cmd (s : State) (sid : Sid) (seq : BitVec 32) : Option (SessSt × CmdSt) :=
  match s.sess sid with
  | none => none
  | some x => (x.cmds.find? fun c => c.cap.seq == seq).map fun c => (x, c)

/-- Replace a command's record. -/
def State.setCmd (s : State) (sid : Sid) (c : CmdSt) : State :=
  match s.sess sid with
  | none => s
  | some x => s.setSess sid { x with cmds := x.cmds.map fun d => if d.cap.seq = c.cap.seq then c else d }

/-- A command's result is fixed; a failing one leaves its hazard entry (R354). -/
def State.fixCmd (s : State) (sid : Sid) (c : CmdSt) (st actlen result info : Nat) : State :=
  s.setCmd sid { c with fixed := some (st, actlen, result), info := info, ticket := if statusFreezes st then 0 else c.ticket }

/-- A command's turn to commit: every earlier command of its session has completed, and the session is not FROZEN (R322,
R328). -/
def isTurn (x : SessSt) (c : CmdSt) : Bool := x.frozen.isNone && c.cap.seq == x.last + 1

/-- The object range a command covers (R352): none for a PART write. -/
def cmdRange (c : Capsule) : Option (Nat × Nat) :=
  let o := c.opc.toNat
  let all := (0, 2 ^ 40)
  if o = opcWrite then
    if capFlag c flPart then none
    else if capFlag c flIfver then some all
    else some (c.offset.toNat, c.offset.toNat + c.length.toNat)
  else if o = opcGet then
    some (c.offset.toNat, if c.length = 0xFFFFFFFF then 2 ^ 40 else c.offset.toNat + c.length.toNat)
  else some all

/-- Two ranges have a byte in common. -/
def rangesMeet (a b : Option (Nat × Nat)) : Bool :=
  match a, b with
  | some x, some y => decide (max x.1 y.1 < min x.2 y.2)
  | _, _ => false

/-- A PART write or a COMMIT names a part set. -/
def isPart (c : Capsule) : Bool := c.opc.toNat == opcWrite && capFlag c flPart
def isCommit (c : Capsule) : Bool := c.opc.toNat == opcCommit

/-- Command `a` must follow the lower-ticket command `b` on the same object (R352). -/
def mustFollow (a b : Capsule) : Bool :=
  (opcWriteClass b.opc.toNat && rangesMeet (cmdRange a) (cmdRange b))
    || (isPart a && isCommit b && a.arg == b.arg) || (isCommit a && isPart b && a.arg == b.arg)

/-- Every command that `c` must follow has committed or been discarded (R352). -/
def State.mayEvaluate (s : State) (t : Nat) (c : CmdSt) : Bool :=
  s.host.sessions.all fun p => p.2.tenant != t || p.2.cmds.all fun d =>
    ! (d.ticket != 0 && decide (d.ticket < c.ticket) && d.cap.obj == c.cap.obj && mustFollow c.cap d.cap)

/-- The fence's status for write-class commands (R356): 0 where the fence is clear. -/
def State.fenceStatus (s : State) : Nat :=
  if s.on HIE_STAT_EXPIRED then 0x6002 else if s.on HIE_STAT_FENCED then 0x6001 else 0

/-- Check 6 (R341, R356, R390). -/
def State.check6 (s : State) (o : Nat) : Option Nat :=
  if s.red.noRoot && o != opcDescribe && o != opcAttest && o != opcImage then some 0x7011
  else if opcWriteClass o && s.fenceStatus != 0 then some s.fenceStatus
  else if opcWriteClass o && s.on SEC_STAT_KEYSOFF then some 0x7010
  else none

/-- Where an APPEND is placed: the size rounded up to a multiple of 256 (R347). -/
def appendAt (size : Nat) : Nat := (size + 255) / 256 * 256

/-- The command creates its object where it is absent (R339, R345, R350). -/
def creates (c : Capsule) : Bool :=
  let o := c.opc.toNat
  o == opcPut || (o == opcCommit && ! capFlag c flAbort) || ((o == opcWrite || o == opcAppend) && capFlag c flCreate)

/-- Check 7 of R341: existence of the object, or of the part set for COMMIT; an erased tenant's object (R384). -/
def State.check7 (s : State) (t : Nat) (c : Capsule) : Option Nat :=
  let o := c.opc.toNat
  let x := s.object t c.obj
  if ! opcNamesObject o then none
  else if o = opcCommit ∧ (s.partSet t c.obj c.arg).isNone then some 0x2011
  else if x.isNone ∧ ! creates c ∧ ! isPart c ∧ o ≠ opcCommit then some 0x2010
  else if (x.elim false fun y => y.keyDead) ∧ o ≠ opcDelete ∧ o ≠ opcStat then some 0x3011
  else if x.isNone ∧ creates c ∧ s.on SEC_STAT_ENTFLT then some 0x7010
  else none

/-- Check 8 of R341: EXCL and IFVER. -/
def State.check8 (s : State) (t : Nat) (c : Capsule) : Option (Nat × Nat) :=
  let x := s.object t c.obj
  if capFlag c flExcl ∧ (c.opc.toNat = opcPut ∨ c.opc.toNat = opcWrite) ∧ x.isSome then some (0x1015, 21)
  else if capFlag c flIfver ∧ x.map (fun y => y.ver) ≠ some c.arg.toNat then some (0x1016, 56)
  else none

/-- Check 9 of R341: the object's end, part sets and free capacity. -/
def State.check9 (s : State) (t : Nat) (c : Capsule) : Option Nat :=
  let o := c.opc.toNat
  let size := ((s.object t c.obj).map fun y => y.size).getD 0
  if o = opcAppend ∧ 2 ^ 40 ≤ appendAt size + c.length.toNat then some 0x1110
  else if isPart c ∧ (s.partSet t c.obj c.arg).isNone ∧ 4096 ≤ s.host.parts.length then some 0x7012
  else if (o = opcPut ∨ o = opcWrite ∨ o = opcAppend) ∧ c.length ≠ 0 ∧ ! s.hasRoom then some 0x7013
  else none

/-- The first failure of checks 6 to 9: status and INFO (R341). -/
def State.evalChecks (s : State) (t : Nat) (c : Capsule) : Option (Nat × Nat) :=
  match s.check6 c.opc.toNat with
  | some e => some (e, 0)
  | none => match s.check7 t c with
    | some e => some (e, 0)
    | none => match s.check8 t c with
      | some e => some e
      | none => (s.check9 t c).map fun e => (e, 0)

/-- The snapshot of a GET (R353). -/
def State.takeSnap (s : State) (t : Nat) (c : Capsule) : Option Snap :=
  if c.opc.toNat = opcGet then (s.object t c.obj).map fun x =>
    { size := x.size, ver := x.ver, bytes := x.bytes, lost := x.lost, ext := s.red.extents.filter fun e => e.obj == c.obj }
  else none

/-- EVALUATION_POINT (R341, R352, R353): once every command it must follow is gone, checks 6 to 9 run and a GET fixes its
snapshot. -/
def evaluationPoint (sid : Sid) (seq : BitVec 32) (s : State) : State :=
  let s := s.takeLanes sid
  match s.cmd sid seq with
  | none => s
  | some (x, c) =>
    if ! c.resolved ∨ c.evaluated ∨ c.fixed.isSome ∨ x.frozen.isSome ∨ ! s.mayEvaluate x.tenant c then s
    else match s.evalChecks x.tenant c.cap with
      | some (st, info) => s.fixCmd sid c st 0 0 info
      | none => s.setCmd sid { c with evaluated := true, snap := s.takeSnap x.tenant c.cap }

/-- EVALUATION_POINT. -/
def execEvaluationPoint (sid : Sid) (seq : BitVec 32) (s : State) : Result := clocked s (evaluationPoint sid seq s)

/-! ### The effects of write-class commands at commit (R345 to R350) -/

/-- A new object (R340): VER 1, created now. -/
def State.freshObject (s : State) (t : Nat) : ObjSt :=
  { tenant := t, size := 0, ver := 1, created := s.wt, changed := s.wt, layout := s.firstLayout.getD 0 }

/-- An object after a commit that changes it: VER rises by 1, and its last commit is now (R340, R349). -/
def State.changedObject (s : State) (old : Option ObjSt) (t : Nat) : ObjSt :=
  match old with
  | none => s.freshObject t
  | some x => { x with ver := x.ver + 1, changed := s.wt }

/-- A range that is written is no longer lost. -/
def cutLost (lo hi : Nat) (l : List (Nat × Nat)) : List (Nat × Nat) :=
  l.flatMap fun r => if r.2 ≤ lo ∨ hi ≤ r.1 then [r]
    else (if r.1 < lo then [(r.1, lo)] else []) ++ (if hi < r.2 then [(hi, r.2)] else [])

/-- Lay data over an object at an offset: size and contents (R346, R347, R350). -/
def layOver (x : ObjSt) (off : Nat) (bs : List Byte) : ObjSt :=
  { x with size := max x.size (off + bs.length), bytes := putContents x.bytes off bs, lost := cutLost off (off + bs.length) x.lost }

/-- PUT's commit (R345): the object is exactly its data. -/
def State.commitPut (s : State) (t : Nat) (c : CmdSt) : (Nat × Nat × Nat) × State :=
  let bs := dataBytes c
  let y := layOver { s.changedObject (s.object t c.cap.obj) t with size := 0, bytes := [], lost := [] } 0 bs
  let s := ((s.dropExtents c.cap.obj).newExtents c.cap.obj 0 (c.staged.getD [])).setObject t c.cap.obj y
  ((0, bs.length, y.ver % 2 ^ 32), s)

/-- A PART write's commit (R350): the part joins its set, later tickets over earlier ones. -/
def State.commitPart (s : State) (t : Nat) (c : CmdSt) : (Nat × Nat × Nat) × State :=
  let bs := dataBytes c
  let part : PartData := { off := c.cap.offset.toNat, bytes := bs, runs := c.staged.getD [] }
  let s := match s.partSet t c.cap.obj c.cap.arg with
    | some p =>
      let rest := s.host.parts.filter fun q => ! (q.tenant == t && q.obj == c.cap.obj && q.id == c.cap.arg)
      s.setHost { s.host with parts := rest ++ [{ p with parts := p.parts ++ [part], at_ := s.now }] }
    | none => s.setHost { s.host with parts := s.host.parts ++ [{ obj := c.cap.obj, id := c.cap.arg, tenant := t, parts := [part], at_ := s.now }] }
  ((0, bs.length, 0), s)

/-- WRITE's commit (R344, R346): the data at OFFSET; a write of no data changes nothing but may create an empty object. -/
def State.commitWrite (s : State) (t : Nat) (c : CmdSt) : (Nat × Nat × Nat) × State :=
  let bs := dataBytes c
  if isPart c.cap then s.commitPart t c
  else match s.object t c.cap.obj with
    | some x =>
      if bs.isEmpty then ((0, 0, x.ver % 2 ^ 32), s)
      else
        let y := layOver (s.changedObject (some x) t) c.cap.offset.toNat bs
        let s := (s.newExtents c.cap.obj c.cap.offset.toNat (c.staged.getD [])).setObject t c.cap.obj y
        ((0, bs.length, y.ver % 2 ^ 32), s)
    | none =>
      let y := if bs.isEmpty then s.freshObject t else layOver (s.freshObject t) c.cap.offset.toNat bs
      let s := (s.newExtents c.cap.obj c.cap.offset.toNat (c.staged.getD [])).setObject t c.cap.obj y
      ((0, bs.length, y.ver % 2 ^ 32), s)

/-- APPEND's commit (R347): at the size rounded up to 256 bytes; RESULT is that offset divided by 256. -/
def State.commitAppend (s : State) (t : Nat) (c : CmdSt) : (Nat × Nat × Nat) × State :=
  let bs := dataBytes c
  let old := s.object t c.cap.obj
  let off := appendAt ((old.map fun x => x.size).getD 0)
  let y := layOver (s.changedObject old t) off bs
  let s := (s.newExtents c.cap.obj off (c.staged.getD [])).setObject t c.cap.obj y
  ((0, bs.length, off / 256 % 2 ^ 32), s)

/-- DELETE's commit (R348, R362, R383): the object, its extents, its open part sets and its key are gone. -/
def State.commitDelete (s : State) (t : Nat) (c : CmdSt) : (Nat × Nat × Nat) × State :=
  let had := s.host.parts.any fun p => p.tenant == t && p.obj == c.cap.obj
  let s := ((s.dropExtents c.cap.obj).dropParts t c.cap.obj none).dropKey (objKey t c.cap.obj)
  ((if had then 0x0104 else 0, 0, 0), s.setHost { s.host with objects := smErase s.host.objects (objKey t c.cap.obj) })

/-- COMMIT's effect (R350): the parts overlay the object or, with REPLACE, are the object; with ABORT the set is gone. -/
def State.commitCommit (s : State) (t : Nat) (c : CmdSt) : (Nat × Nat × Nat) × State :=
  match s.partSet t c.cap.obj c.cap.arg with
  | none => ((0x2011, 0, 0), s)
  | some p =>
    let s := s.dropParts t c.cap.obj (some c.cap.arg)
    let old := s.object t c.cap.obj
    if capFlag c.cap flAbort then ((0, 0, (old.map fun x => x.ver).getD 0 % 2 ^ 32), s)
    else
      let x := s.changedObject old t
      let rep := capFlag c.cap flReplace
      let x := if rep then { x with size := 0, bytes := [], lost := [] } else x
      let y := p.parts.foldl (fun x q => layOver x q.off q.bytes) x
      let s := if rep then s.dropExtents c.cap.obj else s
      let s := p.parts.foldl (fun s q => s.newExtents c.cap.obj q.off q.runs) s
      let open_ (q : Commit) : Commit := if q.key = objKey t c.cap.obj ∧ q.part = some c.cap.arg then { q with part := none } else q
      let s := s.setHost { s.host with commits := s.host.commits.map open_ }
      ((0, 0, y.ver % 2 ^ 32), s.setObject t c.cap.obj y)

/-- The effect of a write-class command: its status, ACTLEN and RESULT. -/
def State.commitEffect (s : State) (t : Nat) (c : CmdSt) : (Nat × Nat × Nat) × State :=
  let o := c.cap.opc.toNat
  if o = opcPut then s.commitPut t c
  else if o = opcWrite then s.commitWrite t c
  else if o = opcAppend then s.commitAppend t c
  else if o = opcDelete then s.commitDelete t c
  else s.commitCommit t c

/-- A discarded write's staging and debit are released (R355, R356). -/
def State.releaseHandle (s : State) (c : CmdSt) : State :=
  match c.handle with
  | none => s
  | some h => (s.withdraw h).2

/-- A write has committed under its debit: its data needs flushing until every slot that holds it is DONE (R399, R406). -/
def State.noteCommit (s : State) (t : Nat) (c : CmdSt) : State :=
  match c.handle with
  | none => s
  | some h =>
    let slots := ((c.staged.getD []).filterMap fun (r : Run) =>
      let b := r.addr / 2 ^ 33
      (s.bandSet b).bind fun x =>
        let i := r.addr % 2 ^ 33 / max 1 (x.k * x.u * 4096)
        if s.slotInDram x b i then some (b, i) else none).eraseDups
    if slots.isEmpty then s.creditAll h
    else s.setHost { s.host with commits := s.host.commits ++ [{
      handle := h, key := objKey t c.cap.obj, ranges := [(c.objOff, c.objOff + capNeeds c.cap)]
      part := if isPart c.cap then some c.cap.arg else none, slots := slots }] }

/-- The command commits if its turn has come (R322): a fixed result completes; a ready write commits only if the fence is
clear at this instant (R543), and otherwise completes under R356. -/
def State.commitNow (s : State) (sid : Sid) (seq : BitVec 32) : State :=
  match s.cmd sid seq with
  | none => s
  | some (x, c) =>
    if ! isTurn x c ∨ s.cfg.hold then s
    else match c.fixed with
      | some (st, actlen, result) =>
        if ! s.dataSent sid x c then s
        else (if statusFreezes st then s.releaseHandle c else s).complete sid c st actlen result
      | none =>
        if ! (c.ready && c.evaluated) then s
        else if s.fenceStatus ≠ 0 then (s.releaseHandle c).complete sid c s.fenceStatus 0 0
        else
          let r := s.commitEffect x.tenant c
          (r.2.noteCommit x.tenant c).complete sid c r.1.1 r.1.2.1 r.1.2.2

/-- COMMAND_COMMIT (R322). -/
def commandCommit (sid : Sid) (seq : BitVec 32) (s : State) : State := (s.takeLanes sid).commitNow sid seq

/-- COMMAND_COMMIT. -/
def execCommandCommit (sid : Sid) (seq : BitVec 32) (s : State) : Result := clocked s (commandCommit sid seq s)

/-! ### The rows of write-class commands -/

/-- The command of a row, evaluated and with its opcode. -/
def State.rowCmd (s : State) (sid : Sid) (seq : BitVec 32) (o : Nat) : Option (SessSt × CmdSt) :=
  match s.cmd sid seq with
  | none => none
  | some (x, c) => if c.cap.opc.toNat = o ∧ c.evaluated ∧ c.fixed.isNone then some (x, c) else none

/-- Segments and sectors of a command's staged data (R397): one segment of at most 16 MiB. -/
def stageSegs (n : Nat) : Nat := (n + 2 ^ 24 - 1) / 2 ^ 24
def stageSects (n : Nat) : Nat := (n + 4095) / 4096

/-- Where a write's data lies in its object: an APPEND's place is fixed by the size its evaluation found (R347). -/
def State.dataOffset (s : State) (t : Nat) (c : Capsule) : Nat :=
  if c.opc.toNat = opcAppend then appendAt (((s.object t c.obj).map fun x => x.size).getD 0)
  else if c.opc.toNat = opcWrite then c.offset.toNat else 0

/-- The object's key is at hand for a write (R377); otherwise the command waits for it, or fails. -/
def State.keyForWrite (s : State) (sid : Sid) (x : SessSt) (c : CmdSt) (p : Plan) : Bool × State :=
  match s.needKey p (objKey x.tenant c.cap.obj) with
  | (.ready _, s) => (true, s)
  | (.waits, s) => (false, s)
  | (.fails st, s) => (false, s.fixCmd sid c st 0 0 0)

/-- Every byte of a write is staged in DRAM under a recorded intent (R31); it waits where that cannot be yet. -/
def State.stageBytes (s : State) (sid : Sid) (x : SessSt) (c : CmdSt) (p : Plan) : Option CmdSt × State :=
  match c.staged with
  | some _ => (some c, s)
  | none =>
    let off := s.dataOffset x.tenant c.cap
    match s.stageData (objKey x.tenant c.cap.obj) off (p.pool.toNat + 64) (dataBytes c) with
    | (none, s) => (none, s)
    | (some l, s) =>
      let c := { c with staged := some l, objOff := off }
      (some c, s.setCmd sid c)

/-- The flush cost of a staged write is debited (R31, R32, R355); a debit that waits leaves it waiting, and NOWAIT fails it
with 0x5001. -/
def State.admitWrite (s : State) (sid : Sid) (c : CmdSt) : State :=
  let n := capNeeds c.cap
  match c.handle with
  | some h => if (s.debitOf h).elim false (fun d => d.admitted) then s.setCmd sid { c with ready := true } else s
  | none =>
    match s.debit (stageSegs n) (stageSects n) (BitVec.ofNat 64 c.cap.seq.toNat) 0 (capFlag c.cap flNowait) with
    | (.admitted h, s) => s.setCmd sid { c with handle := some h, ready := true }
    | (.queued h, s) => s.setCmd sid { c with handle := some h }
    | (.refused, s) => s.fixCmd sid c 0x5001 0 0 c.cap.offset.toNat
    | (.noHandle, s) => s

/-- A write whose data is complete goes through steps 4 and 5 of the write path (R30, R31): the key of its object, its data in
DRAM under an intent, and the Ledger. -/
def State.stageWrite (s : State) (sid : Sid) (x : SessSt) (c : CmdSt) (p : Plan) : State :=
  if c.ready ∨ ! dataComplete c then s
  else
    let k := s.keyForWrite sid x c p
    if ! k.1 then k.2
    else if capNeeds c.cap = 0 then k.2.setCmd sid { c with ready := true }
    else match k.2.stageBytes sid x c p with
      | (none, s) => s
      | (some c, s) => s.admitWrite sid c

/-- A row of a write: stage, and commit where the turn has come. -/
def State.writeRow (s : State) (sid : Sid) (seq : BitVec 32) (o : Nat) (p : Plan) : State :=
  let s := s.pollOps
  match s.rowCmd sid seq o with
  | none => s
  | some (x, c) => (s.stageWrite sid x c p).commitNow sid seq

/-- A row of DELETE or COMMIT, which have no data: it commits where its turn has come. -/
def State.plainRow (s : State) (sid : Sid) (seq : BitVec 32) (o : Nat) : State :=
  match s.rowCmd sid seq o with
  | none => s
  | some (_, c) => (if c.ready then s else s.setCmd sid { c with ready := true }).commitNow sid seq

/-- PUT (R345). -/
def objPut (sid : Sid) (seq : BitVec 32) (plan : Plan) (s : State) : State := s.writeRow sid seq opcPut plan
/-- PUT. -/
def execObjPut (sid : Sid) (seq : BitVec 32) (plan : Plan) (s : State) : Result := clocked s (objPut sid seq plan s)

/-- WRITE (R346, R350). -/
def objWrite (sid : Sid) (seq : BitVec 32) (plan : Plan) (s : State) : State := s.writeRow sid seq opcWrite plan
/-- WRITE. -/
def execObjWrite (sid : Sid) (seq : BitVec 32) (plan : Plan) (s : State) : Result := clocked s (objWrite sid seq plan s)

/-- APPEND (R347). -/
def objAppend (sid : Sid) (seq : BitVec 32) (plan : Plan) (s : State) : State := s.writeRow sid seq opcAppend plan
/-- APPEND. -/
def execObjAppend (sid : Sid) (seq : BitVec 32) (plan : Plan) (s : State) : Result := clocked s (objAppend sid seq plan s)

/-- DELETE (R348). -/
def objDelete (sid : Sid) (seq : BitVec 32) (s : State) : State := (s.plainRow sid seq opcDelete).evictKeys
/-- DELETE. -/
def execObjDelete (sid : Sid) (seq : BitVec 32) (s : State) : Result := clocked s (objDelete sid seq s)

/-- COMMIT (R350). -/
def objCommit (sid : Sid) (seq : BitVec 32) (s : State) : State := s.plainRow sid seq opcCommit
/-- COMMIT. -/
def execObjCommit (sid : Sid) (seq : BitVec 32) (s : State) : Result := clocked s (objCommit sid seq s)

/-- PART_SET_TIMEOUT (R350): a set without a part write for PART_TMO is discarded, with an event. -/
def partSetTimeout (obj : BitVec 128) (setId : Word) (s : State) : State :=
  if s.host.parts.any fun p => p.obj == obj && p.id == setId then
    (s.setHost { s.host with parts := s.host.parts.filter fun p => ! (p.obj == obj && p.id == setId) }).event 10 .session 0 0
  else s

/-- PART_SET_TIMEOUT. -/
def execPartSetTimeout (obj : BitVec 128) (setId : Word) (s : State) : Result := clocked s (partSetTimeout obj setId s)

/-! ### Commands that return data (R343, R349, R357 to R359, R388) -/

/-- A command's data goes out and its result is fixed; it commits once its last packet has been sent (R314, R321, R322). -/
def State.answerData (s : State) (sid : Sid) (x : SessSt) (c : CmdSt) (bs : List Byte) (st result info : Nat) : State :=
  let c := { c with fixed := some (st, bs.length, result), info := info, sending := true
                    toSend := cutData (s.psize x.port) (bs.length + 1) 0 bs }
  ((s.setCmd sid c).pumpData sid c.cap.seq (c.toSend.length + 1)).commitNow sid c.cap.seq

/-- Where a GET ends (R343): its last offset and its status. -/
def getEnd (c : Capsule) (size : Nat) : Nat × Nat :=
  let off := c.offset.toNat
  let n := c.length.toNat
  if n = 0 then (off, 0)
  else if n = 0xFFFFFFFF then (if off + 0xFFFFFFFE < size then (off + 0xFFFFFFFE, 0x0103) else (max off size, 0))
  else if off + n ≤ size then (off + n, 0)
  else (max off size, 0x0101)

/-- The first lost byte of a range (R300). -/
def firstLost (lost : List (Nat × Nat)) (lo hi : Nat) : Option Nat :=
  let l := (lost.filter fun r => decide (r.1 < hi) && decide (lo < r.2)).map fun r => max lo r.1
  if l.isEmpty then none else some (l.foldl min hi)

/-- The first byte of a range in an extent fewer than k of whose set's members can be read now (0x4002). -/
def State.firstAway (s : State) (obj : BitVec 128) (lo hi : Nat) : Option Nat :=
  let bad (e : Extent) : Bool := match s.bandSet (e.addr / 2 ^ 33) with
    | none => false
    | some x => decide (x.m < ((List.range x.members.length).filter (s.memberAway (e.addr / 2 ^ 33) x)).length)
  let l := (s.red.extents.filter fun e => e.obj == obj && decide (e.off < hi) && decide (lo < e.off + e.len) && bad e).map fun e => max lo e.off
  if l.isEmpty then none else some (l.foldl min hi)

/-- A GET is answered up to offset `l` of its object with a status of class 0x40 (R343). -/
def State.answerCut (s : State) (sid : Sid) (x : SessSt) (c : CmdSt) (g : Snap) (st l : Nat) : State :=
  s.answerData sid x c (getContents g.bytes c.cap.offset.toNat (l - c.cap.offset.toNat)) st (g.ver % 2 ^ 32) l

/-- The slots that a range of a snapshot touches and that still await resynchronisation (R292). -/
def State.resyncIn (s : State) (g : Snap) (lo hi : Nat) : Option (Nat × Nat) :=
  s.red.resync.find? fun q => g.ext.any fun e => e.addr / 2 ^ 33 == q.1 && decide (e.off < hi) && decide (lo < e.off + e.len)
    && (s.bandSet q.1).elim false fun x => decide (e.addr < bsSlotAddr x q.1 (q.2 + 1)) && decide (bsSlotAddr x q.1 q.2 < e.addr + e.len)

/-- The units that a range of a snapshot needs from media (R33, step 2). -/
def State.readsFor (s : State) (g : Snap) (lo hi pool : Nat) : List UnitFetch :=
  ((g.ext.filter fun e => decide (e.off < hi) && decide (lo < e.off + e.len)).foldl (fun (t : Nat × List UnitFetch) e =>
    let fs := s.fetchesFor e lo hi t.1
    (t.1 + fs.length * 33 * 1024 * 4160, t.2 ++ fs)) (pool, [])).2

/-- A GET's units have been fetched (R33, R34): the first that failed ends it, lost or not available now. -/
def State.answerGet (s : State) (sid : Sid) (x : SessSt) (c : CmdSt) (g : Snap) (l : List UnitFetch) : State :=
  let e := getEnd c.cap g.size
  let off := c.cap.offset.toNat
  match (l.filter fetchFails).foldl (fun (t : Option UnitFetch) f => match t with
      | none => some f
      | some b => if f.off < b.off then some f else some b) none with
  | some f => s.answerCut sid x c g (if f.stage = 4 then 0x4002 else 0x4001) (max off f.off)
  | none => s.answerData sid x c (getContents g.bytes off (e.1 - off)) e.2 (g.ver % 2 ^ 32) 0

/-- GET (R33, R34, R35, R343, R353, R362): the snapshot's bytes, once the units that hold them have been read, opened and, where
their own members cannot give them, reconstructed; data still staged in DRAM is served from there. A lost byte, or one not
available now, ends it. -/
def objGet (sid : Sid) (seq : BitVec 32) (plan : Plan) (s : State) : State :=
  let s := s.pollOps
  match s.rowCmd sid seq opcGet with
  | none => s
  | some (x, c) =>
    match c.snap with
    | none => s
    | some g =>
      let off := c.cap.offset.toNat
      let e := getEnd c.cap g.size
      match firstLost g.lost off e.1 with
      | some l => s.answerCut sid x c g 0x4001 l
      | none =>
        match s.firstAway c.cap.obj off e.1 with
        | some l => s.answerCut sid x c g 0x4002 l
        | none =>
          match s.resyncIn g off e.1 with
          | some q => (s.bandSet q.1).elim s fun y => s.resyncSlot plan q.1 q.2 y
          | none =>
            let r := s.stepFetches plan 0 (c.reads.getD (s.readsFor g off e.1 plan.pool.toNat))
            let c := { c with reads := some r.1 }
            if r.1.all fetchOver then r.2.answerGet sid x c g r.1 else r.2.setCmd sid c

/-- GET. -/
def execObjGet (sid : Sid) (seq : BitVec 32) (plan : Plan) (s : State) : Result := clocked s (objGet sid seq plan s)

/-- The STAT record (R349). -/
def State.statRecord (s : State) (t : Nat) (obj : BitVec 128) (x : ObjSt) : List Byte :=
  let ext := (s.red.extents.filter fun e => e.obj == obj).length
  let part := s.host.parts.any fun p => p.tenant == t && p.obj == obj
  leBytes 16 obj.toNat ++ leBytes 8 x.size ++ leBytes 8 x.ver ++ leBytes 8 x.created ++ leBytes 8 x.changed
    ++ leBytes 1 x.layout ++ leBytes 1 ((! x.lost.isEmpty).toNat + 2 * part.toNat) ++ leBytes 2 x.tenant ++ leBytes 4 ext
    ++ leBytes 8 (x.lost.foldl (fun n r => n + (r.2 - r.1)) 0)

/-- STAT (R349). -/
def objStat (sid : Sid) (seq : BitVec 32) (s : State) : State :=
  match s.rowCmd sid seq opcStat with
  | none => s
  | some (x, c) =>
    match s.object x.tenant c.cap.obj with
    | none => s
    | some y => s.answerData sid x c (s.statRecord x.tenant c.cap.obj y) 0 (y.ver % 2 ^ 32) 0

/-- STAT. -/
def execObjStat (sid : Sid) (seq : BitVec 32) (s : State) : Result := clocked s (objStat sid seq s)

/-- LIST (R349): 32-byte records of the tenant's objects after OBJ, in ascending ID order, as many as LENGTH holds. -/
def objList (sid : Sid) (seq : BitVec 32) (s : State) : State :=
  match s.rowCmd sid seq opcList with
  | none => s
  | some (x, c) =>
    let all := s.host.objects.filter fun p => p.1 / 2 ^ 128 == x.tenant && decide (c.cap.obj.toNat < p.1 % 2 ^ 128)
    let n := c.cap.length.toNat / 32
    let bs := (all.take n).flatMap fun p => leBytes 16 (p.1 % 2 ^ 128) ++ leBytes 8 p.2.size ++ leBytes 8 p.2.ver
    s.answerData sid x c bs (if n < all.length then 0x0102 else 0) (min n all.length) 0

/-- LIST. -/
def execObjList (sid : Sid) (seq : BitVec 32) (s : State) : Result := clocked s (objList sid seq s)

/-- The part number in ASCII, zero-padded to 16 bytes (R357). -/
def State.partNumber (s : State) : List Byte :=
  let l : List Byte := match s.part with
    | .fy3264s => [0x46, 0x59, 0x33, 0x32, 0x36, 0x34, 0x2D, 0x42, 0x31, 0x2D, 0x53]
    | .fy3264x => [0x46, 0x59, 0x33, 0x32, 0x36, 0x34, 0x2D, 0x42, 0x31, 0x2D, 0x58]
    | .fy3232s => [0x46, 0x59, 0x33, 0x32, 0x33, 0x32, 0x2D, 0x42, 0x31, 0x2D, 0x53]
  l ++ List.replicate 5 0

/-- Bay b's 8 bytes of DESCRIBE (R357); the HDA's capacity is stated nowhere and is free. -/
def State.describeBay (s : State) (b : Nat) : List Byte :=
  if s.bayCount ≤ b then [0, 0, 4, 4, 0, 0, 0, 0]
  else
    let rec_ := s.hdas.find? fun r => r.bay == some b
    let unknown := (rec_.map fun r => r.lifeUnknown).getD false
    let warned := (List.range 32).any fun i => (s.lifeR (b * 32 + i)).warn != 0
    let active (a : Nat) : Nat := ((List.range (s.headCount b a)).filter fun h => ! s.isRetired (hportOf b a h)).length
    leBytes 1 ((s.on (BL_CTL_ATTACHED b)).toNat + 2 * unknown.toNat + 4 * warned.toNat) ++ leBytes 1 (s.rd (APR_PS_STATE b))
      ++ leBytes 1 (s.rd (PRZ_ARM_STATE (2 * b))) ++ leBytes 1 (s.rd (PRZ_ARM_STATE (2 * b + 1)))
      ++ leBytes 1 (active 0 % 16 + 16 * (active 1 % 16)) ++ leBytes 3 (Config.freeNat (s.free + b))

/-- The DESCRIBE response (R357): 512 bytes. -/
def State.describeBytes (s : State) (port : Nat) : List Byte :=
  let freeBands := s.red.free.foldl (fun n p => n + p.2.length) 0
  let live := s.red.extents.foldl (fun n e => n + e.len) 0
  s.partNumber ++ leBytes 1 s.bayCount ++ leBytes 1 (if s.part = .fy3264x then 1 else 0) ++ leBytes 1 s.role ++ leBytes 1 s.ownState
    ++ leBytes 4 (s.bootEntry 0).verActive.toNat ++ leBytes 4 (s.bootEntry 1).verActive.toNat ++ leBytes 4 s.collTag ++ s.digestBytes
    ++ leBytes 8 (Config.freeNat (s.free + 32)) ++ leBytes 8 (freeBands * 2 ^ 28) ++ leBytes 8 live
    ++ leBytes 8 (2 ^ 40 - 1) ++ leBytes 4 16777216 ++ leBytes 2 16384 ++ leBytes 2 (s.clamp HPT_CRED_MAXCRED 1 256) ++ leBytes 2 8192
    ++ leBytes 2 (s.psize port) ++ leBytes 4 (s.rd PRZ_LEPOCH_EPOCH)
    ++ leBytes 4 1000 ++ leBytes 4 450000 ++ leBytes 4 6000000 ++ leBytes 4 20000000
    ++ (List.range 4).flatMap (fun n => leBytes 4 (s.rd (APR_IDLE_MS n)))
    ++ (List.range 8).flatMap (fun l => leBytes 1 (s.rd (PRZ_LAYOUT0_K l)) ++ leBytes 1 (s.rd (PRZ_LAYOUT0_M l))
      ++ leBytes 1 (s.rd (PRZ_LAYOUT0_UCODE l)) ++ leBytes 1 (s.rd (PRZ_LAYOUT0_STATE l)))
    ++ List.replicate 64 0 ++ (List.range 32).flatMap s.describeBay

/-- DESCRIBE (R357). -/
def describe (sid : Sid) (seq : BitVec 32) (s : State) : State :=
  match s.rowCmd sid seq opcDescribe with
  | none => s
  | some (x, c) => ({ s with free := s.free + 33 }).answerData sid x c (s.describeBytes x.port) 0 0 0

/-- DESCRIBE. -/
def execDescribe (sid : Sid) (seq : BitVec 32) (s : State) : Result := clocked s (describe sid seq s)

/-- A command without data completes at its turn with a result. -/
def State.answerPlain (s : State) (sid : Sid) (c : CmdSt) (st result info : Nat) : State :=
  (s.fixCmd sid c st 0 result info).commitNow sid c.cap.seq

/-- POWER HINT (R358): idle bays of the mask go down to the deepest state at once; RESULT is the mask of those that
changed. -/
def powerHint (sid : Sid) (seq : BitVec 32) (s : State) : State :=
  match s.rowCmd sid seq opcPowerHint with
  | none => s
  | some (_, c) =>
    let mask := (c.cap.arg.extractLsb' 0 32)
    let deep := bitsOf c.cap.arg 32 3
    let life := bitsOf c.cap.arg 48 16
    let h : Hint := { mask := mask, deepest := deep, ends := if life = 0 then none else some (s.now + life * 10 ^ 9) }
    let s := s.setHost { s.host with hint := h }
    let before := s
    let s := forUpTo s.bayCount (fun b s =>
      let named := mask.getLsbD b
      let s := s.wr (APR_PS_DEEPEST b) (if named then deep else 0)
      if named && s.bayIdle b && s.on (BL_CTL_ATTACHED b) && decide (s.rd (APR_PS_STATE b) < deep) then s.sinkBay b deep else s) s
    let changed := (List.range s.bayCount).foldl (fun n b =>
      if s.rd (APR_PS_STATE b) = before.rd (APR_PS_STATE b) then n else n + 2 ^ b) 0
    s.answerPlain sid c 0 changed 0

/-- POWER_HINT. -/
def execPowerHint (sid : Sid) (seq : BitVec 32) (s : State) : Result := clocked s (powerHint sid seq s)

/-- POWER_HINT_EXPIRY (R358): the hint's lifetime ends. -/
def powerHintExpiry (s : State) : State :=
  forUpTo s.bayCount (fun b s => s.wr (APR_PS_DEEPEST b) 0) (s.setHost { s.host with hint := {} })

/-- POWER_HINT_EXPIRY. -/
def execPowerHintExpiry (s : State) : Result := clocked s (powerHintExpiry s)

/-- Bytes 0 to 447 of the attestation report (R388). -/
def State.attestBody (s : State) (sid : Sid) (x : SessSt) (nonce : List Byte) : List Byte :=
  let words (f : Nat → Fld) : List Byte := (List.range 12).flatMap fun w => leBytes 4 (s.rd (f w))
  let secHash := s.cfg.secHash
  [0x46, 0x59, 0x41, 0x54, 0x54, 0x53, 0x54, 0x31] ++ leBytes 1 1 ++ leBytes 1 s.ownState ++ leBytes 1 (s.currentSlot.getD 255)
    ++ leBytes 1 (s.sec.loupeFuse.toNat + 2 * (s.on SEC_STAT_LOUPE_USED).toNat + 4 * s.sec.policy.ownerOnly.toNat)
    ++ leBytes 4 (s.vwNat 28) ++ s.partNumber ++ words SEC_DEVID_WORD ++ words SEC_OWNHASH_WORD
    ++ beBytes 48 s.sec.firmware.toNat ++ beBytes 48 s.sec.policyMeas.toNat ++ beBytes 48 (Config.microcodeSet s.sec.microcode).toNat
    ++ beBytes 48 secHash.toNat ++ s.digestBytes ++ leBytes 4 s.collTag ++ leBytes 4 (s.rd PRZ_LEPOCH_EPOCH) ++ leBytes 8 s.wt
    ++ nonce ++ leBytes 2 sid.toNat ++ leBytes 2 x.epoch ++ leBytes 2 x.tenant ++ List.replicate 10 0

/-- The attestation report (R388): its body and DIK's signature over SHA-384 of "FYAT-RPT" and the body. -/
def State.attestBytes (s : State) (sid : Sid) (x : SessSt) (nonce : List Byte) : List Byte :=
  let b := s.attestBody sid x nonce
  b ++ Config.dikSign (sha384 ([0x46, 0x59, 0x41, 0x54, 0x2D, 0x52, 0x50, 0x54] ++ b))

/-- ATTEST (R359, R388): the signed report, once the nonce has arrived. -/
def attest (sid : Sid) (seq : BitVec 32) (s : State) : State :=
  match s.rowCmd sid seq opcAttest with
  | none => s
  | some (x, c) =>
    if ! dataComplete c then s
    else s.answerData sid x c (s.attestBytes sid x (dataBytes c)) 0 0 0

/-- ATTEST. -/
def execAttest (sid : Sid) (seq : BitVec 32) (s : State) : Result := clocked s (attest sid seq s)

/-- Bytes `i` to `i + n − 1` of an image being staged, once they have come. -/
def stagedField (l : List (Nat × List Byte)) (i n : Nat) : Option Nat :=
  let c : CmdSt := { chunks := l }
  if (List.range n).all fun d => l.any fun p => decide (p.1 ≤ i + d) && decide (i + d < p.1 + p.2.length) then
    some (leNat ((List.range n).map fun d => dataByte c (i + d)))
  else none

/-- LENGTH of the image being staged, once its header bytes 16 to 19 have come (R470). -/
def stagedLength (l : List (Nat × List Byte)) : Option Nat := stagedField l 16 4

/-- Bytes of an image that have been received. -/
def stagedBytes (l : List (Nat × List Byte)) : Nat :=
  (l.foldl (fun (t : Nat × List (Nat × List Byte)) p =>
    let fresh := (List.range p.2.length).filter fun i => ! t.2.any fun q => decide (q.1 ≤ p.1 + i) && decide (p.1 + i < q.1 + q.2.length)
    (t.1 + fresh.length, t.2 ++ [p])) (0, [])).1

/-- The status IMAGE STAGE gives for a verification status (R474). -/
def stageStatus (st : Nat) : Nat :=
  if st = imgOk then 0 else if st = imgBusError then 0x7010 else if st = imgSvnLow ∨ st = imgRefused then 0x3013 else 0x3012

/-- The set that chunks are kept under: that of the command's kind and target; set 2 for microcode (R361). -/
def stageKey (c : Capsule) : Nat := setOf (bitsOf c.arg 0 8) (if bitsOf c.arg 0 8 = 3 then 0 else bitsOf c.arg 8 8)

/-- The set whose other slot the chunks go into; microcode goes by its header's TARGET once that byte has come (R470, R522). -/
def stageSet (c : Capsule) (l : List (Nat × List Byte)) : Option Nat :=
  if bitsOf c.arg 0 8 = 3 then (stagedField l 11 1).bind fun t => if t < 3 then some (2 + t) else none else some (stageKey c)

/-- Chunks stand in a slot (R523): the blocks they touch erased, then their bytes written in the order in which they came. -/
def State.writeSlot (s : State) (base : Nat) (l : List (Nat × List Byte)) : State :=
  let blocks := (l.flatMap fun p => (List.range ((p.1 % 65536 + p.2.length + 65535) / 65536)).map fun i => base / 65536 + p.1 / 65536 + i).eraseDups
  l.reverse.foldl (fun s p => s.storeFlash (base + p.1) p.2) (blocks.foldl State.eraseBlock s)

/-- The chunks of an image, put into the slot they are for, which is WRITING (R523). -/
def State.stageChunks (s : State) (j : Option Nat) (l : List (Nat × List Byte)) : State :=
  match j with
  | none => s
  | some j =>
    let e := s.bootEntry j
    (s.setBootEntry j { e with other := slotWriting, tries := 0 }).writeSlot (slotBase j e.otherSlot) l

/-- The slot of an image whose staging has failed becomes EMPTY. -/
def State.dropStaging (s : State) (key : Nat) (j : Option Nat) : State :=
  let s := match j with
    | some j => s.emptySlot j
    | none => s
  s.setCfg { s.cfg with staging := smErase s.cfg.staging key }

/-- The status of a LAST (R361, R474): every byte has come, the image verifies, and it is of the kind and target it was sent as. -/
def State.lastStatus (s : State) (c : Capsule) (j : Option Nat) (l : List (Nat × List Byte)) (held : Nat) : Nat :=
  let img := (List.range held).map fun i => dataByte { chunks := l } i
  if stagedLength l ≠ some held then 0x1111
  else if s.imageStatus img ≠ imgOk then stageStatus (s.imageStatus img)
  else if imgKind img ≠ bitsOf c.arg 0 8 ∨ some (setOf (imgKind img) (imgTarget img)) ≠ j then 0x3012
  else 0

/-- IMAGE STAGE (R361, R523): a chunk goes into the other slot, LAST verifies the whole. -/
def imageStage (sid : Sid) (seq : BitVec 32) (s : State) : State :=
  match s.rowCmd sid seq opcImage with
  | none => s
  | some (x, c) =>
    if ! isTurn x c ∨ ! dataComplete c then s
    else
      let key := stageKey c.cap
      let n := c.cap.length.toNat
      let l := (c.cap.offset.toNat, dataBytes c) :: smGet [] s.cfg.staging key
      let j := stageSet c.cap l
      let size := slotSize (j.getD key)
      if min size ((stagedLength l).getD size) < c.cap.offset.toNat + n then (s.fixCmd sid c 0x1111 0 0 0).commitNow sid seq
      else
        let s := (s.stageChunks j l).setCfg { (s.stageChunks j l).cfg with staging := smPut s.cfg.staging key l }
        let held := stagedBytes l
        if ! capFlag c.cap flLast then (s.fixCmd sid c 0 n held 0).commitNow sid seq
        else
          let st := s.lastStatus c.cap j l held
          if st ≠ 0 then ((s.dropStaging key j).fixCmd sid c st 0 0 0).commitNow sid seq
          else
            let j := j.getD key
            let s := s.setBootEntry j { s.bootEntry j with other := slotStaged, verOther := imgVersion (s.slotBytes j (s.bootEntry j).otherSlot) }
            ((s.setCfg { s.cfg with staging := smErase s.cfg.staging key }).fixCmd sid c 0 n held 0).commitNow sid seq

/-- IMAGE_STAGE. -/
def execImageStage (sid : Sid) (seq : BitVec 32) (s : State) : Result := clocked s (imageStage sid seq s)

end Sys2Proof.Machine
end

