-- ==== Sys2Proof/Machine/Flush.lean ====
section
/-! DEFINITION. Sys2Proof/Machine/Flush.lean: the power-loss flush (R405 to R409): its plan, what it writes, its end and its report;
and the flush writes of a deficit (R400). -/
namespace Sys2Proof.Machine
open Sys2Proof

/-! ### What has to be flushed (R406) -/

/-- The bytes of a 4 KiB block of an object as it reads now; none where it is gone. A part that is not installed reads as the
data of its set, over zeros (DESIGN CHOICE, log entry 107). -/
def State.blockBytes (s : State) (key addr : Nat) (part : Option Word) : Option (List Byte) :=
  match part with
  | none => (s.host.objects.find? fun p => p.1 == key).map fun p => getContents p.2.bytes addr 4096
  | some id => (s.host.parts.find? fun p => objKey p.tenant p.obj == key && p.id == id).map fun p =>
      getContents (p.parts.foldl (fun m q => putContents m q.off q.bytes) []) addr 4096

/-- The blocks of a committed write: object, offset and open part set. -/
def commitBlocks (c : Commit) : List (Nat × Nat × Option Word) :=
  c.ranges.flatMap fun r => (List.range ((r.2 + 4095) / 4096 - r.1 / 4096)).map fun i => (c.key, (r.1 / 4096 + i) * 4096, c.part)

/-- The blocks to flush in commit order: each once, with the last commit that covers it. -/
def blocksOf (l : List Commit) : List (Nat × Nat × Option Word) :=
  (l.flatMap commitBlocks).foldl (fun t b => t.filter (· ≠ b) ++ [b]) []

/-- The journal records not yet written good on both surfaces of their pair, in JSEQ order. -/
def State.openRecords (s : State) : List JRec :=
  let l := if s.red.pairs.isEmpty then s.red.journal else s.red.pairs.flatMap fun p => p.2.sector
  l.foldl (fun t r => insertRec r t) []

/-- Cut records into sectors of 32. -/
def recordSectors (l : List JRec) : List (List JRec) := (List.range ((l.length + 31) / 32)).map fun i => (l.drop (32 * i)).take 32

/-! ### The plan (R406) -/

/-- The lowest surface of an arm with an active head. -/
def State.lowestSurface (s : State) (k : Nat) : Option Nat :=
  ((List.range (s.headCount (bayOf k) (actOf k))).map fun h => hportOf (bayOf k) (actOf k) h).find? s.surfaceOk

/-- The arms of the flush: ACTIVE, attached, in bays inside their write window. -/
def State.flushArms (s : State) : List (Nat × Nat) :=
  ((List.range (2 * s.bayCount)).filter fun k => s.rd (PRZ_ARM_STATE k) == armActive && s.on (BL_CTL_ATTACHED (bayOf k))
    && ! s.energy.writeOut.contains (bayOf k)).filterMap fun k => (s.lowestSurface k).map fun p => (k, p)

/-- The first arm of each of the first four bays: they take the journal image. -/
def journalArms (l : List (Nat × Nat)) : List Nat :=
  ((l.foldl (fun (t : List Nat × List Nat) q => if t.1.contains (bayOf q.1) then t else (bayOf q.1 :: t.1, t.2 ++ [q.1])) ([], [])).2).take 4

/-- Sectors planned after the header of an arm's run. -/
def FlushArm.sectors (a : FlushArm) : Nat := a.journal.length + a.blocks.length

/-- The run of an arm begins: its header and journal sectors draw their WSEQs, the first of them the lowest of the run. -/
def State.beginRun (s : State) (image : List (List JRec)) (q : Nat × Nat) : FlushArm × State :=
  let w := s.drawMany (1 + image.length)
  let first := (image.headD []).headD {}
  let last := (image.getLastD []).getLastD {}
  ({ k := q.1, journal := image
     head := { plgen := s.va.plgen, hport := q.2, wseq0 := w.1.headD 0, wt := s.wt, lepoch := s.rd PRZ_LEPOCH_EPOCH
               jFirst := if image.isEmpty then 0 else first.jseq, jLast := if image.isEmpty then 0 else last.jseq } }, w.2)

/-- FLUSH sectors of an arm's landing zone (R252). -/
def State.flushRoom (s : State) (k : Nat) : Nat := s.lzSect k - 152080

/-- The arm with the fewest planned sectors that has room for one more, the lowest of equals. -/
def State.shortest (s : State) (l : List FlushArm) : Option Nat :=
  (l.filter fun a => decide (a.sectors + 1 < s.flushRoom a.k)).foldl (fun (t : Option FlushArm) a => match t with
    | none => some a
    | some b => if a.sectors < b.sectors then some a else some b) none |>.map FlushArm.k

/-- A block goes to the arm with the fewest planned sectors, with the next WSEQ; where no arm has room it stays unplanned. -/
def State.planBlock (s : State) (b : FlushBlock) : State :=
  match s.shortest s.energy.plan with
  | none => s.setEnergy { s.energy with unplanned := s.energy.unplanned ++ [b] }
  | some k =>
    let w := s.drawMany 1
    w.2.setEnergy { w.2.energy with plan := w.2.energy.plan.map fun a =>
      if a.k = k then { a with blocks := a.blocks ++ [{ b with wseq := w.1.headD 0 }] } else a }

/-- The header of a run, with the sectors planned after it. -/
def FlushArm.header (a : FlushArm) : FlushHeader := { a.head with planned := a.sectors }

/-- A run goes to its arm's FLUSH area as class-1 writes from the first sector on: header, journal image, blocks. -/
def State.emitRun (s : State) (a : FlushArm) : State := s.emit (.flushRun a.head.hport (flushSector0 a.header) a.journal a.blocks)

/-- The flush plan (R406), and its writes. -/
def State.planFlush (s : State) : State :=
  let arms := s.flushArms
  let image := recordSectors s.openRecords
  let onto := journalArms arms
  let r := arms.foldl (fun (t : List FlushArm × State) q =>
    let u := t.2.beginRun (if onto.contains q.1 then image else []) q
    (t.1 ++ [u.1], u.2)) ([], s)
  let s := r.2.setEnergy { r.2.energy with plan := r.1, unplanned := [] }
  let s := (blocksOf s.host.commits).foldl (fun s b => match s.blockBytes b.1 b.2.1 b.2.2 with
    | some bs => s.planBlock { key := b.1, addr := b.2.1, part := b.2.2, bytes := bs }
    | none => s) s
  s.energy.plan.foldl (fun s a => s.emitRun a) s

/-- A flush begins (R405, R568): its plan is made, and the writes go out. A deficit at PFAIL is what its unwritten ranges name
(R409). -/
def State.beginFlush (s : State) (cause : Nat) : State :=
  (s.startFlush (if cause = 0 ∧ s.on APR_STAT_DEFICIT then 4 else cause)).planFlush

/-- POWER_LOSS_FLUSH (R405): PFAIL_N held low for 2 µs; a shutdown flush already running is joined (R418). PFAIL_N is ignored while
POR_N is low, and before boot step 2 it only holds boot (R594; DEDUCED, log entry 111). -/
def powerLossFlush (s : State) : State :=
  if s.pwr.porLow then s
  else
    let s := s.put APR_STAT_PFAIL true
    if s.cfg.step ≤ 1 then s
    else
      let s := if s.energy.flush = .none then s.beginFlush 0 else s
      forUpTo s.bayCount (fun b s => s.flushRegen b) s

/-- POWER_LOSS_FLUSH. -/
def execPowerLossFlush (s : State) : Result := clocked s (powerLossFlush s)

/-! ### The end of a flush (R407 to R409, R418) -/

/-- The first `n` sectors of an arm's run, its header included, have been written good. -/
def State.flushWritten (s : State) (l : List (Slice × Nat)) : State :=
  s.setEnergy { s.energy with plan := s.energy.plan.map fun a =>
    { a with done := (l.filter fun q => q.1.val == a.k).foldl (fun n q => max n q.2) a.done } }

/-- The blocks of a run not yet written good. -/
def FlushArm.left (a : FlushArm) : List FlushBlock := a.blocks.drop (a.done - 1 - a.journal.length)

/-- An arm can go on with flush writes: in service, attached, with WOK. -/
def State.armWrites (s : State) (k : Nat) : Bool :=
  s.rd (PRZ_ARM_STATE k) == armActive && s.on (BL_CTL_ATTACHED (bayOf k)) && s.on (ANG_STAT_WOK (bayOf k))

/-- Blocks that an arm without WOK has left are planned again onto arms that still have it (R407), whose runs go on under a new
header; true where there were any. -/
def State.replan (s : State) : Bool × State :=
  let e := s.energy
  let bad := e.plan.filter fun a => ! s.armWrites a.k
  let good := e.plan.filter fun a => s.armWrites a.k
  let l := bad.flatMap FlushArm.left
  if l.isEmpty ∨ good.isEmpty then (false, s)
  else
    let t := l.foldl (fun s b => s.planBlock b) (s.setEnergy { e with plan := good })
    let kept := bad.map fun a => { a with blocks := a.blocks.take (a.blocks.length - a.left.length) }
    let t := (t.energy.plan.filter fun a => ! good.contains a).foldl (fun s a => s.emitRun a) t
    (true, t.setEnergy { t.energy with plan := t.energy.plan ++ kept })

/-- What a flush has not written good: blocks with the arm they were planned on. -/
def State.flushLeft (s : State) : List (Option Nat × FlushBlock) :=
  (s.energy.plan.flatMap fun a => a.left.map fun b => (some a.k, b)) ++ s.energy.unplanned.map fun b => (none, b)

/-- Committed data all of whose blocks were written good is credited (R399, R408). -/
def State.creditFlushed (s : State) : State :=
  let left := s.flushLeft.map fun q => (q.2.key, q.2.addr, q.2.part)
  let done := s.host.commits.filter fun c => ! (commitBlocks c).any left.contains
  let s : State := { s with host := { s.host with commits := s.host.commits.filter fun c => ! done.contains c } }
  done.foldl (fun s c => s.creditAll c.handle) s

/-- FLUSH_END (R407, R408): the last flush write has completed, or TMAX expired; `written` says how many sectors of each arm's run
are good. Blocks on arms that have lost WOK are planned again while there is time. Where power has returned, the flushed data
is credited and the host ports reopen; otherwise every actuator parks. -/
def flushEnd (timedOut : Bool) (written : List (Slice × Nat)) (s : State) : State :=
  if s.energy.flush ≠ .writing then s
  else
    let s := s.flushWritten written
    let r := if timedOut then (false, s) else s.replan
    if r.1 then r.2
    else
      let t := r.2.endFlush
      if t.energy.flush = .none then (t.creditFlushed.portReturned 0).portReturned 1 else t

/-- The cause of an unwritten block (R409), taken in this order where several hold (DESIGN CHOICE, log entry 107): a flush that
names its own; a bay lost; a chopper fault; else TMAX. -/
def State.lossCause (s : State) (k : Option Nat) : Nat :=
  if s.energy.flushCause ≠ 0 then s.energy.flushCause
  else if k.any fun k => ! s.on (BL_CTL_ATTACHED (bayOf k)) || s.rd (PRZ_ARM_STATE k) != armActive then 2
  else if s.on APR_BUS_STAT_CHOPFLT then 1 else 3

/-- A block joins the report: it lengthens the last range where it goes on with it. -/
def joinLoss (l : List FlushLoss) (x : FlushLoss) : List FlushLoss :=
  match l with
  | [] => [x]
  | y :: r => if y.obj = x.obj ∧ y.off + y.len = x.off ∧ y.cause = x.cause then { y with len := y.len + x.len } :: r else x :: y :: r

/-- The ranges of acknowledged data that were not written good by t_F, in order (R409). -/
def State.flushLosses (s : State) : List FlushLoss :=
  (s.flushLeft.foldl (fun l q =>
    joinLoss l { obj := BitVec.ofNat 128 q.2.key, off := q.2.addr, len := 4096, cause := s.lossCause q.1 }) []).reverse

/-- The flush report and the Ledger record go to the vital area (R407, R409): at most 4,096 ranges; the rest are counted. -/
def State.writeReport (s : State) : State :=
  let l := s.flushLosses
  { s with va := { s.va with report := l.take 4096, more := l.length - 4096, ledger := (s.energy.outUj, s.energy.staged) } }

/-! ### Deficits (R394 to R396, R400, R412) -/

/-- Under DEFICIT the oldest committed data goes to the FLUSH area of the first arm of a flush, as class-1 writes (R400). -/
def State.deficitWrite (s : State) : State :=
  match s.host.commits, s.flushArms with
  | c :: _, (_, p) :: _ =>
    if ! s.on APR_STAT_DEFICIT ∨ s.energy.flush ≠ .none ∨ s.energy.deficit.isSome then s
    else (s.emit (.landingRun p 152081 (commitBlocks c).length 3)).setEnergy { s.energy with deficit := some c.handle }
  | _, _ => s

/-- Data written so needs no flushing: it is credited, by the next update at which its writes are taken to have ended good
(R399; DESIGN CHOICE, log entry 107). -/
def State.deficitCredit (s : State) : State :=
  match s.energy.deficit with
  | none => s
  | some h =>
    let s : State := { s with host := { s.host with commits := s.host.commits.filter fun c => c.handle != h } }
    (s.setEnergy { s.energy with deficit := none }).creditAll h

/-- LEDGER_UPDATE (R394 to R396, R400, R412): the reserve is recomputed, staged data is written while there is a deficit, and bays
held in A2 are looked at again. -/
def ledgerUpdate (vholdCode : BitVec 12) (s : State) : State :=
  (s.deficitCredit.ledgerRefresh vholdCode).deficitWrite.releaseHolds

/-- LEDGER_UPDATE. -/
def execLedgerUpdate (vholdCode : BitVec 12) (s : State) : Result := clocked s (ledgerUpdate vholdCode s)

end Sys2Proof.Machine
end

