-- ==== Sys2Proof/Machine/Hierarchy.lean ====
section
/-! DEFINITION. Sys2Proof/Machine/Hierarchy.lean: the manager-worker hierarchy: beacons, terms and takeover, census,
grants and tokens, collimation and the fence (R533 to R544). Frames that arrive have passed the session's checks; a
member's index is its place in the members section. -/
namespace Sys2Proof.Machine
open Sys2Proof

/-- Replace what the hierarchy holds. -/
def State.setHie (s : State) (x : HieSt) : State := { s with hie := x }

/-- This device's own member index. -/
def State.myMember (s : State) : Option Nat := (s.cfg.members.getD []).findIdx? fun m => s.isDevice m.devId

/-- The member that has a role of the members section (R525). -/
def State.memberWith (s : State) (role : Nat) : Option Nat := (s.cfg.members.getD []).findIdx? fun m => m.role == role

/-- This device is the acting manager. -/
def State.acting (s : State) : Bool := s.on HIE_STAT_ACTING

/-- Send a manager-worker frame to member `m` over its session, if there is one (R534): types 1 to 3 are never kept for
retransmission. -/
def State.frameTo (s : State) (m type : Nat) (body : List Byte) : State :=
  match s.host.sessions.find? fun p => p.2.member == some m with
  | none => s
  | some p =>
    let term := BitVec.ofNat 32 (s.rd HIE_TERM_TERM)
    let tag := BitVec.ofNat 32 s.collTag
    let b : TxBody := .frame type (s.myMember.getD 0) term tag s.hie.frameSeq body
    (s.setHie { s.hie with frameSeq := (s.hie.frameSeq + 1) % 2 ^ 32 }).sendTo (BitVec.ofNat 14 p.1) b (decide (4 ≤ type))

/-- Send a frame to the manager: the acting one, known as the member with role 1, and where `standby` also to the standby. -/
def State.frameToManager (s : State) (type : Nat) (body : List Byte) (standby : Bool) : State :=
  let s := match s.memberWith 1 with
    | some m => if some m = s.myMember then s else s.frameTo m type body
    | none => s
  if standby then
    match s.memberWith 2 with
    | some m => if some m = s.myMember then s else s.frameTo m type body
    | none => s
  else s

/-- A member opens its session to the one with a role of the members section, where it is another and has none yet: a HELLO with
TENANT bit 15 set (R534). -/
def State.callMember (s : State) (role : Nat) : State :=
  match s.memberWith role with
  | none => s
  | some m =>
    if some m = s.myMember ∨ s.hie.called.contains m ∨ s.host.sessions.any (fun p => p.2.member == some m) then s
    else
      let x := (s.cfg.members.getD []).getD m {}
      (s.setHie { s.hie with called := m :: s.hie.called }).emit (.memberHello m x.ip x.port)

/-! ### The fence (R541, R543) -/

/-- The fence is evaluated at a valid beacon (R541, R543): the set and its epoch come into force, FENCED sets if this
device's digest is not in the set and clears otherwise, and the fence of R536 is lifted. -/
def State.takeBeacon (s : State) (epoch : Nat) (digests : List (BitVec 384)) : State :=
  let s := s.setHie { s.hie with allowed := digests, lastBeacon := some s.now, decay := none }
  let s := ((s.wr HIE_TAG_EPOCH epoch).put HIE_STAT_NOMGR false).put HIE_STAT_EXPIRED false
  s.put HIE_STAT_FENCED (! digests.contains s.digestNow)

/-- A higher TERM is seen (R535): the grant sequence starts afresh, and a manager of a lower TERM stops beaconing. -/
def State.seeTerm (s : State) (term : Nat) : State :=
  if s.rd HIE_TERM_TERM < term then
    ((s.setHie { s.hie with gseqSeen := none, asked := [] }).wr HIE_TERM_TERM term).put HIE_STAT_ACTING false
  else s

/-- BEACON is received (R535, R543). -/
def beacon (term : BitVec 32) (epoch : BitVec 16) (digests : List (BitVec 384)) (s : State) : State :=
  if s.role = roleStandalone ∨ term.toNat < max 1 (s.rd HIE_TERM_TERM) ∨ digests.isEmpty ∨ 4 < digests.length then s
  else (s.seeTerm term.toNat).takeBeacon epoch.toNat digests

/-- BEACON. -/
def execBeacon (term : BitVec 32) (epoch : BitVec 16) (digests : List (BitVec 384)) (s : State) : Result :=
  clocked s (beacon term epoch digests s)

/-! ### Tokens (R539) -/

/-- HIE_STAT.TOKENS shows the tokens this device holds. -/
def State.showTokens (s : State) : State :=
  s.wr HIE_STAT_TOKENS (min 16 (s.hie.held.length + if s.hie.selfIssued.isSome then 1 else 0))

/-- This device takes a token for bay `b`: firmware sets SPN_CTL.TOKEN (R202, R404). -/
def State.takeToken (s : State) (id b : Nat) : State :=
  let h := s.hie
  ((s.setHie { h with held := smPut h.held b id, wanted := h.wanted.filter (· ≠ b), asked := h.asked.filter (· ≠ b) }).put (SPN_CTL_TOKEN b) true).showTokens

/-- The acting manager grants waiting requests in arrival order while it has tokens (R539), not during the second after a
takeover (R535); at most `fuel` of them. -/
def State.serveTokens (s : State) : Nat → State
  | 0 => s
  | fuel + 1 =>
    if ! s.acting ∨ s.now < s.hie.quietUntil ∨ s.rd (CFG_PARAM_VALUE 19) ≤ s.hie.tokens.length then s
    else match s.hie.requests with
      | [] => s
      | (m, b) :: r =>
        let id := lowestFree s.hie.tokens 0
        let t : TokenOut := { member := m, bay := b, at_ := s.now }
        let s := s.setHie { s.hie with requests := r, tokens := smPut s.hie.tokens id t }
        let s := if some m = s.myMember then s.takeToken id b else s.frameTo m 5 [BitVec.ofNat 8 id, BitVec.ofNat 8 b]
        State.serveTokens s fuel

/-- The tokens this device wants are asked of the manager, or queued where it manages itself (R539). -/
def State.askTokens (s : State) : State :=
  let new := s.hie.wanted.filter fun b => ! s.hie.asked.contains b
  new.foldl (fun s b =>
    let s := s.setHie { s.hie with asked := s.hie.asked ++ [b] }
    match s.acting, s.myMember with
    | true, some m => s.setHie { s.hie with requests := s.hie.requests ++ [(m, b)] }
    | _, _ => s.frameToManager 4 [BitVec.ofNat 8 b] false) s

/-- TOKEN_REQ is received by the manager (R539). -/
def tokenReq (m : Fin 64) (b : Bay) (s : State) : State :=
  if ! s.acting then s
  else
    let s := s.setHie { s.hie with requests := s.hie.requests ++ [(m.val, b.val)] }
    s.serveTokens s.hie.requests.length

/-- TOKEN_REQ. -/
def execTokenReq (m : Fin 64) (b : Bay) (s : State) : Result := clocked s (tokenReq m b s)

/-- TOKEN is received by a member. -/
def token (id : BitVec 8) (b : Bay) (s : State) : State := if s.role = roleStandalone then s else s.takeToken id.toNat b.val

/-- TOKEN. -/
def execToken (id : BitVec 8) (b : Bay) (s : State) : Result := clocked s (token id b s)

/-- A token comes back to the manager, which serves the requests that wait. -/
def State.tokenBack (s : State) (id : Nat) : State :=
  let s := s.setHie { s.hie with tokens := smErase s.hie.tokens id }
  s.serveTokens s.hie.requests.length

/-- The member that holds token `id`, as the manager knows it. -/
def State.tokenHolder (s : State) (id : Nat) : Option Nat := (s.hie.tokens.find? fun p => p.1 == id).map fun p => p.2.member

/-- TOKEN_RET is received from member `m`: only its holder's return counts. -/
def tokenRet (m : Fin 64) (id : BitVec 8) (s : State) : State :=
  if ! s.acting ∨ s.tokenHolder id.toNat ≠ some m.val then s else s.tokenBack id.toNat

/-- TOKEN_RET. -/
def execTokenRet (m : Fin 64) (id : BitVec 8) (s : State) : Result := clocked s (tokenRet m id s)

/-- TOKEN_LEASE_EXPIRY (R539): TOKEN_LEASE after it was granted the manager reclaims token `id`. -/
def tokenLeaseExpiry (id : BitVec 8) (s : State) : State :=
  if ! s.acting ∨ s.tokenHolder id.toNat = none then s else s.tokenBack id.toNat

/-- TOKEN_LEASE_EXPIRY. -/
def execTokenLeaseExpiry (id : BitVec 8) (s : State) : Result := clocked s (tokenLeaseExpiry id s)

/-- Tokens whose entry has completed (SPN_CTL.TOKEN cleared) are returned (R202, R404). -/
def State.returnTokens (s : State) : State :=
  let spent := s.hie.held.filter fun p => ! s.on (SPN_CTL_TOKEN p.1)
  let keep := s.hie.held.filter fun p => s.on (SPN_CTL_TOKEN p.1)
  let self := s.hie.selfIssued.filter fun b => s.on (SPN_CTL_TOKEN b)
  let s := (s.setHie { s.hie with held := keep, selfIssued := self }).showTokens
  spent.foldl (fun s p =>
    if s.acting then s.tokenBack p.2 else s.frameToManager 6 [BitVec.ofNat 8 p.2] false) s

/-! ### Census (R534, R537, R542) -/

/-- The device's own DEMAND in mW (R537): AVG10 × 1.25 if Aperture held an operation or set OVER in the period, × 1.05
otherwise. -/
def State.ownDemand (s : State) : Nat :=
  let avg := s.rd APR_PWR_AVG10
  min (2 ^ 32 - 1) (if s.hie.pressed then avg * 5 / 4 else avg * 105 / 100)

/-- The record the manager keeps of a member. -/
def State.memberS (s : State) (m : Nat) : MemberSt := smGet {} s.hie.members m
/-- Replace it. -/
def State.setMember (s : State) (m : Nat) (x : MemberSt) : State := s.setHie { s.hie with members := smSet {} s.hie.members m x }

/-- The member has been heard within the last `ns`. -/
def State.heardWithin (s : State) (m ns : Nat) : Bool :=
  match (s.memberS m).heard with
  | none => false
  | some t => decide (s.now ≤ t + ns)

/-- HIE_STAT.MEMBERS: the members that report census, heard within 300 ms. -/
def State.showMembers (s : State) : State :=
  s.wr HIE_STAT_MEMBERS (countTrue ((List.range 64).map fun m => s.heardWithin m 300000000))

/-- The token IDs a member may name as self-issued (R536): 64 + its index, above every ID of the manager. -/
def selfToken (m : Nat) : Nat := 64 + m

/-- A census is entered (R534, R537, R539, R542). -/
def State.takeCensus (s : State) (m : Nat) (c : CensusMsg) : State :=
  let x := s.memberS m
  let acked := if c.gack.toNat = x.gseq then x.sent else x.acked
  let s := s.setMember m { x with acked := acked, demand := c.demand.toNat, heard := some s.now }
  let s := ((s.wr (HIE_MEMBER0_TAG m) c.tag.toNat).wr (HIE_MEMBER1_DEMAND m) c.demand.toNat).wr (HIE_MEMBER3_TOKENS m) c.tokens.length
  let s := ((s.put (HIE_MEMBER3_FENCED m) (c.fenced || c.expired)).wr (HIE_MEMBER3_AGE m) 0).showMembers
  if s.acting then
    let new := c.tokens.filter fun id => s.tokenHolder id.toNat == none
    let t : TokenOut := { member := m, at_ := s.now }
    s.setHie { s.hie with tokens := new.foldl (fun l id => smPut l id.toNat t) s.hie.tokens }
  else s

/-- CENSUS is received by the manager or the standby (R534). -/
def census (m : Fin 64) (c : CensusMsg) (s : State) : State :=
  if s.role = roleManager ∨ s.role = roleStandby then s.takeCensus m.val c else s

/-- CENSUS. -/
def execCensus (m : Fin 64) (c : CensusMsg) (s : State) : Result := clocked s (census m c s)

/-- The token IDs this device holds. -/
def State.heldIds (s : State) : List Byte :=
  (s.hie.held.map fun p => BitVec.ofNat 8 p.2)
    ++ (if s.hie.selfIssued.isSome then [BitVec.ofNat 8 (selfToken (s.myMember.getD 0))] else [])

/-- The body of this device's CENSUS (R534): digest, DEMAND, GACK, tokens, flags. -/
def State.censusBody (s : State) : List Byte :=
  let ids := s.heldIds.take 8
  beBytes 48 s.digestNow.toNat ++ leBytes 4 s.ownDemand ++ leBytes 4 (s.hie.gseqSeen.getD 0) ++ leBytes 1 ids.length
    ++ ids ++ List.replicate (8 - ids.length) 0
    ++ leBytes 1 ((s.on HIE_STAT_FENCED).toNat + 2 * (s.on HIE_STAT_EXPIRED).toNat)

/-! ### Grants (R537, R538) -/

/-- GRANT_FLOOR, GRANT_CEIL and RACK_BUDGET (R527). -/
def State.grantFloor (s : State) : Nat := s.rd (CFG_PARAM_VALUE 17)
def State.grantCeil (s : State) : Nat := s.rd (CFG_PARAM_VALUE 18)
def State.rackBudget (s : State) : Nat := s.rd (CFG_PARAM_VALUE 16)

/-- Members heard within 300 ms, this device among them. -/
def State.liveMember (s : State) (m : Nat) : Bool := some m == s.myMember || s.heardWithin m 300000000

/-- The larger of the last acknowledged and the last sent grant (R538). -/
def MemberSt.reserved (x : MemberSt) : Nat := max x.acked x.sent

/-- What a silent member keeps reserved (R537): its last grant for 10 s + DECAY_T, FLOOR after that. -/
def State.silentReserve (s : State) (m : Nat) : Nat :=
  if s.heardWithin m (10 ^ 10 + s.rd (CFG_PARAM_VALUE 21) * 10 ^ 9) then (s.memberS m).reserved else s.grantFloor

/-- One sharing of `pool` mW over members (index, share so far, d), each capped at `ceil`. -/
def shareOut (pool ceil : Nat) (l : List (Nat × Nat × Nat)) : List (Nat × Nat × Nat) :=
  let total := l.foldl (fun t x => if x.2.1 < ceil then t + x.2.2 else t) 0
  l.map fun x =>
    if x.2.1 < ceil ∧ total ≠ 0 then (x.1, min ceil (x.2.1 + pool * x.2.2 / total), x.2.2) else x

/-- The target grants of the members heard (R537): FLOOR plus a share of what is left in proportion to demand above
FLOOR, at most CEIL; what is left after the caps is shared once more. -/
def State.targets (s : State) (live silent : List Nat) : List (Nat × Nat) :=
  let floor := s.grantFloor
  let ceil := s.grantCeil
  if s.rackBudget = 0 then live.map fun m => (m, min ceil (max floor (s.memberS m).demand))
  else
    let used := live.length * floor + (silent.map s.silentReserve).foldl (· + ·) 0
    let pool := s.rackBudget - used
    let l := live.map fun m => (m, min ceil floor, (s.memberS m).demand - floor)
    let a := shareOut pool ceil l
    let spent := a.foldl (fun t x => t + (x.2.1 - floor)) 0
    (shareOut (pool - spent) ceil a).map fun x => (x.1, x.2.1)

/-- Member `m` is sent `g` mW: the record, HIE_MEMBER, the frame, or for this device itself APR_GRANT. -/
def State.sendGrant (s : State) (m g : Nat) : State :=
  let x := s.memberS m
  let own := some m == s.myMember
  let x := { x with sent := g, acked := if own then g else x.acked, gseq := if g = x.sent then x.gseq else (x.gseq + 1) % 2 ^ 32 }
  let s := (s.setMember m x).wr (HIE_MEMBER2_GRANT m) g
  if own then (s.wr APR_GRANT_MW g).showGeff
  else if g = 0 then s
  else s.frameTo m 3 (leBytes 4 g ++ leBytes 4 x.gseq)

/-- The sum over all members of the larger of acknowledged and sent grant (R538). -/
def State.reservedTotal (s : State) (all : List Nat) : Nat := (all.map fun m => (s.memberS m).reserved).foldl (· + ·) 0

/-- An increase towards a target (R538): limited so that the sum never exceeds BUDGET; none in the second after a
takeover (R535). -/
def State.raiseGrant (s : State) (all : List Nat) (m target : Nat) : State :=
  let x := s.memberS m
  if s.now < s.hie.quietUntil then s.sendGrant m x.sent
  else if s.rackBudget = 0 then s.sendGrant m target
  else s.sendGrant m (max x.sent (min target (x.reserved + (s.rackBudget - s.reservedTotal all))))

/-- The grants of a period (R537, R538): members silent beyond their reserve fall to FLOOR; reductions go out first, then
increases in member order. -/
def State.grantAll (s : State) : State :=
  let all := List.range (s.cfg.members.getD []).length
  let live := all.filter s.liveMember
  let silent := all.filter fun m => ! s.liveMember m
  let s := silent.foldl (fun s m =>
    let r := s.silentReserve m
    s.setMember m { s.memberS m with acked := min r (s.memberS m).acked, sent := min r (s.memberS m).sent }) s
  let t := s.targets live silent
  let s := (t.filter fun p => decide (p.2 < (s.memberS p.1).sent)).foldl (fun s p => s.sendGrant p.1 p.2) s
  (t.filter fun p => decide ((s.memberS p.1).sent ≤ p.2)).foldl (fun s p => s.raiseGrant all p.1 p.2) s

/-- GRANT is received (R535, R538): a member writes it to APR_GRANT unless its TERM is below the highest seen or it is
older than the last one applied. -/
def grant (term mw gseq : BitVec 32) (s : State) : State :=
  if s.role = roleStandalone ∨ term.toNat < max 1 (s.rd HIE_TERM_TERM) then s
  else
    let s := s.seeTerm term.toNat
    if s.acting then s
    else
      let older := match s.hie.gseqSeen with
        | some g => decide (gseq.toNat < g)
        | none => false
      if older then s
      else ((s.setHie { s.hie with gseqSeen := some gseq.toNat, decay := none }).wr APR_GRANT_MW mw.toNat).showGeff

/-- GRANT. -/
def execGrant (term mw gseq : BitVec 32) (s : State) : Result := clocked s (grant term mw gseq s)

/-! ### Every 100 ms (R534 to R537) -/

/-- The acting manager beacons its published set, and takes it itself (R534, R542). -/
def State.sendBeacon (s : State) : State :=
  let l := s.hie.published
  if l.isEmpty then s
  else
    let epoch := s.rd HIE_ASET_CTL_EPOCH
    let body := leBytes 2 epoch ++ leBytes 1 l.length ++ [0] ++ l.flatMap fun d => beBytes 48 d.toNat
    let s := (List.range (s.cfg.members.getD []).length).foldl (fun s m =>
      if some m = s.myMember then s else s.frameTo m 1 body) s
    s.takeBeacon epoch l

/-- The grant decays from `from_` at `t0` to GRANT_FLOOR over DECAY_T (R536). -/
def State.decayGrant (s : State) (t0 from_ : Nat) : State :=
  let floor := s.grantFloor
  let total := s.rd (CFG_PARAM_VALUE 21) * 10 ^ 9
  let elapsed := min total (s.now - t0)
  let g := if from_ ≤ floor then from_ else if total = 0 then floor else from_ - (from_ - floor) * elapsed / total
  (s.wr APR_GRANT_MW g).showGeff

/-- A member that manages nothing sends its census and marks a missing manager (R534, R536). -/
def State.memberTick (s : State) : State :=
  let missing := match s.hie.lastBeacon with
    | none => true
    | some t => decide (t + 300000000 ≤ s.now)
  let s := if missing then s.put HIE_STAT_NOMGR true else s
  let s := match s.hie.decay with
    | some (t0, g) => s.decayGrant t0 g
    | none => s
  s.frameToManager 2 s.censusBody true

/-- The acting manager's period: its own census, grants, tokens, beacon; it also tells the standby nothing else. -/
def State.managerTick (s : State) : State :=
  let s := match s.myMember with
    | some m => s.takeCensus m { tag := BitVec.ofNat 32 s.collTag, digest := s.digestNow, demand := BitVec.ofNat 32 s.ownDemand,
                                 gack := BitVec.ofNat 32 (s.memberS m).gseq, tokens := s.heldIds,
                                 fenced := s.on HIE_STAT_FENCED, expired := s.on HIE_STAT_EXPIRED }
    | none => s
  let s := s.grantAll
  (s.serveTokens s.hie.requests.length).sendBeacon

/-- The manager takes its TERM at the first period: 1 or higher (R535). -/
def State.startManager (s : State) : State :=
  if s.role = roleManager ∧ s.rd HIE_TERM_TERM = 0 then (s.wr HIE_TERM_TERM 1).put HIE_STAT_ACTING true else s

/-- HIERARCHY_TICK (R534). -/
def hierarchyTick (s : State) : State :=
  if s.role = roleStandalone ∨ ! s.enabled then s
  else
    let s := (forUpTo 64 (fun m s => s.bump (HIE_MEMBER3_AGE m) 100) s).showMembers
    let s := (s.callMember 1).callMember 2
    let s := s.startManager.returnTokens.askTokens
    let s := if s.acting then s.managerTick else s.memberTick
    s.setHie { s.hie with pressed := false }

/-- HIERARCHY_TICK. -/
def execHierarchyTick (s : State) : Result := clocked s (hierarchyTick s)

/-- TAKEOVER (R535): after 300 ms without a valid beacon the standby (or a manager that acts as standby) becomes acting
manager with TERM one higher than the highest seen, beacons the last allowed set under the same epoch, and for 1 s sends
no grant increase and no token. -/
def takeover (s : State) : State :=
  if s.role = roleStandby ∨ (s.role = roleManager ∧ s.rd HIE_TERM_TERM ≠ 0) then
    if s.acting then s
    else
      let s := (s.bumpWrap HIE_TERM_TERM).put HIE_STAT_ACTING true
      let s := s.wr HIE_ASET_CTL_EPOCH (s.rd HIE_TAG_EPOCH)
      let h := s.hie
      (s.setHie { h with published := h.allowed, quietUntil := s.now + 10 ^ 9, tokens := [], requests := [], decay := none }).sendBeacon
  else s

/-- TAKEOVER. -/
def execTakeover (s : State) : Result := clocked s (takeover s)

/-- BEACON_LOSS_FENCE (R536): 10 s without a valid beacon a worker fences itself with 0x6002 and begins to lower its grant. -/
def beaconLossFence (s : State) : State :=
  if s.role = roleStandalone ∨ s.acting ∨ s.on HIE_STAT_EXPIRED then s
  else
    let g := s.rd APR_GRANT_MW
    let s := ((s.put HIE_STAT_FENCED true).put HIE_STAT_EXPIRED true).put HIE_STAT_NOMGR true
    (s.setHie { s.hie with decay := some (s.now, g) }).decayGrant s.now g

/-- BEACON_LOSS_FENCE. -/
def execBeaconLossFence (s : State) : Result := clocked s (beaconLossFence s)

/-- Digest `n` of HIE_ASET (R542). -/
def State.asetDigest (s : State) (n : Nat) : BitVec 384 :=
  BitVec.ofNat 384 (beNat ((List.range 12).flatMap fun w => leBytes 4 (s.rd (HIE_ASET_WORD n w))))

/-- PUBLISH (R542): on the acting manager the epoch rises by 1 and the next beacon carries HIE_ASET(0 to COUNT − 1). -/
def publish (s : State) : State :=
  if s.role = roleStandalone ∨ ! s.acting then s
  else
    let n := s.clamp HIE_ASET_CTL_COUNT 1 4
    (s.setHie { s.hie with published := (List.range n).map s.asetDigest }).bumpWrap HIE_ASET_CTL_EPOCH

/-- PUBLISH. -/
def execPublish (s : State) : Result := clocked s (publish s)

end Sys2Proof.Machine
end

