-- ==== Sys2Proof/Machine/Power.lean ====
section
/-! DEFINITION. Sys2Proof/Machine/Power.lean: the power-domain controller, domain repair, the resets, the watchdog, and
the ends of a power-loss or shutdown flush (R407, R408, R418, R561 to R576). -/
namespace Sys2Proof.Machine
open Sys2Proof

/-- Replace what the power-domain controller holds. -/
def State.setPwr (s : State) (x : PwrSt) : State := { s with pwr := x }

/-- Domain states (R571). -/
def dmOff : Nat := 0
def dmReset : Nat := 1
def dmOn : Nat := 2
def dmDraining : Nat := 3
def dmQuiesced : Nat := 4
def dmFused : Nat := 7

/-- Set a domain's state. -/
def State.setDom (s : State) (n st : Nat) : State := s.wr (PWR_DOM_STATE n) st

/-! ### What a domain's reset does (R29, R566, R571) -/

/-- Registers with addresses from `lo` up to `hi` take their reset values. -/
def State.resetRegs (s : State) (lo hi : Nat) : State := { s with regs := s.regs.filter fun p => p.1 < lo || hi ≤ p.1 }

/-- The operations a scheduler has popped and not released complete with 0x0031, so that their credits return (R24, R29). -/
def State.dropQueue (s : State) (k : Nat) : State :=
  let q := s.schedS k
  let l := q.queue ++ q.released.toList
  let s := s.setSched k { q with queue := [], released := none }
  l.foldl (fun s m => (s.dropQueuedWrite k m.desc).schedComplete k m.desc 0x31) s

/-- Every operation a slice has in hand completes, with 0x0031 unless it had ended otherwise (R572). -/
def State.dropSliceOps (s : State) (k : Nat) : State :=
  (s.sliceS k).ops.foldl (fun s o =>
    s.postOp k (if o.ended ∧ o.status ≠ 0 then o else { o with ended := true, status := 0x31, stopped := true })) s

/-- The Facets of domain `n` (R139): of a slice, of a bay. -/
def facetsOf (n : Nat) : List Nat := if n < 64 then [n] else if n < 96 then [n, n + 32, n + 64] else []

/-- The Facets of domain `n` are reset; their stores stay (R157). -/
def State.resetFacets (s : State) (n : Nat) : State :=
  (facetsOf n).foldl (fun s f => if s.facets.any (fun p => p.1 == f) then s.setFacet f (s.facetS f).afterReset else s) s

/-- The Facets of domain `n` lose their stores as it is switched off (R157). -/
def State.loseStores (s : State) (n : Nat) : State :=
  (facetsOf n).foldl (fun s f => ({ s with free := s.free + 1 } : State).setFacet f (FctSt.fresh (160 + s.free))) s

/-- The reset of the unit of domain `n`. PRESENT follows the ball and stays; ANG_MISS counts since cold reset (R72). -/
def State.resetUnit (s : State) (n : Nat) : State :=
  if n < 64 then
    let s := ((s.dropSliceOps n).dropQueue n).resetRegs (0x20000000 + n * 0x10000) (0x20010000 + n * 0x10000)
    let s : State := { s with slices := smErase s.slices n, scheds := smErase s.scheds n }
    (s.resetFacets n).showSched n
  else if n < 96 then
    let b := n - 64
    let present := s.on (BL_STAT_PRESENT b)
    let misses := s.rd (ANG_MISS_COUNT b)
    let s := (s.resetRegs (0x20400000 + b * 0x10000) (0x20410000 + b * 0x10000)).resetRegs (0x20F00000 + b * 0x200) (0x20F00200 + b * 0x200)
    let s : State := { s with ang := smErase s.ang b, beam := smErase s.beam b, spins := smErase s.spins b,
                              servos := smErase (smErase s.servos (2 * b)) (2 * b + 1) }
    let s := s.resetFacets n
    let s := s.wr (ANG_MISS_COUNT b) misses
    if present then (s.put (BL_STAT_PRESENT b) true).wr (BL_STAT_STATE b) blDetect else s
  else if n < 112 then s.resetCore (n - 96)
  else if n < 116 then s
  else if n < 118 then s.resetRegs (0x20900100 + (n - 116) * 0x100) (0x20900200 + (n - 116) * 0x100)
  else if n < 126 then
    let e := n - 118
    { s.resetRegs (0x20600000 + e * 0x10000) (0x20608000 + e * 0x10000) with prisms := smErase s.prisms e }
  else if n < 130 then
    let j := n - 126
    s.setSec { s.sec with results := smErase (smErase s.sec.results (2 * j)) (2 * j + 1) }
  else
    let j := n - 130
    let s := forUpTo 32 (fun i s => s.dmaDrop (2 * j + i / 16) (i % 16)) s
    s.resetRegs (0x20800000 + j * 0x20000) (0x20820000 + j * 0x20000)

/-! ### Drains (R572) -/

/-- The drain of a domain starts (R572); the arms of a slice or bay are SUSPECT first (R294, R576). Operations that a slice's
scheduler has popped and not released complete with 0x0031 here: R29 leaves them to the procedure, which names only the one in
progress (DESIGN CHOICE, log entry 67). -/
def State.startDrain (s : State) (n : Nat) : State :=
  if n < 64 then
    let s := ((s.suspectArms [n]).cutRead n).dropQueue n
    if s.writing n then s.closeGates n 11 else s
  else if n < 96 then
    let b := n - 64
    let s := (s.suspectArms [2 * b, 2 * b + 1]).parkBoth b
    if s.spin b = spStop ∨ s.spin b = spFault then s else s.parkAndBrake b 0
  else if n < 112 then
    let e : Entry := { data := BitVec.ofNat 256 (Config.cryptoBytes s.free).toNat }
    (s.draw.returnReserved (n - 96)).hwPush (672 + (n - 96)) e
  else if n < 116 then s.groupChange (n - 112) true
  else if 118 ≤ n ∧ n < 126 then s.put (PRZ_CTL_EN (n - 118)) false
  else s

/-- The Facet of a domain's engine is halted, and the unit counts as drained (R575). -/
def State.unitHalted (s : State) (n : Nat) : Bool :=
  if n < 64 then s.on (FCT_STAT_HALT (sliceFct n))
  else if n < 96 then
    s.on (FCT_STAT_HALT (commFct (n - 64))) || s.on (FCT_STAT_HALT (reticleFct (2 * (n - 64)))) ||
      s.on (FCT_STAT_HALT (reticleFct (2 * (n - 64) + 1)))
  else false

/-- The drain of a domain has nothing left to do. -/
def State.drained (s : State) (n : Nat) : Bool :=
  s.unitHalted n ||
    if n < 64 then (s.sliceS n).ops.isEmpty
    else if n < 96 then
      s.bothParked (n - 64) && (s.spin (n - 64) == spStop || s.spin (n - 64) == spCoast || s.spin (n - 64) == spFault)
    else if n < 112 then true
    else if n < 116 then (s.rd LC_PWR_STATE).testBit (n - 112)
    else if n < 130 then true
    else (List.range 32).all fun i => ! s.dmaActive (2 * (n - 130) + i / 16) (i % 16)

/-- The domain is QUIESCED and the command is over (R571). -/
def State.quiesced (s : State) (n : Nat) : State :=
  let s := if 64 ≤ n ∧ n < 96 then linkDisable (BitVec.ofNat 5 (n - 64)).toFin s else s
  ((s.setDom n dmQuiesced).setPwr { s.pwr with drain := none }).put PWR_CMDSTAT_BUSY false |>.put PWR_CMD_GO false

/-- DRAIN_DONE (R572): the drain of the domain has finished. -/
def drainDone (dom : BitVec 8) (s : State) : State :=
  let n := dom.toNat
  if s.pwr.drain = some n ∧ s.drained n then s.quiesced n else s

/-- DRAIN_DONE. -/
def execDrainDone (dom : BitVec 8) (s : State) : Result := done s (drainDone dom s)

/-- What a forced drain drops (R572). -/
def State.forceDrop (s : State) (n : Nat) : State :=
  if n < 64 then s.dropSliceOps n
  else if n < 96 then s.spinDetach (n - 64)
  else if 130 ≤ n then forUpTo 32 (fun i s => s.dmaDrop (2 * (n - 130) + i / 16) (i % 16)) s
  else s

/-- DRAIN_TIMEOUT (R572): QTMO passed; the rest is dropped, FORCED sets and an event is recorded. A way group is never
forced. -/
def drainTimeout (dom : BitVec 8) (s : State) : State :=
  let n := dom.toNat
  if s.pwr.drain ≠ some n ∨ (112 ≤ n ∧ n < 116) then s
  else (((s.forceDrop n).put (PWR_DOM_FORCED n) true).event 11 .domain 11 n).quiesced n

/-- DRAIN_TIMEOUT. -/
def execDrainTimeout (dom : BitVec 8) (s : State) : Result := done s (drainTimeout dom s)

/-! ### Commands (R571, R575) -/

/-- OP codes of PWR_CMD. -/
def pcQuiesce : Nat := 1
def pcReset : Nat := 2
def pcOff : Nat := 3
def pcOn : Nat := 4
def pcReturn : Nat := 5

/-- Lens core domains that are ON. -/
def State.coresOn (s : State) : Nat := countTrue ((List.range 16).map fun c => s.dom (96 + c) == dmOn)

/-- The requester is the Lens core of domain `n`. -/
def ownDomain (who : Agent) (n : Nat) : Bool :=
  match who with
  | .core c => n == 96 + c.val
  | _ => false

/-- The command is accepted in the domain's state (R571). -/
def stateTakes (st op : Nat) : Bool :=
  if op = pcQuiesce then st == dmOn
  else if op = pcReset ∨ op = pcOff then st == dmQuiesced
  else if op = pcOn then st == dmOff
  else st == dmReset || st == dmQuiesced

/-- ERR of a command (R571, R572, R575), or none where it runs. -/
def State.cmdError (s : State) (who : Agent) (n op : Nat) : Option Nat :=
  if s.on PWR_CMDSTAT_BUSY then some 1
  else if 131 < n ∨ op = 0 ∨ 5 < op then some 5
  else if s.pwr.barred ∧ (op = pcOn ∨ op = pcReset ∨ op = pcReturn) then some 4
  else if ! stateTakes (s.dom n) op ∨ ownDomain who n then some 2
  else if op = pcQuiesce ∧ 96 ≤ n ∧ n < 112 ∧ s.coresOn ≤ 1 then some 2
  else if 112 ≤ n ∧ n < 116 ∧ op = pcQuiesce ∧ ! (s.rd LC_PWR_OFF).testBit (n - 112) ∧ s.groupRefused (n - 112) true then some 3
  else if 112 ≤ n ∧ n < 116 ∧ op = pcReturn ∧ s.groupRefused (n - 112) false then some 3
  else none

/-- What an accepted command does. -/
def State.runCmd (s : State) (n op : Nat) : State :=
  if op = pcQuiesce then
    let s := ((s.setDom n dmDraining).put (PWR_DOM_FORCED n) false).setPwr { s.pwr with drain := some n }
    ((s.put PWR_CMDSTAT_BUSY true).put PWR_CMD_GO true).startDrain n
  else if op = pcReset then (s.resetUnit n).setDom n dmReset
  else if op = pcOff then ((s.resetUnit n).loseStores n).setDom n dmOff
  else if op = pcOn then (s.resetUnit n).setDom n dmReset
  else
    let s := s.setDom n dmOn
    if 112 ≤ n ∧ n < 116 then s.groupChange (n - 112) false
    else if 116 ≤ n ∧ n < 118 then s.portReturned (n - 116)
    else s

/-- PWR_CMD is written with GO (R571): while a command runs the write is ignored with ERR 1; one refused on any other ground
has written its fields and sets its ERR. -/
def State.powerCmd (s : State) (who : Agent) (n op : Nat) : State :=
  match s.cmdError who n op with
  | some 1 => s.wr PWR_CMDSTAT_ERR 1
  | some e => ((s.wr PWR_CMD_DOM n).wr PWR_CMD_OP op).wr PWR_CMDSTAT_ERR e
  | none => ((s.wr PWR_CMD_DOM n).wr PWR_CMD_OP op).runCmd n op

/-- QUIESCE (R572). -/
def quiesce (who : Agent) (dom : BitVec 8) (s : State) : State := s.powerCmd who dom.toNat pcQuiesce
/-- QUIESCE. -/
def execQuiesce (who : Agent) (dom : BitVec 8) (s : State) : Result := done s (quiesce who dom s)

/-- RESET (R571). -/
def domReset (who : Agent) (dom : BitVec 8) (s : State) : State := s.powerCmd who dom.toNat pcReset
/-- RESET. -/
def execDomReset (who : Agent) (dom : BitVec 8) (s : State) : Result := done s (domReset who dom s)

/-- OFF (R571). -/
def domOff (who : Agent) (dom : BitVec 8) (s : State) : State := s.powerCmd who dom.toNat pcOff
/-- OFF. -/
def execDomOff (who : Agent) (dom : BitVec 8) (s : State) : Result := done s (domOff who dom s)

/-- ON (R571). -/
def domOn (who : Agent) (dom : BitVec 8) (s : State) : State := s.powerCmd who dom.toNat pcOn
/-- ON. -/
def execDomOn (who : Agent) (dom : BitVec 8) (s : State) : Result := done s (domOn who dom s)

/-- RETURN (R571). -/
def domReturn (who : Agent) (dom : BitVec 8) (s : State) : State := s.powerCmd who dom.toNat pcReturn
/-- RETURN. -/
def execDomReturn (who : Agent) (dom : BitVec 8) (s : State) : Result := done s (domReturn who dom s)

/-! ### Resets (R565 to R568) -/

/-- Domains of fused-off units (R563). -/
def fusedDomain (p : Part) (n : Nat) : Bool := p == .fy3232s && ((decide (32 ≤ n) && decide (n < 64)) || (decide (80 ≤ n) && decide (n < 96)))

/-- Every domain as a reset leaves it: fused ones FUSED, every other at its reset value. -/
def State.fuseDomains (s : State) : State :=
  forUpTo 96 (fun n s => if fusedDomain s.part n then s.setDom n dmFused else s) s

/-- What survives every reset: the part, the fuses, SPI flash with the boot control record, the security record and the
vital area, what the HDAs and their surfaces hold; and the model's own fields. -/
def State.lasting (s : State) : State :=
  let sec : SecSt := { slots := s.sec.slots, loupeFuse := s.sec.loupeFuse, svn := s.sec.svn, terase := s.sec.terase,
                       salts := s.sec.salts, records := s.sec.records, saltBase := s.sec.saltBase, sealedSlot := s.sec.sealedSlot, romKeys := s.sec.romKeys, revoked := s.sec.revoked }
  let cfg : CfgSt := { flash := s.cfg.flash, logNext := s.cfg.logNext }
  let host : HostSt := { objects := s.host.objects, objKeys := s.host.objKeys.map fun q => (q.1, { q.2 with slot := none }) }
  { part := s.part, va := s.va, sec := sec, cfg := cfg, host := host, hdas := s.hdas, life := s.life, cals := s.cals,
    free := s.free, out := s.out }

/-- The DRAM key is drawn from the DRBG (R382). -/
def State.drawDramKey (s : State) : State :=
  { s with sec := { s.sec with dramKey := Config.cryptoBytes s.free }, free := s.free + 1 }

/-- Cold reset (R566): everything but what lasts, with the straps as given; a DRAM key is drawn (R382). -/
def State.coldState (s : State) (role profile : Nat) : State :=
  ((((s.lasting.wr CFG_STRAP_ROLE role).wr CFG_STRAP_PROFILE profile).fuseDomains).draw).drawDramKey

/-- COLD_RESET (R565): POR_N rises; the straps are latched and the fuse shadows loaded. -/
def coldReset (role profile : BitVec 2) (s : State) : State := (s.coldState role.toNat profile.toNat).resolveSlots
/-- COLD_RESET. -/
def execColdReset (role profile : BitVec 2) (s : State) : Result := done s (coldReset role profile s)

/-- POR_N_LOW (R566, R596): POR_N falls; every domain is held in reset, nothing is released, BRKCHOP is low. -/
def porNLow (s : State) : State :=
  let t := (s.coldState (s.rd CFG_STRAP_ROLE) (s.rd CFG_STRAP_PROFILE)).wr PWR_RELEASE_CORE 0
  let t := forUpTo 132 (fun n t => if t.dom n = dmOn then t.setDom n dmReset else t) t
  t.setPwr { t.pwr with porLow := true }

/-- POR_N_LOW. -/
def execPorNLow (s : State) : Result := done s (porNLow s)

/-- Dirty lines of the Lens cache reach memory, so that a warm reset keeps the contents of SRAM and DRAM (R566). -/
def State.cleanAll (s : State) : State := (s.cache.map Prod.fst).foldl (fun s k => s.cleanLine k) s

/-- Fields beside the RWS ones that a warm reset keeps: wall time, which never decreases once EPOCH is set (R67), misses since
cold reset (R72), CHOPFLT (R221), and what the Loupe has done since cold reset (R390, R393). -/
def warmFields (bays : Nat) : List Fld :=
  [ANG_WT_NS, ANG_WT_STAT_EPOCH, ANG_WT_STAT_HOLD, ANG_WT_STAT_SLEW, ANG_WT_STAT_CRCERR, ANG_RS_SEC_S, APR_BUS_STAT_CHOPFLT,
   SEC_STAT_LOUPE_USED, SEC_STAT_KEYSOFF] ++ (List.range bays).map ANG_MISS_COUNT

/-- Warm reset (R566): every domain and the fabric; AON, vital words, RWS fields, SRAM and DRAM contents stay. -/
def State.warmState (s : State) (cause : Nat) (forced : Bool) : State :=
  let s := s.cleanAll
  let t := s.lasting
  let t : State := { t with mem := s.mem, memErr := s.memErr, vital := s.vital, now := s.now, wall := s.wall, facets := s.facets.map (fun p => (p.1, p.2.afterReset)), sysrefOk := s.sysrefOk,
                            brefOk := s.brefOk, hrefOk := s.hrefOk, evr := { macs := s.evr.macs, chainDue := s.evr.chainDue, kevr := s.evr.kevr },
                            pwr := { kicked := s.now, inbound := s.pwr.inbound, outbound := s.pwr.outbound, caseLow := s.pwr.caseLow } }
  let t := (t.setReg CFG_STRAP (s.reg CFG_STRAP)).setReg CFG_BOOTSEL (s.reg CFG_BOOTSEL)
  let t := (t.wr PWR_SMB_ADDR (s.rd PWR_SMB_ADDR)).wr PWR_STAT_CAUSE cause
  let t := forUpTo 16 (fun c t => t.setCore c { since := s.now }) t
  let t := t.setSec { t.sec with dramKey := s.sec.dramKey }
  let t := (warmFields s.bayCount).foldl (fun t f => t.wr f (s.rd f)) t
  (((t.put PWR_STAT_FORCED forced).fuseDomains).draw).resolveSlots

/-- Everything is drained: sessions closed, no operation on any slice, every actuator parked (R567). -/
def State.deviceDrained (s : State) : Bool :=
  s.host.sessions.isEmpty && s.allParked &&
    (List.range (2 * s.bayCount)).all fun k => (s.sliceS k).ops.isEmpty && (s.schedS k).queue.isEmpty && (s.schedS k).released.isNone

/-- A warm reset drains and then resets (R567): actuators are parked once no operation is left on any slice. -/
def State.stepWarm (s : State) (cause : Nat) : State :=
  let s := if s.pwr.warm.isSome then s else (s.setPwr { s.pwr with warm := some cause }).drainHost
  let idle := (List.range (2 * s.bayCount)).all fun k => (s.sliceS k).ops.isEmpty && (s.schedS k).queue.isEmpty
  let s := if idle ∧ ! s.allParked then forUpTo s.bayCount (fun b s => s.parkBoth b) s else s
  if s.deviceDrained then s.warmState (s.pwr.warm.getD cause) false else s

/-- WARM_RESET (R567): a request from PWR_RST or the SMBus, or the drain it began going on. A latched shutdown holds
until VAON is removed (R418). -/
def warmReset (smbus : Bool) (s : State) : State :=
  if s.on THM_STAT_SHUT ∨ s.pwr.forced.isSome then s else s.stepWarm (if smbus then 2 else 1)

/-- WARM_RESET. -/
def execWarmReset (smbus : Bool) (s : State) : Result := done s (warmReset smbus s)

/-- A forced warm reset (R568): the power-loss flush without regeneration first; the reset follows its end. -/
def State.forceReset (s : State) (cause : Nat) : State :=
  if s.on THM_STAT_SHUT ∨ s.pwr.forced.isSome then s
  else
    let s := s.setPwr { s.pwr with forced := some cause, warm := none }
    if s.energy.flush = .none then s.beginFlush 3 else s

/-- FORCED_WARM_RESET (R568). -/
def forcedWarmReset (smbus : Bool) (s : State) : State := s.forceReset (if smbus then 2 else 1)
/-- FORCED_WARM_RESET. -/
def execForcedWarmReset (smbus : Bool) (s : State) : Result := done s (forcedWarmReset smbus s)

/-- WARM_RESET_DRAIN_TIMEOUT (R567): a drain not finished in 30 s. -/
def warmResetDrainTimeout (s : State) : State := if s.pwr.warm.isSome then s.forceReset 4 else s
/-- WARM_RESET_DRAIN_TIMEOUT. -/
def execWarmResetDrainTimeout (s : State) : Result := done s (warmResetDrainTimeout s)

/-- WATCHDOG (R568): LIMIT ms, where not 0, have passed without a kick. -/
def watchdog (s : State) : State := if s.rd PWR_WDOG_LIMIT = 0 then s else s.forceReset 3
/-- WATCHDOG. -/
def execWatchdog (s : State) : Result := done s (watchdog s)

/-- KICK (R568): the watchdog restarts. -/
def kick (s : State) : State := s.setPwr { s.pwr with kicked := s.now }
/-- KICK. -/
def execKick (s : State) : Result := done s (kick s)

/-! ### The end of a flush (R407, R408, R418) -/

/-- FLUSH_END. -/
def execFlushEnd (timedOut : Bool) (written : List (Slice × Nat)) (s : State) : Result := done s (flushEnd timedOut written s)

/-- Domains power off, all but AON (R418). -/
def State.powerOffAll (s : State) : State :=
  forUpTo 132 (fun n s => if s.dom n = dmFused then s else ((s.resetUnit n).loseStores n).setDom n dmOff) s

/-- FLUSH_BRAKE (R407, R418, R568): with every actuator parked, STOP goes to every spindle, the flush report and the Ledger
record are written and FLUSHED sets. A latched shutdown then powers off every domain; a forced warm reset then resets. -/
def flushBrake (s : State) : State :=
  if s.energy.flush ≠ .parking ∨ ! s.allParked then s
  else
    let s := forUpTo s.bayCount (fun b s => s.hwPush (192 + b) (spinEntry opStop 0)) s
    let s := s.writeReport.setEnergy { s.energy with flush := .done }
    let s := (s.put APR_STAT_FLUSHED true).put APR_STAT_FLUSHING false
    if s.on THM_STAT_SHUT then s.powerOffAll
    else match s.pwr.forced with
      | some c => (forUpTo s.bayCount (fun b s => s.enterBrake b) s).warmState c true
      | none => s

/-- FLUSH_BRAKE. -/
def execFlushBrake (s : State) : Result := done s (flushBrake s)

/-- POWER_RETURN (R408): PFAIL_N is high again with VMOTOR held; before the flush has ended (`afterFlush` false) the freeze
will lift when it ends; after it, the device begins a cold boot. A latched shutdown stays. A boot held at step 1 may go on (R594). -/
def powerReturn (afterFlush : Bool) (s : State) : State :=
  if ! s.on APR_STAT_PFAIL ∨ s.on THM_STAT_SHUT then s
  else if s.cfg.step ≤ 1 then s.put APR_STAT_PFAIL false
  else if afterFlush then
    (if s.energy.flush = .done then (s.coldState (s.rd CFG_STRAP_ROLE) (s.rd CFG_STRAP_PROFILE)).resolveSlots else s)
  else if s.energy.flush = .writing then (s.put APR_STAT_PFAIL false).setEnergy { s.energy with returned := true }
  else s

/-- POWER_RETURN. -/
def execPowerReturn (afterFlush : Bool) (s : State) : Result := done s (powerReturn afterFlush s)

/-- THERMAL_SHUTDOWN (R418): T_J has exceeded 115 °C for 100 updates; shutdown latches and staged data is flushed, without
regeneration. -/
def thermalShutdown (s : State) : State :=
  if s.energy.hot < 100 ∨ s.on THM_STAT_SHUT then s
  else
    let s := s.put THM_STAT_SHUT true
    let s := s.setPwr { s.pwr with barred := true }
    if s.energy.flush = .none then s.beginFlush 5 else s

/-- THERMAL_SHUTDOWN. -/
def execThermalShutdown (s : State) : Result := done s (thermalShutdown s)

end Sys2Proof.Machine
end

