-- ==== Sys2Proof/Machine/Smbus.lean ====
section
/-! DEFINITION. Sys2Proof/Machine/Smbus.lean: the SMBus sideband (R578) and its alert (R599). The PEC of a transaction has
been checked before its command comes. -/
namespace Sys2Proof.Machine
open Sys2Proof

/-- Capacity of each mailbox FIFO in bytes (R578). -/
def mailboxSize : Nat := 128

/-- Byte 0x11 (R578): the boot step reached, or 0xFF on boot failure. -/
def State.bootByte (s : State) : Nat := if s.cfg.stopped then 0xFF else s.cfg.step

/-- Byte `i` of a number, lowest first. -/
def byteOf (v i : Nat) : Byte := BitVec.ofNat 8 (v / 256 ^ i)

/-- A sideband register's byte (R578): byte 0x10 gives the bay count and the grade (R6) in a packing that is not stated;
offsets that the table does not list are free (log entry 43). -/
def State.sideband (s : State) (o : Nat) : Byte :=
  if o < 0x10 then (s.describeBytes 0).getD o 0
  else if o = 0x10 then Config.baysGrade s.bayCount (s.part == .fy3264x)
  else if o = 0x11 then byteOf s.bootByte 0
  else if o = 0x12 ∨ o = 0x13 then byteOf (s.rd CFG_STATUS_REASON) (o - 0x12)
  else if o = 0x14 ∨ o = 0x15 then byteOf (s.rd THM_STAT_TJ) (o - 0x14)
  else if o = 0x16 ∨ o = 0x17 ∨ o = 0x19 then 0
  else if o = 0x18 then byteOf (s.reg CFG_BOOTSEL).toNat 0
  else if o = 0x1A then byteOf ((s.reg APR_STAT).toNat % 128 + 128 * (s.on THM_STAT_SHUT).toNat) 0
  else if 0x1C ≤ o ∧ o < 0x20 then byteOf (s.rd APR_PWR_AVG10) (o - 0x1C)
  else Config.freeByte s.free

/-- SMBUS_READ (R578): a byte of a sideband register, or the next byte of the outbound mailbox, which reads 0x00 and sets
UNF while it is empty. The sideband does not answer while POR_N is low. -/
def smbusRead (off : BitVec 8) (s : State) : State :=
  let o := off.toNat
  if s.pwr.porLow then s
  else if 0x40 ≤ o ∧ o < 0x80 then
    match s.pwr.outbound with
    | [] => (s.put PWR_SMB_UNF true).emit (.smbus 0)
    | b :: r => (s.setPwr { s.pwr with outbound := r }).emit (.smbus b)
  else s.draw.emit (.smbus (s.sideband o))

/-- SMBUS_READ. -/
def execSmbusRead (off : BitVec 8) (s : State) : Result := done s (smbusRead off s)

/-- SMBUS_WRITE (R578): a writable sideband register, or a byte into the inbound mailbox, discarded with OVF where that is
full. THM_CASE.T is written with its high byte. -/
def smbusWrite (off : BitVec 8) (v : Byte) (s : State) : State :=
  let o := off.toNat
  if s.pwr.porLow then s
  else if 0x40 ≤ o ∧ o < 0x80 then
    if s.pwr.inbound.length < mailboxSize then s.setPwr { s.pwr with inbound := s.pwr.inbound ++ [v] } else s.put PWR_SMB_OVF true
  else if o = 0x16 then s.setPwr { s.pwr with caseLow := v }
  else if o = 0x17 then caseTemperatureWrite (v ++ s.pwr.caseLow) s
  else if o = 0x18 then (s.wr CFG_BOOTSEL_PROFILE (v.toNat % 4)).put CFG_BOOTSEL_VALID (v.getLsbD 2)
  else if o = 0x19 ∧ v = 0xA5 then warmReset true s
  else if o = 0x19 ∧ v = 0xA7 then forcedWarmReset true s
  else s

/-- SMBUS_WRITE. -/
def execSmbusWrite (off : BitVec 8) (v : Byte) (s : State) : Result := done s (smbusWrite off v s)

/-- SMB_ALERT_N is driven low (R599). -/
def State.alerting (s : State) : Bool :=
  s.cfg.stopped || s.on THM_STAT_SHUT || s.on THM_STAT_THROT || s.on APR_STAT_PFAIL || s.on APR_STAT_DEFICIT

/-- SMBUS_ALERT_RESPONSE (R599): the device gives its own address while it drives the alert. -/
def smbusAlertResponse (s : State) : State :=
  if s.alerting ∧ ! s.pwr.porLow then s.emit (.smbusAddress (0x4C + s.rd PWR_SMB_ADDR)) else s

/-- SMBUS_ALERT_RESPONSE. -/
def execSmbusAlertResponse (s : State) : Result := done s (smbusAlertResponse s)

end Sys2Proof.Machine
end

