-- ==== Sys2Proof/Machine/Registers.lean ====
section
/-! DEFINITION. Sys2Proof/Machine/Registers.lean: register reads and writes over the bus (R12 to R15, R38 to R41), with the
effect that the spec gives each field: its access code, or the operation that a write of it starts. A write of one half
of a 64-bit register that is not plain storage acts as a write of the whole with the other half 0 (log entry 44). -/
namespace Sys2Proof.Machine
open Sys2Proof

/-! ### FIFO data ports and other reads with an effect -/

/-- Take 8 bytes from a FIFO, first byte in [7:0]; bytes that are not there are free. -/
def State.take8 (s : State) (l : List Byte) : Word × List Byte × State :=
  let got := l.take 8
  let more := (List.range (8 - got.length)).map fun i => Config.freeByte (s.free + i)
  (BitVec.ofNat 64 (leNat (got ++ more)), l.drop 8, { s with free := s.free + (8 - got.length) })

/-- Codes of an event channel that the recorder itself writes (R547, R560). -/
def recorderCode (c : Nat) : Bool := c % 32 < 3

/-- The address of a hierarchy register that reads 0 on a standalone device (R545). -/
def hieHidden (a : Nat) : Bool := 0x21008000 ≤ a && a < 0x21009000 && a != 0x21008004

/-- The address is that of a CS_LASER_ACC or CS_WPO register (R138), which counts on while the laser is on (R123). -/
def laserCount (a : Nat) : Bool :=
  decide (0x20000000 ≤ a) && decide (a < 0x20400000) && decide (0x200 ≤ a % 0x10000) && decide (a % 0x10000 < 0x2C0)

/-- The slice in whose window an address lies (R138). -/
def sliceOfAddr (a : Nat) : Nat := (a - 0x20000000) / 0x10000

/-- The contents of a register as a read returns them, with what the read does (R13, R15); none is a bus error (R497). -/
def State.readReg (s : State) (h : RegHit) : Option Word × State :=
  let a := h.reg.addr
  if a = CFG_FL_RXF.addr then
    let (v, rest, s) := s.take8 s.cfg.rxf
    (some v, (s.setCfg { s.cfg with rxf := rest }).flashFill)
  else if a = PWR_SMB_RXF.addr then
    let (v, rest, s) := s.take8 s.pwr.inbound
    (some v, s.setPwr { s.pwr with inbound := rest })
  else if 0x20B01000 ≤ a ∧ a < 0x20B01200 then s.readVw ((a - 0x20B01000) / 8)
  else if hieHidden a ∧ s.role = roleStandalone then (some 0, s)
  else if 0x20E01000 ≤ a ∧ a < 0x20E02000 ∧ recorderCode ((a - 0x20E01000) / 4) then (some 0, s)
  else if laserCount a then
    let s := s.foldLaser (sliceOfAddr a)
    (some (s.reg h.reg &&& readMask h.flds), s)
  else (some (s.reg h.reg &&& readMask h.flds), s)

/-- The Facet whose block holds an address. -/
def facetAt (a : Nat) : FacetId :=
  if a < 0x20400000 then .slice (Fin.ofNat 64 ((a - 0x20000000) / 0x10000))
  else
    let b := (a - 0x20400000) / 0x10000
    match a / 0x4000 % 4 with
    | 3 => .comm (Fin.ofNat 32 b)
    | n => .reticle (Fin.ofNat 64 (2 * b + (n - 1)))

/-- A 32-bit word of a store window of the standby bank (R159); the check bits, whose code is not stated, are a free function of
the word. -/
def State.readStore (s : State) (a : Nat) : Word :=
  let b := s.standbyBank (facetAt a)
  let o := a % 0x4000
  let i := (o - 0x1000) / 4
  let j := (o - 0x2000) / 16
  let n := (o - 0x2000) / 4 % 4
  if o < 0x2000 then BitVec.ofNat 64 ((b.microAt i).toNat + 2 ^ 20 * (Config.microCheck (b.errAt i) (b.microAt i)).toNat)
  else if n = 3 then BitVec.ofNat 64 (Config.nanoCheck (b.errAt (1024 + j)) (b.nanoAt j)).toNat
  else BitVec.ofNat 64 ((b.nanoAt j).toNat / 2 ^ (32 * n) % 2 ^ 32)

/-- The address lies in a store window of a Facet (R139). -/
def inStore (a : Nat) : Bool := inFacetBlock a && decide (0x1000 ≤ a % 0x4000) && decide (a % 0x4000 < 0x3000)

/-! ### Reads (R12, R15) -/

/-- The latched high word for a requester and register, if it holds one. -/
def State.latched (s : State) (who : Agent) (a : Nat) : Option (BitVec 32) :=
  (s.latches.find? fun p => p.1 == who && p.2.1 == a).map fun p => p.2.2

/-- Drop a requester's latch of a register. -/
def State.unlatch (s : State) (who : Agent) (a : Nat) : State :=
  { s with latches := s.latches.filter fun p => ! (p.1 == who && p.2.1 == a) }

/-- One 32-bit read of a window: the low word of a 64-bit register latches its high word, which the requester's next read of
the high word returns (R12). A high word for which nothing is latched is read as the register stands (DEDUCED, log entry 91);
of a FIFO data port, whose bytes such a read would have to take, it reads 0 and takes nothing (DESIGN CHOICE, log entry 91).
Reserved offsets read 0 (R15). -/
def State.read32 (s : State) (who : Agent) (a : Nat) : Option Word × State :=
  if inStore a then (some (s.readStore a), s)
  else match regAt a with
    | none => (some 0, s)
    | some h =>
      if h.high then
        match s.latched who h.reg.addr with
        | some v => (some (v.zeroExtend 64), s.unlatch who h.reg.addr)
        | none =>
          if h.reg.addr = CFG_FL_RXF.addr ∨ h.reg.addr = PWR_SMB_RXF.addr then (some 0, s)
          else match s.readReg h with
            | (none, s) => (none, s)
            | (some v, s) => (some (v >>> 32), s)
      else
        match s.readReg h with
        | (none, s) => (none, s)
        | (some v, s) =>
          if h.wide then
            let s := s.unlatch who a
            (some (v &&& 0xFFFFFFFF), { s with latches := (who, a, v.extractLsb' 32 32) :: s.latches })
          else (some (v &&& 0xFFFFFFFF), s)

/-- Two 32-bit reads. -/
def State.readPair (s : State) (who : Agent) (a : Nat) : Option Word × State :=
  match s.read32 who a with
  | (none, s) => (none, s)
  | (some lo, s) =>
    match s.read32 who (a + 4) with
    | (none, s) => (none, s)
    | (some hi, s) => (some (lo ||| (hi <<< 32)), s)

/-- A read of a register window: none is a bus error. A 64-bit access of two 32-bit registers reads the lower first. -/
def State.regRead (s : State) (who : Agent) (oLevel : Bool) (a : Nat) (wide : Bool) : Option Word × State :=
  if ! s.windowOk who oLevel a wide then (none, s)
  else if ! wide then s.read32 who a
  else
    match (if inStore a then none else regAt a) with
    | some h => if h.wide then s.readReg h else s.readPair who a
    | none => s.readPair who a

/-! ### Writes -/

/-- The plain write of the fields of a register but those that begin at the bits listed. -/
def State.writeRest (s : State) (h : RegHit) (lane v : Word) (los : List Nat) : State :=
  s.writeCodes { h with flds := h.flds.filter fun f => ! los.contains f.lo } lane v

/-- SPN_CTL.TOKEN is written (R202, R404, R536): a standalone device counts its tokens; a member whose manager is lost may
issue itself one. -/
def State.writeToken (s : State) (b : Nat) (v : Bool) : State :=
  if v = s.on (SPN_CTL_TOKEN b) then s
  else if ! v then s.dropToken b
  else
    let s := s.put (SPN_CTL_TOKEN b) true
    if s.role = roleStandalone then s.bump APR_SPIN_HELD
    else if s.on HIE_STAT_EXPIRED ∧ (s.hie.held.all fun p => p.1 != b) ∧ s.hie.selfIssued = none then
      s.setHie { s.hie with selfIssued := some b }
    else s

/-- Registers of a bay's unit (R106, R177, R191, R194, R197, R200). -/
def State.writeBayReg (s : State) (h : RegHit) (lane v : Word) : State :=
  let w := v &&& lane
  let b := (h.reg.addr - 0x20400000) / 0x10000
  let o := h.reg.addr % 0x10000
  let bay : Bay := Fin.ofNat 32 b
  if o = 0 then
    let s := s.writeRest h lane v [0, 20]
    let s := if w.getLsbD 0 = s.on (BL_CTL_EN b) then s else if w.getLsbD 0 then trainingStart bay s else linkDisable bay s
    if w.getLsbD 20 = s.on (BL_CTL_ATTACHED b) then s else attach bay (w.getLsbD 20) s
  else if o = 0x30 then managedWord bay w s
  else if 0x100 ≤ o ∧ o < 0x200 then
    let k := 2 * b + (o - 0x100) / 0x80
    let slice : Slice := Fin.ofNat 64 k
    let r := (o - 0x100) % 0x80
    if r = 0 then
      let s := servoEnable slice (w.getLsbD 0) (s.writeRest h lane v [0, 16])
      if w.getLsbD 16 then parkRequest slice s else s
    else if r = 0x54 ∧ w.getLsbD 31 then gainCopy slice (w.extractLsb' 0 6) s
    else s.writeCodes h lane v
  else if 0x1000 ≤ o then
    if s.on (SRV_CTL_EN (2 * b + (o - 0x1000) / 0x1800)) then s else s.setReg h.reg (w &&& 0xFFFFFFFF)
  else if o = 0x300 then
    let s := s.writeRest h lane v [0, 1, 16]
    let s := spindleEnable bay (w.getLsbD 0) (s.writeToken b (w.getLsbD 1))
    if w.getLsbD 16 then spindleAbort bay s else s
  else if o = 0x32C ∧ s.on (SPN_CTL_EN b) then s
  else s.writeCodes h lane v

/-- Registers of a Facet block (R149, R153, R157, R160, R161, R163). -/
def State.writeFacetReg (s : State) (h : RegHit) (lane v : Word) : State :=
  let w := v &&& lane
  let f := facetAt h.reg.addr
  let o := h.reg.addr % 0x4000
  if o = 0 then
    let s := s.writeRest h lane v ([0, 6, 7] ++ (if s.sec.loupeFuse then [8] else []))
    let s := if w.getLsbD 0 then runStart f s else runHalt f s
    let s := if w.getLsbD 6 then doorbell f s else s
    if w.getLsbD 7 then facetClear f s else s
  else if o = 0xC then swapArm f (w.getLsbD 31) (w.extractLsb' 0 10) s
  else if o = 0x2C then (if w.getLsbD 0 then facetVerify f s else s)
  else s.writeCodes h lane v

/-- MEM_VW(i) (R497, R498, R500): word 27 under R498, words 32 to 63, and words 17 to 23 while APR_CTL.LEN is 0. -/
def State.writeVw (s : State) (i : Nat) (w : Word) : State :=
  if i = 27 then jseqWrite w s
  else if 32 ≤ i then s.setVw i w
  else if i < 17 ∨ 23 < i ∨ s.on APR_CTL_LEN then s
  else
    let s := s.setVw i w
    if i = 17 then (s.setEnergy { s.energy with outUj := w.toNat }).wr APR_OUT_MJ ((w.toNat + 999) / 1000)
    else if i = 18 then (s.setEnergy { s.energy with staged := w.toNat }).wr APR_STAGE_STAGED ((w.toNat + 2 ^ 20 - 1) / 2 ^ 20)
    else if i = 19 then s.wr APR_RETR_MJ w.toNat
    else if i = 20 then s.wr APR_USABLE_MJ w.toNat
    else s

/-- MEM_BT_CMD is written (R263). -/
def State.writeBtCmd (s : State) (w : Word) : State :=
  let i := w.extractLsb' 0 25
  let op := bitsOf w 28 4
  if s.on MEM_BT_STAT_BUSY ∨ 8 ≤ op then btInvalidCommand (w.extractLsb' 28 4) i s
  else
    match op with
    | 1 => btRead i s
    | 2 => btWrite i s
    | 3 => btOpen i s
    | 4 => btClose i s
    | 5 => btClean s
    | 6 => btInval s
    | 7 => btRestore i s
    | _ => (s.wr MEM_BT_CMD_OP op).wr MEM_BT_CMD_INDEX i.toNat

/-- Registers of memory and the Band Table. -/
def State.writeMemReg (s : State) (h : RegHit) (lane v : Word) : State :=
  let a := h.reg.addr
  if 0x20B01000 ≤ a ∧ a < 0x20B01200 then
    let i := (a - 0x20B01000) / 8
    s.writeVw i ((v &&& lane) ||| ((s.vw i).majority.getD 0 &&& ~~~lane))
  else if a = MEM_BT_CMD.addr then s.writeBtCmd (v &&& lane)
  else s.writeCodes h lane v

/-- Registers of Prism: LEPOCH is kept in vital word 25 (R281); the layouts are part of the digest (R540). -/
def State.writePrzReg (s : State) (h : RegHit) (lane v : Word) : State :=
  let a := h.reg.addr
  let s := s.writeCodes h lane v
  if a = PRZ_LEPOCH.addr then s.setVw 25 (s.reg PRZ_LEPOCH)
  else if 0x20608100 ≤ a ∧ a < 0x20608180 ∧ s.enabled then s.showDigest
  else s

/-- Registers of Aperture, the Ledger and the thermal unit (R221, R403, R415, R416). -/
def State.writeAprReg (s : State) (h : RegHit) (lane v : Word) : State :=
  let w := v &&& lane
  let a := h.reg.addr
  if a = APR_CTL.addr then (s.writeRest h lane v [0]).aprEnable (w.getLsbD 0)
  else if a = APR_GRANT.addr then (s.writeCodes h lane v).showGeff
  else if a = APR_CHOP_TEST.addr then
    let s := s.writeRest h lane v [0]
    if w.getLsbD 0 then chopperTest s else s
  else if a = THM_CTL.addr then
    let s := s.writeRest h lane v [1]
    if w.getLsbD 1 then trim s else s
  else if a = THM_CASE.addr then caseTemperatureWrite (w.extractLsb' 0 16) s
  else s.writeCodes h lane v

/-- Registers of the security unit (R368, R387, R391). -/
def State.writeSecReg (s : State) (h : RegHit) (lane v : Word) : State :=
  let w := v &&& lane
  let a := h.reg.addr
  if a = SEC_CTL.addr then (if w.getLsbD 0 then reseed s else s)
  else if a = SEC_FUSE_CMD.addr then
    if bitsOf w 0 4 = 1 then loupeKill s else if bitsOf w 0 4 = 2 then svnRaise (w.extractLsb' 4 4) s else s
  else s.writeCodes h lane v

/-- Registers of the Lens cache (R481 to R487). -/
def State.writeLcReg (s : State) (h : RegHit) (lane v : Word) : State :=
  let w := v &&& lane
  let a := h.reg.addr
  if a = LC_CTL.addr then (if w.getLsbD 0 then cacheEnable s else cacheDisable s)
  else if a = LC_LOCK.addr then wayLock (w.extractLsb' 0 16) s
  else if a = LC_PWR.addr then forUpTo 4 (fun g s => s.groupChange g (w.getLsbD g)) s
  else if a = LC_RANGE.addr then
    if w.getLsbD 31 then s.rangeGo (bitsOf w 0 3) (w.getLsbD 3) (bitsOf w 4 4) else s.writeRest h lane v [31]
  else s.writeCodes h lane v

/-- Registers of the DMA engines (R503, R504, R511, R516): while a shadow set is valid, or LPQ fills it, a write of it is
refused with SHERR; LPQ changes only while EN is 0. -/
def State.writeDmaReg (s : State) (h : RegHit) (lane v : Word) : State :=
  let w := v &&& lane
  let d := (h.reg.addr - 0x20800000) / 0x10000
  let o := h.reg.addr % 0x10000
  if o = 0 then (if w.getLsbD 0 then s.put (DMA_ENG_CTL_EN d) true else dmaEngineDisable (Fin.ofNat 4 d) s)
  else if o < 0x100 then s.writeCodes h lane v
  else
    let i := (o - 0x100) / 0x80
    let ch : DmaCh := { d := Fin.ofNat 4 d, i := Fin.ofNat 16 i }
    let r := (o - 0x100) % 0x80
    if r = 0 then
      let s := if s.on (DMA_CH_CTL_EN d i) then s else s.put (DMA_CH_CTL_LPQ d i) (w.getLsbD 1)
      let s := if w.getLsbD 0 then s.put (DMA_CH_CTL_EN d i) true else dmaChannelDisable ch s
      if w.getLsbD 2 then dmaArm ch s else s
    else if 0x30 ≤ r ∧ r < 0x50 then
      if s.on (DMA_CH_STAT_SHV d i) ∨ s.on (DMA_CH_CTL_LPQ d i) then s.put (DMA_CH_STAT_SHERR d i) true else s.writeCodes h lane v
    else s.writeCodes h lane v

/-- CFG_FL_CTL is written (R521). -/
def State.writeFlash (s : State) (w : Word) : State :=
  let op := bitsOf w 0 3
  let s := s.wr CFG_FL_CTL_OP op
  if ! w.getLsbD 31 then s
  else if op = 1 then flashRead s
  else if op = 2 then flashProgram s
  else if op = 3 then flashErase s
  else if op = 4 then sfdpRead s
  else s

/-- 8 bytes go to the flash transmit FIFO; an overrun sets OVF and ends the operation with ERR 3 (R521). -/
def State.flashTx (s : State) (w : Word) : State :=
  let l := s.cfg.txf ++ leBytes 8 w.toNat
  if l.length ≤ 256 then s.setCfg { s.cfg with txf := l }
  else
    let s := s.setCfg { s.cfg with txf := l.take 256, flOp := none }
    ((s.put CFG_FL_STAT_OVF true).put CFG_FL_STAT_BUSY false).wr CFG_FL_STAT_ERR 3

/-- Registers of configuration and the hierarchy (R521, R530, R542). -/
def State.writeCfgReg (s : State) (h : RegHit) (lane v : Word) : State :=
  let w := v &&& lane
  let a := h.reg.addr
  if a = CFG_ENABLE.addr then (if w.getLsbD 0 then enableCheck s else cfgDisable s)
  else if a = CFG_FL_CTL.addr then s.writeFlash w
  else if a = CFG_FL_TXF.addr then s.flashTx w
  else if a = HIE_ASET_CTL.addr then
    let s := s.writeRest h lane v [31]
    if w.getLsbD 31 then publish s else s
  else s.writeCodes h lane v

/-- Registers of the event recorder (R555 to R560). -/
def State.writeEvrReg (s : State) (h : RegHit) (lane v : Word) : State :=
  let w := v &&& lane
  let a := h.reg.addr
  if a = EVR_CTL.addr then
    let s := freeze (w.getLsbD 1) ((s.writeRest h lane v [0, 1, 2]).evrEnable (w.getLsbD 0))
    if w.getLsbD 2 then eventFlush .command s else s
  else if a = EVR_DRAIN.addr then s.evrDrain (bitsOf w 0 32)
  else if a = EVR_VCTL.addr then (if w.getLsbD 0 then macVerify s else s)
  else if 0x20E01000 ≤ a ∧ a < 0x20E02000 ∧ recorderCode ((a - 0x20E01000) / 4) then s
  else s.writeCodes h lane v

/-- Registers of the power-domain controller, the sideband and GPIO (R567, R568, R571, R574, R578, R600): a write of PWR_CMD
while BUSY is ignored with ERR 1; of the outbound FIFO's bytes, those that do not fit are lost. -/
def State.writePwrReg (s : State) (who : Agent) (h : RegHit) (lane v : Word) : State :=
  let w := v &&& lane
  let a := h.reg.addr
  if a = PWR_CMD.addr then
    if s.on PWR_CMDSTAT_BUSY then s.wr PWR_CMDSTAT_ERR 1
    else if w.getLsbD 31 then s.powerCmd who (bitsOf w 0 8) (bitsOf w 8 3)
    else s.writeRest h lane v [31]
  else if a = PWR_RST.addr then
    if ! w.getLsbD 0 then s else if w.getLsbD 1 then forcedWarmReset false s else warmReset false s
  else if a = PWR_WDOG.addr then
    let s := s.writeRest h lane v [16]
    if w.getLsbD 16 then kick s else s
  else if a = PWR_RELEASE.addr then coreRelease (w.extractLsb' 0 16) s
  else if a = PWR_SMB_TXF.addr then s.setPwr { s.pwr with outbound := (s.pwr.outbound ++ leBytes 8 w.toNat).take mailboxSize }
  else
    let s := s.writeCodes h lane v
    if a = PWR_GPIO_DIR.addr ∨ a = PWR_GPIO_OUT.addr then s.sampleGpio (s.rd PWR_GPIO_IN_LEVEL) else s

/-- The write of a register found at an address, over the bits `lane`. -/
def State.writeReg (s : State) (who : Agent) (h : RegHit) (lane v : Word) : State :=
  let a := h.reg.addr
  if inFacetBlock a then s.writeFacetReg h lane v
  else if a < 0x20400000 then s.writeCodes h lane v
  else if a < 0x20600000 then s.writeBayReg h lane v
  else if a < 0x20700000 then s.writePrzReg h lane v
  else if a < 0x20900000 then s.writeDmaReg h lane v
  else if a < 0x20A00000 then s.writeCodes h lane v
  else if a < 0x20B00000 then s.writeLcReg h lane v
  else if a < 0x20C00000 then s.writeMemReg h lane v
  else if a < 0x20D00000 then s.writeAprReg h lane v
  else if a < 0x20E00000 then s.writePwrReg who h lane v
  else if a < 0x20F00000 then s.writeEvrReg h lane v
  else if a < 0x21000000 then
    if a = ANG_SNAP.addr then (if v.getLsbD 0 then snapshot s else s) else s.writeCodes h lane v
  else if a < 0x21100000 then s.writeCfgReg h lane v
  else s.writeSecReg h lane v

/-- One 32-bit write of a window; reserved offsets ignore it (R15). -/
def State.write32 (s : State) (who : Agent) (a : Nat) (v : Word) : State :=
  if inStore a then storeWindowWrite (facetAt a) (BitVec.ofNat 14 a) (v.extractLsb' 0 32) s
  else match regAt a with
    | none => s
    | some h => s.writeReg who h (laneOf false h.high) (if h.high then v <<< 32 else v &&& 0xFFFFFFFF)

/-- A write of a register window: false is a bus error. A 64-bit access of two 32-bit registers writes the lower first. -/
def State.regWrite (s : State) (who : Agent) (oLevel : Bool) (a : Nat) (wide : Bool) (v : Word) : Bool × State :=
  if ! s.windowOk who oLevel a wide then (false, s)
  else if ! wide then (true, s.write32 who a v)
  else
    match (if inStore a then none else regAt a) with
    | some h =>
      if h.wide then (true, s.writeReg who h (laneOf true false) v)
      else (true, (s.write32 who a v).write32 who (a + 4) (v >>> 32))
    | none => (true, (s.write32 who a v).write32 who (a + 4) (v >>> 32))

/-! ### The commands -/

/-- The requester accesses at O level: a Lens core whose STATUS.PRIV is O. -/
def State.atO (s : State) : Agent → Bool
  | .core c => ! (s.core c.val).priv
  | _ => false

/-- REGISTER_WRITE (R13 to R15, R40). The answer says whether it met a bus error. -/
def registerWrite (who : Agent) (addr : BitVec 40) (wide : Bool) (value : Word) (s : State) : State :=
  match s.regWrite who (s.atO who) addr.toNat wide value with
  | (true, s) => s
  | (false, s) => s.emit (.regError who)

/-- REGISTER_WRITE. -/
def execRegisterWrite (who : Agent) (addr : BitVec 40) (wide : Bool) (value : Word) (s : State) : Result :=
  clocked s (registerWrite who addr wide value s)

/-- REGISTER_READ (R12, R15, R40). -/
def registerRead (who : Agent) (addr : BitVec 40) (wide : Bool) (s : State) : State :=
  let r := s.regRead who (s.atO who) addr.toNat wide
  r.2.emit (.regAnswer who r.1)

/-- REGISTER_READ. -/
def execRegisterRead (who : Agent) (addr : BitVec 40) (wide : Bool) (s : State) : Result := clocked s (registerRead who addr wide s)

end Sys2Proof.Machine
end

