-- ==== Sys2Proof/Machine/LoadStore.lean ====
section
/-! DEFINITION. Sys2Proof/Machine/LoadStore.lean: loads and stores of Lens cores, branches and jumps (R437, R438, R441,
R442). -/
namespace Sys2Proof.Machine
open Sys2Proof

/-! ### Loads (R437) -/

/-- The address lies in SRAM or in the DRAM range of the map (R38, R39). -/
def inMemRange (a : Nat) : Bool := isSram a || inDramRange a

/-- The `n` bytes at an address as a Lens core loads them, zero-extended; none is a bus error: bits [63:40] set, no window,
a register window with a size other than 4 or 8 bytes (R40), or an error of memory. -/
def State.loadBytes (s : State) (c : Core) (a n : Nat) : Option Word × State :=
  if 2 ^ 40 ≤ a then (none, s)
  else if isRom a then (some (BitVec.ofNat 64 (leNat ((List.range n).map fun i => Config.romByte (a + i)))), s)
  else if inMemRange a then
    match s.l1Load c.val a n with
    | (none, s) => (none, s)
    | (some bs, s) => (some (BitVec.ofNat 64 (leNat bs)), s)
  else if n = 4 ∨ n = 8 then s.regRead (.core c) (s.atO (.core c)) a (n == 8)
  else (none, s)

/-- A load of `n` bytes, extended by `ext`: alignment, protection, bus errors, in this order (R437). -/
def State.load (s : State) (c : Core) (rd rs1 : GReg) (imm : BitVec 16) (n : Nat) (ext : Word → Word) : State :=
  s.instr c.val fun s =>
    let a := s.ea c.val rs1.val imm
    if a.toNat % n ≠ 0 then s.trap c.val tcLoadMisalign a
    else if ! ((s.core c.val).rights a).getLsbD 0 then s.trap c.val tcLoadProt a
    else
      match s.loadBytes c a.toNat n with
      | (none, s) => s.trap c.val tcLoadBus a
      | (some v, s) => (s.setG c.val rd.val (ext v)).retire c.val

/-- Sign extension of 8, 16 and 32 bits. -/
def sext8 (w : Word) : Word := (w.extractLsb' 0 8).signExtend 64
def sext16 (w : Word) : Word := (w.extractLsb' 0 16).signExtend 64

/-- LB (R437). -/
def execLb (c : Core) (rd rs1 : GReg) (imm : BitVec 16) (s : State) : Result := done s (s.load c rd rs1 imm 1 sext8)
/-- LH (R437). -/
def execLh (c : Core) (rd rs1 : GReg) (imm : BitVec 16) (s : State) : Result := done s (s.load c rd rs1 imm 2 sext16)
/-- LW (R437). -/
def execLw (c : Core) (rd rs1 : GReg) (imm : BitVec 16) (s : State) : Result := done s (s.load c rd rs1 imm 4 sext32)
/-- LD (R437). -/
def execLd (c : Core) (rd rs1 : GReg) (imm : BitVec 16) (s : State) : Result := done s (s.load c rd rs1 imm 8 id)
/-- LBU (R437). -/
def execLbu (c : Core) (rd rs1 : GReg) (imm : BitVec 16) (s : State) : Result := done s (s.load c rd rs1 imm 1 id)
/-- LHU (R437). -/
def execLhu (c : Core) (rd rs1 : GReg) (imm : BitVec 16) (s : State) : Result := done s (s.load c rd rs1 imm 2 id)
/-- LWU (R437). -/
def execLwu (c : Core) (rd rs1 : GReg) (imm : BitVec 16) (s : State) : Result := done s (s.load c rd rs1 imm 4 id)

/-! ### Stores (R437, R441, R442) -/

/-- A posted store retires; where its write met a bus error, the core will raise it, unless one is already to be raised
(R442). -/
def State.posted (s : State) (c : Nat) (a : Word) (err : Option Nat) : State :=
  let k := s.core c
  match err with
  | some _ => (s.setCore c { k with postErr := some (k.postErr.getD a) }).retire c
  | none => s.retire c

/-- The address of vital word 27, JSEQ, in either half (R497, R498). -/
def isJseq (a : Nat) : Bool := 0x20B010D8 ≤ a && a < 0x20B010E0

/-- After a store to a register window: a JSEQ write that is held stalls the core (R498); a write that resets the core
leaves it as its reset makes it; otherwise the store retires. -/
def State.windowStored (s t : State) (c a : Nat) : State :=
  if isJseq a ∧ s.jseqHeld.length < t.jseqHeld.length then t.setCore c { t.core c with wait := .jseq }
  else if t.core c = s.core c then t.retire c
  else t

/-- A store of `n` bytes: alignment, protection, bus errors (R437). Stores to SRAM and DRAM are posted (R442); those to
register windows complete before the next instruction (R441); no store reaches the boot ROM. -/
def State.store (s : State) (c : Core) (rs2 rs1 : GReg) (imm : BitVec 16) (n : Nat) : State :=
  s.instr c.val fun s =>
    let a := s.ea c.val rs1.val imm
    let v := s.g c.val rs2.val
    if a.toNat % n ≠ 0 then s.trap c.val tcStoreMisalign a
    else if ! ((s.core c.val).rights a).getLsbD 1 then s.trap c.val tcStoreProt a
    else if 2 ^ 40 ≤ a.toNat ∨ isRom a.toNat then s.trap c.val tcStoreBus a
    else if inMemRange a.toNat then
      let r := s.busWrite true a.toNat (leBytes n v.toNat)
      r.2.posted c.val a r.1
    else if n = 4 ∨ n = 8 then
      match s.regWrite (.core c) (s.atO (.core c)) a.toNat (n == 8) v with
      | (false, t) => t.trap c.val tcStoreBus a
      | (true, t) => s.windowStored t c.val a.toNat
    else s.trap c.val tcStoreBus a

/-- SB (R437). -/
def execSb (c : Core) (rs2 rs1 : GReg) (imm : BitVec 16) (s : State) : Result := done s (s.store c rs2 rs1 imm 1)
/-- SH (R437). -/
def execSh (c : Core) (rs2 rs1 : GReg) (imm : BitVec 16) (s : State) : Result := done s (s.store c rs2 rs1 imm 2)
/-- SW (R437). -/
def execSw (c : Core) (rs2 rs1 : GReg) (imm : BitVec 16) (s : State) : Result := done s (s.store c rs2 rs1 imm 4)
/-- SD (R437). -/
def execSd (c : Core) (rs2 rs1 : GReg) (imm : BitVec 16) (s : State) : Result := done s (s.store c rs2 rs1 imm 8)

/-! ### Branches and jumps (R438) -/

/-- A branch: to its target when the condition holds, else to the next instruction. -/
def State.branch (s : State) (c : Core) (rs1 rs2 : GReg) (off : BitVec 16) (p : Word → Word → Bool) : State :=
  s.instr c.val fun s =>
    if p (s.g c.val rs1.val) (s.g c.val rs2.val) then s.retireTo c.val (branchTarget (s.core c.val).pc (immS off))
    else s.retire c.val

/-- BEQ (R438). -/
def execBeq (c : Core) (rs1 rs2 : GReg) (off : BitVec 16) (s : State) : Result := done s (s.branch c rs1 rs2 off fun a b => a == b)
/-- BNE (R438). -/
def execBne (c : Core) (rs1 rs2 : GReg) (off : BitVec 16) (s : State) : Result := done s (s.branch c rs1 rs2 off fun a b => a != b)
/-- BLT (R438). -/
def execBlt (c : Core) (rs1 rs2 : GReg) (off : BitVec 16) (s : State) : Result := done s (s.branch c rs1 rs2 off fun a b => a.slt b)
/-- BGE (R438). -/
def execBge (c : Core) (rs1 rs2 : GReg) (off : BitVec 16) (s : State) : Result := done s (s.branch c rs1 rs2 off fun a b => ! a.slt b)
/-- BLTU (R438). -/
def execBltu (c : Core) (rs1 rs2 : GReg) (off : BitVec 16) (s : State) : Result := done s (s.branch c rs1 rs2 off fun a b => a.ult b)
/-- BGEU (R438). -/
def execBgeu (c : Core) (rs1 rs2 : GReg) (off : BitVec 16) (s : State) : Result := done s (s.branch c rs1 rs2 off fun a b => ! a.ult b)

/-- J (R438). -/
def jump (c : Core) (off : BitVec 26) (s : State) : State :=
  s.instr c.val fun s => s.retireTo c.val (branchTarget (s.core c.val).pc (off.signExtend 64))

/-- J. -/
def execJ (c : Core) (off : BitVec 26) (s : State) : Result := done s (jump c off s)

/-- JL (R438): as J, with PC + 4 to g31. -/
def jumpLink (c : Core) (off : BitVec 26) (s : State) : State :=
  s.instr c.val fun s =>
    let pc := (s.core c.val).pc
    (s.setG c.val 31 (pc + 4)).retireTo c.val (branchTarget pc (off.signExtend 64))

/-- JL. -/
def execJl (c : Core) (off : BitVec 26) (s : State) : Result := done s (jumpLink c off s)

/-- JLR (R438): the target is taken before rd is written. -/
def jumpLinkReg (c : Core) (rd rs1 : GReg) (imm : BitVec 16) (s : State) : State :=
  s.instr c.val fun s => (s.setG c.val rd.val ((s.core c.val).pc + 4)).retireTo c.val (s.ea c.val rs1.val imm)

/-- JLR. -/
def execJlr (c : Core) (rd rs1 : GReg) (imm : BitVec 16) (s : State) : Result := done s (jumpLinkReg c rd rs1 imm s)

end Sys2Proof.Machine
end

