-- ==== Sys2Proof/Machine/Atomic.lean ====
section
/-! DEFINITION. Sys2Proof/Machine/Atomic.lean: atomics, the load-linked reservation and FENCE (R439 to R442), and words
that name no instruction (R433). -/
namespace Sys2Proof.Machine
open Sys2Proof

/-- `f` after a pending posted-store error, which is raised before an atomic, FENCE, push or trap return retires (R442). -/
def State.afterPosted (s : State) (c : Nat) (f : State → State) : State :=
  match (s.core c).postErr with
  | some a => s.raisePosted c a
  | none => f s

/-- An atomic at rs1 (R439): alignment, protection with read and write, SRAM and DRAM only, and the read of the `n` bytes;
`f` goes on with the address and the bytes read, as a number. -/
def State.atomic (s : State) (c : Core) (rs1 : GReg) (n : Nat) (f : Nat → Nat → State → State) : State :=
  s.instr c.val fun s => s.afterPosted c.val fun s =>
    let a := s.g c.val rs1.val
    let r := (s.core c.val).rights a
    if a.toNat % n ≠ 0 then s.trap c.val tcStoreMisalign a
    else if ! (r.getLsbD 0 && r.getLsbD 1) then s.trap c.val tcStoreProt a
    else if ! inMemRange a.toNat then s.trap c.val tcStoreBus a
    else
      match s.busRead true a.toNat n with
      | (none, s) => s.trap c.val tcStoreBus a
      | (some bs, s) => f a.toNat (leNat bs) s

/-- The size of an atomic by its D flag (R439). -/
def atomicSize (dbl : Bool) : Nat := if dbl then 8 else 4

/-- What an atomic puts into rd: 32-bit results are sign-extended (R439). -/
def atomicResult (dbl : Bool) (v : Nat) : Word := if dbl then BitVec.ofNat 64 v else sext32 (BitVec.ofNat 64 v)

/-- The write of an atomic; a write that is refused raises STORE_BUS. -/
def State.atomicPut (s : State) (c : Core) (a n v : Nat) (f : State → State) : State :=
  match s.busWrite true a (leBytes n v) with
  | (none, s) => f s
  | (some _, s) => s.trap c.val tcStoreBus (BitVec.ofNat 64 a)

/-- An atomic that returns the old value and stores a function of it and rs2 (R439). -/
def State.atomicOp (s : State) (c : Core) (rd rs1 rs2 : GReg) (dbl : Bool) (f : Nat → Nat → Nat) : State :=
  let n := atomicSize dbl
  s.atomic c rs1 n fun a old s =>
    s.atomicPut c a n (f old ((s.g c.val rs2.val).toNat % 2 ^ (8 * n))) fun s =>
      (s.setG c.val rd.val (atomicResult dbl old)).retire c.val

/-- LL (R439, R440); a set rs2 field is illegal. -/
def loadLinked (c : Core) (rd rs1 rs2 : GReg) (dbl : Bool) (s : State) : State :=
  if rs2 ≠ 0 then
    s.instr c.val fun s => s.trapWord c tcIllegal (wordR 0x30 rd.val rs1.val rs2.val (1 + 16 * dbl.toNat))
  else
    s.atomic c rs1 (atomicSize dbl) fun a old s =>
      let s := s.setG c.val rd.val (atomicResult dbl old)
      let s := s.setCore c.val { s.core c.val with ll := some (a, atomicSize dbl) }
      { s with linked := smPut s.linked c.val (a - a % 64) }.retire c.val

/-- LL. -/
def execLl (c : Core) (rd rs1 rs2 : GReg) (dbl : Bool) (s : State) : Result := done s (loadLinked c rd rs1 rs2 dbl s)

/-- The reservation holds for an address and size: the core's LL had them, and nothing has cleared it since (R440). -/
def State.reservationHolds (s : State) (c a n : Nat) : Bool :=
  (s.core c).ll == some (a, n) && s.linked.any fun p => p.1 == c

/-- The reservation of core `c` clears. -/
def State.clearReservation (s : State) (c : Nat) : State :=
  { s.setCore c { s.core c with ll := none } with linked := smErase s.linked c }

/-- SC (R439): stores if the reservation holds for rs1 and the same size; rd is 0 if it stored and else 1. -/
def storeConditional (c : Core) (rd rs1 rs2 : GReg) (dbl : Bool) (s : State) : State :=
  let n := atomicSize dbl
  s.atomic c rs1 n fun a _ s =>
    let fin (v : Word) (s : State) : State := ((s.clearReservation c.val).setG c.val rd.val v).retire c.val
    if s.reservationHolds c.val a n then s.atomicPut c a n (s.g c.val rs2.val).toNat (fin 0)
    else fin 1 s

/-- SC. -/
def execSc (c : Core) (rd rs1 rs2 : GReg) (dbl : Bool) (s : State) : Result := done s (storeConditional c rd rs1 rs2 dbl s)

/-- Bitwise operations and comparisons on the operands of an atomic, as numbers of its width. -/
def sizedOp (dbl : Bool) (f : {n : Nat} → BitVec n → BitVec n → BitVec n) (a b : Nat) : Nat :=
  if dbl then (f (BitVec.ofNat 64 a) (BitVec.ofNat 64 b)).toNat else (f (BitVec.ofNat 32 a) (BitVec.ofNat 32 b)).toNat

/-- SWAP (R439). -/
def execSwap (c : Core) (rd rs1 rs2 : GReg) (dbl : Bool) (s : State) : Result :=
  done s (s.atomicOp c rd rs1 rs2 dbl fun _ b => b)
/-- ADD of the atomics (R439). -/
def execAtomicAdd (c : Core) (rd rs1 rs2 : GReg) (dbl : Bool) (s : State) : Result :=
  done s (s.atomicOp c rd rs1 rs2 dbl (sizedOp dbl fun a b => a + b))
/-- AND of the atomics (R439). -/
def execAtomicAnd (c : Core) (rd rs1 rs2 : GReg) (dbl : Bool) (s : State) : Result :=
  done s (s.atomicOp c rd rs1 rs2 dbl (sizedOp dbl fun a b => a &&& b))
/-- OR of the atomics (R439). -/
def execAtomicOr (c : Core) (rd rs1 rs2 : GReg) (dbl : Bool) (s : State) : Result :=
  done s (s.atomicOp c rd rs1 rs2 dbl (sizedOp dbl fun a b => a ||| b))
/-- XOR of the atomics (R439). -/
def execAtomicXor (c : Core) (rd rs1 rs2 : GReg) (dbl : Bool) (s : State) : Result :=
  done s (s.atomicOp c rd rs1 rs2 dbl (sizedOp dbl fun a b => a ^^^ b))
/-- MIN of the atomics (R439). -/
def execAtomicMin (c : Core) (rd rs1 rs2 : GReg) (dbl : Bool) (s : State) : Result :=
  done s (s.atomicOp c rd rs1 rs2 dbl (sizedOp dbl fun a b => minS a b))
/-- MAX of the atomics (R439). -/
def execAtomicMax (c : Core) (rd rs1 rs2 : GReg) (dbl : Bool) (s : State) : Result :=
  done s (s.atomicOp c rd rs1 rs2 dbl (sizedOp dbl fun a b => maxS a b))
/-- MINU of the atomics (R439). -/
def execAtomicMinu (c : Core) (rd rs1 rs2 : GReg) (dbl : Bool) (s : State) : Result :=
  done s (s.atomicOp c rd rs1 rs2 dbl (sizedOp dbl fun a b => minU a b))
/-- MAXU of the atomics (R439). -/
def execAtomicMaxu (c : Core) (rd rs1 rs2 : GReg) (dbl : Bool) (s : State) : Result :=
  done s (s.atomicOp c rd rs1 rs2 dbl (sizedOp dbl fun a b => maxU a b))

/-- CAS (R439): stores rs2 where the old value, as rd will receive it, equals rd; it succeeds exactly when rd returns the
value it held. -/
def compareAndSwap (c : Core) (rd rs1 rs2 : GReg) (dbl : Bool) (s : State) : State :=
  let n := atomicSize dbl
  s.atomic c rs1 n fun a old s =>
    let v := atomicResult dbl old
    let fin (s : State) : State := (s.setG c.val rd.val v).retire c.val
    if v = s.g c.val rd.val then s.atomicPut c a n (s.g c.val rs2.val).toNat fin else fin s

/-- CAS. -/
def execCas (c : Core) (rd rs1 rs2 : GReg) (dbl : Bool) (s : State) : Result := done s (compareAndSwap c rd rs1 rs2 dbl s)

/-- FENCE (R441): it completes after every earlier access; accesses complete in order here. -/
def fence (c : Core) (s : State) : State := s.instr c.val fun s => s.afterPosted c.val fun s => s.retire c.val

/-- FENCE. -/
def execFence (c : Core) (s : State) : Result := done s (fence c s)

/-! ### Reserved words (R433 to R436, R439, R448, R453, R457, R462) -/

/-- Bits [lo + w − 1 : lo] of an instruction word. -/
def wbits (w : Word32) (lo n : Nat) : Nat := (w.extractLsb' lo n).toNat

/-- A word whose op, func or fields name no instruction, by its format's rows. -/
def reservedWord (w : Word32) : Bool :=
  let func := wbits w 0 11
  let f8 := func % 256
  let nf := wbits w 8 1 == 1
  let rs2 := wbits w 11 5
  let rs1 := wbits w 16 5
  let imm := wbits w 0 16
  match wbits w 26 6 with
  | 0x00 => decide (512 ≤ func) || f8 == 0 || decide (0x17 < f8) || (nf && ! [1, 2, 8, 9, 0xA, 0xB].contains f8)
      || (decide (0x14 ≤ f8) && rs2 != 0)
  | 0x01 => decide (512 ≤ func) || f8 == 0 || decide (9 < f8) || (nf && ! [1, 5, 6, 7, 8, 9].contains f8)
  | 0x0A => ! shiOk (BitVec.ofNat 16 imm)
  | 0x0B => decide (4 ≤ rs1)
  | 0x0C => rs1 != 0
  | 0x30 => decide (32 ≤ func) || func % 16 == 0 || decide (12 < func % 16) || (func % 16 == 1 && rs2 != 0)
  | 0x31 => wbits w 0 26 != 0
  | 0x3A =>
    let r := wbits w 21 5
    let op := wbits w 8 3
    (decide (op < 4) && (r % 4 != 0 || decide (32 ≤ f8))) || (op == 4 && f8 != 0)
  | 0x3B =>
    let op := func % 16
    decide (16 ≤ func) || op == 0 || decide (5 < op)
  | 0x3C =>
    let op := func % 16
    decide (32 ≤ func) || op == 0 || decide (5 < op) || (decide (16 ≤ func) && [2, 3, 4].contains op)
  | 0x3F =>
    let op := imm / 4096
    let arg := imm % 4096
    let rd := wbits w 21 5
    match op with
    | 0 => rs1 != 0 || decide (128 ≤ arg)
    | 1 => decide (128 ≤ arg)
    | 2 => decide (128 ≤ arg)
    | 3 => decide (128 ≤ arg)
    | 4 => rd != 0 || rs1 != 0 || arg != 0
    | 5 => rd != 0 || rs1 != 0
    | 6 => rd != 0 || rs1 != 0 || arg != 0
    | 7 => rd != 0 || decide (2 ≤ arg)
    | 8 => rs1 != 0 || arg != 0
    | 9 => rd != 0 || rs1 != 0 || arg != 0
    | 10 => decide (2 ≤ arg)
    | _ => true
  | op => ! ([0x04, 0x05, 0x06, 0x07, 0x08, 0x09, 0x0E, 0x28, 0x29, 0x2A].contains op || (decide (0x10 ≤ op) && decide (op ≤ 0x16))
      || (decide (0x18 ≤ op) && decide (op ≤ 0x1B)) || (decide (0x20 ≤ op) && decide (op ≤ 0x25)))

/-- RESERVED_OPCODE (R433, R443): the word at the PC names no instruction and raises ILLEGAL. A word that names one is no
such event. -/
def execReservedOpcode (c : Core) (w : Word32) (s : State) : Result :=
  if reservedWord w then done s (s.instr c.val fun s => s.trapWord c tcIllegal (w.zeroExtend 64)) else .fault .illFormed

end Sys2Proof.Machine
end

