-- ==== Sys2Proof/Machine/Boot.lean ====
section
/-! DEFINITION. Sys2Proof/Machine/Boot.lean: the boot sequence (R524, R526, R528, R569, R570) and image switching (R544,
R577). The boot ROM and Melwick firmware are the agents of boot; each BOOT command is one of its twelve steps. -/
namespace Sys2Proof.Machine
open Sys2Proof

/-! ### A profile takes effect (R526, R529) -/

/-- One register setting is written by firmware (R526): field ← (field & ~MASK) | (VALUE & MASK), as a register write, whose effects
the write has; fields that no setting may name are written 0. -/
def State.writeSetting (s : State) (x : Setting) : State :=
  match regAt x.addr with
  | none => s
  | some h =>
    let may := h.flds.foldl (fun m f => if f.acc = .rw ∨ f.acc = .rwl ∨ f.acc = .gain then m ||| fldMask f else m) 0
    let v := (s.applySetting x).reg h.reg &&& may
    s.write32 (.core 0) x.addr (if h.high then v >>> 32 else v)

/-- A profile is applied and takes effect (R526, R529): settings in entry order, parameters, layouts, lightpipe depths. -/
def State.takeProfile (s : State) (p : Profile) : State :=
  let s := ((p.settings.foldl (fun s x => s.writeSetting x) s).applyParams p.params).applyLayout p.layout
  ({ s with lpDepth := p.depths.foldl (fun m x => smSet 16 m x.1 x.2) [] } : State).takeConf p

/-- PROFILE SELECT (R529): the STAGED slot of profile `n` is checked, or else the ACTIVE one; on success the settings are
applied, the digest changes at one instant, the slot is ACTIVE and CFG_BOOTSEL names it. The answer is the reason. -/
def State.selectProfile (s : State) (n : Nat) : Nat × State :=
  let staged := s.stagedProfile n
  match staged.or (s.activeProfile n) with
  | none => (0x0101, s.wr CFG_STATUS_REASON 0x0101)
  | some v =>
    let r := s.checkReason v n true
    if r ≠ 0 then (r, s.wr CFG_STATUS_REASON r)
    else
      let s := if staged.isSome then s.activateSlot (5 + n) else s
      let s := (s.takeProfile v).wr CFG_STATUS_REASON 0
      let s := (s.wr CFG_STATUS_PROFILE n).wr CFG_STATUS_SLOT ((s.bootEntry (5 + n)).active.getD 0)
      let s := (s.wr CFG_BOOTSEL_PROFILE n).put CFG_BOOTSEL_VALID true
      let o := v.policy.ownRec
      if o.action = 0 ∨ s.ownDone o then (0, s)
      else (0, (s.setCfg { s.cfg with owner := some o }).put CFG_STATUS_BUSY true)

/-- PROFILE SELECT (R360, R529): refused with 0x1018 and the reason in RESULT, or the profile is active. -/
def profileSelect (sid : Sid) (seq : BitVec 32) (s : State) : State :=
  match s.rowCmd sid seq opcProfile with
  | none => s
  | some (x, c) =>
    if ! isTurn x c then s
    else
      let r := s.selectProfile (c.cap.arg.toNat % 4)
      r.2.answerPlain sid c (if r.1 = 0 then 0 else 0x1018) r.1 0

/-- PROFILE_SELECT. -/
def execProfileSelect (sid : Sid) (seq : BitVec 32) (s : State) : Result := clocked s (profileSelect sid seq s)

/-! ### Boot (R524, R526, R528, R569, R570) -/

/-- The number of a boot step (R569). -/
def bootNumber : BootStep → Nat
  | .aon => 1
  | .rom => 2
  | .flash .. => 3
  | .firmware => 4
  | .profile => 5
  | .dramTrained => 6
  | .cleared => 7
  | .bays => 8
  | .chopper => 9
  | .spinUp => 10
  | .checkpoint => 11
  | .open_ => 12

/-- Boot stops on a failure (R570): the host ports stay closed and the sideband answers. -/
def State.bootStops (s : State) : State := s.setCfg { s.cfg with stopped := true }

/-- Step 1 (R497, R498): after a cold reset the vital words take their boot values; a warm reset keeps them. KEVR is derived
(R364). -/
def State.bootAon (s : State) : State :=
  let s := s.showFuses
  let s := s.setEvr { s.evr with kevr := s.kevr }
  let s := match s.va.trimK with
    | some k => s.wr THM_TRIM_K k
    | none => s
  if s.rd PWR_STAT_CAUSE ≠ 0 then s
  else
    let n := s.va.bootCount + 1
    let s : State := { s with va := { s.va with bootCount := n } }
    let s := ((s.setVw 24 (BitVec.ofNat 64 s.va.plgen)).wr APR_PLGEN_GEN s.va.plgen).wr SEC_BOOTCNT_COUNT n
    let s := (s.setVw 26 (BitVec.ofNat 64 s.va.resvW)).setReg SEC_WSEQ (BitVec.ofNat 64 s.va.resvW)
    (s.setVw 27 (BitVec.ofNat 64 s.va.resvJ)).setVw 28 (BitVec.ofNat 64 n)

/-- Memory addresses for which `p` holds are cleared, with fresh check bits, in the cached lines too (R496). -/
def State.clearMem (s : State) (p : Nat → Bool) : State :=
  { s with
    mem := s.mem.filter fun c => ! p c.1
    memErr := s.memErr.filter fun c => ! p c.1
    linked := s.linked.filter fun c => ! p c.2
    cache := s.cache.map fun c => if p (lineAddr c.1 c.2.tag) then (c.1, { c.2 with data := 0, poison := 0, dirty := true }) else c }

/-- The first 2 MiB of SRAM, which the boot ROM clears (R496). -/
def romClears (a : Nat) : Bool := 0x10000000 ≤ a && a < 0x10200000

/-- The leaf of the chain in the identity area is compared with the device's own key (R366): CHAINBAD and an event where they
differ or there is no chain. -/
def State.checkChain (s : State) : State :=
  let leaf := (Config.identityChain (s.flashBytes 0x20000 0x10000)).bind Config.leafKey
  if leaf = some Config.dikPub then s else (s.put SEC_STAT_CHAINBAD true).event 1 .chain 0 0

/-- Step 3 (R518, R519, R522, R366, R598): SPI_RST_N rises; CFG_FL_SIZE, the boot control record and MEM_DRAM.RAW, or BOOTERR
1 or 2. -/
def State.bootFlash (s : State) (sfdpOk : Bool) (mbit : Nat) (raw : BitVec 8) : State :=
  let s := s.setPwr { s.pwr with spiRstN := true }
  let s := if sfdpOk then s.wr CFG_FL_SIZE_MBIT mbit else s
  if ! sfdpOk ∨ mbit < 256 then (s.wr CFG_STATUS_BOOTERR 1).bootStops
  else if ! s.headerOk then (s.wr CFG_STATUS_BOOTERR 2).bootStops
  else (s.readBootControl.wr MEM_DRAM_RAW raw.toNat).checkChain

/-- The slots of sets 0 to 4 as a boot finds them (R523, R524): WRITING counts as EMPTY; a TRIAL loses one of its TRIES,
or becomes EMPTY with an event where none is left. -/
def State.trySlot (s : State) (j : Nat) : State :=
  let e := s.bootEntry j
  if e.other = slotWriting then s.emptySlot j
  else if e.other ≠ slotTrial then s
  else if e.tries = 0 then (s.emptySlot j).event 0 .image 0 j
  else s.setBootEntry j { e with tries := e.tries - 1 }

/-- The image that a boot runs of a set, if a slot holds one (R524). -/
def State.runImage (s : State) (j : Nat) : Option (List Byte) := (s.runSlot j).map fun i => s.slotBytes j i

/-- An image verifies as one of a kind and target (R474, R524). -/
def State.imageGood (s : State) (kind target : Nat) (l : List Byte) : Bool := s.imageStatus l == imgOk && imgKind l == kind && imgTarget l == target

/-- Step 4 (R474, R524): the TRIAL slot of set 0, or else its ACTIVE slot, is verified, and the ROM jumps to its ENTRY. -/
def State.bootFirmware (s : State) : State :=
  let s := s.trySlot 0
  match s.runImage 0 with
  | none => s.bootStops
  | some l =>
    if ! s.imageGood 1 0 l then s.bootStops
    else
      let s := s.setSec { s.sec with firmware := imgMeas l }
      s.setCore 0 { s.core 0 with pc := imgEntry l &&& ~~~3 }

/-- A profile has passed its check at boot (R526, R528): its slot is ACTIVE, its settings are in force and CFG_ENABLE reads
1; an ownership action still to be done runs next. -/
def State.bootTakes (s : State) (n : Nat) (v : Profile) : State :=
  let s := (s.takeProfile v).setCredits
  let s := ((s.put CFG_ENABLE_EN true).wr CFG_STATUS_REASON 0).wr CFG_STATUS_PROFILE n
  let s := s.wr CFG_STATUS_SLOT ((s.bootEntry (5 + n)).active.getD 0)
  let r := v.policy.ownRec
  if r.action = 0 ∨ s.ownDone r then s
  else (s.setCfg { s.cfg with owner := some r }).put CFG_STATUS_BUSY true

/-- The reason code of a profile slot at boot: 0x0101 where it holds no verified profile. -/
def State.slotReason (s : State) (n : Nat) : Option Profile → Nat
  | none => 0x0101
  | some v => s.checkReason v n false

/-- The ACTIVE slot of profile `n` is tried; where it fails too, boot stops and REASON keeps the last reason (R528). -/
def State.tryActive (s : State) (n : Nat) : State :=
  let active := s.activeProfile n
  let r := s.slotReason n active
  match active with
  | some v => if r = 0 then s.bootTakes n v else (s.wr CFG_STATUS_REASON r).bootStops
  | none => (s.wr CFG_STATUS_REASON r).bootStops

/-- The microcode images of the three targets, where a slot holds one, verify; their measurements are those of the active set
(R388, R569). -/
def State.bootMicrocode (s : State) : Option State :=
  (List.range 3).foldl (fun o t => o.bind fun s => match s.runImage (2 + t) with
    | none => some s
    | some l => if s.imageGood 3 t l then some (s.setSec { s.sec with microcode := s.sec.microcode.set t (imgMeas l) }) else none) (some s)

/-- Step 5 (R523, R524, R526, R528, R569): slots found WRITING count as EMPTY and trials of sets 1 to 4 are counted; the policy
image and the microcode are verified; the STAGED slot of the selected profile is tried, then its ACTIVE slot; a slot that
passes becomes ACTIVE. -/
def State.bootProfileStep (s : State) : State :=
  let s := (List.range 8).foldl (fun s i => s.trySlot (1 + i)) s
  match s.runImage 1, s.bootMicrocode with
  | some l, some s =>
    if ! s.imageGood 2 0 l then s.bootStops
    else
      let s := s.setSec { s.sec with policyMeas := imgMeas l }
      let n := s.bootProfile
      match s.stagedProfile n with
      | some v => if s.checkReason v n false = 0 then (s.activateSlot (5 + n)).bootTakes n v else s.tryActive n
      | none => s.tryActive n
  | _, _ => s.bootStops

/-- Step 10 (R202, R404, R569): for each attached bay, a token, then a START once it is held, then LOADs once the spindle
runs in its window. Firmware goes round the bays again each time the command comes. -/
def State.bootSpin (s : State) (b : Nat) : State :=
  if ! s.on (BL_CTL_ATTACHED b) then s
  else
    let load : Entry := mkEntry [(64, 8, opLoad)]
    let queued (n : Nat) : Bool := ! (s.lp n).entries.isEmpty
    let s1 := if s.spin b = spStop then s.spinToken b else s
    if s.spin b = spStop ∧ s1.on (SPN_CTL_TOKEN b) ∧ ! queued (192 + b) ∧ (s.spinS b).entry.isNone then
      s1.hwPush (192 + b) (spinEntry opStart (s.nNom b))
    else if s.spin b = spRun ∧ s.on (SPN_STAT_INWIN b) then
      (List.range 2).foldl (fun s a =>
        let k := 2 * b + a
        if s.rd (SRV_STAT_ST k) = stParked ∧ (s.lp (128 + k)).entries.isEmpty ∧ (s.servoS k).entry.isNone then s.hwPush (128 + k) load else s) s1
    else s1

/-- The policy data of the active profile is copied to its DRAM address before the policy program starts (R525). -/
def State.copyPolicyData (s : State) : State :=
  match (s.activeProfile (s.rd CFG_STATUS_PROFILE)).bind Profile.policyData with
  | some d => (s.busWrite true d.1 d.2).2
  | none => s

/-- Step 12 (R524): the policy data is copied, trials are confirmed; Aperture, the Ledger and the transport are enabled. -/
def State.bootOpens (s : State) : State :=
  let s := s.copyPolicyData
  let s := (List.range 5).foldl (fun s j => if (s.bootEntry j).other = slotTrial then s.activateSlot j else s) s
  ((s.aprEnable true).put APR_CTL_LEN true).put HPT_GCTL_EN true

/-- The effect of one step of boot. -/
def State.bootStep (s : State) : BootStep → State
  | .aon => s.bootAon
  | .rom => cacheEnable (s.clearMem romClears)
  | .flash ok mbit raw => s.bootFlash ok mbit raw
  | .firmware => s.bootFirmware
  | .profile => s.bootProfileStep
  | .dramTrained => ((s.put MEM_STAT_TRAINED true).wr MEM_DRAM_RATE (Config.freeNat s.free)).draw
  | .cleared => s.clearMem fun a => ! romClears a
  | .bays => forUpTo s.bayCount (fun b s => s.whileAnswers (64 + b) (trainingStart (Fin.ofNat 32 b))) s
  | .chopper => chopperTest s
  | .spinUp => forUpTo s.bayCount (fun b s => s.bootSpin b) s
  | .checkpoint => s
  | .open_ => s.bootOpens

/-- BOOT (R569, R570): the next step of the Boot sequence table. Step 10 may come several times. A command out of order, or
after boot has stopped or while POR_N is low, does nothing; nor does any step but the AON block's own without SYSREF (R36); boot
holds at step 1 while PFAIL_N is low (R594). -/
def boot (x : BootStep) (s : State) : State :=
  let n := bootNumber x
  let turn := s.cfg.step + 1 == n || (n == 10 && s.cfg.step == 10)
  if ! turn ∨ s.cfg.stopped ∨ s.pwr.porLow ∨ (n ≠ 1 ∧ ! s.sysrefOk) ∨ (n = 2 ∧ s.on APR_STAT_PFAIL) then s
  else (s.setCfg { s.cfg with step := n }).bootStep x

/-- BOOT. -/
def execBoot (x : BootStep) (s : State) : Result := done s (boot x s)

/-! ### Image switching (R544, R577) -/

/-- A STAGED image goes into TRIAL with two tries (R524). -/
def State.toTrial (s : State) (j : Nat) : State :=
  let e := s.bootEntry j
  if e.other = slotStaged then s.setBootEntry j { e with other := slotTrial, tries := 2 } else s

/-- The image staged in the other slot of a set, if one is. -/
def State.stagedImage (s : State) (j : Nat) : Option (List Byte) :=
  let e := s.bootEntry j
  if e.other = slotStaged then some (s.slotBytes j e.otherSlot) else none

/-- Segments go to memory (R475, step 2): types 0 and 1 are copied to ADDR, type 2 is filled with zeros. -/
def State.loadSegments (s : State) (l : List Byte) : State :=
  (segments l).foldl (fun s g =>
    if g.ty < 2 then (s.busWrite true g.addr (segData l g)).2
    else if g.ty = 2 then (s.busWrite true g.addr (List.replicate g.len 0)).2
    else s) s

/-- The policy image switches (R475, R577): the first command suspends O level and holds host commits; the second verifies the staged
image, changes the digest at one instant, loads its segments and the policy data and resumes. A digest outside the allowed set
is refused (R544). -/
def State.switchPolicy (s : State) : State :=
  match s.stagedImage 1 with
  | none => s
  | some l =>
    if ! s.imageGood 2 0 l ∨ ! s.digestAllowed (s.digestWith s.cfg.profMeas (imgMeas l) s.cfg.secHash) then s
    else if ! s.cfg.hold then s.setCfg { s.cfg with hold := true }
    else
      let s := ((s.setSec { s.sec with policyMeas := imgMeas l }).loadSegments l).copyPolicyData.toTrial 1
      (s.setCfg { s.cfg with hold := false }).showDigest

/-- IMAGE_SWITCH (R577): microcode and firmware go into TRIAL, firmware to run at the next warm reset; the policy image
switches in service; a profile switches as PROFILE SELECT does (R529). -/
def imageSwitch (r : SwitchReq) (s : State) : State :=
  match r with
  | .microcode t =>
    let j := 2 + t.val
    match s.stagedImage j with
    | some l => if s.imageGood 3 t.val l then (s.setSec { s.sec with microcode := s.sec.microcode.set t.val (imgMeas l) }).toTrial j else s
    | none => s
  | .policy => s.switchPolicy
  | .firmware => if (s.stagedImage 0).any fun l => s.imageGood 1 0 l then s.toTrial 0 else s
  | .profile n => (s.selectProfile n.val).2

/-- IMAGE_SWITCH. -/
def execImageSwitch (r : SwitchReq) (s : State) : Result := clocked s (imageSwitch r s)

end Sys2Proof.Machine
end

