-- ==== Sys2Proof/Machine/Lightpipe.lean ====
section
/-! DEFINITION. Sys2Proof/Machine/Lightpipe.lean: the lightpipe instructions of Lens cores (R448 to R452), their waits and
the notification. -/
namespace Sys2Proof.Machine
open Sys2Proof

/-! ### Who may use a lightpipe (R21, R23, R431, R451, R606) -/

/-- The producer of lightpipe `n` is a hardware unit only (R21). -/
def hwProducer (n : Nat) : Bool :=
  (64 ≤ n && n < 192) || (224 ≤ n && n < 384) || (512 ≤ n && n < 544 && n % 4 == 2)
    || (544 ≤ n && n < 576 && (n % 4 == 0 || n % 4 == 2)) || (688 ≤ n && n < 704)

/-- The consumer of lightpipe `n` is a hardware unit only (R21). -/
def hwConsumer (n : Nat) : Bool :=
  n < 64 || (128 ≤ n && n < 224) || (384 ≤ n && n < 512) || (512 ≤ n && n < 576 && (n % 4 == 0 || n % 4 == 1))
    || (576 ≤ n && n < 672)

/-- Core `c` may use lightpipe `n` as its producer (`push`) or consumer (R23, R431). -/
def State.lpAllowed (s : State) (c n : Nat) (push : Bool) : Bool :=
  let k := s.core c
  k.priv || decide (768 ≤ n) || n == 672 + c || k.lpOpen n push

/-- Core `c` may push to, or pop from, lightpipe `n`: at a hardware unit's end, M level only (R451). -/
def State.lpMove (s : State) (c n : Nat) (push : Bool) : Bool :=
  s.lpAllowed c n push && ((s.core c).priv || ! (if push then hwProducer n else hwConsumer n))

/-- A lightpipe operation that is not allowed raises LP_PROT with TVAL the lightpipe (R451). -/
def State.lpTrap (s : State) (c n : Nat) : State := s.trap c tcLpProt (BitVec.ofNat 64 n)

/-! ### Moving entries (R448, R449) -/

/-- The entry that the quad g(r) to g(r + 3) holds. -/
def State.quad (s : State) (c r : Nat) : Entry :=
  mkEntry [(0, 64, (s.g c r).toNat), (64, 64, (s.g c (r + 1)).toNat), (128, 64, (s.g c (r + 2)).toNat), (192, 64, (s.g c (r + 3)).toNat)]

/-- Write the quad g(r) to g(r + 3). -/
def State.setQuad (s : State) (c r : Nat) (d : BitVec 256) : State :=
  forUpTo 4 (fun i s => s.setG c (r + i) (d.extractLsb' (64 * i) 64)) s

/-- Core `c` finds a credit of lightpipe `n`: one of its own, or a free one. -/
def State.coreCredit (s : State) (c n : Nat) : Bool := decide (0 < smGet 0 (s.lp n).resv c) || decide (0 < (s.lp n).free)

/-- Core `c` pushes an entry: its own reserved credits go first (R449). -/
def State.corePush (s : State) (c n : Nat) (e : Entry) : State :=
  let l := s.lp n
  let own := smGet 0 l.resv c
  if 0 < own then s.setLp n { l with entries := l.entries ++ [e], resv := smSet 0 l.resv c (own - 1) }
  else s.lpAppend n e

/-- The status of operations 0 to 3 goes to gs, and the instruction retires. -/
def State.lpStatus (s : State) (c gs status : Nat) : State := (s.setG c gs (BitVec.ofNat 64 status)).retire c

/-- A push of core `c` is done: any wait ends. -/
def State.pushDone (s : State) (c r n gs : Nat) : State := (s.corePush c n (s.quad c r)).lpStatus c gs 0

/-- A pop of core `c` is done: the credit returns at the pop, LP0 to LP63 included (R451); the contents of a poisoned entry
are unknown (R20). -/
def State.popDone (s : State) (c r n gs : Nat) : State :=
  let l := s.lp n
  match l.entries with
  | [] => s
  | e :: rest =>
    let s := ((s.setLp n { l with entries := rest }).creditBack n).storeFound n e
    if e.poison then
      let d : BitVec 256 := (Config.freeWord (s.free + 3)) ++ (Config.freeWord (s.free + 2)) ++ (Config.freeWord (s.free + 1)) ++ (Config.freeWord s.free)
      let s : State := { s with free := s.free + 4 }
      (s.setQuad c r d).lpStatus c gs 2
    else (s.setQuad c r e.data).lpStatus c gs 0

/-- Core `c` waits at its PC. -/
def State.coreWait (s : State) (c : Nat) (w : CoreWait) : State := s.setCore c { s.core c with wait := w }

/-- The frame of operations 0 to 3: r a multiple of 4, or ILLEGAL; the lightpipe allowed; then `f`. -/
def State.lpOp (s : State) (c : Core) (r : GReg) (lp : Lp) (gs : GReg) (op : Nat) (push : Bool) (f : State → State) : State :=
  s.instr c.val fun s =>
    if r.val % 4 ≠ 0 then s.trapWord c tcIllegal (wordQ r.val lp.val op gs.val)
    else if ! s.lpMove c.val lp.val push then s.lpTrap c.val lp.val
    else f s

/-- A descriptor for an actuator scheduler whose HPORT names no head (R11): an operation other than CANCEL, whose HPORT
means nothing (R255; DEDUCED, log entry 90). -/
def badHead (lp : Nat) (e : Entry) : Bool := decide (lp < 64) && Desc.op e != 4 && ! hportNamesHead (Desc.hport e)

/-- The check that both pushes make of the entry itself: INVALID_ARG for an HPORT that names no head (R11). -/
def State.pushChecked (s : State) (c : Core) (r n gs op : Nat) (f : State → State) : State :=
  if badHead n (s.quad c.val r) then s.trapWord c tcInvalidArg (wordQ r n op gs) else f s

/-- PUSH (R448): waits for credit. -/
def lpPush (c : Core) (r : GReg) (lp : Lp) (gs : GReg) (s : State) : State :=
  s.lpOp c r lp gs 0 true fun s => s.pushChecked c r.val lp.val gs.val 0 fun s => s.afterPosted c.val fun s =>
    if s.coreCredit c.val lp.val then s.pushDone c.val r.val lp.val gs.val
    else s.coreWait c.val (.push r.val lp.val gs.val)

/-- PUSH. -/
def execPush (c : Core) (r : GReg) (lp : Lp) (gs : GReg) (s : State) : Result := done s (lpPush c r lp gs s)

/-- PUSHT (R448): pushes if a credit is available. -/
def lpPusht (c : Core) (r : GReg) (lp : Lp) (gs : GReg) (s : State) : State :=
  s.lpOp c r lp gs 1 true fun s => s.pushChecked c r.val lp.val gs.val 1 fun s => s.afterPosted c.val fun s =>
    if s.coreCredit c.val lp.val then s.pushDone c.val r.val lp.val gs.val else s.lpStatus c.val gs.val 1

/-- PUSHT. -/
def execPusht (c : Core) (r : GReg) (lp : Lp) (gs : GReg) (s : State) : Result := done s (lpPusht c r lp gs s)

/-- POP (R448): waits for an entry. -/
def lpPop (c : Core) (r : GReg) (lp : Lp) (gs : GReg) (s : State) : State :=
  s.lpOp c r lp gs 2 false fun s =>
    if (s.lp lp.val).entries.isEmpty then s.coreWait c.val (.pop r.val lp.val gs.val)
    else s.popDone c.val r.val lp.val gs.val

/-- POP. -/
def execPop (c : Core) (r : GReg) (lp : Lp) (gs : GReg) (s : State) : Result := done s (lpPop c r lp gs s)

/-- POPT (R448): pops if there is an entry. -/
def lpPopt (c : Core) (r : GReg) (lp : Lp) (gs : GReg) (s : State) : State :=
  s.lpOp c r lp gs 3 false fun s =>
    if (s.lp lp.val).entries.isEmpty then s.lpStatus c.val gs.val 1 else s.popDone c.val r.val lp.val gs.val

/-- POPT. -/
def execPopt (c : Core) (r : GReg) (lp : Lp) (gs : GReg) (s : State) : Result := done s (lpPopt c r lp gs s)

/-! ### COUNT, RESV, RELS (R448, R449) -/

/-- What COUNT answers: entries, free credits, credits reserved by this core. -/
def State.lpCount (s : State) (c n : Nat) : Word :=
  let l := s.lp n
  BitVec.ofNat 64 (l.entries.length % 512 + l.free % 512 * 2 ^ 16 + smGet 0 l.resv c % 512 * 2 ^ 32)

/-- COUNT (R448). -/
def lpCount (c : Core) (r : GReg) (lp : Lp) (s : State) : State :=
  s.instr c.val fun s =>
    if ! (s.lpAllowed c.val lp.val true || s.lpAllowed c.val lp.val false) then s.lpTrap c.val lp.val
    else (s.setG c.val r.val (s.lpCount c.val lp.val)).retire c.val

/-- COUNT. -/
def execCount (c : Core) (r : GReg) (lp : Lp) (s : State) : Result := done s (lpCount c r lp s)

/-- Core `c` reserves `n` credits of a lightpipe and its instruction retires. -/
def State.resvDone (s : State) (c lp n : Nat) : State :=
  let l := s.lp lp
  (s.setLp lp { l with free := l.free - n, resv := smSet 0 l.resv c (smGet 0 l.resv c + n) }).retire c

/-- RESV (R448): n is 1 to 255; waits until n credits are free. -/
def lpResv (c : Core) (lp : Lp) (n : BitVec 8) (s : State) : State :=
  s.instr c.val fun s =>
    if ! s.lpAllowed c.val lp.val true then s.lpTrap c.val lp.val
    else if n = 0 then s.trapWord c tcInvalidArg (wordQ 0 lp.val 5 0)
    else if n.toNat ≤ (s.lp lp.val).free then s.resvDone c.val lp.val n.toNat
    else s.coreWait c.val (.resv lp.val n.toNat)

/-- RESV. -/
def execResv (c : Core) (lp : Lp) (n : BitVec 8) (s : State) : Result := done s (lpResv c lp n s)

/-- RELS (R448): returns n reserved credits, or all of them with n = 0. -/
def lpRels (c : Core) (lp : Lp) (n : BitVec 8) (s : State) : State :=
  s.instr c.val fun s =>
    if ! s.lpAllowed c.val lp.val true then s.lpTrap c.val lp.val
    else
      let l := s.lp lp.val
      let own := smGet 0 l.resv c.val
      let m := if n = 0 then own else min n.toNat own
      ((s.setLp lp.val { l with free := l.free + m, resv := smSet 0 l.resv c.val (own - m) }).grantStalled lp.val m).retire c.val

/-- RELS. -/
def execRels (c : Core) (lp : Lp) (n : BitVec 8) (s : State) : Result := done s (lpRels c lp n s)

/-! ### Waits (R450) -/

/-- A core that waits may go on: it is up and not halted, and O level is not suspended. -/
def State.waitRuns (s : State) (c : Nat) : Bool :=
  let k := s.core c
  s.coreUp c && ! k.halted && ! s.sec.halted.contains c && (k.priv || ! (s.cfg.hold || s.on APR_STAT_FROZEN))

/-- The core waits no longer. -/
def State.unwait (s : State) (c : Nat) : State := s.coreWait c .none

/-- LIGHTPIPE_WAIT_GRANTED (R450): the credit or entry that the core waits for has come, and its instruction completes. -/
def lightpipeWaitGranted (c : Core) (s : State) : State :=
  if ! s.waitRuns c.val then s
  else
    match (s.core c.val).wait with
    | .push r lp gs => if s.coreCredit c.val lp then (s.unwait c.val).pushDone c.val r lp gs else s
    | .pop r lp gs => if (s.lp lp).entries.isEmpty then s else (s.unwait c.val).popDone c.val r lp gs
    | .resv lp n => if n ≤ (s.lp lp).free then (s.unwait c.val).resvDone c.val lp n else s
    | _ => s

/-- LIGHTPIPE_WAIT_GRANTED. -/
def execLightpipeWaitGranted (c : Core) (s : State) : Result := done s (lightpipeWaitGranted c s)

/-! ### The notification (R452, R469) -/

/-- The condition of the notification that LPNOTE describes holds. -/
def State.noteHolds (s : State) (k : CoreSt) : Bool :=
  let l := s.lp k.noteLp
  decide (k.noteThr + 1 ≤ if k.noteKind then l.free else l.entries.length)

/-- The notification of core `c` fires if it is armed and its condition holds. -/
def State.noteCheck (s : State) (c : Nat) : State :=
  let k := s.core c
  if k.noteArmed && s.noteHolds k then s.setCore c { k with noteArmed := false, noteFired := true } else s

/-- NOTE (R452): arms the core's notification in place of any armed before; one whose condition holds fires at once. -/
def lpNote (c : Core) (lp : Lp) (kind : Bool) (thr : BitVec 7) (s : State) : State :=
  s.instr c.val fun s =>
    if ! s.lpAllowed c.val lp.val kind then s.lpTrap c.val lp.val
    else
      let k : CoreSt := { s.core c.val with noteLp := lp.val, noteThr := thr.toNat, noteKind := kind, noteArmed := true }
      ((s.setCore c.val k).noteCheck c.val).retire c.val

/-- NOTE. -/
def execNote (c : Core) (lp : Lp) (kind : Bool) (thr : BitVec 7) (s : State) : Result := done s (lpNote c lp kind thr s)

/-- NOTIFICATION_FIRE (R452). -/
def notificationFire (c : Core) (s : State) : State := s.noteCheck c.val

/-- NOTIFICATION_FIRE. -/
def execNotificationFire (c : Core) (s : State) : Result := clocked s (notificationFire c s)

end Sys2Proof.Machine
end

