-- ==== Sys2Proof/Machine/CoreUnits.lean ====
section
/-! DEFINITION. Sys2Proof/Machine/CoreUnits.lean: the angle instructions (R453 to R456) and the Ledger and Aperture
instructions (R457 to R461) of Lens cores. -/
namespace Sys2Proof.Machine
open Sys2Proof

/-! ### ARM (R454, R455) -/

/-- The class of an ARM descriptor (R454). -/
def armClass (n : Nat) : Option ActionClass :=
  match n with
  | 0 => some .readGate
  | 1 => some .writeGate
  | 2 => some .laser
  | 3 => some .heater
  | 4 => some .servoSample
  | 5 => some .commutation
  | _ => none

/-- A head is present (R454): its bay's link is in IDENT or UP, and h is below the count that the identity block declares. -/
def State.headPresent (s : State) (p : Nat) : Bool :=
  s.operating (hportBay p) && decide (hportHead p < s.headCount (hportBay p) (hportAct p))

/-- The descriptor is refused with INVALID_ARG (R454). -/
def State.armInvalid (s : State) (d : Word) : Bool :=
  let p := bitsOf d 32 10
  ! hportNamesHead p || ! s.bayOk (hportBay p) || ! s.headPresent p || (armClass (bitsOf d 42 3)).isNone || bitsOf d 47 17 != 0

/-- The slot record that a descriptor and a payload make. -/
def armRecord (c : Core) (d payload : Word) (cls : ActionClass) : ActSlot :=
  { target := d.extractLsb' 0 32, cls := cls, hport := d.extractLsb' 32 10, lateOk := d.getLsbD 45, notify := d.getLsbD 46,
    core := c, payload := payload }

/-- The reason of the table of R455, first in table order, if any. -/
def State.armReason (s : State) (b : Nat) (a : ActSlot) : Option Nat :=
  let src := s.rd (ANG_STAT_SRC b)
  if s.armedIn b 16 64 = 48 ∨ s.armedIn b 0 64 = 64 then some 1
  else if src = srcNone ∨ (src = srcEmf ∧ a.cls ≠ .commutation) then some 2
  else if s.isDue b a.target a.cls ∧ ! a.lateOk then some 3
  else if ! s.on (BL_CTL_ATTACHED b)
    ∧ ((a.cls = .writeGate ∧ a.payload.getLsbD 0) ∨ (a.cls = .laser ∧ bitsOf a.payload 0 12 ≠ 0)) then some 4
  else none

/-- The lowest-numbered slot of 16 to 63 that is not armed. -/
def State.freeSlot (s : State) (b : Nat) : Nat :=
  (((List.range 48).map (· + 16)).find? fun i => ! (s.slot b i).armed).getD 63

/-- The word of an angle instruction (R453). -/
def wordAng (op rd rs1 rs2 : Nat) : Word := wordR 0x3B rd rs1 rs2 op

/-- ARM: M level only; the checks of R454 trap, a reason of R455 is returned with bit 63 set, and otherwise a slot is
armed and its handle returned. -/
def armAction (c : Core) (rd rs1 rs2 : GReg) (s : State) : State :=
  s.instr c.val fun s =>
    let d := s.g c.val rs1.val
    let w := wordAng 1 rd.val rs1.val rs2.val
    if ! (s.core c.val).priv then s.trapWord c tcPrivileged w
    else if s.armInvalid d then s.trapWord c tcInvalidArg w
    else
      let b := bitsOf d 37 5
      let a := armRecord c d (s.g c.val rs2.val) ((armClass (bitsOf d 42 3)).getD .readGate)
      match s.armReason b a with
      | some r =>
        let s := if r = 3 then s.put (ANG_STAT_LATE b) true else s
        (s.setG c.val rd.val (BitVec.ofNat 64 (2 ^ 63 + r))).retire c.val
      | none =>
        let i := s.freeSlot b
        ((s.armSlot b i a).setG c.val rd.val (BitVec.ofNat 64 (b * 64 + i))).retire c.val

/-- ARM. -/
def execArmAction (c : Core) (rd rs1 rs2 : GReg) (s : State) : Result := done s (armAction c rd rs1 rs2 s)

/-- The handle names an armed slot of those that ARM uses. -/
def State.handleArmed (s : State) (h : Word) : Bool :=
  decide (h.toNat < 2048) && decide (16 ≤ bitsOf h 0 6) && (s.slot (bitsOf h 6 5) (bitsOf h 0 6)).armed

/-- ACANCEL (R453, R456): M level only; 0 cancelled, 1 not armed or already fired. -/
def acancel (c : Core) (rd rs1 : GReg) (s : State) : State :=
  s.instr c.val fun s =>
    let h := s.g c.val rs1.val
    if ! (s.core c.val).priv then s.trapWord c tcPrivileged (wordAng 2 rd.val rs1.val 0)
    else if s.handleArmed h then
      ((s.endAction (bitsOf h 6 5) (bitsOf h 0 6) .cancelled).setG c.val rd.val 0).retire c.val
    else (s.setG c.val rd.val 1).retire c.val

/-- ACANCEL. -/
def execAcancel (c : Core) (rd rs1 : GReg) (s : State) : Result := done s (acancel c rd rs1 s)

/-- What ASTAT answers of a slot (R453, R456). -/
def astatWord (a : ActSlot) : Word :=
  BitVec.ofNat 64 (a.armed.toNat + outcomeCode a.outcome * 2 ^ 8 + (if a.outcome = .none then 0 else a.outcomeWt.toNat) * 2 ^ 16)

/-- ASTAT (R453, R456): M level only. -/
def astat (c : Core) (rd rs1 : GReg) (s : State) : State :=
  s.instr c.val fun s =>
    let h := s.g c.val rs1.val
    if ! (s.core c.val).priv then s.trapWord c tcPrivileged (wordAng 3 rd.val rs1.val 0)
    else (s.setG c.val rd.val (astatWord (s.slot (bitsOf h 6 5) (bitsOf h 0 6)))).retire c.val

/-- ASTAT. -/
def execAstat (c : Core) (rd rs1 : GReg) (s : State) : Result := done s (astat c rd rs1 s)

/-- What RDANG answers of bay `b` (R453). -/
def State.angleWord (s : State) (b : Nat) : Word :=
  BitVec.ofNat 64 (s.rd (ANG_CNT_VALUE b) + s.rd (ANG_STAT_SRC b) * 2 ^ 32 + (s.on (ANG_STAT_WOK b)).toNat * 2 ^ 34
    + (s.on (ANG_STAT_SPD_OK b)).toNat * 2 ^ 35)

/-- RDANG (R453). For a bay that is fused off the spec states no value (a free value). -/
def rdang (c : Core) (rd rs1 : GReg) (s : State) : State :=
  s.instr c.val fun s =>
    let b := bitsOf (s.g c.val rs1.val) 0 5
    if s.bayOk b then (s.setG c.val rd.val (s.angleWord b)).retire c.val
    else (s.draw.setG c.val rd.val (Config.freeWord s.free &&& 0xFFFFFFFFF)).retire c.val

/-- RDANG. -/
def execRdang (c : Core) (rd rs1 : GReg) (s : State) : Result := done s (rdang c rd rs1 s)

/-- RDWT (R453). -/
def rdwt (c : Core) (rd : GReg) (s : State) : State :=
  s.instr c.val fun s => (s.setG c.val rd.val (BitVec.ofNat 64 s.wt)).retire c.val

/-- RDWT. -/
def execRdwt (c : Core) (rd : GReg) (s : State) : Result := done s (rdwt c rd s)

/-! ### Ledger instructions (R457 to R460) -/

/-- The word of a Ledger or Aperture instruction (R457). -/
def wordLed (op rd rs1 rs2 : Nat) (flag : Bool) : Word := wordR 0x3C rd rs1 rs2 (op + 16 * flag.toNat)

/-- DEBIT's argument is rejected (R458). -/
def State.debitInvalid (s : State) (a : Word) : Bool :=
  let nSect := bitsOf a 0 32
  let nSeg := bitsOf a 32 16
  nSeg == 0 || nSect == 0 || decide (4096 * nSeg < nSect) || decide (s.rd APR_STAGE_LIMIT * 2 ^ 20 < nSect * 4096) || bitsOf a 48 16 != 0

/-- The handle and outcome fields of DEBIT's result; where no handle is taken its field is free. -/
def debitFields (o : DebitOutcome) (free : Nat) : Nat :=
  match o with
  | .admitted h => h
  | .queued h => h + 2 ^ 16
  | .refused => free % 2 ^ 16 + 2 * 2 ^ 16
  | .noHandle => free % 2 ^ 16 + 3 * 2 ^ 16

/-- DEBIT (R458): the cost is the Ledger's own; the outcome in the order given there. -/
def debit (c : Core) (rd rs1 rs2 : GReg) (noWait : Bool) (s : State) : State :=
  s.instr c.val fun s =>
    let a := s.g c.val rs1.val
    if s.debitInvalid a then s.trapWord c tcInvalidArg (wordLed 1 rd.val rs1.val rs2.val noWait)
    else
      let cost := s.costOf (bitsOf a 32 16) (bitsOf a 0 32)
      let free := (Config.freeWord s.free).toNat
      let r := s.draw.debit (bitsOf a 32 16) (bitsOf a 0 32) (s.g c.val rs2.val) c.val noWait
      (r.2.setG c.val rd.val (BitVec.ofNat 64 (debitFields r.1 free + cost % 2 ^ 32 * 2 ^ 32))).retire c.val

/-- DEBIT. -/
def execDebit (c : Core) (rd rs1 rs2 : GReg) (noWait : Bool) (s : State) : Result := done s (debit c rd rs1 rs2 noWait s)

/-- CREDIT (R459): the sectors still debited; bit 63 set if the handle is not admitted. -/
def credit (c : Core) (rd rs1 rs2 : GReg) (s : State) : State :=
  s.instr c.val fun s =>
    match s.credit (s.g c.val rs1.val).toNat (bitsOf (s.g c.val rs2.val) 0 32) with
    | (some left, s) => (s.setG c.val rd.val (BitVec.ofNat 64 left)).retire c.val
    | (none, s) => (s.setG c.val rd.val (BitVec.ofNat 64 (2 ^ 63))).retire c.val

/-- CREDIT. -/
def execCredit (c : Core) (rd rs1 rs2 : GReg) (s : State) : Result := done s (credit c rd rs1 rs2 s)

/-- WITHDRAW (R459): 0 done; bit 63 set if the handle was free. -/
def withdraw (c : Core) (rd rs1 : GReg) (s : State) : State :=
  s.instr c.val fun s =>
    let r := s.withdraw (s.g c.val rs1.val).toNat
    (r.2.setG c.val rd.val (if r.1 then 0 else BitVec.ofNat 64 (2 ^ 63))).retire c.val

/-- WITHDRAW. -/
def execWithdraw (c : Core) (rd rs1 : GReg) (s : State) : Result := done s (withdraw c rd rs1 s)

/-- What a selector of LQUERY answers (R457): USABLE and OUT in mJ, headroom in mJ (signed), staged bytes, debits waiting. -/
def State.ledgerQuery (s : State) (sel : Nat) : Option Word :=
  match sel with
  | 0 => some (BitVec.ofNat 64 (s.rd APR_USABLE_MJ))
  | 1 => some (BitVec.ofNat 64 (s.rd APR_OUT_MJ))
  | 2 => some (BitVec.ofInt 64 (s.rdInt APR_HEAD_MJ))
  | 3 => some (BitVec.ofNat 64 s.energy.staged)
  | 4 => some (BitVec.ofNat 64 s.energy.waiting.length)
  | _ => none

/-- LQUERY (R457): another selector raises INVALID_ARG. -/
def lquery (c : Core) (rd rs1 : GReg) (s : State) : State :=
  s.instr c.val fun s =>
    match s.ledgerQuery (bitsOf (s.g c.val rs1.val) 0 8) with
    | some v => (s.setG c.val rd.val v).retire c.val
    | none => s.trapWord c tcInvalidArg (wordLed 4 rd.val rs1.val 0 false)

/-- LQUERY. -/
def execLquery (c : Core) (rd rs1 : GReg) (s : State) : Result := done s (lquery c rd rs1 s)

/-! ### ADEBIT (R461) -/

/-- Subtract an estimate from the bucket, answer B, and retire; while EN is 0 nothing is subtracted and 0 answered (R403). -/
def State.adebitDone (s : State) (c rd est : Nat) : State :=
  if ! s.on APR_CTL_EN then (s.setG c rd 0).retire c
  else
    let s := s.setBucket (s.energy.bucket - est)
    (s.setG c rd (BitVec.ofInt 64 s.energy.bucket)).retire c

/-- An ADEBIT goes through now: EN is 0, or B suffices and OVER is 0. -/
def State.adebitServes (s : State) (est : Nat) : Bool :=
  ! s.on APR_CTL_EN || (s.bucketServes est && ! s.on APR_STAT_OVER)

/-- ADEBIT (R461): with CLASS1, M level only, at once; otherwise it waits for B and for OVER. -/
def adebit (c : Core) (rd rs1 : GReg) (class1 : Bool) (s : State) : State :=
  s.instr c.val fun s =>
    let est := (s.g c.val rs1.val).toNat
    let w := wordLed 5 rd.val rs1.val 0 class1
    if class1 ∧ ! (s.core c.val).priv then s.trapWord c tcPrivileged w
    else if 2 ^ 31 ≤ est then s.trapWord c tcInvalidArg w
    else if class1 || s.adebitServes est then s.adebitDone c.val rd.val est
    else s.coreWait c.val (.adebit rd.val est)

/-- ADEBIT. -/
def execAdebit (c : Core) (rd rs1 : GReg) (class1 : Bool) (s : State) : Result := done s (adebit c rd rs1 class1 s)

/-- ADEBIT_GRANTED (R461): a waiting ADEBIT goes through. -/
def adebitGranted (c : Core) (s : State) : State :=
  if ! s.waitRuns c.val then s
  else
    match (s.core c.val).wait with
    | .adebit rd est => if s.adebitServes est then (s.unwait c.val).adebitDone c.val rd est else s
    | _ => s

/-- ADEBIT_GRANTED. -/
def execAdebitGranted (c : Core) (s : State) : Result := done s (adebitGranted c s)

end Sys2Proof.Machine
end

