-- ==== Sys2Proof/Machine/System.lean ====
section
/-! DEFINITION. Sys2Proof/Machine/System.lean: control registers and the system instructions (R428, R432, R462 to R469),
and the commit of a WSEQ or JSEQ reservation (R498). -/
namespace Sys2Proof.Machine
open Sys2Proof

/-! ### Control registers (R428, R469) -/

/-- STATUS as it reads. -/
def CoreSt.status (k : CoreSt) : Word :=
  BitVec.ofNat 64 (k.priv.toNat + 2 * k.ie.toNat + 4 * k.ppriv.toNat + 8 * k.pie.toNat + 16 * k.ta.toNat + 32 * k.ota.toNat)

/-- LPNOTE as it reads (R469). -/
def CoreSt.lpnote (k : CoreSt) : Word :=
  BitVec.ofNat 64 (k.noteLp + k.noteThr * 2 ^ 16 + k.noteKind.toNat * 2 ^ 23 + k.noteArmed.toNat * 2 ^ 24 + k.noteFired.toNat * 2 ^ 25)

/-- CYCLE: core cycles at 1.6 GHz since the core's reset. -/
def State.cycles (s : State) (c : Nat) : Word := BitVec.ofNat 64 ((s.now - (s.core c).since) * 8 / 5)

/-- The value of control register `n` of core `c`; none for a reserved number. -/
def State.readCr (s : State) (c n : Nat) : Option Word :=
  let k := s.core c
  if 32 ≤ n ∧ n < 64 then some (smGet 0 (if n % 2 = 0 then k.mpuLo else k.mpuHi) ((n - 32) / 2))
  else
    match n with
    | 0 => some k.status
    | 1 => some k.tpc
    | 2 => some k.cause
    | 3 => some k.tval
    | 4 => some k.tvec
    | 5 => some k.scratch
    | 8 => some (s.cycles c)
    | 9 => some k.instret
    | 10 => some (BitVec.ofNat 64 c)
    | 11 => some k.timecmp
    | 12 => some (k.ienBits.zeroExtend 64)
    | 13 => some ((s.ipend c).zeroExtend 64)
    | 16 => some k.odeleg
    | 17 => some k.otvec
    | 18 => some k.otpc
    | 19 => some k.ocause
    | 20 => some k.otval
    | 21 => some k.oscratch
    | 64 => some k.lpnote
    | _ => none

/-- Access of O level to a control register: 0 none, 1 read only, 2 read and write (R428). -/
def crOLevel (n : Nat) : Nat :=
  if [0, 8, 9, 10, 16].contains n then 1 else if [17, 18, 19, 20, 21, 64].contains n then 2 else 0

/-- A write of MPU_LO(i) or MPU_HI(i) (R429, R432): ignored while L of the entry is 1; reserved bits stay 0. -/
def CoreSt.writeMpu (k : CoreSt) (n : Nat) (v : Word) : CoreSt :=
  let i := (n - 32) / 2
  if (smGet 0 k.mpuLo i).getLsbD 7 then k
  else if n % 2 = 0 then { k with mpuLo := smSet 0 k.mpuLo i (v &&& 0xFFFFFFF0FF) }
  else { k with mpuHi := smSet 0 k.mpuHi i (v &&& 0xFFFFFFF000) }

/-- A write of control register `n`: read-only fields and registers ignore it. -/
def State.writeCr (s : State) (c n : Nat) (v : Word) : State :=
  let k := s.core c
  let put (k : CoreSt) : State := s.setCore c k
  if 32 ≤ n ∧ n < 64 then put (k.writeMpu n v)
  else
    match n with
    | 0 => put { k with ie := v.getLsbD 1, ppriv := v.getLsbD 2, pie := v.getLsbD 3, ta := v.getLsbD 4, ota := v.getLsbD 5 }
    | 1 => put { k with tpc := v }
    | 2 => put { k with cause := v &&& 0xC0000000000000FF }
    | 3 => put { k with tval := v }
    | 4 => put { k with tvec := v &&& 0xFFFFFFFF00 }
    | 5 => put { k with scratch := v }
    | 11 => put { k with timecmp := v, timer := decide (v.toNat ≤ s.wt) }
    | 12 => put { k with ien := v.extractLsb' 1 4 }
    | 13 => put { k with fault := k.fault && ! v.getLsbD 4 }
    | 16 => put { k with odeleg := v &&& 0xA862 }
    | 17 => put { k with otvec := v &&& 0xFFFFFFFFFC }
    | 18 => put { k with otpc := v }
    | 19 => put { k with ocause := v &&& 0xFF }
    | 20 => put { k with otval := v }
    | 21 => put { k with oscratch := v }
    | 64 => put { k with noteArmed := k.noteArmed && v.getLsbD 24, noteFired := k.noteFired && ! v.getLsbD 25 }
    | _ => s

/-- A control-register instruction (R462, R463): a reserved number is ILLEGAL; O level meets PRIVILEGED where it has no
access, or writes a register it may only read; then rd takes the old value and the register what `f` makes of it in that state. -/
def State.crOp (s : State) (c : Core) (rd : GReg) (cr : BitVec 7) (w : Word) (write : Option (State → Word → Word)) : State :=
  s.instr c.val fun s =>
    match s.readCr c.val cr.toNat with
    | none => s.trapWord c tcIllegal w
    | some old =>
      if ! (s.core c.val).priv ∧ crOLevel cr.toNat < (if write.isSome then 2 else 1) then s.trapWord c tcPrivileged w
      else
        let s := match write with
          | some f => s.writeCr c.val cr.toNat (f s old)
          | none => s
        (s.setG c.val rd.val old).retire c.val

/-- CRR (R462). -/
def crr (c : Core) (rd : GReg) (cr : BitVec 7) (s : State) : State := s.crOp c rd cr (wordSys rd.val 0 0 cr.toNat) none
/-- CRR. -/
def execCrr (c : Core) (rd : GReg) (cr : BitVec 7) (s : State) : Result := done s (crr c rd cr s)

/-- CRW (R462): c ← rs1. -/
def crw (c : Core) (rd rs1 : GReg) (cr : BitVec 7) (s : State) : State :=
  s.crOp c rd cr (wordSys rd.val rs1.val 1 cr.toNat) (some fun s _ => s.g c.val rs1.val)
/-- CRW. -/
def execCrw (c : Core) (rd rs1 : GReg) (cr : BitVec 7) (s : State) : Result := done s (crw c rd rs1 cr s)

/-- CRS (R462): c ← c | rs1, as a register write (R463). -/
def crs (c : Core) (rd rs1 : GReg) (cr : BitVec 7) (s : State) : State :=
  s.crOp c rd cr (wordSys rd.val rs1.val 2 cr.toNat) (some fun s old => old ||| s.g c.val rs1.val)
/-- CRS. -/
def execCrs (c : Core) (rd rs1 : GReg) (cr : BitVec 7) (s : State) : Result := done s (crs c rd rs1 cr s)

/-- CRC (R462): c ← c & ~rs1, as a register write (R463). -/
def crc (c : Core) (rd rs1 : GReg) (cr : BitVec 7) (s : State) : State :=
  s.crOp c rd cr (wordSys rd.val rs1.val 3 cr.toNat) (some fun s old => old &&& ~~~(s.g c.val rs1.val))
/-- CRC. -/
def execCrc (c : Core) (rd rs1 : GReg) (cr : BitVec 7) (s : State) : Result := done s (crc c rd rs1 cr s)

/-! ### TRET, SYSCALL, BREAK, ICINV, WSEQ, WAIT (R464 to R467) -/

/-- TRET (R464): at M level, or at O level with an O trap active; otherwise ILLEGAL. -/
def tret (c : Core) (s : State) : State :=
  s.instr c.val fun s =>
    let k := s.core c.val
    if ! k.priv ∧ ! k.ota then s.trapWord c tcIllegal (wordSys 0 0 4 0)
    else s.afterPosted c.val fun s => if (s.core c.val).priv then s.returnM c.val else s.returnO c.val

/-- TRET. -/
def execTret (c : Core) (s : State) : Result := done s (tret c s)

/-- SYSCALL (R462): cause 0x0C with its argument. -/
def syscall (c : Core) (arg : BitVec 12) (s : State) : State := s.instr c.val fun s => s.trap c.val tcSyscall (arg.zeroExtend 64)
/-- SYSCALL. -/
def execSyscall (c : Core) (arg : BitVec 12) (s : State) : Result := done s (syscall c arg s)

/-- BREAK (R462): cause 0x0D with the instruction word. -/
def brk (c : Core) (s : State) : State := s.instr c.val fun s => s.trapWord c tcBreak (wordSys 0 0 6 0)
/-- BREAK. -/
def execBrk (c : Core) (s : State) : Result := done s (brk c s)

/-- ICINV (R465): the whole level-1 instruction cache of the core, or the line that holds rs1. -/
def icinv (c : Core) (rs1 : GReg) (line : Bool) (s : State) : State :=
  s.instr c.val fun s =>
    let k := s.core c.val
    let gone := (s.g c.val rs1.val).toNat / 64
    (s.setCore c.val { k with icache := if line then k.icache.filter (fun p => p.1 != gone) else [] }).retire c.val

/-- ICINV. -/
def execIcinv (c : Core) (rs1 : GReg) (line : Bool) (s : State) : Result := done s (icinv c rs1 line s)

/-- A WSEQ of core `c` draws if its reservation allows it; else the core waits for the commit (R466, R498). -/
def State.drawTo (s : State) (c rd : Nat) : State :=
  match s.drawWseq with
  | some (v, s) => ((s.coreWait c .none).setG c rd (BitVec.ofNat 64 v)).retire c
  | none => s.coreWait c (.wseq rd)

/-- WSEQ (R466). -/
def wseq (c : Core) (rd : GReg) (s : State) : State := s.instr c.val fun s => s.drawTo c.val rd.val
/-- WSEQ. -/
def execWseq (c : Core) (rd : GReg) (s : State) : Result := done s (wseq c rd s)

/-- WAIT (R467): M level only; holds the core until a source is pending and enabled. -/
def wait (c : Core) (s : State) : State :=
  s.instr c.val fun s =>
    if ! (s.core c.val).priv then s.trapWord c tcPrivileged (wordSys 0 0 9 0)
    else if (s.pendingSource c.val).isSome then s.retire c.val
    else s.coreWait c.val .interrupt

/-- WAIT. -/
def execWait (c : Core) (s : State) : Result := done s (wait c s)

/-! ### IMGVER (R468) -/

/-- IMGVER's status, the image's bytes and the state after its reads (R468, R474): 7 at once where PFAIL is pending. -/
def State.imgverStatus (s : State) (a : Nat) : Nat × List Byte × State := if s.on APR_STAT_PFAIL then (imgPfail, [], s) else s.verifyAt a

/-- IMGVER (R468): M level only, rs1 64-byte aligned; with ACT, a kind 2 image and status 0 its measurement becomes the
active policy measurement (R388). -/
def imgver (c : Core) (rd rs1 : GReg) (act : Bool) (s : State) : State :=
  s.instr c.val fun s =>
    let a := s.g c.val rs1.val
    let w := wordSys rd.val rs1.val 10 act.toNat
    if ! (s.core c.val).priv then s.trapWord c tcPrivileged w
    else if a.toNat % 64 ≠ 0 then s.trapWord c tcInvalidArg w
    else
      let r := s.imgverStatus a.toNat
      let s := if act ∧ imgKind r.2.1 = 2 ∧ r.1 = imgOk then (r.2.2.setSec { r.2.2.sec with policyMeas := imgMeas r.2.1 }).showDigest else r.2.2
      (s.setG c.val rd.val (BitVec.ofNat 64 r.1)).retire c.val

/-- IMGVER. -/
def execImgver (c : Core) (rd rs1 : GReg) (act : Bool) (s : State) : Result := done s (imgver c rd rs1 act s)

/-! ### Reservations (R498) -/

/-- RESERVATION_COMMIT (R498): the reservation is in the vital area; cores that wait for a WSEQ draw, in ascending order,
and a core stalled at a JSEQ write that is no longer held goes on. -/
def reservationCommit (jseq : Bool) (s : State) : State :=
  let s := s.commitReservation jseq
  forUpTo 16 (fun c s =>
    match (s.core c).wait with
    | .wseq rd => if jseq ∨ ! s.waitRuns c then s else s.drawTo c rd
    | .jseq => if jseq ∧ s.jseqHeld.isEmpty then s.endWait c else s
    | _ => s) s

/-- RESERVATION_COMMIT. -/
def execReservationCommit (jseq : Bool) (s : State) : Result := clocked s (reservationCommit jseq s)

end Sys2Proof.Machine
end

