-- ==== Sys2Proof/Machine/Loupe.lean ====
section
/-! DEFINITION. Sys2Proof/Machine/Loupe.lean: the functions of the Loupe, the debug port (R389 to R391, R604). -/
namespace Sys2Proof.Machine
open Sys2Proof

/-! ### Memory (R389) -/

/-- `n` bytes at an address as the Loupe reads them, with M-level rights; no bytes for a bus error. -/
def State.loupeRead (s : State) (a n : Nat) : List Byte × State :=
  if isRom a then ((List.range n).map fun i => Config.romByte (a + i), s)
  else if inMemRange a then s.fetchBytes a n
  else if n = 4 ∨ n = 8 then
    match s.regRead .loupe false a (n == 8) with
    | (some v, s) => (leBytes n v.toNat, s)
    | (none, s) => ([], s)
  else ([], s)

/-- Bytes written at an address by the Loupe; a write that meets a bus error has no effect. -/
def State.loupeWrite (s : State) (a : Nat) (bs : List Byte) : State :=
  if inMemRange a then (s.busWrite false a bs).2
  else if bs.length = 4 ∨ bs.length = 8 then (s.regWrite .loupe false a (bs.length == 8) (BitVec.ofNat 64 (leNat bs))).2
  else s

/-! ### Cores and Facets (R389) -/

/-- Core `c` halts at its next instruction boundary. -/
def State.loupeHalt (s : State) (c : Nat) : State := s.setSec { s.sec with halted := c :: s.sec.halted.filter (· ≠ c) }

/-- Core `c` goes on. -/
def State.loupeResume (s : State) (c : Nat) : State := s.setSec { s.sec with halted := s.sec.halted.filter (· ≠ c) }

/-- The Loupe halts a Facet; the spec states no HCAUSE for it (a free value). -/
def State.loupeHaltFacet (s : State) (f : FacetId) : State := s.draw.haltFacet f (Config.freeNat s.free)

/-- A halted Facet executes one word and halts again. -/
def State.loupeStepFacet (s : State) (f : FacetId) (env : FacetEnv) : State :=
  let blk := facetBase f
  if ! s.on (FCT_STAT_HALT blk) then s
  else
    let b := s.activeBank f
    let want := seqKind b.na (smGet 0 b.micro (s.fct f).upc.toNat)
    ((s.put (FCT_STAT_HALT blk) false).facetCycle f want env).put (FCT_STAT_HALT blk) true

/-- Register `n` of a Facet. -/
def State.facetReg (s : State) (f : FacetId) (n : Nat) : Nat :=
  match n with
  | 0 => (s.fct f).upc.toNat
  | 1 => (s.fct f).lc.toNat
  | 2 => (s.fct f).acc.toNat
  | m => (smGet 0 (s.fct f).regs (m - 3)).toNat

/-- Write register `n` of a Facet. -/
def State.setFacetReg (s : State) (f : FacetId) (n : Nat) (v : BitVec 40) : State :=
  let t := s.fct f
  s.setFct f (match n with
    | 0 => { t with upc := v.extractLsb' 0 10 }
    | 1 => { t with lc := v.extractLsb' 0 8 }
    | 2 => { t with acc := v }
    | m => { t with regs := smPut t.regs (m - 3) v })

/-- A function of the unlocked Loupe (R389). Trace changes nothing in the device. -/
def State.loupeDo (s : State) (f : LoupeOp) : State :=
  match f with
  | .haltCore c => s.loupeHalt c.val
  | .stepCore c => if s.sec.halted.contains c.val then s.setCore c.val { s.core c.val with step := true } else s
  | .resumeCore c => s.loupeResume c.val
  | .readReg c r => s.emit (.loupe (leBytes 8 (s.g c.val r.val).toNat))
  | .writeReg c r v => s.setG c.val r.val v
  | .readPc c => s.emit (.loupe (leBytes 8 (s.core c.val).pc.toNat))
  | .writePc c v => s.setCore c.val { s.core c.val with pc := v &&& ~~~3 }
  | .readCr c n => s.emit (.loupe (leBytes 8 ((s.readCr c.val n.toNat).getD 0).toNat))
  | .writeCr c n v => s.writeCr c.val n.toNat v
  | .haltFacet f => s.whileRuns (facetDom f) fun s => s.loupeHaltFacet f
  | .stepFacet f env => s.whileRuns (facetDom f) fun s => s.loupeStepFacet f env
  | .resumeFacet f => s.whileRuns (facetDom f) fun s => s.put (FCT_STAT_HALT (facetBase f)) false
  | .readFacet f n => s.emit (.loupe (leBytes 5 (s.facetReg f n.val)))
  | .writeFacet f n v => s.setFacetReg f n.val v
  | .brken f v => s.whileAnswers (facetDom f) fun s => s.put (FCT_CTL_BRKEN (facetBase f)) v
  | .readMem a n =>
    let r := s.loupeRead a.toNat n.val
    r.2.emit (.loupe r.1)
  | .writeMem a bs => s.loupeWrite a.toNat bs
  | .trace => s

/-- LOUPE_FUNCTION (R389, R391, R604): codes 0x80 to 0x8F; once the fuse is blown they act as BYPASS, and until an unlock
they have no function. -/
def loupeFunction (code : BitVec 4) (f : LoupeOp) (s : State) : State :=
  let tap : BitVec 8 := 0x80 ||| code.zeroExtend 8
  if s.sec.loupeFuse then bypass tap s
  else if ! s.sec.unlocked then s.tapCode tap false
  else (s.tapCode tap false).loupeDo f

/-- LOUPE_FUNCTION. -/
def execLoupeFunction (code : BitVec 4) (f : LoupeOp) (s : State) : Result := done s (loupeFunction code f s)

end Sys2Proof.Machine
end

