-- ==== Sys2Proof/Machine/Transfer.lean ====
section
/-! DEFINITION. Sys2Proof/Machine/Transfer.lean: what a DMA channel moves: addresses, bursts and beats, the arbitration of
an engine (R502, R505, R507 to R509, R512 to R514). Every burst but the last of a transfer is answered within the grant
that issues it (log entry 45). -/
namespace Sys2Proof.Machine
open Sys2Proof

/-- The bytes of one beat in a register window (R505). -/
def cfgBeat (cfg : Nat) : Nat := if cfgWide cfg then 8 else 4

/-- Bytes up to the end of the aligned 64-byte run of a memory side (R502); a window side sets none. -/
def memRun (a moved : Nat) (inc : Bool) : Nat :=
  if inWindow a then 4096 else if inc then 64 - a % 64 else 64 - moved % 64

/-- The requester of a channel's accesses. -/
def dmaAgent (d i : Nat) : Agent := .dma (Fin.ofNat 4 d) (Fin.ofNat 16 i)

/-! ### Reading and writing one run -/

/-- Read memory piece by piece: the bytes, or the address of the first piece that cannot be read. -/
def State.dmaReadMem (s : State) : Bool → List (Nat × Nat) → Except Nat (List Byte) × State
  | _, [] => (.ok [], s)
  | first, (a, n) :: r =>
    match s.readPiece false first a n with
    | (none, s) => (.error a, s)
    | (some bs, s) =>
      match State.dmaReadMem s false r with
      | (.ok bs', s) => (.ok (bs ++ bs'), s)
      | (.error e, s) => (.error e, s)

/-- `n` reads of a window's register. -/
def State.dmaReadWin (s : State) (who : Agent) (a : Nat) (wide : Bool) : Nat → Except Nat (List Byte) × State
  | 0 => (.ok [], s)
  | n + 1 =>
    match s.regRead who false a wide with
    | (none, s) => (.error a, s)
    | (some v, s) =>
      match State.dmaReadWin s who a wide n with
      | (.ok bs, s) => (.ok (leBytes (if wide then 8 else 4) v.toNat ++ bs), s)
      | (.error e, s) => (.error e, s)

/-- Read `n` bytes of the source at `a`. -/
def State.dmaRead (s : State) (who : Agent) (a : Nat) (wide : Bool) (n : Nat) : Except Nat (List Byte) × State :=
  if inWindow a then s.dmaReadWin who a wide (n / if wide then 8 else 4) else s.dmaReadMem true (pieces n a n)

/-- Writes of a window's register, beat by beat; the address if one meets a bus error. -/
def State.dmaWriteWin (s : State) (who : Agent) (a : Nat) (wide : Bool) : Nat → List Byte → Option Nat × State
  | 0, _ => (none, s)
  | n + 1, bs =>
    let m := if wide then 8 else 4
    match s.regWrite who false a wide (BitVec.ofNat 64 (leNat (bs.take m))) with
    | (false, s) => (some a, s)
    | (true, s) => State.dmaWriteWin s who a wide n (bs.drop m)

/-- Write bytes at the destination `a`; the lowest failing address, if any. -/
def State.dmaWrite (s : State) (who : Agent) (a : Nat) (wide : Bool) (bs : List Byte) : Option Nat × State :=
  if inWindow a then s.dmaWriteWin who a wide (bs.length / if wide then 8 else 4) bs else s.busWrite false a bs

/-- The bytes a FILL writes at destination address `a` (R505). -/
def fillBytes (pattern : Word) (a n : Nat) : List Byte :=
  (List.range n).map fun j => pattern.extractLsb' (8 * ((a + j) % 8)) 8

/-! ### Bursts -/

/-- The channel's addresses move on by `n` bytes. -/
def State.dmaSkip (s : State) (d i n : Nat) : State :=
  let cfg := s.rd (DMA_CFG_CFG d i)
  let x := s.dmaS d i
  let s := s.wr (DMA_DST_ADDR d i) (dmaNext (s.rd (DMA_DST_ADDR d i)) (cfgDinc cfg) (cfgDwrap cfg) n)
  let s := if cfgOp cfg = 1 then s.wr (DMA_SRC_ADDR d i) (dmaNext (s.rd (DMA_SRC_ADDR d i)) (cfgSinc cfg) (cfgSwrap cfg) n) else s
  s.setDma d i { x with moved := x.moved + n }

/-- The channel moves on by a run of `n` bytes: addresses, DMA_CNT, DMA_BYTES (R508). -/
def State.dmaAdvance (s : State) (d i n : Nat) : State :=
  ((s.dmaSkip d i n).wr (DMA_CNT_BYTES d i) (s.rd (DMA_CNT_BYTES d i) - n)).bumpWrap (DMA_BYTES_COUNT d) n

/-- The whole beats in `n` bytes, at least one. -/
def wholeBeats (beat n : Nat) : Nat := if n < beat then beat else n - n % beat

/-- The runs of a burst with `left` bytes to go; false where the channel stopped on an error (R509). -/
def State.burstRuns (s : State) (d i : Nat) : Nat → Nat → Bool × State
  | 0, _ => (true, s)
  | fuel + 1, left =>
    if left = 0 then (true, s)
    else
      let cfg := s.rd (DMA_CFG_CFG d i)
      let copy := cfgOp cfg == 1
      let src := s.reg (DMA_SRC d i)
      let dst := s.rd (DMA_DST_ADDR d i)
      let moved := (s.dmaS d i).moved
      let n := min left (memRun dst moved (cfgDinc cfg))
      let n := if copy then min n (memRun src.toNat moved (cfgSinc cfg)) else n
      let n := if inWindow dst ∧ copy ∧ inWindow src.toNat then cfgBeat cfg
        else if inWindow dst ∨ (copy ∧ inWindow src.toNat) then wholeBeats (cfgBeat cfg) n else n
      let to_ := runAddr dst moved (cfgDinc cfg)
      let who := dmaAgent d i
      match (if copy then s.dmaRead who (runAddr src.toNat moved (cfgSinc cfg)) (cfgWide cfg) n else (.ok (fillBytes src to_ n), s)) with
      | (.error a, s) =>
        let rest : State := (s.dmaSkip d i n).freeDest d i (left - n)
        (false, rest.dmaFail d i dmReadErr a)
      | (.ok bs, s) =>
        match s.dmaWrite who to_ (cfgWide cfg) bs with
        | (some a, s) => (false, ((s.dmaAdvance d i n).freeDest d i (left - n)).dmaFail d i dmWriteErr a)
        | (none, s) => State.burstRuns (s.dmaAdvance d i n) d i fuel (left - n)

/-- One burst of channel `i`; with the last one the channel waits for its answer (R508, R515). -/
def State.dmaBurst (s : State) (d i : Nat) : State :=
  let n := s.burstLen d i
  match s.burstRuns d i n n with
  | (false, s) => s
  | (true, s) =>
    if s.rd (DMA_CNT_BYTES d i) = 0 ∧ s.on (DMA_CH_STAT_IDLE d i) then
      (s.put (DMA_CH_STAT_IDLE d i) false).wr (DMA_ENG_STAT_OUTST d) (s.rd (DMA_ENG_STAT_OUTST d) + 1)
    else s

/-- Channel `i` has a burst to issue (R514). -/
def State.dmaReady (s : State) (d i : Nat) : Bool :=
  s.dmaOn d i && s.dmaActive d i && ! s.on (DMA_CH_STAT_ERR d i) && s.rd (DMA_CNT_BYTES d i) != 0
    && s.dmaRequest (cfgReq (s.rd (DMA_CFG_CFG d i)))

/-- Burst after burst of channel `i` while it is ready; at most `fuel` of them. -/
def State.dmaBursts (s : State) (d i : Nat) : Nat → State
  | 0 => s
  | fuel + 1 => if s.dmaReady d i then State.dmaBursts (s.dmaBurst d i) d i fuel else s

/-- The bursts that are left of the transfer of a channel whose OP is `op`. -/
def State.dmaMove (s : State) (ch : DmaCh) (op : Nat) : State :=
  let d := ch.d.val
  let i := ch.i.val
  if cfgOp (s.rd (DMA_CFG_CFG d i)) = op then s.dmaBursts d i (s.rd (DMA_CNT_BYTES d i)) else s

/-- COPY (R505): the channel's COPY transfer moves the bytes left from SRC to DST, as long as its request holds. -/
def dmaCopy (ch : DmaCh) (s : State) : State := s.dmaMove ch 1
/-- COPY. -/
def execDmaCopy (ch : DmaCh) (s : State) : Result := clocked s (dmaCopy ch s)

/-- FILL (R505): the channel's FILL transfer writes the bytes left. -/
def dmaFill (ch : DmaCh) (s : State) : State := s.dmaMove ch 2
/-- FILL. -/
def execDmaFill (ch : DmaCh) (s : State) : Result := clocked s (dmaFill ch s)

/-! ### Arbitration (R513, R514) -/

/-- Channels of engine `d` in the order in which equal priorities are served: after the one granted last, wrapping. -/
def State.dmaOrder (s : State) (d : Nat) : List Nat :=
  (List.range 16).map fun j => (smGet 15 s.dma.last d + 1 + j) % 16

/-- The channel granted next: the highest PRIO among the ready ones, the first of them in order. -/
def State.dmaChoice (s : State) (d : Nat) : Option Nat :=
  let ready := (s.dmaOrder d).filter fun i => s.dmaReady d i
  let prio (i : Nat) : Nat := cfgPrio (s.rd (DMA_CFG_CFG d i))
  let top := ready.foldl (fun m i => max m (prio i)) 0
  ready.find? fun i => prio i == top

/-- DMA_BURST_GRANT (R513, R514): the engine samples its requests (`req` bits 23:8 are the levels at GPIO 0 to 15) and grants
one burst to the channel it chooses, while fewer than 8 bursts are outstanding. -/
def dmaBurstGrant (d : Fin 4) (req : BitVec 32) (s : State) : State :=
  let e := d.val
  let s := s.sampleGpio (bitsOf (req.zeroExtend 64) 8 16)
  let s := forUpTo 16 (fun i s =>
    if s.dmaActive e i then s.put (DMA_CH_STAT_REQ e i) (s.dmaRequest (cfgReq (s.rd (DMA_CFG_CFG e i)))) else s) s
  if 8 ≤ s.rd (DMA_ENG_STAT_OUTST e) then s
  else match s.dmaChoice e with
    | none => s
    | some i => { s with dma := { s.dma with last := smPut s.dma.last e i } }.dmaBurst e i

/-- DMA_BURST_GRANT. -/
def execDmaBurstGrant (d : Fin 4) (req : BitVec 32) (s : State) : Result := clocked s (dmaBurstGrant d req s)

end Sys2Proof.Machine
end

