-- ==== Sys2Proof/Machine/Dispatch.lean ====
section
/-! DEFINITION. Sys2Proof/Machine/Dispatch.lean: one arm per command, each a direct call of its meaning. -/
namespace Sys2Proof.Machine
open Sys2Proof

/-- The effect of a command on everything but the queue. -/
def exec (i : Instr) (s : State) : Host.Outcome State Fault Refusal :=
  match i with
  | .registerWrite who addr wide value => Sys2Proof.Machine.execRegisterWrite who addr wide value s
  | .clockLoss c => Sys2Proof.Machine.execClockLoss c s
  | .syncMark b a w => Sys2Proof.Machine.execSyncMark b a w s
  | .miss b => Sys2Proof.Machine.execMiss b s
  | .actionDue b slot => Sys2Proof.Machine.execActionDue b slot s
  | .snapshot => Sys2Proof.Machine.execSnapshot s
  | .racksyncEdge widthMs => Sys2Proof.Machine.execRacksyncEdge widthMs s
  | .racksyncHold => Sys2Proof.Machine.execRacksyncHold s
  | .downstreamFrame b => Sys2Proof.Machine.execDownstreamFrame b s
  | .upstreamFrame b lane f => Sys2Proof.Machine.execUpstreamFrame b lane f s
  | .laneDown b lane => Sys2Proof.Machine.execLaneDown b lane s
  | .managedWord b w => Sys2Proof.Machine.execManagedWord b w s
  | .managedWordRetry b tag => Sys2Proof.Machine.execManagedWordRetry b tag s
  | .trainingStart b => Sys2Proof.Machine.execTrainingStart b s
  | .trainingStepDone b m => Sys2Proof.Machine.execTrainingStepDone b m s
  | .trainingTimeout b => Sys2Proof.Machine.execTrainingTimeout b s
  | .linkDisable b => Sys2Proof.Machine.execLinkDisable b s
  | .signalDetect b present => Sys2Proof.Machine.execSignalDetect b present s
  | .challengeTimeout b => Sys2Proof.Machine.execChallengeTimeout b s
  | .attach b v => Sys2Proof.Machine.execAttach b v s
  | .mediaRead k => Sys2Proof.Machine.execMediaRead k s
  | .mediaWrite k => Sys2Proof.Machine.execMediaWrite k s
  | .mediaVerify k => Sys2Proof.Machine.execMediaVerify k s
  | .mediaCancel k => Sys2Proof.Machine.execMediaCancel k s
  | .schedulerSelect k => Sys2Proof.Machine.execSchedulerSelect k s
  | .sliceHandover k => Sys2Proof.Machine.execSliceHandover k s
  | .sectorDecode k r => Sys2Proof.Machine.execSectorDecode k r s
  | .deferredDecode k i_ r => Sys2Proof.Machine.execDeferredDecode k i_ r s
  | .retryStep k rs => Sys2Proof.Machine.execRetryStep k rs s
  | .noAngleTimeout k => Sys2Proof.Machine.execNoAngleTimeout k s
  | .sliceCompletion k => Sys2Proof.Machine.execSliceCompletion k s
  | .facetNext f env => Sys2Proof.Machine.execFacetNext f env s
  | .facetRet f env => Sys2Proof.Machine.execFacetRet f env s
  | .facetLoop f env => Sys2Proof.Machine.execFacetLoop f env s
  | .facetBr f env => Sys2Proof.Machine.execFacetBr f env s
  | .facetJmp f env => Sys2Proof.Machine.execFacetJmp f env s
  | .facetCall f env => Sys2Proof.Machine.execFacetCall f env s
  | .facetGoto f env => Sys2Proof.Machine.execFacetGoto f env s
  | .facetBrt f env => Sys2Proof.Machine.execFacetBrt f env s
  | .facetNaLoop f env => Sys2Proof.Machine.execFacetNaLoop f env s
  | .facetDispatch f env => Sys2Proof.Machine.execFacetDispatch f env s
  | .microTrap f => Sys2Proof.Machine.execMicroTrap f s
  | .facetWatchdog f => Sys2Proof.Machine.execFacetWatchdog f s
  | .facetScrub f found => Sys2Proof.Machine.execFacetScrub f found s
  | .storeWindowWrite f off value => Sys2Proof.Machine.execStoreWindowWrite f off value s
  | .facetClear f => Sys2Proof.Machine.execFacetClear f s
  | .facetClearDone f => Sys2Proof.Machine.execFacetClearDone f s
  | .facetVerify f => Sys2Proof.Machine.execFacetVerify f s
  | .facetVerifyDone f => Sys2Proof.Machine.execFacetVerifyDone f s
  | .swapArm f armIt entry => Sys2Proof.Machine.execSwapArm f armIt entry s
  | .bankSwitch f => Sys2Proof.Machine.execBankSwitch f s
  | .runStart f => Sys2Proof.Machine.execRunStart f s
  | .runHalt f => Sys2Proof.Machine.execRunHalt f s
  | .doorbell f => Sys2Proof.Machine.execDoorbell f s
  | .servoSample k smp => Sys2Proof.Machine.execServoSample k smp s
  | .outputDeadline k => Sys2Proof.Machine.execOutputDeadline k s
  | .followingErrorTimeout k => Sys2Proof.Machine.execFollowingErrorTimeout k s
  | .servoSeek k => Sys2Proof.Machine.execServoSeek k s
  | .servoOffset k => Sys2Proof.Machine.execServoOffset k s
  | .servoPark k => Sys2Proof.Machine.execServoPark k s
  | .servoLoad k => Sys2Proof.Machine.execServoLoad k s
  | .servoResult k => Sys2Proof.Machine.execServoResult k s
  | .seekTimeout k => Sys2Proof.Machine.execSeekTimeout k s
  | .loadTimeout k => Sys2Proof.Machine.execLoadTimeout k s
  | .servoReacqTimeout k => Sys2Proof.Machine.execServoReacqTimeout k s
  | .parkRequest k => Sys2Proof.Machine.execParkRequest k s
  | .parkDataPhaseEnd k => Sys2Proof.Machine.execParkDataPhaseEnd k s
  | .parkRampPhaseEnd k => Sys2Proof.Machine.execParkRampPhaseEnd k s
  | .gainCopy k set => Sys2Proof.Machine.execGainCopy k set s
  | .servoEnable k v => Sys2Proof.Machine.execServoEnable k v s
  | .spindleEnable b v => Sys2Proof.Machine.execSpindleEnable b v s
  | .spindleStart b => Sys2Proof.Machine.execSpindleStart b s
  | .spindleSpeed b => Sys2Proof.Machine.execSpindleSpeed b s
  | .spindleStop b => Sys2Proof.Machine.execSpindleStop b s
  | .spindleRegen b => Sys2Proof.Machine.execSpindleRegen b s
  | .spindleRegenEnd b => Sys2Proof.Machine.execSpindleRegenEnd b s
  | .spindleCoast b => Sys2Proof.Machine.execSpindleCoast b s
  | .spindleAbort b => Sys2Proof.Machine.execSpindleAbort b s
  | .listenEnd b found reverse rpm => Sys2Proof.Machine.execListenEnd b found reverse rpm s
  | .probeDone b peaks => Sys2Proof.Machine.execProbeDone b peaks s
  | .stepDriveInterval b rpm => Sys2Proof.Machine.execStepDriveInterval b rpm s
  | .pwmPeriod b resid rpm => Sys2Proof.Machine.execPwmPeriod b resid rpm s
  | .phaseOutputDeadline b => Sys2Proof.Machine.execPhaseOutputDeadline b s
  | .backEmfZeroCrossing b rpm agrees => Sys2Proof.Machine.execBackEmfZeroCrossing b rpm agrees s
  | .spinupTimeout b => Sys2Proof.Machine.execSpinupTimeout b s
  | .stopParkWaitTimeout b => Sys2Proof.Machine.execStopParkWaitTimeout b s
  | .brakeHoldEnd b => Sys2Proof.Machine.execBrakeHoldEnd b s
  | .rotorLoss b => Sys2Proof.Machine.execRotorLoss b s
  | .reacqWindowEnd b => Sys2Proof.Machine.execReacqWindowEnd b s
  | .reacqTimeout b => Sys2Proof.Machine.execReacqTimeout b s
  | .commutationHaltPark b => Sys2Proof.Machine.execCommutationHaltPark b s
  | .vmotorSample code => Sys2Proof.Machine.execVmotorSample code s
  | .chopperTest => Sys2Proof.Machine.execChopperTest s
  | .chopperTestDone beforeMv pulseMv afterMv => Sys2Proof.Machine.execChopperTestDone beforeMv pulseMv afterMv s
  | .lifeFold => Sys2Proof.Machine.execLifeFold s
  | .lifeRecordWrite b => Sys2Proof.Machine.execLifeRecordWrite b s
  | .reconciliation b bridge => Sys2Proof.Machine.execReconciliation b bridge s
  | .calibrationRun k ty h => Sys2Proof.Machine.execCalibrationRun k ty h s
  | .calibrationResult k r => Sys2Proof.Machine.execCalibrationResult k r s
  | .calibrationDeferExpiry k ty h => Sys2Proof.Machine.execCalibrationDeferExpiry k ty h s
  | .vrefinMeasure avg => Sys2Proof.Machine.execVrefinMeasure avg s
  | .bridgeRatio b ownMv bridgeMv => Sys2Proof.Machine.execBridgeRatio b ownMv bridgeMv s
  | .btRead idx => Sys2Proof.Machine.execBtRead idx s
  | .btWrite idx => Sys2Proof.Machine.execBtWrite idx s
  | .btOpen idx => Sys2Proof.Machine.execBtOpen idx s
  | .btClose idx => Sys2Proof.Machine.execBtClose idx s
  | .btClean => Sys2Proof.Machine.execBtClean s
  | .btInval => Sys2Proof.Machine.execBtInval s
  | .btRestore idx => Sys2Proof.Machine.execBtRestore idx s
  | .btInvalidCommand op idx => Sys2Proof.Machine.execBtInvalidCommand op idx s
  | .btFetch k => Sys2Proof.Machine.execBtFetch k s
  | .checkpointStart => Sys2Proof.Machine.execCheckpointStart s
  | .checkpointCommit surfaces chunks dir => Sys2Proof.Machine.execCheckpointCommit surfaces chunks dir s
  | .recovery rec => Sys2Proof.Machine.execRecovery rec s
  | .compaction bsid plan => Sys2Proof.Machine.execCompaction bsid plan s
  | .prismEncode e => Sys2Proof.Machine.execPrismEncode e s
  | .prismReconstruct e => Sys2Proof.Machine.execPrismReconstruct e s
  | .prismCheck e => Sys2Proof.Machine.execPrismCheck e s
  | .prismResult e => Sys2Proof.Machine.execPrismResult e s
  | .journalFlush pair good0 good1 => Sys2Proof.Machine.execJournalFlush pair good0 good1 s
  | .stripeSeal bsid plan => Sys2Proof.Machine.execStripeSeal bsid plan s
  | .bitmapClear region => Sys2Proof.Machine.execBitmapClear region s
  | .slowMember k => Sys2Proof.Machine.execSlowMember k s
  | .probation k => Sys2Proof.Machine.execProbation k s
  | .probationResult k wrote => Sys2Proof.Machine.execProbationResult k wrote s
  | .reattachTimeout b => Sys2Proof.Machine.execReattachTimeout b s
  | .rebuild bsid member plan => Sys2Proof.Machine.execRebuild bsid member plan s
  | .reshape step plan => Sys2Proof.Machine.execReshape step plan s
  | .hello p m => Sys2Proof.Machine.execHello p m s
  | .hostCmd pkt c => Sys2Proof.Machine.execHostCmd pkt c s
  | .hostData pkt seq doff bytes => Sys2Proof.Machine.execHostData pkt seq doff bytes s
  | .hostAck pkt largest map win => Sys2Proof.Machine.execHostAck pkt largest map win s
  | .sessionReset pkt ctag close => Sys2Proof.Machine.execSessionReset pkt ctag close s
  | .logRead pkt ctag entry => Sys2Proof.Machine.execLogRead pkt ctag entry s
  | .restartResume pkt ctag => Sys2Proof.Machine.execRestartResume pkt ctag s
  | .restartDiscard pkt ctag => Sys2Proof.Machine.execRestartDiscard pkt ctag s
  | .arpRequest p target => Sys2Proof.Machine.execArpRequest p target s
  | .neighbourDiscovery p target => Sys2Proof.Machine.execNeighbourDiscovery p target s
  | .echoRequest p v6 payload => Sys2Proof.Machine.execEchoRequest p v6 payload s
  | .ackDelay sid => Sys2Proof.Machine.execAckDelay sid s
  | .retransmissionTimeout sid pn => Sys2Proof.Machine.execRetransmissionTimeout sid pn s
  | .dataTTimeout sid seq => Sys2Proof.Machine.execDataTTimeout sid seq s
  | .idleTimeout sid => Sys2Proof.Machine.execIdleTimeout sid s
  | .oldEpochKeyExpiry sid => Sys2Proof.Machine.execOldEpochKeyExpiry sid s
  | .portLinkChange p up => Sys2Proof.Machine.execPortLinkChange p up s
  | .evaluationPoint sid seq => Sys2Proof.Machine.execEvaluationPoint sid seq s
  | .commandCommit sid seq => Sys2Proof.Machine.execCommandCommit sid seq s
  | .objPut sid seq plan => Sys2Proof.Machine.execObjPut sid seq plan s
  | .objWrite sid seq plan => Sys2Proof.Machine.execObjWrite sid seq plan s
  | .objAppend sid seq plan => Sys2Proof.Machine.execObjAppend sid seq plan s
  | .objGet sid seq plan => Sys2Proof.Machine.execObjGet sid seq plan s
  | .objStat sid seq => Sys2Proof.Machine.execObjStat sid seq s
  | .objDelete sid seq => Sys2Proof.Machine.execObjDelete sid seq s
  | .objList sid seq => Sys2Proof.Machine.execObjList sid seq s
  | .objCommit sid seq => Sys2Proof.Machine.execObjCommit sid seq s
  | .partSetTimeout obj setId => Sys2Proof.Machine.execPartSetTimeout obj setId s
  | .describe sid seq => Sys2Proof.Machine.execDescribe sid seq s
  | .powerHint sid seq => Sys2Proof.Machine.execPowerHint sid seq s
  | .powerHintExpiry => Sys2Proof.Machine.execPowerHintExpiry s
  | .attest sid seq => Sys2Proof.Machine.execAttest sid seq s
  | .profileSelect sid seq => Sys2Proof.Machine.execProfileSelect sid seq s
  | .imageStage sid seq => Sys2Proof.Machine.execImageStage sid seq s
  | .cipherSeal c => Sys2Proof.Machine.execCipherSeal c s
  | .cipherOpen c => Sys2Proof.Machine.execCipherOpen c s
  | .cipherGenkey c => Sys2Proof.Machine.execCipherGenkey c s
  | .cipherLoadkey c => Sys2Proof.Machine.execCipherLoadkey c s
  | .cipherEvict c => Sys2Proof.Machine.execCipherEvict c s
  | .sessionJob c => Sys2Proof.Machine.execSessionJob c s
  | .cipherResult c => Sys2Proof.Machine.execCipherResult c s
  | .drbgReseed => Sys2Proof.Machine.execDrbgReseed s
  | .reseed => Sys2Proof.Machine.execReseed s
  | .entropyHealthFailure => Sys2Proof.Machine.execEntropyHealthFailure s
  | .claim r readBackOk => Sys2Proof.Machine.execClaim r readBackOk s
  | .transfer r readBackOk => Sys2Proof.Machine.execTransfer r readBackOk s
  | .decommission r => Sys2Proof.Machine.execDecommission r s
  | .loupeUnlock key sig drained => Sys2Proof.Machine.execLoupeUnlock key sig drained s
  | .loupeKill => Sys2Proof.Machine.execLoupeKill s
  | .svnRaise kind => Sys2Proof.Machine.execSvnRaise kind s
  | .extest cells => Sys2Proof.Machine.execExtest cells s
  | .idcode => Sys2Proof.Machine.execIdcode s
  | .samplePreload cells => Sys2Proof.Machine.execSamplePreload cells s
  | .bypass code => Sys2Proof.Machine.execBypass code s
  | .loupeFunction code f => Sys2Proof.Machine.execLoupeFunction code f s
  | .ledgerUpdate vholdCode => Sys2Proof.Machine.execLedgerUpdate vholdCode s
  | .debitAdmitted => Sys2Proof.Machine.execDebitAdmitted s
  | .debitWaitEvent handle => Sys2Proof.Machine.execDebitWaitEvent handle s
  | .apertureFill => Sys2Proof.Machine.execApertureFill s
  | .powerLossFlush => Sys2Proof.Machine.execPowerLossFlush s
  | .flushEnd timedOut written => Sys2Proof.Machine.execFlushEnd timedOut written s
  | .flushBrake => Sys2Proof.Machine.execFlushBrake s
  | .powerReturn afterFlush => Sys2Proof.Machine.execPowerReturn afterFlush s
  | .idleTimerExpiry b n => Sys2Proof.Machine.execIdleTimerExpiry b n s
  | .powerStateExit b => Sys2Proof.Machine.execPowerStateExit b s
  | .thermalStep => Sys2Proof.Machine.execThermalStep s
  | .thermalShutdown => Sys2Proof.Machine.execThermalShutdown s
  | .caseTemperatureWrite t => Sys2Proof.Machine.execCaseTemperatureWrite t s
  | .caseValidityExpiry => Sys2Proof.Machine.execCaseValidityExpiry s
  | .trim => Sys2Proof.Machine.execTrim s
  | .trimDone measured predicted => Sys2Proof.Machine.execTrimDone measured predicted s
  | .add c rd rs1 rs2 => Sys2Proof.Machine.execAdd c rd rs1 rs2 s
  | .addN c rd rs1 rs2 => Sys2Proof.Machine.execAddN c rd rs1 rs2 s
  | .sub c rd rs1 rs2 => Sys2Proof.Machine.execSub c rd rs1 rs2 s
  | .subN c rd rs1 rs2 => Sys2Proof.Machine.execSubN c rd rs1 rs2 s
  | .and c rd rs1 rs2 => Sys2Proof.Machine.execAnd c rd rs1 rs2 s
  | .ior c rd rs1 rs2 => Sys2Proof.Machine.execIor c rd rs1 rs2 s
  | .eor c rd rs1 rs2 => Sys2Proof.Machine.execEor c rd rs1 rs2 s
  | .andc c rd rs1 rs2 => Sys2Proof.Machine.execAndc c rd rs1 rs2 s
  | .iorc c rd rs1 rs2 => Sys2Proof.Machine.execIorc c rd rs1 rs2 s
  | .shl c rd rs1 rs2 => Sys2Proof.Machine.execShl c rd rs1 rs2 s
  | .shlN c rd rs1 rs2 => Sys2Proof.Machine.execShlN c rd rs1 rs2 s
  | .shr c rd rs1 rs2 => Sys2Proof.Machine.execShr c rd rs1 rs2 s
  | .shrN c rd rs1 rs2 => Sys2Proof.Machine.execShrN c rd rs1 rs2 s
  | .sar c rd rs1 rs2 => Sys2Proof.Machine.execSar c rd rs1 rs2 s
  | .sarN c rd rs1 rs2 => Sys2Proof.Machine.execSarN c rd rs1 rs2 s
  | .ror c rd rs1 rs2 => Sys2Proof.Machine.execRor c rd rs1 rs2 s
  | .rorN c rd rs1 rs2 => Sys2Proof.Machine.execRorN c rd rs1 rs2 s
  | .cmps c rd rs1 rs2 => Sys2Proof.Machine.execCmps c rd rs1 rs2 s
  | .cmpu c rd rs1 rs2 => Sys2Proof.Machine.execCmpu c rd rs1 rs2 s
  | .mins c rd rs1 rs2 => Sys2Proof.Machine.execMins c rd rs1 rs2 s
  | .maxs c rd rs1 rs2 => Sys2Proof.Machine.execMaxs c rd rs1 rs2 s
  | .minu c rd rs1 rs2 => Sys2Proof.Machine.execMinu c rd rs1 rs2 s
  | .maxu c rd rs1 rs2 => Sys2Proof.Machine.execMaxu c rd rs1 rs2 s
  | .extu c rd rs1 rs2 => Sys2Proof.Machine.execExtu c rd rs1 rs2 s
  | .exts c rd rs1 rs2 => Sys2Proof.Machine.execExts c rd rs1 rs2 s
  | .cntlz c rd rs1 => Sys2Proof.Machine.execCntlz c rd rs1 s
  | .cnttz c rd rs1 => Sys2Proof.Machine.execCnttz c rd rs1 s
  | .cntone c rd rs1 => Sys2Proof.Machine.execCntone c rd rs1 s
  | .revb c rd rs1 => Sys2Proof.Machine.execRevb c rd rs1 s
  | .addi c rd rs1 imm => Sys2Proof.Machine.execAddi c rd rs1 imm s
  | .andi c rd rs1 imm => Sys2Proof.Machine.execAndi c rd rs1 imm s
  | .iori c rd rs1 imm => Sys2Proof.Machine.execIori c rd rs1 imm s
  | .eori c rd rs1 imm => Sys2Proof.Machine.execEori c rd rs1 imm s
  | .cmpsi c rd rs1 imm => Sys2Proof.Machine.execCmpsi c rd rs1 imm s
  | .cmpui c rd rs1 imm => Sys2Proof.Machine.execCmpui c rd rs1 imm s
  | .addiN c rd rs1 imm => Sys2Proof.Machine.execAddiN c rd rs1 imm s
  | .shi c rd rs1 imm => Sys2Proof.Machine.execShi c rd rs1 imm s
  | .setq c rd q imm => Sys2Proof.Machine.execSetq c rd q imm s
  | .addpc c rd imm => Sys2Proof.Machine.execAddpc c rd imm s
  | .mlo c rd rs1 rs2 => Sys2Proof.Machine.execMlo c rd rs1 rs2 s
  | .mloN c rd rs1 rs2 => Sys2Proof.Machine.execMloN c rd rs1 rs2 s
  | .mhi c rd rs1 rs2 => Sys2Proof.Machine.execMhi c rd rs1 rs2 s
  | .mhiu c rd rs1 rs2 => Sys2Proof.Machine.execMhiu c rd rs1 rs2 s
  | .mhisu c rd rs1 rs2 => Sys2Proof.Machine.execMhisu c rd rs1 rs2 s
  | .quo c rd rs1 rs2 => Sys2Proof.Machine.execQuo c rd rs1 rs2 s
  | .quoN c rd rs1 rs2 => Sys2Proof.Machine.execQuoN c rd rs1 rs2 s
  | .quou c rd rs1 rs2 => Sys2Proof.Machine.execQuou c rd rs1 rs2 s
  | .quouN c rd rs1 rs2 => Sys2Proof.Machine.execQuouN c rd rs1 rs2 s
  | .rem c rd rs1 rs2 => Sys2Proof.Machine.execRem c rd rs1 rs2 s
  | .remN c rd rs1 rs2 => Sys2Proof.Machine.execRemN c rd rs1 rs2 s
  | .remu c rd rs1 rs2 => Sys2Proof.Machine.execRemu c rd rs1 rs2 s
  | .remuN c rd rs1 rs2 => Sys2Proof.Machine.execRemuN c rd rs1 rs2 s
  | .mod c rd rs1 rs2 => Sys2Proof.Machine.execMod c rd rs1 rs2 s
  | .modN c rd rs1 rs2 => Sys2Proof.Machine.execModN c rd rs1 rs2 s
  | .lb c rd rs1 imm => Sys2Proof.Machine.execLb c rd rs1 imm s
  | .lh c rd rs1 imm => Sys2Proof.Machine.execLh c rd rs1 imm s
  | .lw c rd rs1 imm => Sys2Proof.Machine.execLw c rd rs1 imm s
  | .ld c rd rs1 imm => Sys2Proof.Machine.execLd c rd rs1 imm s
  | .lbu c rd rs1 imm => Sys2Proof.Machine.execLbu c rd rs1 imm s
  | .lhu c rd rs1 imm => Sys2Proof.Machine.execLhu c rd rs1 imm s
  | .lwu c rd rs1 imm => Sys2Proof.Machine.execLwu c rd rs1 imm s
  | .sb c rs2 rs1 imm => Sys2Proof.Machine.execSb c rs2 rs1 imm s
  | .sh c rs2 rs1 imm => Sys2Proof.Machine.execSh c rs2 rs1 imm s
  | .sw c rs2 rs1 imm => Sys2Proof.Machine.execSw c rs2 rs1 imm s
  | .sd c rs2 rs1 imm => Sys2Proof.Machine.execSd c rs2 rs1 imm s
  | .beq c rs1 rs2 off => Sys2Proof.Machine.execBeq c rs1 rs2 off s
  | .bne c rs1 rs2 off => Sys2Proof.Machine.execBne c rs1 rs2 off s
  | .blt c rs1 rs2 off => Sys2Proof.Machine.execBlt c rs1 rs2 off s
  | .bge c rs1 rs2 off => Sys2Proof.Machine.execBge c rs1 rs2 off s
  | .bltu c rs1 rs2 off => Sys2Proof.Machine.execBltu c rs1 rs2 off s
  | .bgeu c rs1 rs2 off => Sys2Proof.Machine.execBgeu c rs1 rs2 off s
  | .j c off => Sys2Proof.Machine.execJ c off s
  | .jl c off => Sys2Proof.Machine.execJl c off s
  | .jlr c rd rs1 imm => Sys2Proof.Machine.execJlr c rd rs1 imm s
  | .ll c rd rs1 rs2 dbl => Sys2Proof.Machine.execLl c rd rs1 rs2 dbl s
  | .sc c rd rs1 rs2 dbl => Sys2Proof.Machine.execSc c rd rs1 rs2 dbl s
  | .swap c rd rs1 rs2 dbl => Sys2Proof.Machine.execSwap c rd rs1 rs2 dbl s
  | .atomicAdd c rd rs1 rs2 dbl => Sys2Proof.Machine.execAtomicAdd c rd rs1 rs2 dbl s
  | .atomicAnd c rd rs1 rs2 dbl => Sys2Proof.Machine.execAtomicAnd c rd rs1 rs2 dbl s
  | .atomicOr c rd rs1 rs2 dbl => Sys2Proof.Machine.execAtomicOr c rd rs1 rs2 dbl s
  | .atomicXor c rd rs1 rs2 dbl => Sys2Proof.Machine.execAtomicXor c rd rs1 rs2 dbl s
  | .atomicMin c rd rs1 rs2 dbl => Sys2Proof.Machine.execAtomicMin c rd rs1 rs2 dbl s
  | .atomicMax c rd rs1 rs2 dbl => Sys2Proof.Machine.execAtomicMax c rd rs1 rs2 dbl s
  | .atomicMinu c rd rs1 rs2 dbl => Sys2Proof.Machine.execAtomicMinu c rd rs1 rs2 dbl s
  | .atomicMaxu c rd rs1 rs2 dbl => Sys2Proof.Machine.execAtomicMaxu c rd rs1 rs2 dbl s
  | .cas c rd rs1 rs2 dbl => Sys2Proof.Machine.execCas c rd rs1 rs2 dbl s
  | .fence c => Sys2Proof.Machine.execFence c s
  | .reservedOpcode c w => Sys2Proof.Machine.execReservedOpcode c w s
  | .postedStoreError c => Sys2Proof.Machine.execPostedStoreError c s
  | .interruptTaken c => Sys2Proof.Machine.execInterruptTaken c s
  | .timecmpReached c => Sys2Proof.Machine.execTimecmpReached c s
  | .push c r lp gs => Sys2Proof.Machine.execPush c r lp gs s
  | .pusht c r lp gs => Sys2Proof.Machine.execPusht c r lp gs s
  | .pop c r lp gs => Sys2Proof.Machine.execPop c r lp gs s
  | .popt c r lp gs => Sys2Proof.Machine.execPopt c r lp gs s
  | .count c r lp => Sys2Proof.Machine.execCount c r lp s
  | .resv c lp n => Sys2Proof.Machine.execResv c lp n s
  | .rels c lp n => Sys2Proof.Machine.execRels c lp n s
  | .note c lp kind thr => Sys2Proof.Machine.execNote c lp kind thr s
  | .lightpipeWaitGranted c => Sys2Proof.Machine.execLightpipeWaitGranted c s
  | .notificationFire c => Sys2Proof.Machine.execNotificationFire c s
  | .armAction c rd rs1 rs2 => Sys2Proof.Machine.execArmAction c rd rs1 rs2 s
  | .acancel c rd rs1 => Sys2Proof.Machine.execAcancel c rd rs1 s
  | .astat c rd rs1 => Sys2Proof.Machine.execAstat c rd rs1 s
  | .rdang c rd rs1 => Sys2Proof.Machine.execRdang c rd rs1 s
  | .rdwt c rd => Sys2Proof.Machine.execRdwt c rd s
  | .debit c rd rs1 rs2 noWait => Sys2Proof.Machine.execDebit c rd rs1 rs2 noWait s
  | .credit c rd rs1 rs2 => Sys2Proof.Machine.execCredit c rd rs1 rs2 s
  | .withdraw c rd rs1 => Sys2Proof.Machine.execWithdraw c rd rs1 s
  | .lquery c rd rs1 => Sys2Proof.Machine.execLquery c rd rs1 s
  | .adebit c rd rs1 class1 => Sys2Proof.Machine.execAdebit c rd rs1 class1 s
  | .adebitGranted c => Sys2Proof.Machine.execAdebitGranted c s
  | .crr c rd cr => Sys2Proof.Machine.execCrr c rd cr s
  | .crw c rd rs1 cr => Sys2Proof.Machine.execCrw c rd rs1 cr s
  | .crs c rd rs1 cr => Sys2Proof.Machine.execCrs c rd rs1 cr s
  | .crc c rd rs1 cr => Sys2Proof.Machine.execCrc c rd rs1 cr s
  | .tret c => Sys2Proof.Machine.execTret c s
  | .syscall c arg => Sys2Proof.Machine.execSyscall c arg s
  | .brk c => Sys2Proof.Machine.execBrk c s
  | .icinv c rs1 line => Sys2Proof.Machine.execIcinv c rs1 line s
  | .wseq c rd => Sys2Proof.Machine.execWseq c rd s
  | .wait c => Sys2Proof.Machine.execWait c s
  | .waitResume c => Sys2Proof.Machine.execWaitResume c s
  | .imgver c rd rs1 act => Sys2Proof.Machine.execImgver c rd rs1 act s
  | .cacheFill addr found => Sys2Proof.Machine.execCacheFill addr found s
  | .wayLock mask => Sys2Proof.Machine.execWayLock mask s
  | .rangeClean inclLocked => Sys2Proof.Machine.execRangeClean inclLocked s
  | .rangeInvalidate inclLocked => Sys2Proof.Machine.execRangeInvalidate inclLocked s
  | .rangeCleanInv inclLocked => Sys2Proof.Machine.execRangeCleanInv inclLocked s
  | .rangePreload inclLocked way => Sys2Proof.Machine.execRangePreload inclLocked way s
  | .rangeOperationDone => Sys2Proof.Machine.execRangeOperationDone s
  | .wayGroupOff g => Sys2Proof.Machine.execWayGroupOff g s
  | .wayGroupOn g => Sys2Proof.Machine.execWayGroupOn g s
  | .wayGroupChangeDone => Sys2Proof.Machine.execWayGroupChangeDone s
  | .cacheDisable => Sys2Proof.Machine.execCacheDisable s
  | .cacheDisableDone => Sys2Proof.Machine.execCacheDisableDone s
  | .cacheEnable => Sys2Proof.Machine.execCacheEnable s
  | .cacheEnableDone => Sys2Proof.Machine.execCacheEnableDone s
  | .memoryScrub addr found => Sys2Proof.Machine.execMemoryScrub addr found s
  | .vitalWordCheck => Sys2Proof.Machine.execVitalWordCheck s
  | .jseqWrite v => Sys2Proof.Machine.execJseqWrite v s
  | .reservationCommit jseq => Sys2Proof.Machine.execReservationCommit jseq s
  | .dmaArm ch => Sys2Proof.Machine.execDmaArm ch s
  | .dmaDescriptorPop ch => Sys2Proof.Machine.execDmaDescriptorPop ch s
  | .shadowLoad ch => Sys2Proof.Machine.execShadowLoad ch s
  | .dmaCopy ch => Sys2Proof.Machine.execDmaCopy ch s
  | .dmaFill ch => Sys2Proof.Machine.execDmaFill ch s
  | .dmaBurstGrant d req => Sys2Proof.Machine.execDmaBurstGrant d req s
  | .dmaBusError ch write addr => Sys2Proof.Machine.execDmaBusError ch write addr s
  | .dmaCompletion ch => Sys2Proof.Machine.execDmaCompletion ch s
  | .dmaCompletionPush ch => Sys2Proof.Machine.execDmaCompletionPush ch s
  | .dmaErrClear ch => Sys2Proof.Machine.execDmaErrClear ch s
  | .dmaChannelDisable ch => Sys2Proof.Machine.execDmaChannelDisable ch s
  | .dmaEngineDisable d => Sys2Proof.Machine.execDmaEngineDisable d s
  | .flashRead => Sys2Proof.Machine.execFlashRead s
  | .flashProgram => Sys2Proof.Machine.execFlashProgram s
  | .flashErase => Sys2Proof.Machine.execFlashErase s
  | .sfdpRead => Sys2Proof.Machine.execSfdpRead s
  | .flashOperationDone devError => Sys2Proof.Machine.execFlashOperationDone devError s
  | .enableCheck => Sys2Proof.Machine.execEnableCheck s
  | .cfgDisable => Sys2Proof.Machine.execCfgDisable s
  | .boot step => Sys2Proof.Machine.execBoot step s
  | .imageSwitch r => Sys2Proof.Machine.execImageSwitch r s
  | .hierarchyTick => Sys2Proof.Machine.execHierarchyTick s
  | .beacon term epoch digests => Sys2Proof.Machine.execBeacon term epoch digests s
  | .census m c => Sys2Proof.Machine.execCensus m c s
  | .grant term mw gseq => Sys2Proof.Machine.execGrant term mw gseq s
  | .tokenReq m b => Sys2Proof.Machine.execTokenReq m b s
  | .token id b => Sys2Proof.Machine.execToken id b s
  | .tokenRet m id => Sys2Proof.Machine.execTokenRet m id s
  | .takeover => Sys2Proof.Machine.execTakeover s
  | .beaconLossFence => Sys2Proof.Machine.execBeaconLossFence s
  | .tokenLeaseExpiry id => Sys2Proof.Machine.execTokenLeaseExpiry id s
  | .publish => Sys2Proof.Machine.execPublish s
  | .eventEntry ch => Sys2Proof.Machine.execEventEntry ch s
  | .evrSummary => Sys2Proof.Machine.execEvrSummary s
  | .evrLost ch => Sys2Proof.Machine.execEvrLost ch s
  | .freeze v => Sys2Proof.Machine.execFreeze v s
  | .freezeTimeout => Sys2Proof.Machine.execFreezeTimeout s
  | .logDrain good => Sys2Proof.Machine.execLogDrain good s
  | .eventFlush trigger => Sys2Proof.Machine.execEventFlush trigger s
  | .eventFlushDone => Sys2Proof.Machine.execEventFlushDone s
  | .macVerify => Sys2Proof.Machine.execMacVerify s
  | .quiesce who dom => Sys2Proof.Machine.execQuiesce who dom s
  | .domReset who dom => Sys2Proof.Machine.execDomReset who dom s
  | .domOff who dom => Sys2Proof.Machine.execDomOff who dom s
  | .domOn who dom => Sys2Proof.Machine.execDomOn who dom s
  | .domReturn who dom => Sys2Proof.Machine.execDomReturn who dom s
  | .drainDone dom => Sys2Proof.Machine.execDrainDone dom s
  | .drainTimeout dom => Sys2Proof.Machine.execDrainTimeout dom s
  | .coreRelease mask => Sys2Proof.Machine.execCoreRelease mask s
  | .coldReset role profile => Sys2Proof.Machine.execColdReset role profile s
  | .warmReset smbus => Sys2Proof.Machine.execWarmReset smbus s
  | .forcedWarmReset smbus => Sys2Proof.Machine.execForcedWarmReset smbus s
  | .warmResetDrainTimeout => Sys2Proof.Machine.execWarmResetDrainTimeout s
  | .watchdog => Sys2Proof.Machine.execWatchdog s
  | .kick => Sys2Proof.Machine.execKick s
  | .smbusRead off => Sys2Proof.Machine.execSmbusRead off s
  | .smbusWrite off v => Sys2Proof.Machine.execSmbusWrite off v s
  | .smbusAlertResponse => Sys2Proof.Machine.execSmbusAlertResponse s
  | .startBrakeEnd b => Sys2Proof.Machine.execStartBrakeEnd b s
  | .dataHoldExpiry sid seq => Sys2Proof.Machine.execDataHoldExpiry sid seq s
  | .registerRead who addr wide => Sys2Proof.Machine.execRegisterRead who addr wide s
  | .fuseCommandDone readBackOk => Sys2Proof.Machine.execFuseCommandDone readBackOk s
  | .entropyFaultClear => Sys2Proof.Machine.execEntropyFaultClear s
  | .porNLow => Sys2Proof.Machine.execPorNLow s
  | .clockReturn c => Sys2Proof.Machine.execClockReturn c s
  | .btCommandDone => Sys2Proof.Machine.execBtCommandDone s
  | .enableCheckDone => Sys2Proof.Machine.execEnableCheckDone s
  | .serviceTimeHalving => Sys2Proof.Machine.execServiceTimeHalving s

end Sys2Proof.Machine
end

