-- ==== Sys2Proof/Machine/Idle.lean ====
section
/-! DEFINITION. Sys2Proof/Machine/Idle.lean: the passing of a nanosecond with no command waiting: time goes on (R36, R67),
and a soft error may strike one of the stores that carry a code (R18, R154, R480, R488, R489, R491, R497; log entry 88). -/
namespace Sys2Proof.Machine
open Sys2Proof

/-- An entry of a lightpipe with an error in word `w`: one more makes a corrected word uncorrectable. -/
def Entry.struck (e : Entry) (w : Fin 4) (double : Bool) : Entry :=
  if double || e.ce.getLsbD w.val then { e with poison := true } else { e with ce := e.ce ||| (1 <<< w.val) }

/-- The errors of a Lens-cache line with one more in data word `w`. -/
def ArrayErr.struck (e : ArrayErr) (w : Fin 8) (double : Bool) : ArrayErr :=
  if double || e.ce.getLsbD w.val then { e with ue := e.ue ||| (1 <<< w.val) } else { e with ce := e.ce ||| (1 <<< w.val) }

/-- A Facet's bank with an error in the word of a key (R154, R158). -/
def FctBank.struck (b : FctBank) (key : Nat) (double : Bool) : FctBank :=
  b.setErr key (if double || b.errAt key != 0 then 2 else 1)

/-- A soft error strikes where its store holds something; elsewhere it has no effect. -/
def State.strike (s : State) : Upset → State
  | .none => s
  | .lightpipe n i w double =>
    match (s.lp n).entries[i]? with
    | some e => s.setLp n { s.lp n with entries := (s.lp n).entries.set i (e.struck w double) }
    | none => s
  | .facet f bank1 key double =>
    if f < 160 ∧ key < 1280 then
      let x := s.facetS f
      s.setFacet f (if bank1 then { x with bank1 := x.bank1.struck key double } else { x with bank0 := x.bank0.struck key double })
    else s
  | .cacheData key w double => if (s.lineAt key).isSome then s.setArrErr key ((s.arrErr key).struck w double) else s
  | .cacheTag key => if (s.lineAt key).isSome then s.setArrErr key { s.arrErr key with tag := true } else s
  | .level1 c instr line => { s with l1Err := (c, instr, line) :: s.l1Err }
  | .granule a double =>
    if s.isMem a then s.codeFound a (if double || smGet 0 s.memErr (granBase a) != 0 then .uncorrectable else .correctable) else s
  | .vital i copy v =>
    let x := s.vw i
    if i < 64 then
      { s with vital := smSet {} s.vital i (match copy with
          | 0 => { x with c0 := v }
          | 1 => { x with c1 := v }
          | _ => { x with c2 := v }) }
    else s

/-- The host-port unit takes the results of its session jobs from whichever of LP 546 + 4c has one at its head (R21). -/
def State.portTakeAll (s : State) : State := forUpTo 8 (fun c s => s.portTake c (s.lp (546 + 4 * c)).entries.length) s

/-- One nanosecond passes in which no command is taken. -/
def State.idle (s : State) : State := (s.tick.draw.strike (Config.upset s.free)).portTakeAll

end Sys2Proof.Machine
end

