-- ==== Sys2Proof/WellFormed.lean ====
section
/-! DEFINITION. Sys2Proof/WellFormed.lean: the commands that the outside can send: operand lists of the length the spec
gives them, and codes and words of the kind that the command's row names. -/
namespace Sys2Proof
open Sys2Proof.Machine

/-- An upstream frame carries four servo values, four phase values, six response slots and 1,152 samples (R87). -/
def UpFrame.wf (f : UpFrame) : Bool := f.servo.length == 4 && f.phase.length == 4 && decide (f.responses.length ≤ 6) && decide (f.samp.length ≤ 1152)

/-- A codeword holds 35,424 bits (R111). -/
def SectorRead.wf (r : SectorRead) : Bool := r.word.length == 4428

/-- A TAP code that R604 assigns to no instruction but BYPASS. -/
def bypassCode (c : BitVec 8) : Bool := ! ([0x00, 0x01, 0x02].contains c.toNat || (128 ≤ c.toNat && c.toNat < 144))

/-- A block that the Loupe writes is at most 64 bytes. -/
def LoupeOp.wf : LoupeOp → Bool
  | .writeMem _ bs => decide (bs.length ≤ 64)
  | _ => true

/-- The command is one that the outside can send. -/
def Instr.wf : Instr → Bool
  | .upstreamFrame _ _ f => f.wf
  | .sectorDecode _ r => r.wf
  | .deferredDecode _ _ r => r.wf
  | .retryStep _ rs => rs.all SectorRead.wf
  | .bypass code => bypassCode code
  | .loupeFunction _ f => f.wf
  | .reservedOpcode _ w => reservedWord w
  | _ => true

end Sys2Proof
end

