-- ==== Sys2Proof/Safety.lean ====
section
/-! DEFINITION. Sys2Proof/Safety.lean: what claims about the block are stated with: the invariant of the state, a command
that completes, a run without a stop, and what it is for a Lens core to retire an instruction or to take a trap. -/
namespace Sys2Proof.Machine
open Sys2Proof

/-! ### The block -/

/-- The invariant that every step keeps: memory is in canonical form, so that equal memories are equal data. -/
abbrev State.Inv (s : State) : Prop := Memory.wf s.mem = true

/-- A command completes in a state with a next state that has a property: the machine neither faults nor refuses. -/
def answers (i : Instr) (s : State) (p : State → Prop) : Prop := ∃ t, exec i s = .next t ∧ p t

/-- Every command that waits is one that the outside can send. -/
abbrev State.queueWf (s : State) : Prop := ∀ c ∈ s.pending, c.wf = true

/-- `n` steps from a state, while the machine goes on. -/
def stepMany : Nat → State → Host.Outcome State Fault Refusal
  | 0, s => .next s
  | n + 1, s =>
    match step s with
    | .next t => stepMany n t
    | .fault f => .fault f
    | .refused r => .refused r

/-! ### Clocks -/

/-- Commands of units whose clocks derive from SYSREF (R17, R36): Lens cores and the fabric, slices, Prism, cipher, DMA and
commutation engines, memory, the Ledger, the recorder, wall time, and the fabric side of the host-port unit. -/
def ofSysref : Instr → Bool
  | .registerWrite _ _ _ _ | .actionDue _ _ | .snapshot | .racksyncEdge _ | .racksyncHold | .mediaRead _ | .mediaWrite _
  | .mediaVerify _ | .mediaCancel _ | .schedulerSelect _ | .sliceHandover _ | .sectorDecode _ _ | .deferredDecode _ _ _
  | .retryStep _ _ | .noAngleTimeout _ | .sliceCompletion _ | .facetNext _ _ | .facetRet _ _ | .facetLoop _ _ | .facetBr _ _
  | .facetJmp _ _ | .facetCall _ _ | .facetGoto _ _ | .facetBrt _ _ | .facetNaLoop _ _ | .facetDispatch _ _ | .microTrap _
  | .facetWatchdog _ | .facetScrub _ _ | .storeWindowWrite _ _ _ | .facetClear _ | .facetClearDone _ | .facetVerify _
  | .facetVerifyDone _ | .swapArm _ _ _ | .bankSwitch _ | .runStart _ | .runHalt _ | .doorbell _ | .servoSample _ _
  | .outputDeadline _ | .followingErrorTimeout _ | .servoSeek _ | .servoOffset _ | .servoPark _ | .servoLoad _
  | .servoResult _ | .seekTimeout _ | .loadTimeout _ | .servoReacqTimeout _ | .parkRequest _ | .parkDataPhaseEnd _
  | .parkRampPhaseEnd _ | .gainCopy _ _ | .servoEnable _ _ | .spindleEnable _ _ | .spindleStart _ | .spindleSpeed _
  | .spindleStop _ | .spindleRegen _ | .spindleRegenEnd _ | .spindleCoast _ | .spindleAbort _ | .listenEnd _ _ _ _
  | .probeDone _ _ | .stepDriveInterval _ _ | .pwmPeriod _ _ _ | .phaseOutputDeadline _ | .backEmfZeroCrossing _ _ _
  | .spinupTimeout _ | .stopParkWaitTimeout _ | .brakeHoldEnd _ | .rotorLoss _ | .reacqWindowEnd _ | .reacqTimeout _
  | .commutationHaltPark _ | .vmotorSample _ | .chopperTest | .chopperTestDone _ _ _ | .lifeFold | .lifeRecordWrite _
  | .reconciliation _ _ | .calibrationRun _ _ _ | .calibrationResult _ _ | .calibrationDeferExpiry _ _ _ | .vrefinMeasure _
  | .bridgeRatio _ _ _ | .btRead _ | .btWrite _ | .btOpen _ | .btClose _ | .btClean | .btInval | .btRestore _
  | .btInvalidCommand _ _ | .btFetch _ | .checkpointStart | .checkpointCommit _ _ _ | .recovery _ | .compaction _ _
  | .prismEncode _ | .prismReconstruct _ | .prismCheck _ | .prismResult _ | .journalFlush _ _ _ | .stripeSeal _ _
  | .bitmapClear _ | .slowMember _ | .probation _ | .probationResult _ _ | .reattachTimeout _ | .rebuild _ _ _
  | .reshape _ _ | .hello _ _ | .hostCmd _ _ | .hostData _ _ _ _ | .hostAck _ _ _ _ | .sessionReset _ _ _ | .logRead _ _ _
  | .restartResume _ _ | .restartDiscard _ _ | .arpRequest _ _ | .neighbourDiscovery _ _ | .echoRequest _ _ _ | .ackDelay _
  | .retransmissionTimeout _ _ | .dataTTimeout _ _ | .idleTimeout _ | .oldEpochKeyExpiry _ | .portLinkChange _ _
  | .evaluationPoint _ _ | .commandCommit _ _ | .objPut _ _ _ | .objWrite _ _ _ | .objAppend _ _ _ | .objGet _ _ _
  | .objStat _ _ | .objDelete _ _ | .objList _ _ | .objCommit _ _ | .partSetTimeout _ _ | .describe _ _ | .powerHint _ _
  | .powerHintExpiry | .attest _ _ | .profileSelect _ _ | .imageStage _ _ | .cipherSeal _ | .cipherOpen _ | .cipherGenkey _
  | .cipherLoadkey _ | .cipherEvict _ | .sessionJob _ | .cipherResult _ | .drbgReseed | .reseed | .entropyHealthFailure
  | .claim _ _ | .transfer _ _ | .decommission _ | .loupeKill | .svnRaise _ | .ledgerUpdate _ | .debitAdmitted
  | .debitWaitEvent _ | .apertureFill | .powerLossFlush | .idleTimerExpiry _ _ | .powerStateExit _ | .thermalStep
  | .caseTemperatureWrite _ | .caseValidityExpiry | .trim | .trimDone _ _ | .add _ _ _ _ | .addN _ _ _ _ | .sub _ _ _ _
  | .subN _ _ _ _ | .and _ _ _ _ | .ior _ _ _ _ | .eor _ _ _ _ | .andc _ _ _ _ | .iorc _ _ _ _ | .shl _ _ _ _
  | .shlN _ _ _ _ | .shr _ _ _ _ | .shrN _ _ _ _ | .sar _ _ _ _ | .sarN _ _ _ _ | .ror _ _ _ _ | .rorN _ _ _ _
  | .cmps _ _ _ _ | .cmpu _ _ _ _ | .mins _ _ _ _ | .maxs _ _ _ _ | .minu _ _ _ _ | .maxu _ _ _ _ | .extu _ _ _ _
  | .exts _ _ _ _ | .cntlz _ _ _ | .cnttz _ _ _ | .cntone _ _ _ | .revb _ _ _ | .addi _ _ _ _ | .andi _ _ _ _
  | .iori _ _ _ _ | .eori _ _ _ _ | .cmpsi _ _ _ _ | .cmpui _ _ _ _ | .addiN _ _ _ _ | .shi _ _ _ _ | .setq _ _ _ _
  | .addpc _ _ _ | .mlo _ _ _ _ | .mloN _ _ _ _ | .mhi _ _ _ _ | .mhiu _ _ _ _ | .mhisu _ _ _ _ | .quo _ _ _ _
  | .quoN _ _ _ _ | .quou _ _ _ _ | .quouN _ _ _ _ | .rem _ _ _ _ | .remN _ _ _ _ | .remu _ _ _ _ | .remuN _ _ _ _
  | .mod _ _ _ _ | .modN _ _ _ _ | .lb _ _ _ _ | .lh _ _ _ _ | .lw _ _ _ _ | .ld _ _ _ _ | .lbu _ _ _ _ | .lhu _ _ _ _
  | .lwu _ _ _ _ | .sb _ _ _ _ | .sh _ _ _ _ | .sw _ _ _ _ | .sd _ _ _ _ | .beq _ _ _ _ | .bne _ _ _ _ | .blt _ _ _ _
  | .bge _ _ _ _ | .bltu _ _ _ _ | .bgeu _ _ _ _ | .j _ _ | .jl _ _ | .jlr _ _ _ _ | .ll _ _ _ _ _ | .sc _ _ _ _ _
  | .swap _ _ _ _ _ | .atomicAdd _ _ _ _ _ | .atomicAnd _ _ _ _ _ | .atomicOr _ _ _ _ _ | .atomicXor _ _ _ _ _
  | .atomicMin _ _ _ _ _ | .atomicMax _ _ _ _ _ | .atomicMinu _ _ _ _ _ | .atomicMaxu _ _ _ _ _ | .cas _ _ _ _ _ | .fence _
  | .reservedOpcode _ _ | .postedStoreError _ | .interruptTaken _ | .timecmpReached _ | .push _ _ _ _ | .pusht _ _ _ _
  | .pop _ _ _ _ | .popt _ _ _ _ | .count _ _ _ | .resv _ _ _ | .rels _ _ _ | .note _ _ _ _ | .lightpipeWaitGranted _
  | .notificationFire _ | .armAction _ _ _ _ | .acancel _ _ _ | .astat _ _ _ | .rdang _ _ _ | .rdwt _ _ | .debit _ _ _ _ _
  | .credit _ _ _ _ | .withdraw _ _ _ | .lquery _ _ _ | .adebit _ _ _ _ | .adebitGranted _ | .crr _ _ _ | .crw _ _ _ _
  | .crs _ _ _ _ | .crc _ _ _ _ | .tret _ | .syscall _ _ | .brk _ | .icinv _ _ _ | .wseq _ _ | .wait _ | .waitResume _
  | .imgver _ _ _ _ | .cacheFill _ _ | .wayLock _ | .rangeClean _ | .rangeInvalidate _ | .rangeCleanInv _
  | .rangePreload _ _ | .rangeOperationDone | .wayGroupOff _ | .wayGroupOn _ | .wayGroupChangeDone | .cacheDisable
  | .cacheDisableDone | .cacheEnable | .cacheEnableDone | .memoryScrub _ _ | .vitalWordCheck | .jseqWrite _
  | .reservationCommit _ | .dmaArm _ | .dmaDescriptorPop _ | .shadowLoad _ | .dmaCopy _ | .dmaFill _ | .dmaBurstGrant _ _
  | .dmaBusError _ _ _ | .dmaCompletion _ | .dmaCompletionPush _ | .dmaErrClear _ | .dmaChannelDisable _
  | .dmaEngineDisable _ | .flashRead | .flashProgram | .flashErase | .sfdpRead | .flashOperationDone _ | .enableCheck
  | .cfgDisable | .imageSwitch _ | .hierarchyTick | .beacon _ _ _ | .census _ _ | .grant _ _ _ | .tokenReq _ _ | .token _ _
  | .tokenRet _ _ | .takeover | .beaconLossFence | .tokenLeaseExpiry _ | .publish | .eventEntry _ | .evrSummary | .evrLost _
  | .freeze _ | .freezeTimeout | .logDrain _ | .eventFlush _ | .eventFlushDone | .macVerify | .startBrakeEnd _
  | .dataHoldExpiry _ _ | .registerRead _ _ _ | .fuseCommandDone _ | .entropyFaultClear | .btCommandDone | .enableCheckDone
  | .serviceTimeHalving => true
  | _ => false

/-- Commands of bay units, whose link clocks derive from BREFCLK (R17, R36). -/
def ofBrefclk : Instr → Bool
  | .syncMark _ _ _ | .miss _ | .downstreamFrame _ | .upstreamFrame _ _ _ | .laneDown _ _ | .managedWordRetry _ _
  | .trainingStepDone _ _ | .trainingTimeout _ | .signalDetect _ _ | .challengeTimeout _ => true
  | _ => false

/-- Commands of the host ports, which run on HREFCLK (R17, R36). -/
def ofHrefclk : Instr → Bool
  | .hello _ _ | .hostCmd _ _ | .hostData _ _ _ _ | .hostAck _ _ _ _ | .sessionReset _ _ _ | .logRead _ _ _
  | .restartResume _ _ | .restartDiscard _ _ | .arpRequest _ _ | .neighbourDiscovery _ _ | .echoRequest _ _ _ | .ackDelay _
  | .retransmissionTimeout _ _ | .dataTTimeout _ _ | .idleTimeout _ | .oldEpochKeyExpiry _ | .portLinkChange _ _
  | .dataHoldExpiry _ _ => true
  | _ => false

/-! ### Lens cores -/

/-- The state in which core `c` has fetched the word at its PC: the line is in its level-1 instruction cache and a single step of the
Loupe is used up (R42, R44, R480). -/
def State.afterFetch (s : State) (c : Nat) : State := ((s.setCore c (s.core c).fetched).fetch c).2

/-- Core `c` runs the instruction at its PC: it executes, and the fetch meets no trap (R423, R430, R443). -/
abbrev State.executes (s : State) (c : Nat) : Prop :=
  s.coreRuns c = true ∧ ((s.setCore c (s.core c).fetched).fetch c).1 = none

/-- Core `c` executes and the fetch of the word at its PC raises a cause (R443). -/
abbrev State.fetchTraps (s : State) (c cause : Nat) : Prop :=
  s.coreRuns c = true ∧ ((s.setCore c (s.core c).fetched).fetch c).1 = some cause

/-- Nothing but the record of core `c` differs. -/
def State.onlyCore (s t : State) (c : Nat) : Prop := t = { s with cores := t.cores } ∧ ∀ d, d ≠ c → t.core d = s.core d

/-- In core `c` nothing but general registers, PC and INSTRET differs, INSTRET by 1: the instruction fetched in `s` has retired, and
PC is `pc`. -/
def State.retires (s t : State) (c : Nat) (pc : Word) : Prop :=
  t.core c = { s.core c with g := (t.core c).g, pc := pc, instret := (s.core c).instret + 1 }

/-- The general registers of core `c` differ in `rd` only, which holds `v`; g0 reads 0 whatever is written to it (R423). -/
def State.writesOnly (s t : State) (c rd : Nat) (v : Word) : Prop :=
  t.g c 0 = 0 ∧ ∀ r, t.g c r = if r = rd ∧ r ≠ 0 then v else s.g c r

/-- The instruction of core `c` writes `v` to `rd`, retires with the next PC `pc`, and does nothing else. -/
def State.result (s t : State) (c rd : Nat) (v pc : Word) : Prop := s.onlyCore t c ∧ s.retires t c pc ∧ s.writesOnly t c rd v

/-- A synchronous trap of core `c` with a cause goes to M level and its vector can be fetched (R444, R445, R447). -/
abbrev State.trapsToM (s : State) (c cause : Nat) : Prop :=
  ¬ ((s.core c).priv = false ∧ delegable cause = true ∧ (s.core c).odeleg.getLsbD cause = true ∧ (s.core c).ota = false)
    ∧ ¬ ((s.core c).priv = true ∧ (s.core c).ta = true)
    ∧ s.fetchBad { s.core c with priv := true } (s.core c).tvec = none

/-- What entry to M level leaves (R444): TPC the instruction's address, CAUSE and TVAL written, PPRIV and PIE saved, M
level with interrupts disabled and TA set, PC at TVEC, the reservation gone (R440); nothing else differs. -/
def State.entersM (s t : State) (c cause : Nat) (tval : Word) : Prop :=
  t = { s with cores := t.cores, linked := smErase s.linked c } ∧ (∀ d, d ≠ c → t.core d = s.core d)
    ∧ t.core c = { s.core c with
        tpc := (s.core c).pc, cause := BitVec.ofNat 64 cause, tval := tval, ppriv := (s.core c).priv, pie := (s.core c).ie
        priv := true, ie := false, ta := true, pc := (s.core c).tvec, wait := .none, ll := none }

/-- What a trap delegated to O level leaves (R445): OTPC, OCAUSE and OTVAL written, OTA set, PC at OTVEC, the level O. -/
def State.entersO (s t : State) (c cause : Nat) (tval : Word) : Prop :=
  t = { s with cores := t.cores, linked := smErase s.linked c } ∧ (∀ d, d ≠ c → t.core d = s.core d)
    ∧ t.core c = { s.core c with
        otpc := (s.core c).pc, ocause := BitVec.ofNat 64 cause, otval := tval, ota := true, pc := (s.core c).otvec
        wait := .none, ll := none }

/-! ### Memory as it stands -/

/-- The `n` bytes at `a` lie in memory, read without an error, with the cache in BYPASS (R476, R486, R492). -/
abbrev State.plainMem (s : State) (a n : Nat) : Prop :=
  s.on LC_STAT_BYPASS = true ∧ ∀ i, i < n → inMemRange (a + i) = true ∧ s.isMem (a + i) = true ∧ smGet 0 s.memErr (granBase (a + i)) = 0

end Sys2Proof.Machine
end

