-- ==== Sys2Proof/Certificates/Slice0/Obligations.lean ====
section
/-! DEFINITION. Sys2Proof/Certificates/Slice0/Obligations.lean: the statements for the provers, one definition each; the
docstring says what each states and which rules of the spec it follows. -/
open Sys2Proof Sys2Proof.Machine

/-- O1. For every state and command: with the command at the front of the queue, step is exec of it on the state with the rest
of the queue; with an empty queue, one nanosecond passes (State.idle; log entry 4, the model's choice).
(R1 and the command table: the block takes commands from outside) -/
def Obligations.StepRunsTheFrontCommand : Prop :=
  ∀ (s : State) (c : Instr) (rest : List Instr),
    step { s with pending := c :: rest } = exec c { s with pending := rest } ∧ step { s with pending := [] } = .next (State.idle { s with pending := [] })

/-- O2. In State.reset every core has PC 0 and is at M level with traps inactive and no valid protection region; core 0 runs
and cores 1 to 15 do not; the Lens cache is in BYPASS; fault events are routed to core 0; CFG_ENABLE, the host
transport, the bay grant and the Ledger are off; no lightpipe holds an entry; the queue is empty.
(R423, R432, R558, R566) -/
def Obligations.ResetState : Prop :=
  (∀ c : Fin 16, (State.reset.core c.val).pc = 0 ∧ (State.reset.core c.val).priv = true ∧ (State.reset.core c.val).ta = false
      ∧ (State.reset.core c.val).mpuLo = [] ∧ State.reset.coreRuns c.val = decide (c.val = 0))
    ∧ State.reset.on LC_STAT_BYPASS = true ∧ State.reset.rd EVR_FROUTE_MASK = 1 ∧ State.reset.on CFG_ENABLE_EN = false
    ∧ State.reset.on HPT_GCTL_EN = false ∧ State.reset.on APR_CTL_EN = false ∧ State.reset.on APR_CTL_LEN = false ∧ State.reset.lps = [] ∧ State.reset.pending = []

/-- O3. For each of the 409 commands, with every operand that Instr.wf admits, and for every state: exec answers a next state
(no fault, no refusal), and the queue of waiting commands is as before.
(R1 and the command table: the block takes commands from outside, R433) -/
def Obligations.EveryWellFormedCommandCompletes : Prop :=
  ∀ (i : Instr) (s : State), i.wf = true → answers i s fun t => t.pending = s.pending

/-- O4. For every state whose waiting commands are all well formed: step answers a next state whose waiting commands are all
well formed and are the same commands but for the one taken; and as many steps as commands wait leave the queue empty.
(R1 and the command table: the block takes commands from outside) -/
def Obligations.QueueOfWellFormedCommandsRunsOn : Prop :=
  ∀ (s : State), s.queueWf →
    (∃ t, step s = .next t ∧ t.queueWf ∧ t.pending = s.pending.tail)
    ∧ ∃ t, stepMany s.pending.length s = .next t ∧ t.pending = []

/-- O5. State.reset satisfies State.Inv: its memory is in canonical form (it lists nothing; that an unlisted byte reads 0 is
the model's choice, log entry 3), and its queue holds no command that is not well formed.
(R495) -/
def Obligations.ResetMemoryIsCanonical : Prop :=
  State.reset.Inv ∧ State.reset.queueWf ∧ State.reset.mem = []

/-- O6. For every state whose memory is in canonical form (addresses strictly rising, no entry equal to what an unlisted byte
reads as): if step answers a next state, its memory is in canonical form. Whatever the command at the front does - a
store, a write-back, a DMA burst, a reset - equal memories stay equal data.
(R38, R42) -/
def Obligations.EveryStepKeepsMemoryCanonical : Prop :=
  ∀ (s t : State), s.Inv → step s = .next t → t.Inv

/-- O7. For a core that runs and whose fetch is good, every binary row of R434 and its narrow form completes: rd takes the
stated value (g0 keeps reading 0), PC goes on by 4, INSTRET by 1, and no other register, no control register, no
memory and no other unit changes.
(R434) -/
def Obligations.IntegerRegisterInstructions : Prop :=
  ∀ (s₀ : State) (c : Core) (rd rs1 rs2 : GReg), s₀.executes c.val →
    let s := s₀.afterFetch c.val
    let a := s.g c.val rs1.val
    let b := s.g c.val rs2.val
    let gives (i : Instr) (v : Word) : Prop := answers i s₀ fun t => s.result t c.val rd.val v ((s.core c.val).pc + 4)
    let n := b.toNat % 64
    let n32 := b.toNat % 32
    let a32 : Word32 := a.setWidth 32
    let b32 : Word32 := b.setWidth 32
    gives (.add c rd rs1 rs2) (a + b) ∧ gives (.addN c rd rs1 rs2) ((a32 + b32).signExtend 64)
    ∧ gives (.sub c rd rs1 rs2) (a - b) ∧ gives (.subN c rd rs1 rs2) ((a32 - b32).signExtend 64)
    ∧ gives (.and c rd rs1 rs2) (a &&& b) ∧ gives (.ior c rd rs1 rs2) (a ||| b) ∧ gives (.eor c rd rs1 rs2) (a ^^^ b)
    ∧ gives (.andc c rd rs1 rs2) (a &&& ~~~b) ∧ gives (.iorc c rd rs1 rs2) (a ||| ~~~b)
    ∧ gives (.shl c rd rs1 rs2) (a <<< n) ∧ gives (.shlN c rd rs1 rs2) ((a32 <<< n32).signExtend 64)
    ∧ gives (.shr c rd rs1 rs2) (a >>> n) ∧ gives (.shrN c rd rs1 rs2) ((a32 >>> n32).signExtend 64)
    ∧ gives (.sar c rd rs1 rs2) (a.sshiftRight n) ∧ gives (.sarN c rd rs1 rs2) ((a32.sshiftRight n32).signExtend 64)
    ∧ gives (.ror c rd rs1 rs2) (a.rotateRight n) ∧ gives (.rorN c rd rs1 rs2) ((a32.rotateRight n32).signExtend 64)
    ∧ gives (.cmps c rd rs1 rs2) (if a.toInt < b.toInt then -1 else if a = b then 0 else 1)
    ∧ gives (.cmpu c rd rs1 rs2) (if a.toNat < b.toNat then -1 else if a = b then 0 else 1)
    ∧ gives (.mins c rd rs1 rs2) (if a.toInt < b.toInt then a else b) ∧ gives (.maxs c rd rs1 rs2) (if a.toInt < b.toInt then b else a)
    ∧ gives (.minu c rd rs1 rs2) (if a.toNat < b.toNat then a else b) ∧ gives (.maxu c rd rs1 rs2) (if a.toNat < b.toNat then b else a)

/-- O8. For a core that runs and whose fetch is good: EXTU and EXTS give the w bits of rs1 from bit p, zero- and sign-extended
(bits beyond 63 read 0); CNTLZ and CNTTZ the number of zeros before the first set bit, 64 for 0; CNTONE the number of
set bits; REVB the 8 bytes in reverse order. Nothing but rd, PC and INSTRET changes.
(R434) -/
def Obligations.FieldAndCountInstructions : Prop :=
  ∀ (s₀ : State) (c : Core) (rd rs1 rs2 : GReg), s₀.executes c.val →
    let s := s₀.afterFetch c.val
    let a := s.g c.val rs1.val
    let b := s.g c.val rs2.val
    let gives (i : Instr) (p : Word → Prop) : Prop :=
      ∃ v, p v ∧ answers i s₀ fun t => s.result t c.val rd.val v ((s.core c.val).pc + 4)
    let w := if b.toNat / 256 % 64 = 0 then 64 else b.toNat / 256 % 64
    let field := a.toNat / 2 ^ (b.toNat % 64) % 2 ^ w
    gives (.extu c rd rs1 rs2) (fun v => v = BitVec.ofNat 64 field)
    ∧ gives (.exts c rd rs1 rs2) (fun v => v.toInt = if field < 2 ^ (w - 1) then (field : Int) else field - 2 ^ w)
    ∧ gives (.cntlz c rd rs1) (fun v => v.toNat ≤ 64 ∧ (∀ i, i < v.toNat → a.getLsbD (63 - i) = false) ∧ (v.toNat < 64 → a.getLsbD (63 - v.toNat) = true))
    ∧ gives (.cnttz c rd rs1) (fun v => v.toNat ≤ 64 ∧ (∀ i, i < v.toNat → a.getLsbD i = false) ∧ (v.toNat < 64 → a.getLsbD v.toNat = true))
    ∧ gives (.cntone c rd rs1) (fun v => v.toNat = ((List.range 64).filter a.getLsbD).length)
    ∧ gives (.revb c rd rs1) (fun v => ∀ i, i < 8 → v.extractLsb' (8 * i) 8 = a.extractLsb' (56 - 8 * i) 8)

/-- O9. For a core that runs and whose fetch is good, every row of R435 completes with its value in rd and nothing else
changed; SHI with imm[15:9] set, or N with an amount of 32 or more, enters M level with cause 0x01 and the instruction
word where the trap goes to M.
(R435, R433, R443) -/
def Obligations.IntegerImmediateInstructions : Prop :=
  ∀ (s₀ : State) (c : Core) (rd rs1 : GReg) (q : Fin 4) (imm : BitVec 16), s₀.executes c.val →
    let s := s₀.afterFetch c.val
    let a := s.g c.val rs1.val
    let gives (i : Instr) (v : Word) : Prop := answers i s₀ fun t => s.result t c.val rd.val v ((s.core c.val).pc + 4)
    let si : Word := imm.signExtend 64
    let zi : Word := imm.zeroExtend 64
    let n := imm.toNat % 64
    let a32 : Word32 := a.setWidth 32
    gives (.addi c rd rs1 imm) (a + si) ∧ gives (.andi c rd rs1 imm) (a &&& zi) ∧ gives (.iori c rd rs1 imm) (a ||| zi)
    ∧ gives (.eori c rd rs1 imm) (a ^^^ zi)
    ∧ gives (.cmpsi c rd rs1 imm) (if a.toInt < si.toInt then -1 else if a = si then 0 else 1)
    ∧ gives (.cmpui c rd rs1 imm) (if a.toNat < zi.toNat then -1 else if a = zi then 0 else 1)
    ∧ gives (.addiN c rd rs1 imm) (((a + si).setWidth 32).signExtend 64)
    ∧ gives (.setq c rd q imm) (si <<< (16 * q.val))
    ∧ gives (.addpc c rd imm) ((s.core c.val).pc + 4 * si)
    ∧ (imm.toNat < 256 → gives (.shi c rd rs1 imm)
        (if imm.toNat / 64 = 0 then a <<< n else if imm.toNat / 64 = 1 then a >>> n
         else if imm.toNat / 64 = 2 then a.sshiftRight n else a.rotateRight n))
    ∧ (256 ≤ imm.toNat → imm.toNat < 512 → n < 32 → gives (.shi c rd rs1 imm)
        ((if imm.toNat / 64 = 4 then a32 <<< n else if imm.toNat / 64 = 5 then a32 >>> n
          else if imm.toNat / 64 = 6 then a32.sshiftRight n else a32.rotateRight n).signExtend 64))
    ∧ ((512 ≤ imm.toNat ∨ (256 ≤ imm.toNat ∧ 32 ≤ n)) → s.trapsToM c.val 0x01 →
        answers (.shi c rd rs1 imm) s₀ fun t => s.entersM t c.val 0x01 (wordI 0x0A rd.val rs1.val imm))

/-- O10. For a core that runs and whose fetch is good: the products; with a divisor other than 0 the quotient rounded toward
zero, its remainder and the floored modulus, in 64 and in 32 bits (the most negative value by -1 gives that value, 0
and 0); with a divisor of 0 every quotient, remainder or modulus raises ARITH (cause 0x0B, TVAL 0), to M level where
the trap goes there and to O level where ODELEG delegates it, general registers unchanged. A word of op 0x01 whose
func is not a row of R436 raises ILLEGAL (cause 0x01, TVAL the word) in the same two ways.
(R436) -/
def Obligations.MultiplyAndDivideInstructions : Prop :=
  ∀ (s₀ : State) (c : Core) (rd rs1 rs2 : GReg), s₀.executes c.val →
    let s := s₀.afterFetch c.val
    let a := s.g c.val rs1.val
    let b := s.g c.val rs2.val
    let gives (i : Instr) (v : Word) : Prop := answers i s₀ fun t => s.result t c.val rd.val v ((s.core c.val).pc + 4)
    let a32 : Word32 := a.setWidth 32
    let b32 : Word32 := b.setWidth 32
    let raises (i : Instr) (cause : Nat) (tval : Word) : Prop :=
      (s.trapsToM c.val cause → answers i s₀ fun t => s.entersM t c.val cause tval)
      ∧ ((s.core c.val).priv = false → (s.core c.val).ota = false → (s.core c.val).odeleg.getLsbD cause = true →
          answers i s₀ fun t => s.entersO t c.val cause tval)
    let wide (i : Instr) (v : Word) : Prop := (b ≠ 0 → gives i v) ∧ (b = 0 → raises i 0x0B 0)
    let half (i : Instr) (v : Word32) : Prop := (b32 ≠ 0 → gives i (v.signExtend 64)) ∧ (b32 = 0 → raises i 0x0B 0)
    gives (.mlo c rd rs1 rs2) (a * b) ∧ gives (.mloN c rd rs1 rs2) ((a32 * b32).signExtend 64)
    ∧ gives (.mhi c rd rs1 rs2) (BitVec.ofInt 64 (a.toInt * b.toInt / 2 ^ 64))
    ∧ gives (.mhiu c rd rs1 rs2) (BitVec.ofNat 64 (a.toNat * b.toNat / 2 ^ 64))
    ∧ gives (.mhisu c rd rs1 rs2) (BitVec.ofInt 64 (a.toInt * b.toNat / 2 ^ 64))
    ∧ wide (.quo c rd rs1 rs2) (BitVec.ofInt 64 (a.toInt.tdiv b.toInt)) ∧ half (.quoN c rd rs1 rs2) (BitVec.ofInt 32 (a32.toInt.tdiv b32.toInt))
    ∧ wide (.quou c rd rs1 rs2) (BitVec.ofNat 64 (a.toNat / b.toNat)) ∧ half (.quouN c rd rs1 rs2) (BitVec.ofNat 32 (a32.toNat / b32.toNat))
    ∧ wide (.rem c rd rs1 rs2) (BitVec.ofInt 64 (a.toInt.tmod b.toInt)) ∧ half (.remN c rd rs1 rs2) (BitVec.ofInt 32 (a32.toInt.tmod b32.toInt))
    ∧ wide (.remu c rd rs1 rs2) (BitVec.ofNat 64 (a.toNat % b.toNat)) ∧ half (.remuN c rd rs1 rs2) (BitVec.ofNat 32 (a32.toNat % b32.toNat))
    ∧ wide (.mod c rd rs1 rs2) (BitVec.ofInt 64 (a.toInt.fmod b.toInt)) ∧ half (.modN c rd rs1 rs2) (BitVec.ofInt 32 (a32.toInt.fmod b32.toInt))
    ∧ (∀ w : Word32, (w.extractLsb' 26 6).toNat = 1 →
        (w.extractLsb' 0 11).toNat ∉ [1, 2, 3, 4, 5, 6, 7, 8, 9, 0x101, 0x105, 0x106, 0x107, 0x108, 0x109] →
        raises (.reservedOpcode c w) 0x01 (w.zeroExtend 64))

/-- O11. For a core that runs and whose fetch is good: each branch takes PC to its target when its condition holds and on by 4
otherwise, writing no register; J, JL and JLR go to their targets, JL writing PC + 4 to g31 and JLR to rd after taking
rs1; bits [1:0] of PC read 0 (R423). Nothing else changes. For a core that runs and whose PC (the target it has gone
to) cannot be fetched, each of these commands enters M level with the fetch cause, TPC and TVAL the PC, where the trap
goes to M.
(R438) -/
def Obligations.BranchesAndJumps : Prop :=
  ∀ (s₀ : State) (c : Core) (rd rs1 rs2 : GReg) (off imm : BitVec 16) (off26 : BitVec 26),
    let s := s₀.afterFetch c.val
    let k := s.core c.val
    let pc := k.pc
    let a := s.g c.val rs1.val
    let b := s.g c.val rs2.val
    let goes (i : Instr) (rd : Nat) (v pc' : Word) : Prop := answers i s₀ fun t => s.result t c.val rd v pc'
    let branch (i : Instr) (p : Prop) : Prop :=
      (p → goes i 0 0 ((pc + 4 * off.signExtend 64) &&& ~~~3)) ∧ (¬ p → goes i 0 0 (pc + 4))
    let traps (cause : Nat) (i : Instr) : Prop := answers i s₀ fun t => s.entersM t c.val cause (s₀.core c.val).pc
    (s₀.executes c.val →
      branch (.beq c rs1 rs2 off) (a = b) ∧ branch (.bne c rs1 rs2 off) (a ≠ b)
      ∧ branch (.blt c rs1 rs2 off) (a.toInt < b.toInt) ∧ branch (.bge c rs1 rs2 off) (b.toInt ≤ a.toInt)
      ∧ branch (.bltu c rs1 rs2 off) (a.toNat < b.toNat) ∧ branch (.bgeu c rs1 rs2 off) (b.toNat ≤ a.toNat)
      ∧ goes (.j c off26) 0 0 ((pc + 4 * off26.signExtend 64) &&& ~~~3)
      ∧ goes (.jl c off26) 31 (pc + 4) ((pc + 4 * off26.signExtend 64) &&& ~~~3)
      ∧ goes (.jlr c rd rs1 imm) rd.val (pc + 4) ((a + imm.signExtend 64) &&& ~~~3))
    ∧ (∀ cause, s₀.fetchTraps c.val cause → s.trapsToM c.val cause →
        traps cause (.beq c rs1 rs2 off) ∧ traps cause (.bne c rs1 rs2 off) ∧ traps cause (.blt c rs1 rs2 off)
        ∧ traps cause (.bge c rs1 rs2 off) ∧ traps cause (.bltu c rs1 rs2 off) ∧ traps cause (.bgeu c rs1 rs2 off)
        ∧ traps cause (.j c off26) ∧ traps cause (.jl c off26) ∧ traps cause (.jlr c rd rs1 imm))

/-- O12. SYSCALL (cause 0x0C, its argument), BREAK (0x0D, its word) and a reserved word (0x01, the word), on a core that runs
and whose fetch is good, where the trap goes to M: the next state is the entry of R444, with the reservation cleared;
nothing else changes.
(R444) -/
def Obligations.TrapEntryToM : Prop :=
  ∀ (s₀ : State) (c : Core) (arg : BitVec 12) (w : Word32), s₀.executes c.val →
    let s := s₀.afterFetch c.val
    (s.trapsToM c.val 0x0C → answers (.syscall c arg) s₀ fun t => s.entersM t c.val 0x0C (arg.zeroExtend 64))
    ∧ (s.trapsToM c.val 0x0D → answers (.brk c) s₀ fun t => s.entersM t c.val 0x0D 0xFC006000)
    ∧ (s.trapsToM c.val 0x01 → reservedWord w = true → answers (.reservedOpcode c w) s₀ fun t => s.entersM t c.val 0x01 (w.zeroExtend 64))

/-- O13. BREAK at O level with ODELEG bit 0x0D set and OTA clear writes OTPC, OCAUSE and OTVAL, sets OTA, goes to OTVEC and
stays at O level; a reserved word does the same with cause 0x01 under its bit. Nothing else changes.
(R445) -/
def Obligations.DelegatedTrapGoesToO : Prop :=
  ∀ (s₀ : State) (c : Core) (w : Word32), s₀.executes c.val →
    let s := s₀.afterFetch c.val
    (s.core c.val).priv = false → (s.core c.val).ota = false →
    ((s.core c.val).odeleg.getLsbD 0x0D = true → answers (.brk c) s₀ fun t => s.entersO t c.val 0x0D 0xFC006000)
    ∧ ((s.core c.val).odeleg.getLsbD 0x01 = true → reservedWord w = true →
        answers (.reservedOpcode c w) s₀ fun t => s.entersO t c.val 0x01 (w.zeroExtend 64))

/-- O14. SYSCALL, BREAK and a reserved word at M level with TA set: the core is halted, its other registers are as the fetch
left them, and one event entry has been raised on the fault channel LP640 (pushed, or waiting for credit behind
earlier pushes). The core is then one that runs no instruction (coreRuns is false), which is the state's HALTED bit.
(R447) -/
def Obligations.DoubleTrapHaltsTheCore : Prop :=
  ∀ (s₀ : State) (c : Core) (arg : BitVec 12) (w : Word32), s₀.executes c.val →
    let s := s₀.afterFetch c.val
    (s.core c.val).priv = true → (s.core c.val).ta = true →
    let halts (i : Instr) : Prop := answers i s₀ fun t =>
      t.core c.val = { s.core c.val with halted := true, wait := .none }
      ∧ (∀ d, d ≠ c.val → t.core d = s.core d) ∧ t.mem = s.mem ∧ t.cache = s.cache
      ∧ ((t.lp 640).entries.length = (s.lp 640).entries.length + 1 ∨ t.stalled.length = s.stalled.length + 1)
      ∧ t.coreRuns c.val = false
    halts (.syscall c arg) ∧ halts (.brk c) ∧ (reservedWord w = true → halts (.reservedOpcode c w))

/-- O15. For every core, state and word that R433 to R436 assign to an instruction, exec of RESERVED_OPCODE with it answers the
fault illFormed (the model's choice: the hardware raises no such event).
(R433) -/
def Obligations.IllFormedReservedOpcodeFaults : Prop :=
  ∀ (s : State) (c : Core) (w : Word32), reservedWord w = false → exec (.reservedOpcode c w) s = .fault .illFormed

/-- O16. For a core that runs and whose fetch is good, with the cache in BYPASS, no parity error in the level-1 caches and the
bytes at EA in memory without an error: LB to LWU write the extended value to rd, PC goes on by 4, INSTRET by 1, and
nothing else in the machine changes.
(R437, R430, R425) -/
def Obligations.LoadsReadMemory : Prop :=
  ∀ (s₀ : State) (c : Core) (rd rs1 : GReg) (imm : BitVec 16), s₀.executes c.val →
    let s := s₀.afterFetch c.val
    let ea := s.g c.val rs1.val + imm.signExtend 64
    let v (n : Nat) : Nat := leNat ((List.range n).map fun i => s.byteAt (ea.toNat + i))
    let reads (i : Instr) (n : Nat) (x : Word) : Prop :=
      ea.toNat % n = 0 → ((s.core c.val).rights ea).getLsbD 0 = true → s.plainMem ea.toNat n → s.l1Err = [] →
        answers i s₀ fun t => s.result t c.val rd.val x ((s.core c.val).pc + 4)
    reads (.lb c rd rs1 imm) 1 ((BitVec.ofNat 8 (v 1)).signExtend 64) ∧ reads (.lbu c rd rs1 imm) 1 (BitVec.ofNat 64 (v 1))
    ∧ reads (.lh c rd rs1 imm) 2 ((BitVec.ofNat 16 (v 2)).signExtend 64) ∧ reads (.lhu c rd rs1 imm) 2 (BitVec.ofNat 64 (v 2))
    ∧ reads (.lw c rd rs1 imm) 4 ((BitVec.ofNat 32 (v 4)).signExtend 64) ∧ reads (.lwu c rd rs1 imm) 4 (BitVec.ofNat 64 (v 4))
    ∧ reads (.ld c rd rs1 imm) 8 (BitVec.ofNat 64 (v 8))

/-- O17. With the addressed doubleword in memory space and the cache out of BYPASS. Where the level-1 data cache of the core
does not hold the line and a valid line of the Lens cache does, its granule not poisoned and no error in the arrays:
LD writes the doubleword to rd, the pseudo-LRU bits and the hit counter (LC_HIT, by 1, wrapping) change and the
level-1 cache may take the line; memory and the lines of the Lens cache do not change, so every byte reads as before.
Where the level-1 cache holds the line without a parity error: LD delivers the eight bytes and nothing but the core
changes, no lookup is counted. Where the level-1 line shows a parity error (R480): it is dropped, LC_CE.L1 counts one
more, saturating, and the doubleword comes from the Lens cache.
(R437, R476, R477, R44, R480) -/
def Obligations.CachedLoadHits : Prop :=
  ∀ (s₀ : State) (c : Core) (rd rs1 : GReg) (imm : BitVec 16), s₀.executes c.val →
    let s := s₀.afterFetch c.val
    let ea := s.g c.val rs1.val + imm.signExtend 64
    ea.toNat % 8 = 0 → ((s.core c.val).rights ea).getLsbD 0 = true → s.on LC_STAT_BYPASS = false → inMemRange ea.toNat = true →
    let bad := (c.val, false, ea.toNat / 64) ∈ s.l1Err
    let loads (v : Word) (p : State → Prop) : Prop := answers (.ld c rd rs1 imm) s₀ fun t =>
      (∀ d, d ≠ c.val → t.core d = s.core d) ∧ s.retires t c.val ((s.core c.val).pc + 4) ∧ s.writesOnly t c.val rd.val v ∧ p t
    (∀ w l, s.isMem ea.toNat = true → s.findWay ea.toNat = some w → s.lineAt (cacheSet ea.toNat * 16 + w) = some l →
      l.poison.getLsbD (ea.toNat % 64 / granSize ea.toNat) = false → s.arrayErr = [] →
      let v := l.data.extractLsb' (8 * (ea.toNat % 64)) 64
      (s.l1Holds c.val ea.toNat = false → ¬ bad → loads v fun t =>
        t = { s with cores := t.cores, plru := t.plru, regs := t.regs, l1d := t.l1d, free := t.free }
        ∧ t.rd LC_HIT_COUNT = (s.rd LC_HIT_COUNT + 1) % 2 ^ LC_HIT_COUNT.width
        ∧ ∀ r : Reg, r.addr ≠ LC_HIT_COUNT.reg.addr → t.reg r = s.reg r)
      ∧ (bad → loads v fun t =>
        t = { s with cores := t.cores, plru := t.plru, regs := t.regs, l1d := t.l1d, l1Err := t.l1Err, free := t.free }
        ∧ (c.val, false, ea.toNat / 64) ∉ t.l1Err ∧ t.rd LC_CE_L1 = min (s.rd LC_CE_L1 + 1) (2 ^ LC_CE_L1.width - 1)))
    ∧ (s.l1Holds c.val ea.toNat = true → ¬ bad →
        loads (BitVec.ofNat 64 (leNat ((List.range 8).map fun i => s.byteAt (ea.toNat + i)))) fun t => t = { s with cores := t.cores })

/-- O18. For a core that runs and whose fetch is good, with the cache in BYPASS and the granules at EA in memory without an
error: SB, SH, SW and SD store the low bytes of the register in [25:21] at EA = rs1 + sext(imm), least significant
first; every byte outside those reads as before; reservations on the line clear and no level-1 data cache keeps the
line (R44); no general register and no device register changes; PC goes on by 4.
(R437, R442, R440, R425) -/
def Obligations.StoresWriteMemory : Prop :=
  ∀ (s₀ : State) (c : Core) (rs2 rs1 : GReg) (imm : BitVec 16), s₀.executes c.val →
    let s := s₀.afterFetch c.val
    let ea := s.g c.val rs1.val + imm.signExtend 64
    let stores (i : Instr) (n : Nat) : Prop :=
      ea.toNat % n = 0 → ((s.core c.val).rights ea).getLsbD 1 = true → s.plainMem ea.toNat n →
        answers i s₀ fun t =>
          (∀ j, j < n → t.byteAt (ea.toNat + j) = (s.g c.val rs2.val).extractLsb' (8 * j) 8)
          ∧ (∀ a, a < ea.toNat ∨ ea.toNat + n ≤ a → t.byteAt a = s.byteAt a)
          ∧ (∀ g, smGet 0 t.memErr g = smGet 0 s.memErr g)
          ∧ t.linked = s.linked.filter (fun p => p.2 ≠ ea.toNat - ea.toNat % 64)
          ∧ (∀ p, p ∈ t.l1d → p ∈ s.l1d ∧ p.2 ≠ ea.toNat / 64)
          ∧ t = { s with cores := t.cores, mem := t.mem, memErr := t.memErr, linked := t.linked, l1d := t.l1d, l1Err := t.l1Err }
          ∧ (∀ d, d ≠ c.val → t.core d = s.core d)
          ∧ s.retires t c.val ((s.core c.val).pc + 4) ∧ (∀ r, t.g c.val r = s.g c.val r)
    stores (.sb c rs2 rs1 imm) 1 ∧ stores (.sh c rs2 rs1 imm) 2 ∧ stores (.sw c rs2 rs1 imm) 4 ∧ stores (.sd c rs2 rs1 imm) 8

/-- O19. For a core that runs and whose fetch is good: a load (store) whose EA is no multiple of its size enters M level with
cause 0x05 (0x06) and TVAL EA where that trap goes to M; an aligned one without the read (write) right enters with
0x07 (0x08). Registers but the trap registers, memory and every unit stay as they are.
(R437, R430, R443, R444) -/
def Obligations.MisalignedAndDeniedAccessesTrap : Prop :=
  ∀ (s₀ : State) (c : Core) (r rs1 : GReg) (imm : BitVec 16), s₀.executes c.val →
    let s := s₀.afterFetch c.val
    let ea := s.g c.val rs1.val + imm.signExtend 64
    let checks (i : Instr) (n right misaligned denied : Nat) : Prop :=
      (ea.toNat % n ≠ 0 → s.trapsToM c.val misaligned → answers i s₀ fun t => s.entersM t c.val misaligned ea)
      ∧ (ea.toNat % n = 0 → ((s.core c.val).rights ea).getLsbD right = false → s.trapsToM c.val denied →
          answers i s₀ fun t => s.entersM t c.val denied ea)
    checks (.lb c r rs1 imm) 1 0 5 7 ∧ checks (.lbu c r rs1 imm) 1 0 5 7 ∧ checks (.lh c r rs1 imm) 2 0 5 7
    ∧ checks (.lhu c r rs1 imm) 2 0 5 7 ∧ checks (.lw c r rs1 imm) 4 0 5 7 ∧ checks (.lwu c r rs1 imm) 4 0 5 7
    ∧ checks (.ld c r rs1 imm) 8 0 5 7
    ∧ checks (.sb c r rs1 imm) 1 1 6 8 ∧ checks (.sh c r rs1 imm) 2 1 6 8 ∧ checks (.sw c r rs1 imm) 4 1 6 8
    ∧ checks (.sd c r rs1 imm) 8 1 6 8

/-- O20. For a core that runs, whose fetch is good and that holds no posted-store error, with rs1 aligned to the size, read and
write rights, the cache in BYPASS and memory without an error there: rd takes the old value (32-bit results
sign-extended), memory the new one, every other byte reads as before, reservations on the line clear. CAS stores only
where the old value is the one rd holds; then memory and reservations stay.
(R439, R440) -/
def Obligations.AtomicsReadAndWriteMemory : Prop :=
  ∀ (s₀ : State) (c : Core) (rd rs1 rs2 : GReg) (dbl : Bool), s₀.executes c.val →
    let s := s₀.afterFetch c.val
    (s.core c.val).postErr = none →
    let n := if dbl then 8 else 4
    let a := s.g c.val rs1.val
    a.toNat % n = 0 → ((s.core c.val).rights a).getLsbD 0 = true → ((s.core c.val).rights a).getLsbD 1 = true → s.plainMem a.toNat n →
    let old := leNat ((List.range n).map fun i => s.byteAt (a.toNat + i))
    let b := (s.g c.val rs2.val).toNat % 2 ^ (8 * n)
    let sg (x : Nat) : Int := (BitVec.ofNat (8 * n) x).toInt
    let back : Word := if dbl then BitVec.ofNat 64 old else (BitVec.ofNat 32 old).signExtend 64
    let ends (t : State) : Prop :=
      (∀ d, d ≠ c.val → t.core d = s.core d) ∧ s.retires t c.val ((s.core c.val).pc + 4) ∧ s.writesOnly t c.val rd.val back
    let puts (i : Instr) (new : Nat) : Prop := answers i s₀ fun t =>
      (∀ j, j < n → t.byteAt (a.toNat + j) = BitVec.ofNat 8 (new / 2 ^ (8 * j)))
      ∧ (∀ x, x < a.toNat ∨ a.toNat + n ≤ x → t.byteAt x = s.byteAt x)
      ∧ t.linked = s.linked.filter (fun p => p.2 ≠ a.toNat - a.toNat % 64)
      ∧ t = { s with cores := t.cores, mem := t.mem, memErr := t.memErr, linked := t.linked, l1d := t.l1d, l1Err := t.l1Err } ∧ ends t
    puts (.swap c rd rs1 rs2 dbl) b ∧ puts (.atomicAdd c rd rs1 rs2 dbl) ((old + b) % 2 ^ (8 * n))
    ∧ puts (.atomicAnd c rd rs1 rs2 dbl) (old &&& b) ∧ puts (.atomicOr c rd rs1 rs2 dbl) (old ||| b)
    ∧ puts (.atomicXor c rd rs1 rs2 dbl) (old ^^^ b)
    ∧ puts (.atomicMin c rd rs1 rs2 dbl) (if sg old < sg b then old else b)
    ∧ puts (.atomicMax c rd rs1 rs2 dbl) (if sg old < sg b then b else old)
    ∧ puts (.atomicMinu c rd rs1 rs2 dbl) (min old b) ∧ puts (.atomicMaxu c rd rs1 rs2 dbl) (max old b)
    ∧ (s.g c.val rd.val = back → puts (.cas c rd rs1 rs2 dbl) b)
    ∧ (s.g c.val rd.val ≠ back → answers (.cas c rd rs1 rs2 dbl) s₀ fun t => t = { s with cores := t.cores } ∧ ends t)

/-- O21. Under the conditions of an atomic in memory: LL with rs2 = 0 reads and leaves a reservation of its line for its size;
SC with the reservation of the core for the same address and size stores rs2 and answers 0; without it nothing is
stored and rd takes 1; the reservation clears in both cases.
(R439, R440) -/
def Obligations.LoadLinkedAndStoreConditional : Prop :=
  ∀ (s₀ : State) (c : Core) (rd rs1 rs2 : GReg) (dbl : Bool), s₀.executes c.val →
    let s := s₀.afterFetch c.val
    (s.core c.val).postErr = none →
    let n := if dbl then 8 else 4
    let a := s.g c.val rs1.val
    a.toNat % n = 0 → ((s.core c.val).rights a).getLsbD 0 = true → ((s.core c.val).rights a).getLsbD 1 = true → s.plainMem a.toNat n →
    let old := leNat ((List.range n).map fun i => s.byteAt (a.toNat + i))
    let back : Word := if dbl then BitVec.ofNat 64 old else (BitVec.ofNat 32 old).signExtend 64
    let held : Prop := (s.core c.val).ll = some (a.toNat, n) ∧ ∃ l, (c.val, l) ∈ s.linked
    let core (t : State) (x : Option (Nat × Nat)) : Prop := t.core c.val = { s.core c.val with
      g := (t.core c.val).g, pc := (s.core c.val).pc + 4, instret := (s.core c.val).instret + 1, ll := x }
    answers (.ll c rd rs1 0 dbl) s₀ (fun t => t = { s with cores := t.cores, linked := smPut s.linked c.val (a.toNat - a.toNat % 64) }
      ∧ core t (some (a.toNat, n)) ∧ s.writesOnly t c.val rd.val back)
    ∧ (held → answers (.sc c rd rs1 rs2 dbl) s₀ fun t =>
        (∀ j, j < n → t.byteAt (a.toNat + j) = (s.g c.val rs2.val).extractLsb' (8 * j) 8)
        ∧ (∀ x, x < a.toNat ∨ a.toNat + n ≤ x → t.byteAt x = s.byteAt x)
        ∧ t = { s with cores := t.cores, mem := t.mem, memErr := t.memErr, linked := t.linked, l1d := t.l1d, l1Err := t.l1Err }
        ∧ (∀ p ∈ t.linked, p.1 ≠ c.val) ∧ core t none ∧ s.writesOnly t c.val rd.val 0)
    ∧ (¬ held → answers (.sc c rd rs1 rs2 dbl) s₀ fun t =>
        t = { s with cores := t.cores, linked := t.linked } ∧ (∀ p ∈ t.linked, p.1 ≠ c.val) ∧ core t none ∧ s.writesOnly t c.val rd.val 1)

/-- O22. For a core that runs and whose fetch is good: FENCE without a posted-store error, and WAIT at M level with an enabled
source pending, only retire; ICINV drops every line of the level-1 instruction cache, or with L the line of rs1; RDWT
gives ANG_WT; RDANG gives ANG_CNT, SRC, WOK and SPD_OK of the bay rs1[4:0] names, on a part that has it. Nothing else
changes.
(R441, R465, R453, R467) -/
def Obligations.FenceCacheInvalidateAndClocks : Prop :=
  ∀ (s₀ : State) (c : Core) (rd rs1 : GReg), s₀.executes c.val →
    let s := s₀.afterFetch c.val
    let k := s.core c.val
    let b := (s.g c.val rs1.val).toNat % 32
    let gives (i : Instr) (rd : Nat) (v : Word) : Prop := answers i s₀ fun t => s.result t c.val rd v (k.pc + 4)
    let drops (line : Bool) (l : List (Nat × BitVec 512)) : Prop := answers (.icinv c rs1 line) s₀ fun t => s.onlyCore t c.val
      ∧ t.core c.val = { k with pc := k.pc + 4, instret := k.instret + 1, step := false, icache := l }
    (k.postErr = none → gives (.fence c) 0 0)
    ∧ (k.priv = true → (∃ i, (s.ipend c.val &&& k.ienBits).getLsbD i = true) → gives (.wait c) 0 0)
    ∧ drops false [] ∧ drops true (k.icache.filter fun l => l.1 ≠ (s.g c.val rs1.val).toNat / 64)
    ∧ gives (.rdwt c rd) rd.val (BitVec.ofNat 64 (s.rd ANG_WT_NS))
    ∧ (b < s.bayCount → gives (.rdang c rd rs1) rd.val (BitVec.ofNat 64 (s.rd (ANG_CNT_VALUE b) + s.rd (ANG_STAT_SRC b) * 2 ^ 32
        + (s.on (ANG_STAT_WOK b)).toNat * 2 ^ 34 + (s.on (ANG_STAT_SPD_OK b)).toNat * 2 ^ 35)))

/-- O23. For a core that runs and whose fetch is good. At M level: CRR returns any control register; CRW, CRS and CRC on
SCRATCH return its old value and leave in it rs1, old | rs1 and old & ~rs1. At O level: reading TPC, TVEC or SCRATCH,
and writing STATUS, traps PRIVILEGED (0x02); OSCRATCH is written. A reserved number traps ILLEGAL (0x01) at either
level.
(R462, R463, R428, R426) -/
def Obligations.ControlRegisterInstructions : Prop :=
  ∀ (s₀ : State) (c : Core) (rd rs1 : GReg) (n : BitVec 7), s₀.executes c.val →
    let s := s₀.afterFetch c.val
    let k := s.core c.val
    let x := s.g c.val rs1.val
    let leaves (i : Instr) (old : Word) (f : CoreSt → CoreSt) : Prop := answers i s₀ fun t => s.onlyCore t c.val
      ∧ s.writesOnly t c.val rd.val old
      ∧ t.core c.val = f { k with g := (t.core c.val).g, pc := k.pc + 4, instret := k.instret + 1 }
    (k.priv = true → (∀ v, s.readCr c.val n.toNat = some v → leaves (.crr c rd n) v id)
      ∧ leaves (.crw c rd rs1 5) k.scratch (fun k => { k with scratch := x })
      ∧ leaves (.crs c rd rs1 5) k.scratch (fun k' => { k' with scratch := k.scratch ||| x })
      ∧ leaves (.crc c rd rs1 5) k.scratch (fun k' => { k' with scratch := k.scratch &&& ~~~x }))
    ∧ (k.priv = false → leaves (.crw c rd rs1 21) k.oscratch (fun k => { k with oscratch := x })
      ∧ (n = 1 ∨ n = 4 ∨ n = 5 → s.trapsToM c.val 2 → answers (.crr c rd n) s₀ fun t => s.entersM t c.val 2 (wordSys rd.val 0 0 n.toNat))
      ∧ (s.trapsToM c.val 2 → answers (.crw c rd rs1 0) s₀ fun t => s.entersM t c.val 2 (wordSys rd.val rs1.val 1 0)))
    ∧ (s.readCr c.val n.toNat = none → s.trapsToM c.val 1 → answers (.crr c rd n) s₀ fun t => s.entersM t c.val 1 (wordSys rd.val 0 0 n.toNat))

/-- O24. For a core that runs and whose fetch is good. Without a posted-store error: at M level PC is TPC with bits [1:0]
clear, PRIV is PPRIV, IE is PIE and TA is 0; at O level with an O trap active PC is OTPC and OTA is 0, the level stays
O; INSTRET goes on by 1 and nothing else changes. At O level without an O trap it traps ILLEGAL, to M or, where ODELEG
delegates it, to O. With a posted-store error of address a (at M level or with an O trap active) TRET does not retire:
STORE_BUS is raised, imprecise, with TVAL a and TPC the PC of TRET, as a trap to M or, at M level with an M trap
active, as a double trap.
(R464) -/
def Obligations.TrapReturn : Prop :=
  ∀ (s₀ : State) (c : Core), s₀.executes c.val →
    let s := s₀.afterFetch c.val
    let k := s.core c.val
    (k.priv = true → k.postErr = none → answers (.tret c) s₀ fun t => s.onlyCore t c.val ∧ t.core c.val = { k with
      pc := k.tpc &&& ~~~3, priv := k.ppriv, ie := k.pie, ta := false, instret := k.instret + 1 })
    ∧ (k.priv = false → k.ota = true → k.postErr = none → answers (.tret c) s₀ fun t => s.onlyCore t c.val
      ∧ t.core c.val = { k with pc := k.otpc &&& ~~~3, ota := false, instret := k.instret + 1 })
    ∧ (k.priv = false → k.ota = false → (s.trapsToM c.val 1 → answers (.tret c) s₀ fun t => s.entersM t c.val 1 0xFC004000)
      ∧ (k.odeleg.getLsbD 1 = true → answers (.tret c) s₀ fun t => s.entersO t c.val 1 0xFC004000))
    ∧ (∀ a, (k.priv = true ∨ k.ota = true) → k.postErr = some a →
      (¬ (k.priv = true ∧ k.ta = true) → s.fetchBad { k with priv := true } k.tvec = none → answers (.tret c) s₀ fun t =>
        t = { s with cores := t.cores, linked := smErase s.linked c.val } ∧ (∀ d, d ≠ c.val → t.core d = s.core d)
        ∧ t.core c.val = { k with
            postErr := none, tpc := k.pc, cause := BitVec.ofNat 64 (2 ^ 62 + 0x0A), tval := a, ppriv := k.priv, pie := k.ie
            priv := true, ie := false, ta := true, pc := k.tvec, wait := .none, ll := none })
      ∧ (k.priv = true → k.ta = true → answers (.tret c) s₀ fun t =>
        t.core c.val = { k with postErr := none, halted := true, wait := .none } ∧ (∀ d, d ≠ c.val → t.core d = s.core d)))

/-- O25. For every control-register write (CRW, CRS, CRC with any number and operand), and the other instructions the statement
names (ADD, ADDI, BEQ, JLR, FENCE, ICINV): in the next state the core is at the level it was at, unless it has taken a
trap to M level. No write of a control register makes an O-level core an M-level one.
(R427) -/
def Obligations.PrivilegeChangesOnlyByTrapsAndReturns : Prop :=
  ∀ (s : State) (c : Core) (rd rs1 rs2 : GReg) (n : BitVec 7) (imm : BitVec 16) (i : Instr) (t : State),
    (i = .crw c rd rs1 n ∨ i = .crs c rd rs1 n ∨ i = .crc c rd rs1 n ∨ i = .crr c rd n ∨ i = .add c rd rs1 rs2 ∨ i = .addi c rd rs1 imm
      ∨ i = .beq c rs1 rs2 imm ∨ i = .jlr c rd rs1 imm ∨ i = .fence c ∨ i = .icinv c rs1 true) →
    exec i s = .next t → (t.core c.val).priv = (s.core c.val).priv ∨ ((t.core c.val).priv = true ∧ (t.core c.val).ta = true)

/-- O26. For a core that runs and whose fetch is good, an r that is a multiple of 4 and a lightpipe the core may use: with a
free credit (and no credit reserved, no posted-store error) the entry of g(r) to g(r+3) is appended, one credit is
taken and gs takes 0; with an unpoisoned oldest entry the pop writes its four doublewords to g(r) to g(r+3) and then 0
to gs, and the entries behind it stay in order; without credit (entry) PUSHT (POPT) answers 1 in gs and PUSH (POP)
leaves the core waiting at its PC. A pop counts the single-bit errors it corrects (R20). A descriptor for an actuator
scheduler whose HPORT names no head (R11) is not pushed: INVALID_ARG (0x0F) is raised with the instruction word, where
that trap goes to M level.
(R448, R449, R451, R24, R11, R20) -/
def Obligations.PushAndPopMoveEntries : Prop :=
  ∀ (s₀ : State) (c : Core) (r gs : GReg) (lp : Lp), s₀.executes c.val →
    let s := s₀.afterFetch c.val
    r.val % 4 = 0 →
    let k := s.core c.val
    let l := s.lp lp.val
    let e : Entry := { data := s.g c.val (r.val + 3) ++ s.g c.val (r.val + 2) ++ s.g c.val (r.val + 1) ++ s.g c.val r.val }
    let pushed (i : Instr) : Prop := answers i s₀ fun t => t = { s with cores := t.cores, lps := t.lps }
      ∧ t.lp lp.val = { l with entries := l.entries ++ [e], free := l.free - 1 } ∧ (∀ m, m ≠ lp.val → t.lp m = s.lp m)
      ∧ s.retires t c.val (k.pc + 4) ∧ s.writesOnly t c.val gs.val 0
    let popped (i : Instr) (x : Entry) (rest : List Entry) : Prop := answers i s₀ fun t =>
      rest <+: (t.lp lp.val).entries ∧ s.retires t c.val (k.pc + 4) ∧ t.mem = s.mem ∧ t.regs = s.regs
      ∧ t.storeCorrected = s.storeCorrected + ((List.range 4).filter x.ce.getLsbD).length
      ∧ ∀ g, t.g c.val g = if g = 0 ∨ g = gs.val then 0
          else if r.val ≤ g ∧ g < r.val + 4 then x.data.extractLsb' (64 * (g - r.val)) 64 else s.g c.val g
    let answersOne (i : Instr) : Prop := answers i s₀ fun t => s.result t c.val gs.val 1 (k.pc + 4)
    let waits (i : Instr) (w : CoreWait) : Prop := answers i s₀ fun t => s.onlyCore t c.val ∧ t.core c.val = { k with wait := w }
    (s.lpMove c.val lp.val true = true → badHead lp.val e = true → s.trapsToM c.val 0x0F →
      answers (.push c r lp gs) s₀ (fun t => s.entersM t c.val 0x0F (wordQ r.val lp.val 0 gs.val))
      ∧ answers (.pusht c r lp gs) s₀ (fun t => s.entersM t c.val 0x0F (wordQ r.val lp.val 1 gs.val)))
    ∧ (s.lpMove c.val lp.val true = true → badHead lp.val e = false → k.postErr = none → smGet 0 l.resv c.val = 0 →
      (0 < l.free → pushed (.push c r lp gs) ∧ pushed (.pusht c r lp gs))
      ∧ (l.free = 0 → answersOne (.pusht c r lp gs) ∧ waits (.push c r lp gs) (.push r.val lp.val gs.val)))
    ∧ (s.lpMove c.val lp.val false = true →
      (∀ x rest, l.entries = x :: rest → x.poison = false → popped (.pop c r lp gs) x rest ∧ popped (.popt c r lp gs) x rest)
      ∧ (l.entries = [] → answersOne (.popt c r lp gs) ∧ waits (.pop c r lp gs) (.pop r.val lp.val gs.val)))

/-- O27. For a core that runs, whose fetch is good, at M level: COUNT writes entries, free credits and own reservations to its
register; RESV of n (1 to 255) with n credits free moves them to the core; RELS moves min(n, held), or all for n = 0,
back; NOTE sets LPNOTE and fires at once exactly where the entries (or the free credits) exceed its threshold. An
O-level core that the protection table does not let use the lightpipe traps LP_PROT with its number.
(R448, R449, R452, R431) -/
def Obligations.CreditsCountsAndNotifications : Prop :=
  ∀ (s₀ : State) (c : Core) (r : GReg) (lp : Lp) (n : BitVec 8) (kind : Bool) (thr : BitVec 7), s₀.executes c.val →
    let s := s₀.afterFetch c.val
    let k := s.core c.val
    let l := s.lp lp.val
    let own := smGet 0 l.resv c.val
    let m := if n = 0 then own else min n.toNat own
    (k.priv = true →
      answers (.count c r lp) s₀ (fun t => s.result t c.val r.val (BitVec.ofNat 64 (l.entries.length % 512 + l.free % 512 * 2 ^ 16
        + own % 512 * 2 ^ 32)) (k.pc + 4))
      ∧ (n ≠ 0 → n.toNat ≤ l.free → answers (.resv c lp n) s₀ fun t => t = { s with cores := t.cores, lps := t.lps }
        ∧ (t.lp lp.val).free = l.free - n.toNat ∧ smGet 0 (t.lp lp.val).resv c.val = own + n.toNat
        ∧ (t.lp lp.val).entries = l.entries ∧ s.retires t c.val (k.pc + 4))
      ∧ (s.stalled = [] → answers (.rels c lp n) s₀ fun t => t = { s with cores := t.cores, lps := t.lps }
        ∧ (t.lp lp.val).free = l.free + m ∧ smGet 0 (t.lp lp.val).resv c.val = own - m ∧ s.retires t c.val (k.pc + 4))
      ∧ answers (.note c lp kind thr) s₀ (fun t => s.onlyCore t c.val ∧
        let fires := decide (thr.toNat < if kind then l.free else l.entries.length)
        t.core c.val = { k with
          noteLp := lp.val, noteThr := thr.toNat, noteKind := kind, noteArmed := ! fires, noteFired := k.noteFired || fires
          pc := k.pc + 4, instret := k.instret + 1 }))
    ∧ (k.priv = false → lp.val < 640 → k.lpOpen lp.val true = false → k.lpOpen lp.val false = false → s.trapsToM c.val 0x0E →
      answers (.count c r lp) s₀ (fun t => s.entersM t c.val 0x0E (BitVec.ofNat 64 lp.val))
      ∧ answers (.resv c lp n) s₀ (fun t => s.entersM t c.val 0x0E (BitVec.ofNat 64 lp.val))
      ∧ answers (.rels c lp n) s₀ (fun t => s.entersM t c.val 0x0E (BitVec.ofNat 64 lp.val))
      ∧ answers (.note c lp kind thr) s₀ (fun t => s.entersM t c.val 0x0E (BitVec.ofNat 64 lp.val)))

/-- O28. For a core that runs, whose fetch is good, at M level: ARM of a valid descriptor with no reason against it arms a slot
that was free, numbered 16 to 63, with the target, class, HPORT, flags and payload given, and returns 64 b + slot;
with 48 actions armed it returns 2^63 + 1, with SRC = NONE 2^63 + 2, and arms nothing. ACANCEL of an armed handle
frees the slot with outcome CANCELLED and returns 0, and 1 otherwise; ASTAT returns armed, outcome and time. At O
level each traps PRIVILEGED.
(R453, R454, R455, R456) -/
def Obligations.ActionInstructions : Prop :=
  ∀ (s₀ : State) (c : Core) (rd rs1 rs2 : GReg), s₀.executes c.val →
    let s := s₀.afterFetch c.val
    let k := s.core c.val
    let x := s.g c.val rs1.val
    let b := x.toNat / 2 ^ 37 % 32
    let h := x.toNat / 64 % 32
    let i := x.toNat % 64
    let gives (c' : Instr) (v : Word) : Prop := answers c' s₀ fun t => s.result t c.val rd.val v (k.pc + 4)
    (k.priv = true →
      (s.armInvalid x = false → s.armReason b (armRecord c x (s.g c.val rs2.val) ((armClass (x.toNat / 2 ^ 42 % 8)).getD .readGate)) = none →
        (∃ j, 16 ≤ j ∧ j < 64 ∧ (s.slot b j).armed = false) → answers (.armAction c rd rs1 rs2) s₀ fun t => ∃ j, 16 ≤ j ∧ j < 64 ∧ (s.slot b j).armed = false ∧ (t.slot b j).armed = true
          ∧ (t.slot b j).target = x.extractLsb' 0 32 ∧ (t.slot b j).hport = x.extractLsb' 32 10 ∧ (t.slot b j).payload = s.g c.val rs2.val
          ∧ (t.slot b j).lateOk = x.getLsbD 45 ∧ (t.slot b j).notify = x.getLsbD 46 ∧ (∀ m, m ≠ j → t.slot b m = s.slot b m)
          ∧ s.writesOnly t c.val rd.val (BitVec.ofNat 64 (64 * b + j)) ∧ s.retires t c.val (k.pc + 4) ∧ t.mem = s.mem ∧ t.lps = s.lps)
      ∧ (s.armInvalid x = false → s.armedIn b 16 64 = 48 → gives (.armAction c rd rs1 rs2) (BitVec.ofNat 64 (2 ^ 63 + 1)))
      ∧ (s.armInvalid x = false → s.armedIn b 16 64 < 48 → s.armedIn b 0 64 < 64 → s.rd (ANG_STAT_SRC b) = 0 →
          gives (.armAction c rd rs1 rs2) (BitVec.ofNat 64 (2 ^ 63 + 2)))
      ∧ (x.toNat < 2048 → 16 ≤ i → (s.slot h i).armed = true → answers (.acancel c rd rs1) s₀ fun t =>
          (t.slot h i).armed = false ∧ (t.slot h i).outcome = .cancelled ∧ s.writesOnly t c.val rd.val 0 ∧ t.mem = s.mem)
      ∧ ((2048 ≤ x.toNat ∨ i < 16 ∨ (s.slot h i).armed = false) → gives (.acancel c rd rs1) 1)
      ∧ gives (.astat c rd rs1) (astatWord (s.slot h i)))
    ∧ (k.priv = false → s.trapsToM c.val 2 →
      answers (.armAction c rd rs1 rs2) s₀ (fun t => s.entersM t c.val 2 (wordAng 1 rd.val rs1.val rs2.val))
      ∧ answers (.acancel c rd rs1) s₀ (fun t => s.entersM t c.val 2 (wordAng 2 rd.val rs1.val 0))
      ∧ answers (.astat c rd rs1) s₀ (fun t => s.entersM t c.val 2 (wordAng 3 rd.val rs1.val 0)))

/-- O29. For a core that runs and whose fetch is good. DEBIT of valid counts: where no debit waits and both tests pass, a free
handle is admitted, OUT rises by the cost of R397 and the bytes staged by 4,096 per sector; with NOWAIT where they do
not, outcome 2 with nothing debited. CREDIT of a handle that is not admitted sets bit 63; WITHDRAW of a free handle
sets bit 63; WITHDRAW of a queued one takes it off the queue. LQUERY 0, 1, 3 and 4 read USABLE, OUT, bytes staged and
debits waiting. ADEBIT with EN = 0 returns 0.
(R457, R458, R459, R461, R397) -/
def Obligations.LedgerInstructions : Prop :=
  ∀ (s₀ : State) (c : Core) (rd rs1 rs2 : GReg) (noWait : Bool), s₀.executes c.val →
    let s := s₀.afterFetch c.val
    let k := s.core c.val
    let x := s.g c.val rs1.val
    let nSect := x.toNat % 2 ^ 32
    let nSeg := x.toNat / 2 ^ 32 % 2 ^ 16
    let cost := (nSeg * s.rd APR_FLUSH_SEEK_MJ * 1000 + nSect * s.rd APR_FLUSH_SECT_UJ + 999) / 1000
    let fits := s.on APR_CTL_LEN = true ∧ s.on APR_STAT_FROZEN = false ∧ s.on APR_STAT_DEFICIT = false
      ∧ s.energy.outUj + (s.rd APR_RETR_MJ + s.rd APR_FIXED_MJ) * 1000 + cost * 1000 ≤ s.rd APR_USABLE_MJ * 1000
      ∧ s.energy.staged + nSect * 4096 ≤ s.rd APR_STAGE_LIMIT * 2 ^ 20
    let gives (i : Instr) (v : Word) : Prop := answers i s₀ fun t => s.result t c.val rd.val v (k.pc + 4)
    (s.debitInvalid x = false → s.energy.waiting = [] → fits → lowestFree s.energy.debits 0 < 65536 →
      answers (.debit c rd rs1 rs2 noWait) s₀ fun t =>
        t.energy.outUj = s.energy.outUj + cost * 1000 ∧ t.energy.staged = s.energy.staged + nSect * 4096 ∧ t.energy.waiting = []
        ∧ (t.g c.val rd.val = if rd.val = 0 then 0 else BitVec.ofNat 64 (lowestFree s.energy.debits 0 + cost % 2 ^ 32 * 2 ^ 32)) ∧ t.mem = s.mem)
    ∧ (s.debitInvalid x = false → ¬ fits → answers (.debit c rd rs1 rs2 true) s₀ fun t => t.energy = s.energy ∧ t.regs = s.regs ∧ t.mem = s.mem
        ∧ (rd.val ≠ 0 → (t.g c.val rd.val).toNat / 2 ^ 16 % 2 ^ 16 = 2))
    ∧ ((∀ d, (x.toNat, d) ∈ s.energy.debits → d.admitted = false) → gives (.credit c rd rs1 rs2) (BitVec.ofNat 64 (2 ^ 63)))
    ∧ ((∀ d, (x.toNat, d) ∉ s.energy.debits) → gives (.withdraw c rd rs1) (BitVec.ofNat 64 (2 ^ 63)))
    ∧ (∀ d, s.debitOf x.toNat = some d → d.admitted = false → answers (.withdraw c rd rs1) s₀ fun t => s.writesOnly t c.val rd.val 0
        ∧ x.toNat ∉ t.energy.waiting ∧ t.energy.outUj = s.energy.outUj ∧ t.mem = s.mem)
    ∧ (x.toNat % 256 = 0 → gives (.lquery c rd rs1) (BitVec.ofNat 64 (s.rd APR_USABLE_MJ)))
    ∧ (x.toNat % 256 = 1 → gives (.lquery c rd rs1) (BitVec.ofNat 64 (s.rd APR_OUT_MJ)))
    ∧ (x.toNat % 256 = 3 → gives (.lquery c rd rs1) (BitVec.ofNat 64 s.energy.staged))
    ∧ (x.toNat % 256 = 4 → gives (.lquery c rd rs1) (BitVec.ofNat 64 s.energy.waiting.length))
    ∧ (x.toNat < 2 ^ 31 → s.on APR_CTL_EN = false → gives (.adebit c rd rs1 false) 0)
    ∧ (x.toNat < 2 ^ 31 → s.on APR_CTL_EN = true → k.priv = true → answers (.adebit c rd rs1 true) s₀ fun t =>
        t.energy.bucket = s.energy.bucket - x.toNat ∧ s.writesOnly t c.val rd.val (BitVec.ofInt 64 (s.energy.bucket - x.toNat)) ∧ t.mem = s.mem)

/-- O30. For a core that is up, not halted and not halted by the Loupe, with TA clear: INTERRUPT_TAKEN with source i the lowest
that is pending and enabled (IE set, or i = 0) saves PC in TPC, writes INTR and i to CAUSE, saves PRIV and IE and goes
to TVEC + 0x100 where that can be fetched. TIMECMP_REACHED with ANG_WT at or past TIMECMP sets TIMER pending.
POSTED_STORE_ERROR enters with cause 0x0A, IMPRECISE and the store's address. The commands that end the wait of a core
are in CoreWaitsEnd.
(R444, R446, R450, R467, R442) -/
def Obligations.InterruptsAndWaits : Prop :=
  ∀ (s : State) (c : Core), s.coreUp c.val = true → (s.core c.val).halted = false → c.val ∉ s.sec.halted →
    let k := s.core c.val
    (∀ i, i < 5 → k.wait = .none → k.ta = false → (k.ie = true ∨ i = 0) → (s.ipend c.val &&& k.ienBits).getLsbD i = true →
      (∀ j, j < i → (s.ipend c.val &&& k.ienBits).getLsbD j = false) → s.fetchBad { k with priv := true } (k.tvec + 0x100) = none →
      answers (.interruptTaken c) s fun t => (∀ d, d ≠ c.val → t.core d = s.core d) ∧ t.mem = s.mem ∧ t.regs = s.regs ∧ t.lps = s.lps
        ∧ t.core c.val = { k with tpc := k.pc, cause := BitVec.ofNat 64 (2 ^ 63 + i), tval := (t.core c.val).tval, ppriv := k.priv
                                  pie := k.ie, priv := true, ie := false, ta := true, pc := k.tvec + 0x100, ll := none })
    ∧ (k.timecmp.toNat ≤ s.rd ANG_WT_NS → answers (.timecmpReached c) s fun t => s.onlyCore t c.val ∧ t.core c.val = { k with timer := true }
        ∧ (t.ipend c.val).getLsbD 1 = true)
    ∧ (∀ a, k.wait = .none → k.postErr = some a → ¬ (k.priv = true ∧ k.ta = true) → s.fetchBad { k with priv := true } k.tvec = none →
      answers (.postedStoreError c) s fun t => (∀ d, d ≠ c.val → t.core d = s.core d) ∧ t.mem = s.mem ∧ t.regs = s.regs
        ∧ t.core c.val = { k with postErr := none, tpc := k.pc, cause := BitVec.ofNat 64 (2 ^ 62 + 0x0A), tval := a, ppriv := k.priv, pie := k.ie
                                  priv := true, ie := false, ta := true, pc := k.tvec, ll := none })

/-- O31. For a core that may run: LIGHTPIPE_WAIT_GRANTED with credits free completes a waiting RESV; ADEBIT_GRANTED with B at
the estimate and OVER 0 debits the bucket and returns B; WAIT_RESUME with an enabled source pending and none eligible
leaves the core at the instruction after WAIT; NOTIFICATION_FIRE with the condition of an armed notification holding
disarms it and sets LPNOTE pending; A waiting PUSH with a credit free appends its entry and completes.
(R450, R461, R466, R467, R498, R452) -/
def Obligations.CoreWaitsEnd : Prop :=
  ∀ (s : State) (c : Core), s.waitRuns c.val = true →
    let k := s.core c.val
    (∀ lp n, k.wait = .resv lp n → n ≤ (s.lp lp).free → answers (.lightpipeWaitGranted c) s fun t =>
      t.core c.val = { k with wait := .none, pc := k.pc + 4, instret := k.instret + 1 } ∧ (t.lp lp).free = (s.lp lp).free - n
      ∧ smGet 0 (t.lp lp).resv c.val = smGet 0 (s.lp lp).resv c.val + n ∧ t.mem = s.mem ∧ t.regs = s.regs)
    ∧ (∀ r lp gs, k.wait = .push r lp gs → 0 < (s.lp lp).free → answers (.lightpipeWaitGranted c) s fun t =>
      (t.core c.val).wait = .none ∧ (t.core c.val).pc = k.pc + 4 ∧ (t.lp lp).entries.length = (s.lp lp).entries.length + 1 ∧ t.mem = s.mem)
    ∧ (∀ r est, k.wait = .adebit r est → s.on APR_CTL_EN = true → s.on APR_STAT_OVER = false → (est : Int) ≤ s.energy.bucket →
      answers (.adebitGranted c) s fun t => t.energy.bucket = s.energy.bucket - est ∧ (t.core c.val).wait = .none
        ∧ (t.core c.val).pc = k.pc + 4 ∧ (r ≠ 0 → t.g c.val r = BitVec.ofInt 64 (s.energy.bucket - est)) ∧ t.mem = s.mem)
    ∧ (k.wait = .interrupt → k.ta = true → (s.ipend c.val &&& k.ienBits) ≠ 0 → answers (.waitResume c) s fun t =>
      s.onlyCore t c.val ∧ t.core c.val = { k with wait := .none, pc := k.pc + 4, instret := k.instret + 1 })
    ∧ (k.noteArmed = true → k.noteKind = false → k.noteThr < (s.lp k.noteLp).entries.length → answers (.notificationFire c) s fun t =>
      s.onlyCore t c.val ∧ t.core c.val = { k with noteArmed := false, noteFired := true } ∧ (t.ipend c.val).getLsbD 3 = true)

/-- O32. An access of an aligned address of an answering window that names no register reads 0 and changes nothing when
written. An access outside every window, misaligned, or of a domain that does not answer gets a bus error and changes
nothing else. While bay b answers, a 32-bit write of ANG_TOL stores its low 11 bits and a read returns them; a write
of ones over ANG_STAT clears LOST and leaves SRC. A 32-bit read of the low word of ANG_WT returns it and latches the
high word, which the next read of the high word by the same requester returns.
(R12, R15, R38, R40) -/
def Obligations.RegisterAccesses : Prop :=
  ∀ (s : State) (who : Agent) (addr : BitVec 40) (wide : Bool) (v : Word) (b : Bay), s.sysrefOk = true →
    let keeps (t : State) : Prop := t = { s with
      regs := t.regs, latches := t.latches, lps := t.lps, stalled := t.stalled, vital := t.vital,
      slices := t.slices, energy := t.energy, cfg := t.cfg, pwr := t.pwr, free := t.free, out := t.out }
    let a := addr.toNat
    let tol : BitVec 40 := BitVec.ofNat 40 (ANG_TOL b.val).addr
    let stat : BitVec 40 := BitVec.ofNat 40 (ANG_STAT b.val).addr
    let wt : BitVec 40 := BitVec.ofNat 40 ANG_WT.addr
    let hi : BitVec 40 := BitVec.ofNat 40 (ANG_WT.addr + 4)
    (s.windowOk who (s.atO who) a false = true → inStore a = false → (regAt a).isNone →
      answers (.registerRead who addr false) s (fun t => t = s.emit (.regAnswer who (some 0)))
      ∧ answers (.registerWrite who addr false v) s (fun t => t = s))
    ∧ (s.windowOk who (s.atO who) a wide = false →
      answers (.registerRead who addr wide) s (fun t => t = s.emit (.regAnswer who none))
      ∧ answers (.registerWrite who addr wide v) s (fun t => t = s.emit (.regError who)))
    ∧ (s.domAnswers (64 + b.val) = true →
      (answers (.registerWrite who tol false v) s fun t => t.rd (ANG_TOL_TOL b.val) = v.toNat % 2 ^ 11 ∧ t.mem = s.mem
        ∧ ∀ r : Reg, r.addr ≠ (ANG_TOL b.val).addr → t.reg r = s.reg r)
      ∧ (answers (.registerRead who tol false) s fun t => keeps t ∧ t.out.head? = some (.regAnswer who (some (BitVec.ofNat 64 (s.rd (ANG_TOL_TOL b.val))))) ∧ t.regs = s.regs)
      ∧ (answers (.registerWrite who stat false 0xFFFFFFFF) s fun t => t.on (ANG_STAT_LOST b.val) = false
        ∧ t.rd (ANG_STAT_SRC b.val) = s.rd (ANG_STAT_SRC b.val)))
    ∧ (answers (.registerRead who wt false) s fun t => keeps t ∧ t.out.head? = some (.regAnswer who (some (s.reg ANG_WT &&& 0xFFFFFFFF)))
      ∧ answers (.registerRead who hi false) t fun u => u.out.head? = some (.regAnswer who (some (s.reg ANG_WT >>> 32))))

/-- O33. While the bay's unit runs and its link clock is present, with SRC = WEDGE: a MISS that leaves COAST within COAST_MAX +
1 counts in ANG_STAT.COAST and ANG_MISS, clears the count of good marks and WOK, and SRC stays; one beyond sets LOST
and SRC leaves WEDGE. A mark of the driving actuator within TOL and the window counts as good, clears COAST, records
its error in ANG_ERR and does not move the counter by itself; one outside the window WIN is not seen (log entry 9); a
suspect one alone changes nothing but the list of marks that agree, and with REACQ = 2 and one that agrees with it
rebases the counter by its error, cancels actions, clears GOOD and WOK and leaves SRC. With actuator 0 locked a mark
of actuator 1 changes neither the counter, GOOD nor COAST. With SRC not WEDGE, MISS does nothing and a first mark only
joins the list.
(R52, R53, R62, R63, R64, R65, R66) -/
def Obligations.AngleMarksAndMisses : Prop :=
  ∀ (s : State) (b : Bay) (a : Act) (w : BitVec 10), s.brefOk = true →
    let keeps (t : State) : Prop := t = { s with
      regs := t.regs, lps := t.lps, stalled := t.stalled, ang := t.ang, beam := t.beam, slices := t.slices,
      servos := t.servos, free := t.free, spins := t.spins, cals := t.cals }
    let n := b.val
    let src (s : State) : Nat := s.rd (ANG_STAT_SRC n)
    let wedge : Prop := (s.dom (64 + n) = 2 ∨ s.dom (64 + n) = 3) ∧ src s = 2
    let e := angleDiff ((s.markAngle n a.val w.toNat : Int) - ((s.rd (ANG_CNT_VALUE n) : Int) - s.uplatAu n (s.rd (ANG_PERIOD_NS n))))
    let drives : Prop := wedge ∧ s.driver n a.val = a.val ∧ e.natAbs ≤ s.markWindow n
    (wedge → s.rd (ANG_STAT_COAST n) ≤ s.rd (ANG_CTL_COAST_MAX n) → s.rd (ANG_STAT_COAST n) < 63 →
      answers (.miss b) s fun t => keeps t ∧ t.rd (ANG_STAT_COAST n) = s.rd (ANG_STAT_COAST n) + 1 ∧ t.rd (ANG_STAT_GOOD n) = 0 ∧ t.on (ANG_STAT_WOK n) = false
        ∧ src t = 2 ∧ t.rd (ANG_MISS_COUNT n) = min (s.rd (ANG_MISS_COUNT n) + 1) (2 ^ (ANG_MISS_COUNT n).width - 1))
    ∧ (wedge → s.rd (ANG_CTL_COAST_MAX n) < s.rd (ANG_STAT_COAST n) → s.rd (ANG_STAT_COAST n) < 63 →
      answers (.miss b) s fun t => keeps t ∧ t.on (ANG_STAT_LOST n) = true ∧ src t ≠ 2)
    ∧ (src s ≠ 2 → (answers (.miss b) s fun t => keeps t ∧ t = s) ∧ ((s.angS n).agree = [] → answers (.syncMark b a w) s fun t => keeps t ∧ t = { s with ang := t.ang }))
    ∧ (drives → e.natAbs ≤ (s.tol n).toNat → s.rd (ANG_STAT_GOOD n) < 15 →
      answers (.syncMark b a w) s fun t => keeps t ∧ t.rd (ANG_STAT_GOOD n) = s.rd (ANG_STAT_GOOD n) + 1 ∧ t.rd (ANG_STAT_COAST n) = 0
        ∧ t.rdInt (ANG_ERR_AU n) = e ∧ t.rd (ANG_CNT_VALUE n) = s.rd (ANG_CNT_VALUE n))
    ∧ (wedge → s.markWindow n < e.natAbs → answers (.syncMark b a w) s fun t => keeps t ∧ t = s)
    ∧ (drives → (s.tol n).toNat < e.natAbs → (s.angS n).agree = [] → answers (.syncMark b a w) s fun t => keeps t ∧ t = { s with ang := t.ang })
    ∧ (∀ m, drives → (s.tol n).toNat < e.natAbs → s.reacq n = 2 → (s.angS n).agree = [m] → (angleDiff (e - m.err)).natAbs ≤ (s.tol n).toNat →
      answers (.syncMark b a w) s fun t => keeps t ∧ t.rd (ANG_CNT_VALUE n) = (((s.rd (ANG_CNT_VALUE n) : Int) + e) % 2 ^ 32).toNat ∧ t.on (ANG_STAT_REBASED n) = true
        ∧ t.rdInt (ANG_REBASE_DELTA n) = e ∧ t.rd (ANG_STAT_GOOD n) = 0 ∧ t.on (ANG_STAT_WOK n) = false ∧ src t = 2)
    ∧ (wedge → (s.servoS (2 * n)).lock = true → a.val = 1 →
      answers (.syncMark b a w) s fun t => keeps t ∧ t.rd (ANG_CNT_VALUE n) = s.rd (ANG_CNT_VALUE n) ∧ t.rd (ANG_STAT_GOOD n) = s.rd (ANG_STAT_GOOD n)
        ∧ t.rd (ANG_STAT_COAST n) = s.rd (ANG_STAT_COAST n))

/-- O34. While the bay's unit runs. For an armed slot that is due, none armed before it being due, without NOTIFY: a core's
read gate action with SRC = WEDGE and SPD_OK fires, its slot is free with outcome FIRED, and the slice's sample stream
takes the gate at the target angle with payload bit 0; a core's heater action queues its control word; an action of
any class whose condition does not hold ends with NOT_WOK (write gate, laser) or ANGLE_LOST and drives nothing. Where
actions of cores armed before it are due too, every one of them has ended with an outcome. A slot that is not armed,
or not due, stays.
(R56, R59, R60, R61, R454, R456) -/
def Obligations.ActionsFallDue : Prop :=
  ∀ (s : State) (b : Bay) (i : Fin 64), s.sysrefOk = true →
    let keeps (t : State) : Prop := t = { s with
      regs := t.regs, lps := t.lps, stalled := t.stalled, ang := t.ang, beam := t.beam, slices := t.slices,
      cals := t.cals, free := t.free }
    let n := b.val
    let x := s.slot n i.val
    let due : Prop := (s.dom (64 + n) = 2 ∨ s.dom (64 + n) = 3) ∧ x.armed = true ∧ s.isDue n x.target x.cls = true
    let alone : Prop := due ∧ s.dueBefore n i.val = [] ∧ x.notify = false
    let k := hportSlice x.hport.toNat
    let freed (t : State) (o : ActionOutcome) : Prop := (t.slot n i.val).armed = false ∧ (t.slot n i.val).outcome = o ∧ t.lps = s.lps
    (alone → 16 ≤ i.val → x.cls = .readGate → s.actionAllowed n .readGate = true → answers (.actionDue b i) s fun t => keeps t ∧ freed t .fired ∧ t.beam = s.beam
        ∧ (t.sliceS k).gateAt = (s.sliceS k).gateAt ++ [(x.target, x.payload.getLsbD 0)])
    ∧ (alone → 16 ≤ i.val → x.cls = .heater → s.actionAllowed n .heater = true → answers (.actionDue b i) s fun t => keeps t ∧ freed t .fired
        ∧ (t.beamS n).timed = (s.beamS n).timed ++ [ctlWord 3 (hportAct x.hport.toNat) (hportHead x.hport.toNat) 0 (x.payload.toNat % 2 ^ 10)])
    ∧ (alone → s.actionAllowed n x.cls = false → answers (.actionDue b i) s fun t => keeps t ∧ freed t (cancelStatus x.cls) ∧ t.beam = s.beam
        ∧ t.slices = s.slices ∧ ∀ j, j ≠ i.val → t.slot n j = s.slot n j)
    ∧ (due → 16 ≤ i.val → (∀ j ∈ s.dueBefore n i.val, 16 ≤ j) → answers (.actionDue b i) s fun t => keeps t ∧ ∀ j, j = i.val ∨ j ∈ s.dueBefore n i.val →
        (t.slot n j).armed = false ∧ (t.slot n j).outcome ≠ .none)
    ∧ ((x.armed = false ∨ s.isDue n x.target x.cls = false) → answers (.actionDue b i) s fun t => keeps t ∧ t = s)

/-- O35. With SYSREF present: SNAPSHOT copies every counter and wall time. RACKSYNC_HOLD sets HOLD and an edge clears it (the
model's choice, log entry 96). A pulse of no symbol sets CRCERR (log entry 96); a marker pulse begins a frame. At an
edge expected at second n with EPOCH set, an offset d of at most 1 us is slewed and wall time does not step, a larger
positive one steps wall time to the edge's time, a larger negative one slews with SLEW set; with EPOCH clear wall time
is set and EPOCH sets. With SYSREF lost, the passing of time leaves ANG_WT; after CLOCK_RETURN, one nanosecond without
slew adds 1. While a clock is lost, every command of a unit that runs on it (ofSysref, ofBrefclk, ofHrefclk) leaves
the state as it is.
(R36, R67, R68, R69, R70, R71) -/
def Obligations.WallTimeAndClocks : Prop :=
  ∀ (s : State) (w n : Nat) (c : ClockIn) (i : Instr),
    let keeps (t : State) : Prop := t = { s with
      regs := t.regs, lps := t.lps, stalled := t.stalled, wall := t.wall, sysrefOk := t.sysrefOk,
      brefOk := t.brefOk, hrefOk := t.hrefOk, free := t.free }
    let d : Int := (n * 1000000000 : Nat) - (s.wt : Int)
    let edge : Prop := s.sysrefOk = true ∧ s.wall.frame = [] ∧ s.wall.expect = some n ∧ 180 ≤ w ∧ w ≤ 220
    let data : Prop := edge ∧ s.on ANG_WT_STAT_EPOCH = true
    (s.sysrefOk = true → answers (.snapshot) s fun t => keeps t ∧ (∀ b, b < s.bayCount → t.rd (ANG_SNAP_CNT_VALUE b) = s.rd (ANG_CNT_VALUE b)) ∧ t.rd ANG_SNAP_WT_NS = s.wt
        ∧ t = { s with regs := t.regs })
    ∧ (s.sysrefOk = true → answers (.racksyncHold) s fun t => keeps t ∧ t.on ANG_WT_STAT_HOLD = true ∧ ∀ r : Reg, r.addr ≠ ANG_WT_STAT_HOLD.reg.addr → t.reg r = s.reg r)
    ∧ (s.sysrefOk = true → s.wall.expect = none → s.wall.frame = [] → 780 ≤ w → w ≤ 820 → answers (.racksyncEdge w) s fun t => keeps t ∧ t.wall.frame = [.marker]
        ∧ t.on ANG_WT_STAT_HOLD = false ∧ t.wt = s.wt)
    ∧ (s.sysrefOk = true → s.wall.expect = none → s.wall.frame.length < 47 → (w < 180 ∨ 820 < w) → answers (.racksyncEdge w) s fun t => keeps t ∧ t.on ANG_WT_STAT_CRCERR = true ∧ t.wt = s.wt)
    ∧ (data → d.natAbs ≤ 1000 → answers (.racksyncEdge w) s fun t => keeps t ∧ t.wall.slew = d ∧ t.wt = s.wt ∧ t.wall.expect = some (n + 1))
    ∧ (data → 1000 < d → n * 1000000000 < 2 ^ 64 → answers (.racksyncEdge w) s fun t => keeps t ∧ t.wt = n * 1000000000 ∧ t.wall.slew = 0)
    ∧ (data → d < -1000 → answers (.racksyncEdge w) s fun t => keeps t ∧ t.wt = s.wt ∧ t.wall.slew = d ∧ t.on ANG_WT_STAT_SLEW = true)
    ∧ (edge → s.on ANG_WT_STAT_EPOCH = false → n * 1000000000 < 2 ^ 64 → answers (.racksyncEdge w) s fun t => keeps t ∧ t.wt = n * 1000000000 ∧ t.on ANG_WT_STAT_EPOCH = true)
    ∧ (answers (.clockLoss c) s fun t => keeps t ∧ t.regs = s.regs ∧ (c = .sysref → t.sysrefOk = false ∧ t.tick.wt = s.wt) ∧ (c = .brefclk → t.brefOk = false) ∧ (c = .hrefclk → t.hrefOk = false))
    ∧ (answers (.clockReturn c) s fun t => keeps t ∧ t.regs = s.regs ∧ (c = .sysref → t.sysrefOk = true ∧ (s.wall.slew = 0 → s.wall.slewAcc < 1000000 → s.wt + 1 < 2 ^ 64 →
        t.tick.wt = s.wt + 1)) ∧ (c = .brefclk → t.brefOk = true) ∧ (c = .hrefclk → t.hrefOk = true))
    ∧ (i.wf = true → (ofSysref i = true ∧ s.sysrefOk = false) ∨ (ofBrefclk i = true ∧ s.brefOk = false) ∨ (ofHrefclk i = true ∧ s.hrefOk = false) →
      answers i s fun t => t = s)

/-- O36. While the bay's unit runs and BREFCLK is present. DOWNSTREAM_FRAME on an operating link sends 960 bytes with TYPE
0xB4, SAFE_REQ, the next sequence number, the holds, at most six control words, at most three timed ones of an
actuator, and the CRC; where no more than three wait for an actuator, the first six in the order safety, timed,
re-sent, retried, new; to a bay not attached SAFE_REQ is set, no symbols, no phase hold and no write-gate opening or
laser level above 0 go out. In training it sends a training frame, otherwise nothing. MANAGED_WORD of a managed class
queues the word, or sets MWOVF with four or its TAG outstanding or the same word as last. MANAGED_WORD_RETRY repeats
the exact word until the retries are spent, then fails it with MWFAIL. A bad upstream frame on U0 counts and marks the
servo slot stale; a good one takes it, and its DNBAD counts towards lane D; a slip retrains. LANE_DOWN short of DOWNN
bad frames does nothing; at DOWNN it takes U1 down with the bay attached, or U0 or D and the attachment; with AUTORT
the link retrains (the state without it is the model's, log entry 98).
(R75, R76, R78, R84, R85, R86, R87, R94, R95, R102, R105, R121) -/
def Obligations.BeamFramesAndWords : Prop :=
  ∀ (s : State) (b : Bay) (w : Word) (tag : Fin 16) (f : UpFrame) (lane : Lane), s.brefOk = true →
    let keeps (t : State) : Prop := t = { s with
      regs := t.regs, beam := t.beam, slices := t.slices, out := t.out, sec := t.sec, lps := t.lps,
      stalled := t.stalled, free := t.free, vital := t.vital, ang := t.ang, scheds := t.scheds, bt := t.bt,
      servos := t.servos, spins := t.spins, life := t.life, hdas := t.hdas, cals := t.cals, energy := t.energy,
      va := t.va, jseqHeld := t.jseqHeld, red := t.red }
    let n := b.val
    let m := s.beamS n
    let runs : Prop := s.dom (64 + n) = 2 ∨ s.dom (64 + n) = 3
    let answering : Prop := s.dom (64 + n) = 1 ∨ s.dom (64 + n) = 2
    let st (s : State) : Nat := s.rd (BL_STAT_STATE n)
    let on : Prop := runs ∧ s.operating n = true
    let att := s.on (BL_CTL_ATTACHED n)
    let all := m.safety ++ m.timed ++ m.resend ++ m.mwRetry ++ m.mwNew
    let timedOf (l : List (BitVec 64)) (a : Nat) : Nat := (l.filter fun x => decide (ctlClass x < 8) && ctlAct x == a).length
    let frame (t : State) (w : List (BitVec 64)) : Prop := (t.beamS n).fsn = m.fsn + 1 ∧ ∃ l, t.out.head? = some (.downFrame n l) ∧ l.length = 960
      ∧ l.take 4 = [0xB4, if s.on (BL_CTL_SAFE_REQ n) || ! att then 0x80 else 0] ++ leBytes 2 m.fsn.toNat
      ∧ (l.drop 8).take 24 = halves 4 [m.vcm0, m.vcm1, m.ma0, m.ma1] ++ halves 4 (if att then [m.pa, m.pb, m.pc] else [0, 0, 0]) ++ List.replicate 8 0
      ∧ (l.drop 32).take 48 = (List.range 6).flatMap (fun i => leBytes 8 (w.getD i 0).toNat) ∧ (att = false → (l.drop 80).take 864 = List.replicate 864 0)
      ∧ l.drop 956 = leBytes 4 (crc32c (l.take 956)).toNat
    let fresh : Prop := m.mwOut.length < 4 ∧ (∀ p ∈ m.mwOut, p.1 ≠ ctlTag w) ∧ ∀ p ∈ m.mwLast, p.1 = ctlTag w → p.2 ≠ w
    let bad := match lane with | .u0 => m.bad0 | .u1 => m.bad1 | .d => m.badD
    let downN := max 8 (s.rd (BL_CTL_DOWNN n))
    let quiet : Prop := f.slip = false ∧ f.wsafe = false ∧ f.flt = false ∧ f.tlmValid = false ∧ f.responses = [] ∧ f.phase = [0, 0, 0, 0] ∧ m.upSeen = []
    (on → answers (.downstreamFrame b) s fun t => keeps t ∧ ∃ l, frame t l ∧ l.length ≤ 6 ∧ (∀ a, timedOf l a ≤ 3)
        ∧ (att = false → ∀ x ∈ l, x ∈ m.safety ∨ withheld x = false ∨ x ∈ m.mwRetry ∨ x ∈ m.mwNew))
    ∧ (on → att = true → (∀ a, timedOf all a ≤ 3) → (s.sliceS (2 * n)).sratePend = none → (s.sliceS (2 * n + 1)).sratePend = none →
      answers (.downstreamFrame b) s fun t => keeps t ∧ frame t (all.take 6) ∧ (t.beamS n).safety = m.safety.drop 6)
    ∧ (runs → (st s = blTrain ∨ st s = blMeasure → answers (.downstreamFrame b) s fun t => keeps t ∧ t = s.emit (.downFrame n trainingFrame))
      ∧ (s.operating n = false → st s ≠ blTrain → st s ≠ blMeasure → answers (.downstreamFrame b) s fun t => keeps t ∧ t = s))
    ∧ (answering → 8 ≤ ctlClass w → fresh → answers (.managedWord b w) s fun t => keeps t ∧ (t.beamS n).mwNew = m.mwNew ++ [w]
        ∧ (t.beamS n).mwOut.find? (fun p => p.1 == ctlTag w) = some (ctlTag w, { word := w })
        ∧ t.on (BL_STAT_MWFULL n) = decide (4 ≤ (t.beamS n).mwOut.length))
    ∧ (answering → 8 ≤ ctlClass w → ¬ fresh → answers (.managedWord b w) s fun t => keeps t ∧ t.on (BL_STAT_MWOVF n) = true ∧ t.beam = s.beam)
    ∧ (∀ o, runs → m.mwOut.find? (fun p => p.1 == tag.val) = some (tag.val, o) → (ctlClass o.word ≠ 10 ∨ ctlHead o.word ≠ 7) →
      (o.retries < max 1 (s.rd (BL_CTL_RETRY n)) → answers (.managedWordRetry b tag) s fun t => keeps t ∧ (t.beamS n).mwRetry = m.mwRetry ++ [o.word]
        ∧ (t.beamS n).mwOut = smPut m.mwOut tag.val { o with retries := o.retries + 1 } ∧ t.lps = s.lps)
      ∧ (max 1 (s.rd (BL_CTL_RETRY n)) ≤ o.retries → answers (.managedWordRetry b tag) s fun t => keeps t ∧ t.on (BL_STAT_MWFAIL n) = true
        ∧ (t.beamS n).mwOut = smErase m.mwOut tag.val ∧ o.word ∉ (t.beamS n).mwNew))
    ∧ (m.mwOut.find? (fun p => p.1 == tag.val) = none → answers (.managedWordRetry b tag) s fun t => keeps t ∧ t = s)
    ∧ (on → upGood f = false → f.slip = false → m.upSeen = [] → answers (.upstreamFrame b 0 f) s fun t => keeps t ∧ (t.beamS n).bad0 = m.bad0 + 1 ∧ (t.beamS n).servoStale0 = true
        ∧ (t.beamS n).servo0 = m.servo0 ∧ (t.beamS n).upSeen = [(f.fsn, false)]
        ∧ t.rd (BL_UPERR_COUNT n 0) = min (s.rd (BL_UPERR_COUNT n 0) + 1) (2 ^ (BL_UPERR_COUNT n 0).width - 1))
    ∧ (on → upGood f = true → quiet → answers (.upstreamFrame b 0 f) s fun t => keeps t ∧ (t.beamS n).bad0 = 0 ∧ (t.beamS n).servoStale0 = false ∧ (t.beamS n).servo0 = f.servo
        ∧ t.on (BL_STAT_U0UP n) = true ∧ t.on (BL_STAT_WSAFE n) = false ∧ (t.beamS n).badD = if f.dnbad then m.badD + 1 else 0)
    ∧ (on → f.slip = true → answers (.upstreamFrame b 0 f) s fun t => keeps t ∧ t.on (BL_STAT_SLIP n) = true ∧ st t = blTrain ∧ t.on (BL_CTL_ATTACHED n) = false)
    ∧ (s.operating n = false → answers (.upstreamFrame b 0 f) s fun t => keeps t ∧ t = s)
    ∧ ((s.operating n = false ∨ bad < downN) → answers (.laneDown b lane) s fun t => keeps t ∧ t = s)
    ∧ (on → downN ≤ bad → (lane = .u1 → answers (.laneDown b .u1) s fun t => keeps t ∧ t.on (BL_STAT_DOWN n) = true ∧ t.on (BL_STAT_U1UP n) = false ∧ t.on (BL_CTL_ATTACHED n) = att
        ∧ st t = if s.on (BL_CTL_AUTORT n) then blTrain else st s)
      ∧ (lane ≠ .u1 → answers (.laneDown b lane) s fun t => keeps t ∧ t.on (BL_STAT_DOWN n) = true ∧ t.on (if lane = .u0 then BL_STAT_U0UP n else BL_STAT_DUP n) = false
        ∧ t.on (BL_CTL_ATTACHED n) = false ∧ st t = if s.on (BL_CTL_AUTORT n) then blTrain else blIdent))

/-- O37. While the bay's unit runs. TRAINING_START on a bay of the part enters TRAIN with EN set, frame count 0 and no managed
word left, training frames on D. The lock step passes to MEASURE; the measured round trip within range sets RTT_RAW
and the pads; the exact position takes the identity block and enters IDENT. A failed step (no signal: cause 1; no
block lock: 2; no frame lock: 3; round trip out of range: 5) or a timeout (cause 4 in MEASURE, 2 or 1 in TRAIN: the
model's choice, log entry 98) starts the next attempt, or on the last one enters FAULT with the cause. ATTACH sets
ATTACHED and UP from IDENT, verified, with a contract, geometry and parking energy that fit; not verified it does
nothing; with a contract that does not fit it shows FCAUSE 6, with geometry that does not 7. Clearing it returns to
IDENT. LINK_DISABLE clears EN and ATTACHED and puts D in electrical idle. SIGNAL_DETECT shows PRESENT, and DETECT or
OFF while EN is 0. A first CHALLENGE_TIMEOUT counts a failure, a second sets AUTHFAIL.
(R100, R101, R104, R105, R106, R193) -/
def Obligations.LinkTrainingAndAttach : Prop :=
  ∀ (s : State) (b : Bay) (k : List Int) (i : List Nat) (turn : Nat) (id : BridgeId) (v x y : Bool), s.brefOk = true →
    let keeps (t : State) : Prop := t = { s with
      regs := t.regs, lps := t.lps, stalled := t.stalled, beam := t.beam, free := t.free, out := t.out,
      mem := t.mem, memErr := t.memErr, cache := t.cache, plru := t.plru, arrayErr := t.arrayErr,
      l1d := t.l1d, l1Err := t.l1Err, linked := t.linked, vital := t.vital, ang := t.ang, slices := t.slices,
      bt := t.bt, spins := t.spins, life := t.life, hdas := t.hdas, cals := t.cals, energy := t.energy,
      va := t.va, jseqHeld := t.jseqHeld, red := t.red }
    let n := b.val
    let m := s.beamS n
    let on : Prop := s.dom (64 + n) = 2
    let st := s.rd (BL_STAT_STATE n)
    let last : Prop := max 1 (s.rd (BL_CTL_TRIES n)) ≤ m.tries + 1
    let rtt := i.headD 0 - turn
    let ranged : Prop := agreeWithin1 (i.map Int.ofNat) = true ∧ agreeWithin1 k = true ∧ -3 ≤ k.headD 0 ∧ k.headD 0 ≤ 3
    let fails (t : State) (cause : Nat) : Prop := (last → t.rd (BL_STAT_STATE n) = blFault ∧ t.rd (BL_STAT_FCAUSE n) = cause)
      ∧ (¬ last → t.rd (BL_STAT_STATE n) = blTrain ∧ (t.beamS n).tries = m.tries + 1)
    let parks : Prop := s.parkEnergy (2 * n) m.id.vcmMa ≤ 76800000 ∧ s.parkEnergy (2 * n + 1) m.id.vcmMa ≤ 76800000
    let asks : Prop := on ∧ st = blIdent ∧ m.verified = true
    (on → n < s.bayCount → answers (.trainingStart b) s fun t => keeps t ∧ t.rd (BL_STAT_STATE n) = blTrain ∧ t.on (BL_CTL_EN n) = true ∧ (t.beamS n).fsn = 0
        ∧ (t.beamS n).mwOut = [] ∧ (t.beamS n).safety = [] ∧ t.out.head? = some (.laneD n true))
    ∧ (on → st = blTrain → (answers (.trainingStepDone b (.lock true true true)) s fun t => keeps t ∧ t.rd (BL_STAT_STATE n) = blMeasure)
      ∧ (answers (.trainingStepDone b (.lock false x y)) s fun t => keeps t ∧ fails t 1) ∧ (answers (.trainingStepDone b (.lock true false y)) s fun t => keeps t ∧ fails t 2) ∧ (answers (.trainingStepDone b (.lock true true false)) s fun t => keeps t ∧ fails t 3))
    ∧ (on → st = blMeasure → ranged → ((rtt + 1) / 2 ≤ 2250 → answers (.trainingStepDone b (.rtt i k turn)) s fun t => keeps t ∧ t.rd (BL_LAT_RTT_RAW n) = rtt
        ∧ t.rd (BL_PAD_PAD_DN n) = 2700 - rtt / 2 ∧ t.rd (BL_PAD_PAD_UP n) = 2700 - (rtt + 1) / 2 ∧ (t.beamS n).padSet = true)
      ∧ (2250 < (rtt + 1) / 2 → answers (.trainingStepDone b (.rtt i k turn)) s fun t => keeps t ∧ fails t 5))
    ∧ (on → st = blMeasure → m.padSet = true → answers (.trainingStepDone b (.pad true id)) s fun t => keeps t ∧ t.rd (BL_STAT_STATE n) = blIdent ∧ (t.beamS n).id = id
        ∧ (t.beamS n).fsn = 0 ∧ t.on (BL_STAT_U0UP n) = true ∧ t.on (BL_STAT_U1UP n) = true)
    ∧ (on → (st = blMeasure → answers (.trainingTimeout b) s fun t => keeps t ∧ fails t 4) ∧ (st = blTrain → answers (.trainingTimeout b) s fun t => keeps t ∧ fails t (if s.on (BL_STAT_PRESENT n) then 2 else 1))
      ∧ (st ≠ blTrain → st ≠ blMeasure → answers (.trainingTimeout b) s fun t => keeps t ∧ t = s))
    ∧ (asks → (contractOk m.id = true → s.geometryOk n m.id = true → parks → answers (.attach b true) s fun t => keeps t ∧ t.on (BL_CTL_ATTACHED n) = true ∧ t.rd (BL_STAT_STATE n) = blUp)
      ∧ (contractOk m.id = false → answers (.attach b true) s fun t => keeps t ∧ t.rd (BL_STAT_FCAUSE n) = 6 ∧ t.on (BL_CTL_ATTACHED n) = s.on (BL_CTL_ATTACHED n))
      ∧ (contractOk m.id = true → s.geometryOk n m.id = false → answers (.attach b true) s fun t => keeps t ∧ t.rd (BL_STAT_FCAUSE n) = 7 ∧ t.on (BL_CTL_ATTACHED n) = s.on (BL_CTL_ATTACHED n))
      ∧ (contractOk m.id = true → s.geometryOk n m.id = true → ¬ parks → answers (.attach b true) s fun t => keeps t ∧ t.regs = s.regs))
    ∧ ((m.verified = false ∨ st ≠ blIdent) → answers (.attach b true) s fun t => keeps t ∧ t = s)
    ∧ (on → st = blUp → answers (.attach b false) s fun t => keeps t ∧ t.on (BL_CTL_ATTACHED n) = false ∧ t.rd (BL_STAT_STATE n) = blIdent)
    ∧ (on → answers (.linkDisable b) s fun t => keeps t ∧ t.on (BL_CTL_EN n) = false ∧ t.on (BL_CTL_ATTACHED n) = false ∧ t.out.head? = some (.laneD n false)
        ∧ t.rd (BL_STAT_STATE n) = (if s.on (BL_STAT_PRESENT n) then blDetect else blOff) ∧ (t.beamS n).mwOut = [])
    ∧ (answers (.signalDetect b v) s fun t => keeps t ∧ t.on (BL_STAT_PRESENT n) = v ∧ t.rd (BL_STAT_STATE n) = (if s.on (BL_CTL_EN n) then st else if v then blDetect else blOff)
        ∧ ∀ r : Reg, r.addr ≠ (BL_STAT n).addr → t.reg r = s.reg r)
    ∧ ((m.challenge = none → answers (.challengeTimeout b) s fun t => keeps t ∧ t = s)
      ∧ (on → m.challenge.isSome → m.chalFails = 0 → answers (.challengeTimeout b) s fun t => keeps t ∧ (t.beamS n).challenge = none ∧ (t.beamS n).chalFails = 1
        ∧ t.on (BL_STAT_AUTHFAIL n) = s.on (BL_STAT_AUTHFAIL n))
      ∧ (on → m.challenge.isSome → 0 < m.chalFails → answers (.challengeTimeout b) s fun t => keeps t ∧ t.on (BL_STAT_AUTHFAIL n) = true ∧ (t.beamS n).challenge = none))

/-- O38. While slice k is ON and no operation waits for a Band Table fetch, with the completion lightpipe free: the media
command of the head entry's OP pops it. A descriptor with invalid fields completes with 0x0042 and counts as rejected;
one of a failed arm completes with 0x0046; a landing-zone operation that passes joins the queue; a band operation
whose entry is not cached joins it waiting for the fetch, one whose cached entry passes the checks joins it and counts
a hit, one that fails completes with the check's status; a CANCEL that names nothing queued or released completes with
0x0043. A command of another OP leaves a valid entry.
(R255, R256, R262, R274) -/
def Obligations.DescriptorsArePopped : Prop :=
  ∀ (s : State) (k : Slice) (e : Entry) (rest : List Entry) (i : Instr) (op : Nat) (l : BtLine) (c : Nat), s.sysrefOk = true → s.energy.trimming = false →
    let keeps (t : State) : Prop := t = { s with
      regs := t.regs, lps := t.lps, stalled := t.stalled, storeCorrected := t.storeCorrected,
      scheds := t.scheds, bt := t.bt, btClock := t.btClock, free := t.free }
    let q := s.schedS k.val
    let cmd : Prop := (i = .mediaRead k ∧ op = 1) ∨ (i = .mediaWrite k ∧ op = 2) ∨ (i = .mediaVerify k ∧ op = 3) ∨ (i = .mediaCancel k ∧ op = 4)
    let ready : Prop := s.dom k.val = 2 ∧ k.val < 2 * s.bayCount ∧ (∀ m ∈ q.queue, m.missing = false) ∧ (s.lp k.val).entries = e :: rest ∧ e.poison = false
      ∧ s.on MEM_BT_CTL_EN = true ∧ s.stalled = [] ∧ 0 < (s.lp (64 + k.val)).free
    let sound : Prop := ready ∧ cmd ∧ Desc.op e = op ∧ fieldsOk k.val e = true ∧ s.rd (PRZ_ARM_STATE k.val) ≠ 3
    let rejects (t : State) : Prop := t.rd (CS_SCH_REJ_COUNT k.val) = min (s.rd (CS_SCH_REJ_COUNT k.val) + 1) (2 ^ (CS_SCH_REJ_COUNT k.val).width - 1)
    let posted (t : State) (st : Nat) : Prop := (t.lp k.val).entries = rest ∧ (t.schedS k.val).queue = q.queue
      ∧ ∃ x : Entry, (t.lp (64 + k.val)).entries = (s.lp (64 + k.val)).entries ++ [x] ∧ x.at 0 64 = Desc.opid e ∧ x.at 64 16 = st
    let queued (t : State) (missing : Bool) : Prop := (t.lp k.val).entries = rest
      ∧ (t.schedS k.val).queue = q.queue ++ [{ desc := { e with ce := 0 }, since := s.now, missing := missing }]
      ∧ t.rd (CS_SCH_REJ_COUNT k.val) = s.rd (CS_SCH_REJ_COUNT k.val)
    let counts (t : State) (f : Fld) : Prop := t.rd f = min (s.rd f + 1) (2 ^ f.width - 1)
    let does (p : State → Prop) : Prop := answers i s fun t => keeps t ∧ p t
    (ready → cmd → (Desc.op e = op ∨ Desc.op e = 0 ∨ 4 < Desc.op e) → fieldsOk k.val e = false → does fun t => rejects t ∧ posted t 0x42)
    ∧ (ready → cmd → Desc.op e = op → fieldsOk k.val e = true → s.rd (PRZ_ARM_STATE k.val) = 3 → does fun t => rejects t ∧ posted t 0x46)
    ∧ (sound → op ≠ 4 → Desc.lz e = true →
      (s.lzPosition k.val e = true → does fun t => queued t false) ∧ (s.lzPosition k.val e = false → does fun t => rejects t ∧ posted t 0x42))
    ∧ (sound → op ≠ 4 → Desc.lz e = false → (s.btLine (Desc.band e) = none → does fun t => queued t true ∧ counts t MEM_BT_MISS_COUNT)
      ∧ (s.btLine (Desc.band e) = some l → s.bandChecks k.val e l.bytes true = none → does fun t => queued t false ∧ counts t MEM_BT_HIT_COUNT)
      ∧ (s.btLine (Desc.band e) = some l → s.bandChecks k.val e l.bytes true = some c → c < 2 ^ 16 → does fun t => rejects t ∧ posted t c))
    ∧ (sound → op = 4 → (∀ m ∈ q.queue, Desc.opid m.desc ≠ Desc.opid e) → q.released = none → does fun t => posted t 0x43)
    ∧ (ready → cmd → Desc.op e ≠ op → 1 ≤ Desc.op e → Desc.op e ≤ 4 → does fun t => t = s)

/-- O39. While slice k is ON: SCHEDULER_SELECT does nothing while an operation is released or the medium busy; with one
eligible operation queued whose checks pass, it is released where Aperture grants, and held where Aperture does not.
SLICE_HANDOVER does nothing with nothing released or off track; on track it takes the operation, which ends at once
with its start status where that is not 0, and where it is 0 a read or verify begins with every sector still to come.
BT_FETCH of an entry that fails its check completes the operation with 0x0044; of a good one the operation joins the
queue. SERVICE_TIME_HALVING halves the totals of every scheduler.
(R110, R128, R129, R241, R257, R258, R262, R264) -/
def Obligations.OperationsAreSelectedAndHandedOver : Prop :=
  ∀ (s : State) (k : Slice) (m : MediaOp), s.sysrefOk = true → s.energy.trimming = false →
    let keeps (t : State) : Prop := t = { s with
      regs := t.regs, lps := t.lps, stalled := t.stalled, scheds := t.scheds, bt := t.bt, btClock := t.btClock,
      energy := t.energy, hie := t.hie, mem := t.mem, memErr := t.memErr, cache := t.cache, plru := t.plru,
      arrayErr := t.arrayErr, l1d := t.l1d, l1Err := t.l1Err, ang := t.ang, beam := t.beam, slices := t.slices,
      free := t.free, linked := t.linked }
    let n := k.val
    let q := s.schedS n
    let e := m.desc
    let one : Prop := s.dom n = 2 ∧ s.maySelect n = true ∧ q.queue = [m] ∧ s.eligible n m = true ∧ s.checkDesc n e false = .passes
    let granted := (s.aperture (Desc.op e - 1) (Desc.cls e) (Desc.count e)).1
    let onTrack : Prop := s.dom n = 2 ∧ q.released = some m ∧ s.on (SRV_STAT_ONTRK n) = true ∧ (s.servoS n).target = Desc.track e
      ∧ (s.servoS n).head = Desc.head e ∧ s.mediaIdle n = true
    let takes (t : State) (p : SliceOp → Prop) : Prop := (t.schedS n).released = none ∧ t.on (CS_STAT_BUSY n) = true
      ∧ ∃ o, (t.sliceS n).ops = (s.sliceS n).ops ++ [o] ∧ o.desc = e ∧ o.sectors = List.replicate (Desc.count e) .todo ∧ p o
    let r := s.btFetchEntry (Desc.band e)
    let arrives : Prop := (s.dom n = 2 ∨ s.dom n = 3) ∧ s.missingOp n = some m ∧ m.missing = true ∧ m ∈ q.queue
    (s.maySelect n = false → answers (.schedulerSelect k) s fun t => keeps t ∧ t = s)
    ∧ (one → granted = true → answers (.schedulerSelect k) s fun t => keeps t ∧ (t.schedS n).queue = [] ∧ (t.schedS n).released = some { m with held := false }
        ∧ (t.schedS n).releasedAt = s.now)
    ∧ (one → granted = false → answers (.schedulerSelect k) s fun t => keeps t ∧ (t.schedS n).queue = [{ m with held := true }] ∧ (t.schedS n).released = none
        ∧ t.on (CS_SCH_STAT_HELD n) = true)
    ∧ ((q.released = none ∨ (s.on (SRV_STAT_ONTRK n) = false)) → answers (.sliceHandover k) s fun t => keeps t ∧ t = s)
    ∧ (onTrack → s.startStatus n e ≠ 0 → answers (.sliceHandover k) s fun t => keeps t ∧ takes t fun o => o.ended = true ∧ o.status = s.startStatus n e)
    ∧ (onTrack → s.startStatus n e = 0 → Desc.op e ≠ 2 → answers (.sliceHandover k) s fun t => keeps t ∧ takes t fun o => o.ended = false ∧ o.status = 0 ∧ o.fmt = s.opFmt n e)
    ∧ (s.missingOp n = none → answers (.btFetch k) s fun t => keeps t ∧ t = s)
    ∧ (arrives → r.1 = .failed → s.stalled = [] → 0 < (s.lp (64 + n)).free → answers (.btFetch k) s fun t => keeps t ∧ (t.schedS n).queue = q.queue.erase m
        ∧ ∃ x : Entry, (t.lp (64 + n)).entries = (s.lp (64 + n)).entries ++ [x] ∧ x.at 0 64 = Desc.opid e ∧ x.at 64 16 = 0x44)
    ∧ (arrives → r.1 = .cached → r.2.checkDesc n e true = .passes → answers (.btFetch k) s fun t => keeps t ∧ (t.schedS n).queue = q.queue.erase m ++ [{ m with missing := false }])
    ∧ (answers (.serviceTimeHalving) s fun t => keeps t ∧ ∀ j, j < 2 * s.bayCount → (t.schedS j).serv0 = (s.schedS j).serv0 / 2 ∧ (t.schedS j).serv2 = (s.schedS j).serv2 / 2
        ∧ (t.schedS j).serv3 = (s.schedS j).serv3 / 2 ∧ (t.schedS j).queue = (s.schedS j).queue)

/-- O40. While slice k runs, for a VERIFY o in progress with SRC = WEDGE and samples taken: a next sector that decodes (R131)
with its band and index is good; one that decodes with other metadata is reread once; one that does not is deferred
where a slot is free and fails otherwise. A deferred one that decodes within DEF_ITER is good at step 1, else it
fails. RETRY_STEP runs the next step and adds its revolutions, or with no step left makes every failing sector
unreadable. NO_ANGLE_TIMEOUT ends a read that waits for the angle with 0x0016. SLICE_COMPLETION of a finished read or
verify posts OPID and the highest status and frees the operation. With nothing in progress each does nothing.
(R130, R131, R132, R133, R134, R135, R137) -/
def Obligations.SlicesReadAndComplete : Prop :=
  ∀ (s : State) (k : Slice) (r : SectorRead) (i : Nat) (d : List Byte) (init rest : List SliceOp) (o : SliceOp) (rs : List SectorRead), s.sysrefOk = true →
    let keeps (t : State) : Prop := t = { s with
      regs := t.regs, lps := t.lps, stalled := t.stalled, mem := t.mem, memErr := t.memErr,
      cache := t.cache, plru := t.plru, arrayErr := t.arrayErr, l1d := t.l1d, l1Err := t.l1Err, linked := t.linked,
      ang := t.ang, slices := t.slices, free := t.free, beam := t.beam, cals := t.cals, scheds := t.scheds,
      bt := t.bt, btClock := t.btClock, red := t.red, out := t.out }
    let n := k.val
    let ops := (s.sliceS n).ops
    let runs : Prop := s.dom n = 2 ∨ s.dom n = 3
    let lim := s.otfIters n
    let next : Prop := runs ∧ ops = init ++ [o] ∧ o.ended = false ∧ Desc.op o.desc = 3 ∧ o.cut = false ∧ s.rd (ANG_STAT_SRC (bayOf n)) = 2
      ∧ (s.sliceS n).samples ≠ [] ∧ o.sectors.findIdx? (· == .todo) = some i ∧ SectorSt.reread ∉ o.sectors ∧ i ∉ o.misdir
    let right : Prop := leNat ((d.drop 4112).take 4) = Desc.band o.desc ∧ leNat ((d.drop 4116).take 4) = (Desc.index o.desc + i) % 2 ^ 32
    let o1 : SliceOp := { o with iters := max o.iters (min lim r.iters) }
    let free : Prop := ∃ m, m < s.deferSlots n ∧ ∀ p ∈ s.deferLive n, p.1 ≠ m
    let defIter := s.rd (CS_DEC_DEF_ITER n)
    let o2 : SliceOp := { o with iters := max o.iters (min defIter r.iters), step := max o.step 1 }
    let deferred : Prop := runs ∧ ops = o :: rest ∧ Desc.op o.desc = 3 ∧ o.sectors.getD i .todo = .deferred
    let step := max o.step 1 + 1
    let stepLeft : Prop := step ≤ s.maxStep n o ∧ o.revs + stepRevs step ≤ max 1 (s.rd (CS_RETRY_MAXREV n))
    ((s.nextSector n = none → answers (.sectorDecode k r) s fun t => keeps t ∧ t = s) ∧ (s.curOp n = none → answers (.noAngleTimeout k) s fun t => keeps t ∧ t = s))
    ∧ (next → o.sectorBytes i lim r = some d → right → answers (.sectorDecode k r) s fun t => keeps t ∧ (t.sliceS n).ops = init ++ [{ o1 with sectors := o.sectors.set i (.good 0) }]
        ∧ (t.sliceS n).samples = [])
    ∧ (next → o.sectorBytes i lim r = some d → ¬ right → (s.slot (bayOf n) (sliceSlot n 7)).armed = true →
      answers (.sectorDecode k r) s fun t => keeps t ∧ (t.sliceS n).ops = init ++ [{ o1 with sectors := o.sectors.set i .reread, misdir := i :: o.misdir }])
    ∧ (next → o.sectorBytes i lim r = none → s.maxStep n o ≠ 0 → (free → answers (.sectorDecode k r) s fun t => keeps t ∧ (t.sliceS n).ops = init ++
        [{ o1 with sectors := o.sectors.set i .deferred, usedDefer := true }] ∧ ∃ m, (m, o.serial, i) ∈ (t.sliceS n).defer)
      ∧ (¬ free → answers (.sectorDecode k r) s fun t => keeps t ∧ (t.sliceS n).ops = init ++ [{ o1 with sectors := o.sectors.set i .failing }]))
    ∧ (next → o.sectorBytes i lim r = none → s.maxStep n o = 0 → o.stopped = false →
      answers (.sectorDecode k r) s fun t => keeps t ∧ (t.sliceS n).ops = init ++ [{ o1 with sectors := o.sectors.set i .unreadable }])
    ∧ (s.deferredOp n i = none → answers (.deferredDecode k i r) s fun t => keeps t ∧ t = s)
    ∧ (deferred → (o.sectorBytes i defIter r = none → answers (.deferredDecode k i r) s fun t => keeps t ∧ (t.sliceS n).ops = { o2 with sectors := o.sectors.set i .failing } :: rest)
      ∧ (o.sectorBytes i defIter r = some d → right → answers (.deferredDecode k i r) s fun t => keeps t ∧ (t.sliceS n).ops = { o2 with sectors := o.sectors.set i (.good 1) } :: rest))
    ∧ (s.retryOp n = none → answers (.retryStep k rs) s fun t => keeps t ∧ t = s)
    ∧ (runs → s.retryOp n = some 0 → ops = o :: rest → o.cut = false → o.stopped = false → Desc.op o.desc = 3 →
      (stepLeft → answers (.retryStep k rs) s fun t => keeps t ∧ ∃ x, (t.sliceS n).ops.head? = some x ∧ x.desc = o.desc ∧ x.step = step ∧ x.revs = o.revs + stepRevs step)
      ∧ (¬ stepLeft → answers (.retryStep k rs) s fun t => keeps t ∧ ∃ x, (t.sliceS n).ops = x :: rest ∧ x.sectors.length = o.sectors.length
        ∧ ∀ j, x.sectors.getD j .todo = if o.sectors.getD j .todo = .failing then .unreadable else o.sectors.getD j .todo))
    ∧ (runs → ops = init ++ [o] → o.ended = false → Desc.op o.desc ≠ 2 → o.lostAt.isSome → s.rd (ANG_STAT_SRC (bayOf n)) ≠ 2 →
      answers (.noAngleTimeout k) s fun t => keeps t ∧ (t.sliceS n).ops = init ++ [{ o with ended := true, status := max o.status 0x16 }] ∧ (t.sliceS n).readGate = false)
    ∧ (ops = [] → answers (.sliceCompletion k) s fun t => keeps t ∧ t = s)
    ∧ (runs → ops = o :: rest → (∀ x ∈ ops, x.cut = false) → s.opReady n o = true → Desc.op o.desc ≠ 2 → s.stalled = [] → 0 < (s.lp (64 + n)).free →
      answers (.sliceCompletion k) s fun t => keeps t ∧ (t.sliceS n).ops = rest ∧ ∃ x : Entry, (t.lp (64 + n)).entries = (s.lp (64 + n)).entries ++ [x] ∧ x.at 0 64 = Desc.opid o.desc
        ∧ x.at 64 16 = o.finalStatus % 2 ^ 16)

/-- O41. For a Facet that runs, its unit working and SYSREF present, with no cause to take, words without error, and a nanoword
without SWP and BRK. One without MRET whose WAIT, if set, finds its condition true: NEXT, RET, LOOP, BR, JMP and CALL
in incrementer mode and GOTO, BRT, LOOP and DISPATCH in next-address mode move micro-PC, LC and stack as R142 and R143
say (LC takes LCV with LCLD), in one cycle. A WAIT whose condition is false holds: WAITING is set, micro-PC, LC and
stack stay. With MRET in a handler, micro-PC and LC return from the shadow frame and TRAPACT clears, whatever SEQ
says. A word that asks for another operation is not executed by the command of this one; a CALL on four entries or RET
on none, an illegal word, and MRET outside a handler raise causes 3 and 2 and are not executed.
(R142, R143, R144, R149, R150, R151) -/
def Obligations.FacetSequencing : Prop :=
  ∀ (s : State) (f : FacetId) (env : FacetEnv), s.sysrefOk = true →
    let keeps (t : State) : Prop := t = { s with
      regs := t.regs, lps := t.lps, stalled := t.stalled, storeCorrected := t.storeCorrected,
      mem := t.mem, memErr := t.memErr, cache := t.cache, plru := t.plru, arrayErr := t.arrayErr,
      l1d := t.l1d, l1Err := t.l1Err, vital := t.vital, ang := t.ang, beam := t.beam, slices := t.slices,
      scheds := t.scheds, bt := t.bt, btClock := t.btClock, facets := t.facets, servos := t.servos,
      spins := t.spins, life := t.life, hdas := t.hdas, cals := t.cals, energy := t.energy, va := t.va,
      jseqHeld := t.jseqHeld, red := t.red, free := t.free, out := t.out }
    let v := s.fct f
    let blk := facetBase f
    let b := s.activeBank f
    let w := b.microAt v.upc.toNat
    let n := b.nanoAt (microNp w)
    let kind := seqKind b.na w
    let ready : Prop := (s.dom (facetDom f) = 2 ∨ s.dom (facetDom f) = 3) ∧ s.fctRuns f = true ∧ s.takeable f = none ∧ b.errAt v.upc.toNat = 0
      ∧ b.errAt (1024 + microNp w) = 0
    let cond := s.condition f env (nanoTsel n) ^^ nanoTinv n
    let plain : Prop := ready ∧ nanoMret n = false ∧ nanoSwp n = false ∧ nanoBrk n = false
    let does (i : Instr) (p : State → Prop) : Prop := answers i s fun t => keeps t ∧ p t
    let goes (i : Instr) (k : SeqKind) (pc : BitVec 10) (lc : BitVec 8) (st : List (BitVec 10)) : Prop := plain → (nanoWait n = true → cond = true) →
      kind = k → stackOk k v.stack.length = true → does i fun t => (t.fct f).upc = pc ∧ (t.fct f).lc = (if nanoLcld n then nanoLcv n else lc)
        ∧ (t.fct f).stack = st ∧ t.rd (FCT_CYC_COUNT blk) = (s.rd (FCT_CYC_COUNT blk) + 1) % 2 ^ (FCT_CYC_COUNT blk).width
    let a := seqLow w
    let all : List (Instr × SeqKind) := [(.facetNext f env, .next), (.facetRet f env, .ret), (.facetLoop f env, .loop), (.facetBr f env, .br),
      (.facetJmp f env, .jmp), (.facetCall f env, .call), (.facetGoto f env, .goto), (.facetBrt f env, .brt), (.facetNaLoop f env, .naLoop),
      (.facetDispatch f env, .dispatch)]
    let raises (i : Instr) (c : Nat) : Prop := does i fun t => t.rd (FCT_TPEND_PEND blk) = s.rd (FCT_TPEND_PEND blk) ||| 2 ^ c ∧ (t.fct f).upc = v.upc
    (goes (.facetNext f env) .next (v.upc + 1) v.lc v.stack)
    ∧ (goes (.facetRet f env) .ret (v.stack.headD 0) v.lc v.stack.tail)
    ∧ (goes (.facetLoop f env) .loop (if v.lc ≠ 0 then v.upc - (w.extractLsb' 0 8).zeroExtend 10 else v.upc + 1) (if v.lc ≠ 0 then v.lc - 1 else v.lc) v.stack)
    ∧ (goes (.facetBr f env) .br (if cond then v.upc + a else v.upc + 1) v.lc v.stack)
    ∧ (goes (.facetJmp f env) .jmp a v.lc v.stack)
    ∧ (goes (.facetCall f env) .call a v.lc ((v.upc + 1) :: v.stack))
    ∧ (goes (.facetGoto f env) .goto a v.lc v.stack)
    ∧ (goes (.facetBrt f env) .brt (if cond then a else v.upc + 1) v.lc v.stack)
    ∧ (goes (.facetNaLoop f env) .naLoop (if v.lc ≠ 0 then a else v.upc + 1) (if v.lc ≠ 0 then v.lc - 1 else v.lc) v.stack)
    ∧ (goes (.facetDispatch f env) .dispatch (w.extractLsb' 4 6 ++ s.dispatchSource f env (nanoTsel n)) v.lc v.stack)
    ∧ (∀ p ∈ all, plain → kind = p.2 → stackOk kind v.stack.length = true → nanoWait n = true → cond = false → does p.1 fun t =>
      t.on (FCT_STAT_WAITING blk) = true ∧ (t.fct f).upc = v.upc ∧ (t.fct f).lc = v.lc ∧ (t.fct f).stack = v.stack)
    ∧ (∀ p ∈ all, ready → kind = p.2 → nanoMret n = true → s.on (FCT_STAT_TRAPACT blk) = true → nanoWait n = false → nanoSwp n = false → nanoBrk n = false →
      kind ≠ .illegal → does p.1 fun t => (t.fct f).upc = BitVec.ofNat 10 (s.rd (FCT_SHADOW_UPC blk)) ∧ (t.fct f).stack = v.stack
        ∧ (t.fct f).lc = BitVec.ofNat 8 (s.rd (FCT_SHADOW_LC blk)) ∧ t.on (FCT_STAT_TRAPACT blk) = false)
    ∧ (∀ p ∈ all, plain → kind ≠ .illegal → kind ≠ p.2 → does p.1 fun t => t = s)
    ∧ (∀ p ∈ all, ready → s.on (FCT_STAT_TRAPACT blk) = false → (kind = .illegal ∨ nanoMret n = true → raises p.1 2)
      ∧ (nanoMret n = false → kind = p.2 → stackOk kind v.stack.length = false → raises p.1 3))

/-- O42. For a Facet of the part in a working domain with SYSREF present. MICRO_TRAP takes the lowest cause that may be taken:
shadow micro-PC, TRAPACT, vector 0x3F0 + n. FACET_WATCHDOG raises cause 6 after LIMIT cycles, DOORBELL cause 7 with
ATTN. FACET_SCRUB of a clean word only moves on; of one with a single error it corrects and counts it; of an
uncorrectable one marks it. A store-window write changes the word of the standby bank and its check bits, never the
active one, and is refused with LDERR while busy or armed. Clearing and verifying set BUSY, their ends leave zero
words and the CRC. Arming a switch of a Facet that is not running switches at once, of a running one at a WAIT word
with SWP, to ENTRY. RUN_START starts at FCT_START, RUN_HALT halts with cause 2.
(R149, R150, R153, R155, R157, R159, R160, R161, R162, R163) -/
def Obligations.FacetTrapsStoresAndSwitching : Prop :=
  ∀ (s : State) (f : FacetId) (off : BitVec 14) (x : BitVec 32) (e : BitVec 10) (i : Nat), s.sysrefOk = true →
    let keeps (t : State) : Prop := t = { s with
      regs := t.regs, facets := t.facets, lps := t.lps, stalled := t.stalled, free := t.free,
      vital := t.vital, ang := t.ang, beam := t.beam, slices := t.slices, scheds := t.scheds, bt := t.bt,
      servos := t.servos, spins := t.spins, life := t.life, hdas := t.hdas, cals := t.cals, energy := t.energy,
      va := t.va, jseqHeld := t.jseqHeld, red := t.red, out := t.out }
    let v := s.fct f
    let blk := facetBase f
    let b := s.activeBank f
    let n := b.nanoAt (microNp (b.microAt v.upc.toNat))
    let up : Prop := s.dom (facetDom f) = 2 ∧ s.facetOk f = true
    let idle : Prop := s.on (FCT_STAT_BUSY blk) = false ∧ s.on (FCT_SWAP_ARM blk) = false
    let key := v.scrubAt % 1280
    let counted := if key < 1024 then FCT_ECC_MCE blk else FCT_ECC_NCE blk
    let m := (off.toNat - 0x1000) / 4
    let j := (off.toNat - 0x2000) / 16
    (up → s.fctRuns f = true → s.takeable f = some i → answers (.microTrap f) s fun t => keeps t ∧ (t.fct f).upc = BitVec.ofNat 10 (0x3F0 + i) ∧ t.on (FCT_STAT_TRAPACT blk) = true
        ∧ t.rd (FCT_SHADOW_UPC blk) = v.upc.toNat ∧ t.rd (FCT_SHADOW_LC blk) = v.lc.toNat ∧ t.rd (FCT_STAT_LASTTRAP blk) = i)
    ∧ (s.takeable f = none → answers (.microTrap f) s fun t => keeps t ∧ t = s)
    ∧ (up → s.fctRuns f = true → 0 < s.rd (FCT_WDOG_LIMIT blk) → s.rd (FCT_WDOG_LIMIT blk) ≤ v.sinceSafe →
      answers (.facetWatchdog f) s fun t => keeps t ∧ t.rd (FCT_TPEND_PEND blk) = s.rd (FCT_TPEND_PEND blk) ||| 64)
    ∧ (v.sinceSafe < s.rd (FCT_WDOG_LIMIT blk) → answers (.facetWatchdog f) s fun t => keeps t ∧ t = s)
    ∧ (up → answers (.doorbell f) s fun t => keeps t ∧ t.on (FCT_CTL_ATTN blk) = true ∧ t.rd (FCT_TPEND_PEND blk) = s.rd (FCT_TPEND_PEND blk) ||| 128)
    ∧ (up → (answers (.facetScrub f .uncorrectable) s fun t => keeps t ∧ (t.activeBank f).errAt key = 2 ∧ t.on (FCT_ECCADDR_UE blk) = true ∧ (t.activeBank f).micro = b.micro)
      ∧ (b.errAt key = 0 → answers (.facetScrub f .clean) s fun t => keeps t ∧ (t.fct f).scrubAt = (key + 1) % 1280 ∧ t.activeBank f = b ∧ t.lps = s.lps)
      ∧ (b.errAt key = 0 ∨ b.errAt key = 1 → answers (.facetScrub f .correctable) s fun t => keeps t ∧ (t.activeBank f).errAt key = 0 ∧ (t.activeBank f).microAt = b.microAt
        ∧ t.rd counted = min (s.rd counted + 1) (2 ^ counted.width - 1)))
    ∧ (up → idle → 0x1000 ≤ off.toNat → off.toNat < 0x2000 → answers (.storeWindowWrite f off x) s fun t => keeps t ∧ t.activeBank f = b
        ∧ (t.standbyBank f).microAt m = x.setWidth 20 ∧ (t.standbyBank f).errAt m = 0
        ∧ ∀ l, l ≠ m → (t.standbyBank f).microAt l = (s.standbyBank f).microAt l)
    ∧ (up → idle → 0x2000 ≤ off.toNat → off.toNat < 0x3000 → off.toNat / 4 % 4 ≠ 3 → answers (.storeWindowWrite f off x) s fun t => keeps t ∧ t.activeBank f = b ∧
      ((t.standbyBank f).nanoAt j).extractLsb' (32 * (off.toNat / 4 % 4)) 32 = x ∧ ∀ l, l ≠ j → (t.standbyBank f).nanoAt l = (s.standbyBank f).nanoAt l)
    ∧ (up → ¬ idle → answers (.storeWindowWrite f off x) s fun t => keeps t ∧ t.on (FCT_STAT_LDERR blk) = true ∧ t.facets = s.facets)
    ∧ (up → s.on (FCT_STAT_BUSY blk) = false → (answers (.facetClear f) s fun t => keeps t ∧ t.on (FCT_STAT_BUSY blk) = true ∧ (t.fct f).clearing = true)
      ∧ (answers (.facetVerify f) s fun t => keeps t ∧ t.on (FCT_STAT_BUSY blk) = true ∧ (t.fct f).verifying = true))
    ∧ (up → v.clearing = true → answers (.facetClearDone f) s fun t => keeps t ∧ t.activeBank f = b ∧ t.on (FCT_STAT_BUSY blk) = false
        ∧ ∀ l, (t.standbyBank f).microAt l = 0 ∧ (t.standbyBank f).nanoAt l = 0 ∧ (t.standbyBank f).errAt l = 0)
    ∧ (up → v.verifying = true → answers (.facetVerifyDone f) s fun t => keeps t ∧ t.rd (FCT_VCRC_CRC blk) = (crc32c (bankBytes (s.standbyBank f))).toNat ∧ t.on (FCT_STAT_BUSY blk) = false)
    ∧ (up → s.fctRuns f = true → answers (.swapArm f true e) s fun t => keeps t ∧ t.on (FCT_SWAP_ARM blk) = true ∧ t.rd (FCT_SWAP_ENTRY blk) = e.toNat ∧ t.facets = s.facets)
    ∧ (up → s.fctRuns f = false → answers (.swapArm f true e) s fun t => keeps t ∧ t.on (FCT_STAT_BANK blk) = (! s.on (FCT_STAT_BANK blk)) ∧ t.on (FCT_SWAP_ARM blk) = false
        ∧ (t.fct f).upc = v.upc ∧ t.on (FCT_STAT_NAMODE blk) = s.on (FCT_CTL_NAMODE blk))
    ∧ (up → s.fctRuns f = true → s.on (FCT_STAT_WAITING blk) = true → nanoWait n = true → nanoSwp n = true → s.on (FCT_SWAP_ARM blk) = true →
      s.on (FCT_STAT_TRAPACT blk) = false → answers (.bankSwitch f) s fun t => keeps t ∧ t.on (FCT_STAT_BANK blk) = (! s.on (FCT_STAT_BANK blk))
        ∧ (t.fct f).upc = BitVec.ofNat 10 (s.rd (FCT_SWAP_ENTRY blk)) ∧ t.on (FCT_SWAP_ARM blk) = false ∧ (t.fct f).stack = [])
    ∧ (s.on (FCT_STAT_WAITING blk) = false → answers (.bankSwitch f) s fun t => keeps t ∧ t = s)
    ∧ (up → s.fctRuns f = false → answers (.runStart f) s fun t => keeps t ∧ (t.fct f).upc = BitVec.ofNat 10 (s.rd (FCT_START_ADDR blk)) ∧ t.on (FCT_CTL_RUN blk) = true
        ∧ t.on (FCT_STAT_HALT blk) = false ∧ (t.fct f).lc = 0 ∧ (t.fct f).stack = [])
    ∧ (up → s.on (FCT_CTL_RUN blk) = true → s.on (FCT_STAT_HALT blk) = false → answers (.runHalt f) s fun t => keeps t ∧ t.on (FCT_CTL_RUN blk) = false ∧ t.on (FCT_STAT_HALT blk) = true
        ∧ t.rd (FCT_STAT_HCAUSE blk) = 2)
    ∧ (s.on (FCT_CTL_RUN blk) = false → answers (.runHalt f) s fun t => keeps t ∧ t = s)

/-- O43. While the bay's unit works and SYSREF is present. With the engine free: a SEEK on an ACTIVE actuator makes the entry's
track the target and stays in progress, OFFSET sets the offset, PARK starts a park with reason 1, LOAD on a PARKED
actuator with the spindle in its window enters LOADING; a SEEK on a PARKED one completes with PARKED, an entry of
another OP stays. SERVO_RESULT pushes the oldest result to LP 224 + b. SEEK_TIMEOUT completes a SEEK or OFFSET with
TIMEOUT and keeps the target, LOAD_TIMEOUT a LOAD with LOAD_FAIL and parks with reason 8; no good sample within REACQ
parks with 6. A park request on a PARKED actuator does nothing; parks run a data phase, a ramp phase, and end PARKED
with VCM hold 0. GAIN_COPY copies the 32 staged words while disabled and waits while enabled. SERVO_ENABLE needs
rising zone boundaries; clearing it while ACTIVE parks first.
(R177, R181, R182, R183, R184, R190, R191, R192, R194) -/
def Obligations.ServoEntriesParksAndGains : Prop :=
  ∀ (s : State) (k : Slice) (e : Entry) (rest : List Entry) (r : Entry) (rs : List Entry) (set : BitVec 6), s.sysrefOk = true →
    let keeps (t : State) : Prop := t = { s with
      regs := t.regs, lps := t.lps, stalled := t.stalled, storeCorrected := t.storeCorrected,
      vital := t.vital, ang := t.ang, beam := t.beam, slices := t.slices, scheds := t.scheds, bt := t.bt,
      servos := t.servos, life := t.life, hdas := t.hdas, cals := t.cals, energy := t.energy, va := t.va,
      jseqHeld := t.jseqHeld, red := t.red, free := t.free, out := t.out, btClock := t.btClock }
    let n := k.val
    let v := s.servoS n
    let on : Prop := s.dom (64 + n / 2) = 2
    let st (s : State) : Nat := s.rd (SRV_STAT_ST n)
    let e1 : Entry := { e with ce := 0 }
    let popped (op : Nat) : Prop := on ∧ s.on (SRV_CTL_EN n) = true ∧ v.entry = none ∧ v.results = [] ∧ (s.lp (128 + n)).entries = e :: rest ∧ e.poison = false
      ∧ e.at 64 8 = op ∧ s.badServoEntry n e = false
    let ended (t : State) (status : Nat) : Prop := (t.servoS n).entry = none ∧ ∃ x : Entry, (t.servoS n).results = v.results ++ [x] ∧ x.at 80 16 = status
    let parks (t : State) (reason : Nat) : Prop := st t = 3 ∧ t.rd (SRV_STAT_PREASON n) = reason ∧ (t.servoS n).park = some .data ∧ t.on (SRV_STAT_WINH n) = true
    let rising : Prop := s.rd (SRV_ZB_TRACK n 0) < s.rd (SRV_ZB_TRACK n 1) ∧ s.rd (SRV_ZB_TRACK n 1) < s.rd (SRV_ZB_TRACK n 2)
    (popped 1 → (st s = 2 → answers (.servoSeek k) s fun t => keeps t ∧ (t.servoS n).target = e.at 96 24 ∧ (t.servoS n).entry = some e1 ∧ t.on (SRV_STAT_BUSY n) = true ∧ st t = 2)
      ∧ (st s = 0 → answers (.servoSeek k) s fun t => keeps t ∧ ended t 0x12 ∧ st t = 0) ∧ answers (.servoPark k) s fun t => keeps t ∧ t = s)
    ∧ (popped 2 → st s = 2 → answers (.servoOffset k) s fun t => keeps t ∧ (t.servoS n).offset = entryOffset e ∧ (t.servoS n).target = v.target ∧ (t.servoS n).entry = some e1)
    ∧ (popped 3 → st s = 2 → answers (.servoPark k) s fun t => keeps t ∧ parks t 1 ∧ (t.servoS n).entry = some e1)
    ∧ (popped 4 → st s = 0 → s.on (SPN_STAT_INWIN (bayOf n)) = true → answers (.servoLoad k) s fun t => keeps t ∧ st t = 1 ∧ (t.servoS n).entry = some e1 ∧ (t.servoS n).target = e.at 96 24
        ∧ (t.servoS n).lock = false)
    ∧ (s.servoFree n = false → (answers (.servoSeek k) s fun t => keeps t ∧ t = s) ∧ (answers (.servoOffset k) s fun t => keeps t ∧ t = s) ∧ (answers (.servoPark k) s fun t => keeps t ∧ t = s) ∧ (answers (.servoLoad k) s fun t => keeps t ∧ t = s))
    ∧ (on → v.results = r :: rs → s.stalled = [] → 0 < (s.lp (224 + bayOf n)).free → answers (.servoResult k) s fun t => keeps t ∧ (t.servoS n).results = rs
        ∧ (t.lp (224 + bayOf n)).entries = (s.lp (224 + bayOf n)).entries ++ [r] ∧ t.on (SRV_STAT_BUSY n) = (v.entry.isSome || ! rs.isEmpty))
    ∧ (on → v.entry = some e → e.at 64 8 = 1 ∨ e.at 64 8 = 2 → (s.schedS n).released = none → answers (.seekTimeout k) s fun t => keeps t ∧ ended t 0x11 ∧ (t.servoS n).target = v.target)
    ∧ (on → v.entry = some e → e.at 64 8 = 4 → v.fromPark = true → st s = 1 → answers (.loadTimeout k) s fun t => keeps t ∧ ended t 0x13 ∧ parks t 8)
    ∧ (on → st s = 2 → (v.reacqSince.isSome → answers (.servoReacqTimeout k) s fun t => keeps t ∧ parks t 6) ∧ (v.reacqSince = none → answers (.servoReacqTimeout k) s fun t => keeps t ∧ t = s))
    ∧ ((st s = 0 → answers (.parkRequest k) s fun t => keeps t ∧ t = s) ∧ (on → st s = 2 → answers (.parkRequest k) s fun t => keeps t ∧ parks t 1 ∧ t.on (SRV_CTL_PARK n) = true))
    ∧ (on → v.park = some .data → answers (.parkDataPhaseEnd k) s fun t => keeps t ∧ (t.servoS n).park = some .ramp ∧ (t.rdInt (SRV_OUT_VCM n)).natAbs = s.rd (SRV_PARK_RAMP_I n) * 128)
    ∧ (on → v.park = some .ramp → v.parkReason ≠ 9 → answers (.parkRampPhaseEnd k) s fun t => keeps t ∧ st t = 0 ∧ (t.servoS n).park = none ∧ t.on (SRV_CTL_PARK n) = false
        ∧ t.rd (SRV_OUT_VCM n) = 0 ∧ (t.servoS n).results.length = v.results.length + 1)
    ∧ (on → set.toNat < 48 → (s.on (SRV_CTL_EN n) = false → answers (.gainCopy k set) s fun t => keeps t ∧ t.on (SRV_GCOPY_GO n) = false
        ∧ ∀ i, i < 32 → t.rd (SRV_GAIN_WORD n (32 * set.toNat + i)) = s.rd (SRV_GSTAGE_WORD n i))
      ∧ (s.on (SRV_CTL_EN n) = true → answers (.gainCopy k set) s fun t => keeps t ∧ t.on (SRV_GCOPY_GO n) = true ∧ ∀ i, i < 1536 → t.rd (SRV_GAIN_WORD n i) = s.rd (SRV_GAIN_WORD n i)))
    ∧ (on → s.on (SRV_CTL_EN n) = false → (rising → answers (.servoEnable k true) s fun t => keeps t ∧ t.on (SRV_CTL_EN n) = true)
      ∧ (¬ rising → answers (.servoEnable k true) s fun t => keeps t ∧ t.on (SRV_CTL_EN n) = false ∧ t.on (SRV_STAT_CFGERR n) = true))
    ∧ (on → s.on (SRV_CTL_EN n) = true → (st s = 0 → answers (.servoEnable k false) s fun t => keeps t ∧ t.on (SRV_CTL_EN n) = false)
      ∧ (st s = 2 → answers (.servoEnable k false) s fun t => keeps t ∧ parks t 1 ∧ t.on (SRV_CTL_EN n) = true ∧ (t.servoS n).enClearing = true))

/-- O44. While the bay's unit works, SYSREF is present and the actuator is ACTIVE and enabled: a found sample with matching
parity in region seek, with no head change or reacquisition pending, sets the position from its track and its
linearised PES and SRV_POS.TRACK, and clears the run of lost samples; a missing one adds to it, raises micro-trap
cause 10 and asserts write inhibit. OUTPUT_DEADLINE without a posted VCM hold counts an overrun and closes the period;
with one it only closes it. FOLLOWING_ERROR_TIMEOUT in F2 mode, settling or following, with the timer running sets
SUPFLT and parks with reason 5. A disabled engine ignores samples.
(R167, R168, R171, R172, R185, R188) -/
def Obligations.ServoSamplesAndDeadlines : Prop :=
  ∀ (s : State) (k : Slice) (x : ServoSmp), s.sysrefOk = true →
    let keeps (t : State) : Prop := t = { s with
      regs := t.regs, lps := t.lps, stalled := t.stalled, vital := t.vital, ang := t.ang, beam := t.beam,
      slices := t.slices, scheds := t.scheds, bt := t.bt, servos := t.servos, life := t.life, hdas := t.hdas,
      cals := t.cals, energy := t.energy, va := t.va, jseqHeld := t.jseqHeld, red := t.red, free := t.free,
      out := t.out }
    let n := k.val
    let v := s.servoS n
    let active : Prop := (s.dom (64 + n / 2) = 2 ∨ s.dom (64 + n / 2) = 3) ∧ s.on (SRV_CTL_EN n) = true ∧ s.rd (SRV_STAT_ST n) = 2
    let open_ : Prop := active ∧ v.inPeriod = true ∧ v.late = false
    (active → x.found = true → x.parityOk = true → s.rd (SRV_POS_REGION n) = 0 → v.newHead = none → v.reacqSince = none →
      answers (.servoSample k x) s fun t => keeps t ∧ (t.servoS n).pos = satInt 40 ((x.track.toNat : Int) * 2 ^ 15 + (s.linearPes n v.head x.pes).toInt) ∧ (t.servoS n).lostRun = 0
        ∧ t.rd (SRV_POS_TRACK n) = x.track.toNat)
    ∧ (active → x.found = false → answers (.servoSample k x) s fun t => keeps t ∧ (t.servoS n).lostRun = v.lostRun + 1 ∧ t.on (SRV_STAT_WINH n) = true
        ∧ (t.rd (FCT_TPEND_PEND (reticleFct n))).testBit 10 = true)
    ∧ (s.on (SRV_CTL_EN n) = false → answers (.servoSample k x) s fun t => keeps t ∧ t = s)
    ∧ (open_ → v.posted = false → answers (.outputDeadline k) s fun t => keeps t ∧ t.rd (SRV_OVR_TOTAL n) = min (s.rd (SRV_OVR_TOTAL n) + 1) (2 ^ (SRV_OVR_TOTAL n).width - 1)
        ∧ t.on (SRV_STAT_OVR n) = true ∧ (t.servoS n).late = true)
    ∧ (open_ → v.posted = true → answers (.outputDeadline k) s fun t => keeps t ∧ (t.servoS n).late = true ∧ t.regs = s.regs ∧ t.lps = s.lps)
    ∧ (v.inPeriod = false → answers (.outputDeadline k) s fun t => keeps t ∧ t = s)
    ∧ (active → s.on (SRV_SUP_MODE n) = true → v.feSince.isSome → s.rd (SRV_POS_REGION n) = 1 ∨ s.rd (SRV_POS_REGION n) = 2 →
      answers (.followingErrorTimeout k) s fun t => keeps t ∧ t.on (SRV_STAT_SUPFLT n) = true ∧ t.rd (SRV_STAT_ST n) = 3 ∧ t.rd (SRV_STAT_PREASON n) = 5)
    ∧ (v.feSince = none → answers (.followingErrorTimeout k) s fun t => keeps t ∧ t = s)

/-- O45. While the bay's unit works and SYSREF is present, with EN set, no entry in progress and no result waiting: START from
STOP with a valid RPM and a token enters LISTEN on an attached bay, without the token it completes and changes
nothing; SPEED in RUN sets the target; STOP with both actuators parked enters BRAKE, in STOP it completes; REGEN leads
from RUN to REGEN and, outside a flush, REGEN_END back; COAST from RUN with both parked. An entry of another OP stays.
ABORT and SPINUP_TIMEOUT end the entry and leave the state. SPINDLE_ENABLE sets EN only with P and INERTIA, else
CFGERR.
(R197, R200, R201, R202, R203, R204, R210, R213) -/
def Obligations.SpindleEntries : Prop :=
  ∀ (s : State) (b : Bay) (e : Entry) (rest : List Entry), s.sysrefOk = true →
    let keeps (t : State) : Prop := t = { s with
      regs := t.regs, lps := t.lps, stalled := t.stalled, storeCorrected := t.storeCorrected,
      vital := t.vital, ang := t.ang, beam := t.beam, slices := t.slices, scheds := t.scheds, bt := t.bt,
      servos := t.servos, spins := t.spins, life := t.life, hdas := t.hdas, cals := t.cals, energy := t.energy,
      va := t.va, jseqHeld := t.jseqHeld, red := t.red, free := t.free, out := t.out }
    let n := b.val
    let v := s.spinS n
    let rpm := e.at 96 16
    let on : Prop := s.dom (64 + n) = 2
    let popped (op : Nat) : Prop := on ∧ s.on (SPN_CTL_EN n) = true ∧ v.entry = none ∧ s.stalled = [] ∧ (s.lp (192 + n)).entries = e :: rest
      ∧ e.poison = false ∧ e.at 64 8 = op
    let ends (t : State) : Prop := (t.spinS n).entry = none ∧ t.on (SPN_STAT_BUSY n) = false
    let e1 : Entry := { e with ce := 0 }
    (popped 1 → s.spin n = spStop → s.rpmOk n rpm = true → (s.on (SPN_CTL_TOKEN n) = true → s.on (BL_CTL_ATTACHED n) = true → answers (.spindleStart b) s fun t => keeps t ∧ 
        t.spin n = spListen ∧ t.rd (SPN_SPEED_TARGET n) = rpm % 2 ^ (SPN_SPEED_TARGET n).width ∧ (t.spinS n).entry = some e1 ∧ t.on (SPN_STAT_BUSY n) = true)
      ∧ (s.on (SPN_CTL_TOKEN n) = false → answers (.spindleStart b) s fun t => keeps t ∧ t.spin n = spStop ∧ ends t ∧ t.rd (SPN_SPEED_TARGET n) = s.rd (SPN_SPEED_TARGET n))
      ∧ (answers (.spindleStop b) s fun t => keeps t ∧ t = s))
    ∧ (popped 2 → s.spin n = spRun → s.rpmOk n rpm = true → rpm ≤ s.rd (SPN_SPEED_TARGET n) → answers (.spindleSpeed b) s fun t => keeps t ∧ t.spin n = spRun ∧ t.rd (SPN_SPEED_TARGET n) = rpm)
    ∧ (popped 3 → (s.spin n = spRun → s.bothParked n = true → answers (.spindleStop b) s fun t => keeps t ∧ t.spin n = spBrake ∧ (t.spinS n).entry = some e1 ∧ (t.spinS n).brakeEnd = .stop 0)
      ∧ (s.spin n = spStop → answers (.spindleStop b) s fun t => keeps t ∧ t.spin n = spStop ∧ ends t))
    ∧ (popped 4 → s.spin n = spRun → answers (.spindleRegen b) s fun t => keeps t ∧ t.spin n = spRegen ∧ ends t ∧ t.rd (SPN_ILIM_LEVEL n) = 0)
    ∧ (popped 5 → s.spin n = spRegen → answers (.spindleRegenEnd b) s fun t => keeps t ∧ t.spin n = spRun ∧ ends t)
    ∧ (popped 6 → s.spin n = spRun → s.bothParked n = true → answers (.spindleCoast b) s fun t => keeps t ∧ t.spin n = spCoast ∧ ends t)
    ∧ (on → v.entry = some e → (answers (.spindleAbort b) s fun t => keeps t ∧ ends t ∧ t.spin n = s.spin n ∧ (e.at 64 8 = 1 → (t.spinS n).starting = false))
      ∧ (e.at 64 8 = 1 ∨ e.at 64 8 = 2 → answers (.spinupTimeout b) s fun t => keeps t ∧ ends t ∧ t.spin n = s.spin n ∧ t.rd (SPN_SPEED_TARGET n) = s.rd (SPN_SPEED_TARGET n)))
    ∧ (v.entry = none → answers (.spinupTimeout b) s fun t => keeps t ∧ t = s)
    ∧ ((on → answers (.spindleEnable b false) s fun t => keeps t ∧ t.on (SPN_CTL_EN n) = false) ∧ (on → s.rd (SPN_MOTOR_P n) ≠ 0 → s.rd (SPN_MOTOR_INERTIA n) ≠ 0 → answers (.spindleEnable b true) s fun t => keeps t ∧ t.on (SPN_CTL_EN n) = true)
      ∧ (on → s.rd (SPN_MOTOR_P n) = 0 ∨ s.rd (SPN_MOTOR_INERTIA n) = 0 → s.on (SPN_CTL_EN n) = false → answers (.spindleEnable b true) s fun t => keeps t ∧ t.on (SPN_CTL_EN n) = false
        ∧ t.on (SPN_STAT_CFGERR n) = true))

/-- O46. While the bay's unit works and SYSREF is present. While a start goes on, LISTEN_END leads to START, to RUN from a
rotor that turns forward at 8 % or more, or to a brake that START_BRAKE_END ends in START. A third ambiguous probe
fails the start with code 1, the fortieth slow interval with code 2; a clear probe drives at level 15. A PWM period
with 16 in-band residuals at 8 % enters RUN, in BRAKE it shows the speed. A missed phase output counts, one posted on
time ends the run of late ones; three late ones coast. In COAST six agreeing crossings return to RUN, a wrong one
starts the count again; the reacquisition timeout brakes with code 3. STOP_PARK_WAIT_TIMEOUT brakes, BRAKE_HOLD_END
ends in STOP at speed 0. A halted commutation Facet parks both actuators.
(R205, R206, R208, R210, R212, R216, R217) -/
def Obligations.SpindleStartLossAndBrake : Prop :=
  ∀ (s : State) (b : Bay) (rpm : BitVec 14) (peaks : List Nat) (resid : BitVec 16) (f : Nat), s.sysrefOk = true →
    let keeps (t : State) : Prop := t = { s with
      regs := t.regs, lps := t.lps, stalled := t.stalled, ang := t.ang, beam := t.beam, slices := t.slices,
      spins := t.spins, cals := t.cals, free := t.free, vital := t.vital, scheds := t.scheds, bt := t.bt,
      servos := t.servos, life := t.life, hdas := t.hdas, energy := t.energy, va := t.va, jseqHeld := t.jseqHeld,
      red := t.red, out := t.out }
    let n := b.val
    let v := s.spinS n
    let on : Prop := s.dom (64 + n) = 2 ∨ s.dom (64 + n) = 3
    let st := s.spin n
    let fast : Prop := 8 * s.nNom n ≤ 100 * rpm.toNat
    let p := largestPeak (peaks.take 6)
    let ambiguous : Prop := (p.2.1 - p.2.2) * 100 < s.rd (SPN_START_PMARGIN n) * p.2.2
    let begun : Prop := on ∧ v.starting = true
    (begun → st = spListen → (answers (.listenEnd b false false rpm) s fun t => keeps t ∧ t.spin n = spStart)
      ∧ (fast → answers (.listenEnd b true false rpm) s fun t => keeps t ∧ t.spin n = spRun ∧ t.rd (SPN_SPEED_RPM n) = rpm.toNat)
      ∧ (answers (.listenEnd b true true rpm) s fun t => keeps t ∧ t.spin n = spBrake ∧ (t.spinS n).brakeEnd = .start))
    ∧ (v.starting = false → (answers (.listenEnd b false false rpm) s fun t => keeps t ∧ t = s) ∧ (answers (.startBrakeEnd b) s fun t => keeps t ∧ t = s) ∧ (answers (.stepDriveInterval b rpm) s fun t => keeps t ∧ t = s))
    ∧ (begun → st = spBrake → v.brakeEnd = .start → answers (.startBrakeEnd b) s fun t => keeps t ∧ t.spin n = spStart ∧ (t.spinS n).steps = 0)
    ∧ (on → st = spStart → v.probeAt.isSome → (ambiguous → v.ambiguous < 2 → answers (.probeDone b peaks) s fun t => keeps t ∧ t.spin n = spStart ∧ (t.spinS n).ambiguous = v.ambiguous + 1)
      ∧ (ambiguous → 2 ≤ v.ambiguous → answers (.probeDone b peaks) s fun t => keeps t ∧ t.spin n = spBrake ∧ t.rd (SPN_STAT_FCODE n) = 1)
      ∧ (¬ ambiguous → answers (.probeDone b peaks) s fun t => keeps t ∧ t.spin n = spStart ∧ (t.spinS n).probed = p.1 ∧ t.rd (SPN_ILIM_LEVEL n) = 15))
    ∧ (begun → st = spStart → v.probeAt = none → (v.steps < 39 → answers (.stepDriveInterval b rpm) s fun t => keeps t ∧ t.spin n = spStart ∧ (t.spinS n).steps = v.steps + 1)
      ∧ (39 ≤ v.steps → 100 * rpm.toNat < 2 * s.nNom n → answers (.stepDriveInterval b rpm) s fun t => keeps t ∧ t.spin n = spBrake ∧ t.rd (SPN_STAT_FCODE n) = 2))
    ∧ (on → v.parkWait = false → (v.starting = true → st = spStart → (s.beamS n).phaseStale0 = false → resid.toNat ≤ s.rd (SPN_OBS_RBAND n) → 15 ≤ v.inBand →
        fast → answers (.pwmPeriod b resid rpm) s fun t => keeps t ∧ t.spin n = spRun)
      ∧ (st = spBrake → answers (.pwmPeriod b resid rpm) s fun t => keeps t ∧ t.spin n = spBrake ∧ t.rd (SPN_SPEED_RPM n) = rpm.toNat ∧ (t.spinS n).late = false))
    ∧ (on → st = spRun → v.late = false → v.probeAt = none → (v.posted = false → answers (.phaseOutputDeadline b) s fun t => keeps t ∧ t.on (SPN_STAT_OVR n) = true
        ∧ (t.spinS n).lateRun = v.lateRun + 1 ∧ (t.rd (FCT_TPEND_PEND (commFct n))).testBit 4 = true)
      ∧ (v.posted = true → answers (.phaseOutputDeadline b) s fun t => keeps t ∧ (t.spinS n).lateRun = 0 ∧ t.regs = s.regs))
    ∧ ((on → st = spRun → 3 ≤ v.lateRun → answers (.rotorLoss b) s fun t => keeps t ∧ t.spin n = spCoast ∧ t.on (SPN_STAT_COASTEV n) = true ∧ (t.spinS n).coastAt = some s.now)
      ∧ (st = spStop → answers (.rotorLoss b) s fun t => keeps t ∧ t = s))
    ∧ (on → st = spCoast → v.coastAt.isSome → v.parkWait = false → (5 ≤ v.crossings → v.before = spRun → answers (.backEmfZeroCrossing b rpm true) s fun t => keeps t ∧ t.spin n = spRun
        ∧ (t.spinS n).coastAt = none) ∧ (answers (.backEmfZeroCrossing b rpm false) s fun t => keeps t ∧ t.spin n = spCoast ∧ (t.spinS n).crossings = 0))
    ∧ (on → st = spCoast → (answers (.reacqWindowEnd b) s fun t => keeps t ∧ t.spin n = spCoast ∧ (t.spinS n).crossings = 0)
      ∧ (v.coastAt.isSome → s.bothParked n = true → answers (.reacqTimeout b) s fun t => keeps t ∧ t.spin n = spBrake ∧ t.on (SPN_STAT_RLOST n) = true ∧ t.rd (SPN_STAT_FCODE n) = 3))
    ∧ ((on → s.on (FCT_STAT_HALT (commFct n)) = true → s.rd (SRV_STAT_ST (2 * n)) = 2 → s.rd (SRV_STAT_ST (2 * n + 1)) = 2 → answers (.commutationHaltPark b) s fun t => keeps t ∧ 
        t.rd (SRV_STAT_ST (2 * n)) = 3 ∧ t.rd (SRV_STAT_ST (2 * n + 1)) = 3) ∧ (s.on (FCT_STAT_HALT (commFct n)) = false → answers (.commutationHaltPark b) s fun t => keeps t ∧ t = s))
    ∧ ((on → v.parkWait = true → answers (.stopParkWaitTimeout b) s fun t => keeps t ∧ t.spin n = spBrake ∧ (t.spinS n).parkWait = false) ∧ (v.parkWait = false → answers (.stopParkWaitTimeout b) s fun t => keeps t ∧ t = s))
    ∧ ((on → st = spBrake → v.brakeEnd = .stop f → answers (.brakeHoldEnd b) s fun t => keeps t ∧ t.spin n = spStop ∧ t.rd (SPN_SPEED_RPM n) = 0) ∧ (st ≠ spBrake → answers (.brakeHoldEnd b) s fun t => keeps t ∧ t = s))

/-- O47. With SYSREF present. LIFE_FOLD does nothing where no bay is attached; of an attached bay with the laser off it folds
the head's accumulators into its record as R226 says. LIFE_RECORD_WRITE does nothing during a flush or on a bay not
attached; otherwise it counts the period and leaves no changed record. RECONCILIATION before the challenge does
nothing; with no record on either side the heads take the unknown-life values and the vital area a new record under
the HDA's key. CALIBRATION_RUN takes a due piece on an idle actuator, CALIBRATION_DEFER_EXPIRY without the wait; a
piece that may not run leaves the state. CALIBRATION_RESULT ends the piece, valid where plausible, failed where not; a
first disagreement measures again.
(R225, R226, R230, R231, R232, R236, R237, R239, R241) -/
def Obligations.LifeRecordsAndCalibration : Prop :=
  ∀ (s : State) (b : Bay) (br : BridgeLife) (k : Slice) (ty : CalType) (h : Fin 12) (r : CalResult) (x y : Nat), s.sysrefOk = true →
    let keeps (t : State) : Prop := t = { s with
      regs := t.regs, lps := t.lps, stalled := t.stalled, vital := t.vital, slices := t.slices,
      bt := t.bt, life := t.life, hdas := t.hdas, cals := t.cals, energy := t.energy, va := t.va,
      jseqHeld := t.jseqHeld, red := t.red, free := t.free, out := t.out, beam := t.beam }
    let n := k.val
    let c := s.calS n
    let p := hportOf b.val 0 h.val
    let heads := s.headCount b.val 0
    let counted : Prop := (∀ i a, s.headCount i a ≤ 12) ∧ h.val < heads
    let may := s.calMayRun n (calNo ty) h.val
    let on : Prop := s.dom (64 + n / 2) = 2
    ((∀ i, i < s.bayCount → s.on (BL_CTL_ATTACHED i) = false) → answers (.lifeFold) s fun t => keeps t ∧ t = s)
    ∧ (b.val < s.bayCount → s.on (BL_CTL_ATTACHED b.val) = true → counted → (s.sliceS (2 * b.val)).laser = 0 → answers (.lifeFold) s fun t => keeps t ∧ 
        (t.lifeR p).laserE = (foldRec (s.lifeR p) (s.pfsOf p) (s.rd (CS_LASER_ACC_ACC (2 * b.val) h.val)) (s.rd (CS_WPO_NS (2 * b.val) h.val))).laserE)
    ∧ ((s.on APR_STAT_FLUSHING = true ∨ s.on (BL_CTL_ATTACHED b.val) = false) → answers (.lifeRecordWrite b) s fun t => keeps t ∧ t = s)
    ∧ (s.on APR_STAT_FLUSHING = false → s.on (BL_CTL_ATTACHED b.val) = true → counted → answers (.lifeRecordWrite b) s fun t => keeps t ∧ (t.lifeR p).changed = false
        ∧ (t.beamS b.val).lifePeriods = (s.beamS b.val).lifePeriods + 1)
    ∧ ((s.beamS b.val).verified = false → answers (.reconciliation b br) s fun t => keeps t ∧ t = s)
    ∧ ((s.beamS b.val).verified = true → s.hdas = [] → br.copyA = [] → br.copyB = [] → counted → answers (.reconciliation b br) s fun t => keeps t ∧ 
        (t.lifeR p).laserE = s.unknownRec.laserE ∧ (t.lifeR p).gen = 1 ∧ (∃ d, t.hdas = [d] ∧ d.key = hdaKey (s.beamS b.val).id ∧ d.keyHash = sha384 br.pubKey ∧ d.bay = some b.val ∧ d.lifeUnknown = true))
    ∧ ((on → may = true → s.actIdle n = true → answers (.calibrationRun k ty h) s fun t => keeps t ∧ (t.calS n).running = some (calNo ty, h.val) ∧ (t.calS n).valid = c.valid)
      ∧ (may = false → answers (.calibrationRun k ty h) s fun t => keeps t ∧ t = s))
    ∧ ((on → may = true → s.curOp n = none → answers (.calibrationDeferExpiry k ty h) s fun t => keeps t ∧ (t.calS n).running = some (calNo ty, h.val))
      ∧ (may = false → answers (.calibrationDeferExpiry k ty h) s fun t => keeps t ∧ t = s))
    ∧ (c.running = none → answers (.calibrationResult k r) s fun t => keeps t ∧ t = s)
    ∧ (on → c.running = some (x, y) → (r.agreed = false → (16 * x + y) ∉ c.disagreed → answers (.calibrationResult k r) s fun t => keeps t ∧ (t.calS n).running = some (x, y)
        ∧ (16 * x + y) ∈ (t.calS n).disagreed)
      ∧ (r.agreed = true → s.plausible n x y r = true → answers (.calibrationResult k r) s fun t => keeps t ∧ (t.calS n).running = none ∧ (16 * x + y) ∈ (t.calS n).valid
        ∧ (t.calS n).lastEnd = some s.now)
      ∧ (r.agreed = true → s.plausible n x y r = false → answers (.calibrationResult k r) s fun t => keeps t ∧ (t.calS n).running = none ∧ (16 * x + y, s.now) ∈ (t.calS n).failedAt))

/-- O48. With SYSREF present: VMOTOR_SAMPLE shows the voltage and OV; above VMOTOR_OV the chopper is on and OVEV set.
CHOPPER_TEST begins, its pulse a millisecond later, with no test and no regeneration running, and is ignored
otherwise; its end passes with a dip of at least DIP and recovery within 20 mV, and sets CHOPFLT otherwise.
VREFIN_MEASURE with a plausible average sets the gain to 1.25 V over it, with an implausible one leaves the gain and
records it. BRIDGE_RATIO within 3 % takes the ratio; otherwise it flags the bay and leaves the ratio.
(R220, R221, R245, R246) -/
def Obligations.BusChopperAndReference : Prop :=
  ∀ (s : State) (code : BitVec 12) (v0 v1 v2 : Nat) (avg : BitVec 16) (b : Bay), s.sysrefOk = true →
    let keeps (t : State) : Prop := t = { s with
      regs := t.regs, lps := t.lps, stalled := t.stalled, ang := t.ang, beam := t.beam, slices := t.slices,
      spins := t.spins, bus := t.bus, free := t.free, ref := t.ref }
    let mv := s.senseMv code.toNat 20000
    let regen : Prop := ∃ i, i < s.bayCount ∧ s.spin i = spRegen
    let good : Prop := s.rd APR_CHOP_TEST_DIP ≤ v0 - v1 ∧ ((v0 : Int) - v2).natAbs ≤ 20
    let a := avg.toNat
    let plausible : Prop := (12500 - a : Int).natAbs * 1000 ≤ 12500 * s.clamp THM_REF_CTL_PLAUS 5 100
    let near : Prop := v1 ≠ 0 ∧ 97 * v1 ≤ 100 * v0 ∧ 100 * v0 ≤ 103 * v1
    ((∀ i ∈ s.bus.regenAt, i < s.bayCount) → answers (.vmotorSample code) s fun t => keeps t ∧ t.rd APR_BUS_STAT_VMOT = mv % 2 ^ 16 ∧ t.on APR_BUS_STAT_OV = decide (s.ovMv < mv)
        ∧ (s.ovMv < mv → t.on APR_BUS_STAT_CHOPON = true ∧ t.on APR_BUS_STAT_OVEV = true))
    ∧ ((s.on APR_CHOP_TEST_BUSY = false → ¬ regen → answers (.chopperTest) s fun t => keeps t ∧ t.on APR_CHOP_TEST_BUSY = true ∧ t.bus.testAt = some s.now
        ∧ t.on APR_BUS_STAT_CHOPON = s.on APR_BUS_STAT_CHOPON)
      ∧ ((s.on APR_CHOP_TEST_BUSY = true ∨ regen) → answers (.chopperTest) s fun t => keeps t ∧ t = s))
    ∧ (s.on APR_CHOP_TEST_BUSY = true → (good → answers (.chopperTestDone v0 v1 v2) s fun t => keeps t ∧ t.on APR_CHOP_TEST_BUSY = false ∧ t.on APR_BUS_STAT_CHOPFLT = false
        ∧ t.on APR_BUS_STAT_TESTOK = true) ∧ (¬ good → answers (.chopperTestDone v0 v1 v2) s fun t => keeps t ∧ t.on APR_CHOP_TEST_BUSY = false ∧ t.on APR_BUS_STAT_CHOPFLT = true
        ∧ t.on APR_BUS_STAT_TESTOK = false))
    ∧ ((plausible → answers (.vrefinMeasure avg) s fun t => keeps t ∧ t.rd THM_REF_STAT_VREF = a ∧ t.rd THM_REF_GAIN_GAIN = (12500 * 65536 + a / 2) / a ∧ t.ref.good = s.ref.good + 1 ∧ t.ref.bad = 0)
      ∧ (¬ plausible → answers (.vrefinMeasure avg) s fun t => keeps t ∧ t.rd THM_REF_GAIN_GAIN = s.rd THM_REF_GAIN_GAIN ∧ t.on THM_REF_STAT_REFEV = true ∧ t.ref.bad = s.ref.bad + 1
        ∧ t.ref.good = 0))
    ∧ ((near → answers (.bridgeRatio b v0 v1) s fun t => keeps t ∧ t.rd (THM_REF_BRG_RATIO b.val) = (v0 * 10000 + v1 / 2) / v1 ∧ t.rd THM_REF_BRFLT_BAY = s.rd THM_REF_BRFLT_BAY)
      ∧ (¬ near → answers (.bridgeRatio b v0 v1) s fun t => keeps t ∧ t.rd (THM_REF_BRG_RATIO b.val) = s.rd (THM_REF_BRG_RATIO b.val)
        ∧ t.rd THM_REF_BRFLT_BAY = s.rd THM_REF_BRFLT_BAY ||| 2 ^ b.val))

/-- O49. For an entry that is cached, with no command running: READ places it, sealed, in the data registers; WRITE takes the
firmware fields of the data registers where QP = WP and the state change is legal, and is refused with 1 where QP
differs; OPEN makes a FREE band OPEN with WP = QP = 0 and CLOSE an OPEN one with QP = WP FULL, refused with 3 in other
states; CLEAN with nothing dirty changes no entry; INVAL keeps only dirty and pinned entries; RESTORE replaces the
entry with the sealed data registers. A command whose INDEX names no head is ignored. While BUSY each is ignored with
ERR 4; an OP of 8 to 15 sets ERR 5. When the command finishes BUSY clears and ERR takes the result.
(R11, R261, R263, R265) -/
def Obligations.BandTableCommands : Prop :=
  ∀ (s : State) (idx : BitVec 25) (op : BitVec 4) (l : BtLine), s.sysrefOk = true →
    let keeps (t : State) : Prop := t = { s with
      regs := t.regs, lps := t.lps, stalled := t.stalled, mem := t.mem, memErr := t.memErr,
      cache := t.cache, plru := t.plru, arrayErr := t.arrayErr, l1d := t.l1d, l1Err := t.l1Err, linked := t.linked,
      bt := t.bt, btClock := t.btClock, btErr := t.btErr, free := t.free }
    let i := idx.toNat
    let idle : Prop := s.on MEM_BT_STAT_BUSY = false
    let named : Prop := hportNamesHead (i / 2 ^ 15) = true
    let held : Prop := idle ∧ named ∧ s.btLine i = some l
    let runs (t : State) (err : Nat) : Prop := t.on MEM_BT_STAT_BUSY = true ∧ t.btErr = err
    let becomes (t : State) (x : BitVec 256) : Prop := (t.btLine i).map BtLine.bytes = some x ∧ (t.btLine i).map BtLine.dirty = some true
    let settled : Prop := btQp l.bytes = btWp l.bytes
    let all : List Instr := [.btRead idx, .btWrite idx, .btOpen idx, .btClose idx, .btClean, .btInval, .btRestore idx, .btInvalidCommand op idx]
    (held → answers (.btRead idx) s fun t => keeps t ∧ runs t 0 ∧ t.btData = btSeal l.bytes ∧ t.bt = s.bt)
    ∧ (held → (settled → btLegal (btState l.bytes) (btState s.btData) = true → answers (.btWrite idx) s fun t => keeps t ∧ runs t 0 ∧ becomes t (btMerge l.bytes s.btData))
      ∧ (settled → btLegal (btState l.bytes) (btState s.btData) = false → answers (.btWrite idx) s fun t => keeps t ∧ runs t 3 ∧ t.bt = s.bt) ∧ (¬ settled → answers (.btWrite idx) s fun t => keeps t ∧ runs t 1 ∧ t.bt = s.bt))
    ∧ (held → (btState l.bytes = bandFree → s.btPinnedIn (btSetOf i) i < 6 → answers (.btOpen idx) s fun t => keeps t ∧ runs t 0
        ∧ ∃ x, becomes t x ∧ btState x = bandOpen ∧ btWp x = 0 ∧ btQp x = 0 ∧ btAdj x = false)
      ∧ (btState l.bytes ≠ bandFree → answers (.btOpen idx) s fun t => keeps t ∧ runs t 3 ∧ t.bt = s.bt))
    ∧ (held → (btState l.bytes = bandOpen → settled → answers (.btClose idx) s fun t => keeps t ∧ runs t 0 ∧ ∃ x, becomes t x ∧ btState x = bandFull ∧ btWp x = btWp l.bytes)
      ∧ (btState l.bytes ≠ bandOpen → answers (.btClose idx) s fun t => keeps t ∧ runs t 3 ∧ t.bt = s.bt))
    ∧ (idle → (∀ p ∈ s.bt, p.2.dirty = false) → answers (.btClean) s fun t => keeps t ∧ runs t 0 ∧ t.bt = s.bt ∧ t.mem = s.mem)
    ∧ (idle → answers (.btInval) s fun t => keeps t ∧ runs t 0 ∧ t.bt = s.bt.filter (fun p => p.2.dirty || btPinned p.2))
    ∧ (held → settled → btBand (btSeal s.btData) = i → s.btPinnedIn (btSetOf i) i < 6 → answers (.btRestore idx) s fun t => keeps t ∧ runs t 0 ∧ becomes t (btSeal s.btData))
    ∧ (¬ named → ∀ c ∈ [.btRead idx, .btWrite idx, .btOpen idx, .btClose idx, .btRestore idx], answers c s fun t => t = s)
    ∧ (idle → 8 ≤ op.toNat → answers (.btInvalidCommand op idx) s fun t => keeps t ∧ t.rd MEM_BT_STAT_ERR = 5 ∧ t.on MEM_BT_STAT_BUSY = false ∧ t.bt = s.bt)
    ∧ (named → s.on MEM_BT_STAT_BUSY = true → ∀ c ∈ all, answers c s fun t => t.rd MEM_BT_STAT_ERR = 4 ∧ t.bt = s.bt ∧ t.mem = s.mem ∧ t.on MEM_BT_STAT_BUSY = true)
    ∧ ((s.on MEM_BT_STAT_BUSY = true → answers (.btCommandDone) s fun t => keeps t ∧ t.on MEM_BT_STAT_BUSY = false ∧ t.rd MEM_BT_STAT_ERR = s.btErr % 8 ∧ t.bt = s.bt)
      ∧ (idle → answers (.btCommandDone) s fun t => keeps t ∧ t = s))

/-- O50. With SYSREF present; p is the state once policy has taken its waiting results, c once roles are kept. STRIPE_SEAL of
the open stripe of a filling band set ends the stripe, journals its INTENT, leaves it an open intent with its data
staged and moves to the next slot. JOURNAL_FLUSH written good to both surfaces takes up to 32 records out of the pair
and readies its intents; with an empty sector it does nothing. BITMAP_CLEAR clears a bit no unresolved stripe covers
and leaves one that one covers. CHECKPOINT_START begins a due checkpoint, one at a time; CHECKPOINT_COMMIT with roots
on four distinct bays and every chunk in its slot commits the generation and frees the bands it released, else does
nothing. RECOVERY without a valid root fences, with one it takes its generation. COMPACTION of a set with nothing to
do does nothing; one that is to be compacted is set compacting and its move begins; when the move is over it is
released, its bands awaiting the next checkpoint. RESHAPE starts a layout whose digest is allowed and drains the old
one, finishes one without sets, and begins to move a whole set of a draining one.
(R269, R270, R271, R272, R273, R276, R278, R280, R283, R291, R301, R302) -/
def Obligations.JournalCheckpointsAndMoves : Prop :=
  ∀ (s : State) (bsid : BitVec 32) (plan : Plan) (pair : Fin 16) (region : BitVec 23) (x : BandSet) (o : OpenStripe) (q : JPair) (r : JRec) (rs : List JRec) (l : List (BitVec 10)) (ch : List ((Nat × Nat) × (Nat × Nat))) (dir : (Nat × Nat) × (Nat × Nat)) (rec : RecoveryFound) (root : Root) (g f : Nat) (bands : List Nat) (old new : Fin 8) (k m u : Nat) (seed : Word), s.sysrefOk = true →
    let keeps (t : State) : Prop := t = { s with
      regs := t.regs, lps := t.lps, stalled := t.stalled, storeCorrected := t.storeCorrected,
      mem := t.mem, memErr := t.memErr, cache := t.cache, plru := t.plru, arrayErr := t.arrayErr,
      l1d := t.l1d, l1Err := t.l1Err, linked := t.linked, vital := t.vital, bt := t.bt, btClock := t.btClock,
      energy := t.energy, va := t.va, jseqHeld := t.jseqHeld, red := t.red, host := t.host, free := t.free,
      out := t.out }
    let b := bsid.toNat
    let p := s.pollOps
    let c := s.checkRoles
    let d := s.red
    let n := region.toNat
    let sealing : Prop := p.bandSet b = some x ∧ p.red.opened.find? (fun z => z.1 == b) = some (b, o) ∧ x.state = 1 ∧ ∀ j ∈ p.red.stripes, j.bsid ≠ b
    let held : Prop := c.red.pairs.find? (fun z => z.1 == pair.val) = some (pair.val, q)
    let committing : Prop := d.running = some (g, bands, f) ∧ 4 ≤ (distinctBays l).length ∧ (dir :: ch).all (chunkOk g) = true
    let idle : Prop := (∀ z ∈ p.red.resync, z.1 ≠ b) ∧ p.bandSet b = some x
    let moves (t : State) : Prop := (t.bandSet b).map BandSet.state = some 3 ∧ ∃ z ∈ t.red.moves, z.1 = b
    let free : Prop := p.role = roleStandalone ∨ p.hie.allowed = []
    (sealing → answers (.stripeSeal bsid plan) s fun t => keeps t ∧ (b, x.next) ∈ t.red.open_ ∧ (∀ z ∈ t.red.opened, z.1 ≠ b) ∧ (t.bandSet b).map BandSet.next = some (x.next + 1)
        ∧ (t.bandSet b).map BandSet.state = some (if bsSlots x ≤ x.next + 1 then 2 else 1)
        ∧ (∃ z ∈ t.red.journal, z.ty = 1 ∧ z.bsid = b ∧ z.slot = x.next ∧ z.filled = max 1 o.filled ∧ z.wseq = o.wseq)
        ∧ ∃ j ∈ t.red.stripes, j.bsid = b ∧ j.slot = x.next ∧ j.units = o.units)
    ∧ (p.bandSet b = none → (∀ j ∈ p.red.stripes, j.bsid ≠ b) → answers (.stripeSeal bsid plan) s fun t => keeps t ∧ t = p)
    ∧ (held → (q.sector = r :: rs → answers (.journalFlush pair true true) s fun t => keeps t ∧ t.out = .landing q.s1 q.pos 2 :: .landing q.s0 q.pos 2 :: c.out ∧ t.red.journal = c.red.journal
        ∧ (t.red.pairs.find? (fun z => z.1 == pair.val)).map (fun z => z.2.sector) = some ((r :: rs).drop 32)
        ∧ ∀ z ∈ (r :: rs).take 32, z.ty = 1 → 1 ≤ z.filled → (z.bsid, z.slot) ∈ t.red.ready)
      ∧ (q.sector = [] → answers (.journalFlush pair true true) s fun t => keeps t ∧ t = c))
    ∧ ((d.open_ = [] → d.resync = [] → answers (.bitmapClear region) s fun t => keeps t ∧ n ∉ t.red.dirty ∧ ∀ i, i ≠ n → (i ∈ t.red.dirty ↔ i ∈ d.dirty))
      ∧ (∀ i, d.open_ = [(b, i)] → d.ready = [] → s.bandSet b = some x → n ∈ bsBits x b i → answers (.bitmapClear region) s fun t => keeps t ∧ t.red.dirty = d.dirty))
    ∧ ((d.running = none → s.ckptDue = true → answers (.checkpointStart) s fun t => keeps t ∧ t.red.running = some (d.committed + 1, d.releasing, s.vwNat 27) ∧ t.red.ckptAt = s.now)
      ∧ (d.running.isSome ∨ s.ckptDue = false → answers (.checkpointStart) s fun t => keeps t ∧ t = s))
    ∧ ((committing → answers (.checkpointCommit l ch dir) s fun t => keeps t ∧ t.red.committed = g ∧ t.red.running = none ∧ t.red.replayFrom = f ∧ (∀ e ∈ t.red.releasing, e ∉ bands)
        ∧ ∀ e ∈ bands, e % 2 ^ 15 ∈ smGet [] t.red.free (e / 2 ^ 15))
      ∧ ((distinctBays l).length < 4 ∨ (dir :: ch).all (chunkOk g) = false → d.running = some (g, bands, f) → answers (.checkpointCommit l ch dir) s fun t => keeps t ∧ t = s))
    ∧ ((bestRoot rec.roots = none → answers (.recovery rec) s fun t => keeps t ∧ t.red.noRoot = true ∧ t.red.sets = d.sets)
      ∧ (bestRoot rec.roots = some root → answers (.recovery rec) s fun t => keeps t ∧ t.red.noRoot = false ∧ t.red.committed = root.gen ∧ t.red.replayFrom = root.replay
        ∧ t.red.root = some root ∧ t.red.up = true ∧ t.va.report = []))
    ∧ ((p.bandSet b = none → answers (.compaction bsid plan) s fun t => keeps t ∧ t = p) ∧ (idle → p.compacts b x = false → p.anyMissing b x = false → (∀ z ∈ p.red.moves, z.1 ≠ b) →
      (∀ z ∈ p.red.relocate, z.1 ≠ b) → answers (.compaction bsid plan) s fun t => keeps t ∧ t = p))
    ∧ (idle → p.compacts b x = true → (∀ z ∈ p.red.moves, z.1 ≠ b) → answers (.compaction bsid plan) s fun t => keeps t ∧ moves t)
    ∧ (idle → p.compacts b x = true → x.state = 3 → p.red.gone = [] → p.red.moves.find? (fun z => z.1 == b) = some (b, { parts := [] }) →
      answers (.compaction bsid plan) s fun t => keeps t ∧ t.bandSet b = none ∧ ∀ e ∈ x.members, e ∈ t.red.releasing)
    ∧ (∀ z : BitVec 31, z.toNat = b → p.bandSet b = some x → p.rd (PRZ_LAYOUT0_STATE x.layout) = 2 → p.anyMissing b x = false → (∀ z ∈ p.red.moves, z.1 ≠ b) →
      answers (.reshape (.move z) plan) s fun t => keeps t ∧ moves t)
    ∧ (free → old ≠ new → p.layoutActive old.val = true → p.rd (PRZ_LAYOUT0_STATE new.val) = 0 → p.layoutOk k m u = true → k + m ≤ p.activeBays →
      answers (.reshape (.start old new k m u seed) plan) s fun t => keeps t ∧ t.rd (PRZ_LAYOUT0_STATE new.val) = 1 ∧ t.rd (PRZ_LAYOUT0_STATE old.val) = 2 ∧ t.rd (PRZ_LAYOUT0_K new.val) = k
        ∧ t.rd (PRZ_LAYOUT0_M new.val) = m ∧ t.rd (PRZ_LAYOUT0_UCODE new.val) = u)
    ∧ (free → p.rd (PRZ_LAYOUT0_STATE old.val) = 2 → (∀ z ∈ p.red.sets, z.2.layout ≠ old.val) → answers (.reshape (.finish old) plan) s fun t => keeps t ∧ t.rd (PRZ_LAYOUT0_STATE old.val) = 0)

/-- O51. With SYSREF present; p is the state once policy has taken its waiting results. SLOW_MEMBER of an ACTIVE arm with an
operation outstanding, its time-out enabled and no calibration running flags it and makes it SUSPECT, or FAILED once
PMAX probations fall in 24 hours; without an operation it does nothing. PROBATION takes an attached SUSPECT arm whose
domains are ON into the test; PROBATION_RESULT fails it when its time is over or an operation failed, waits for
operations, writes the 64 sectors after the first stage, and returns it to ACTIVE after the last; REATTACH_TIMEOUT
fails both SUSPECT arms of a bay not attached. REBUILD of a missing member whose replacement has every written slot
installs it, of one whose replacement's arm failed gives that up, of a member that is not missing and has no DEGRADED
slot does nothing. A Prism engine takes a job only while enabled; a bad job ends BAD_ARG (4), a good one with one of
the other statuses; PRISM_RESULT pushes the result and frees the engine.
(R285, R288, R289, R294, R295, R296, R298, R299, R301) -/
def Obligations.MembersRebuildAndPrism : Prop :=
  ∀ (s : State) (k : Slice) (b : Bay) (bsid : BitVec 32) (j : Fin 32) (plan : Plan) (wrote : Bool) (pr : Probation) (x : BandSet) (band hp : Nat) (e : Fin 8) (h : Entry) (rest : List Entry) (r : Entry), s.sysrefOk = true →
    let keeps (t : State) : Prop := t = { s with
      regs := t.regs, lps := t.lps, stalled := t.stalled, vital := t.vital, energy := t.energy,
      va := t.va, jseqHeld := t.jseqHeld, red := t.red, free := t.free, out := t.out, mem := t.mem,
      memErr := t.memErr, cache := t.cache, plru := t.plru, arrayErr := t.arrayErr, l1d := t.l1d,
      l1Err := t.l1Err, linked := t.linked, bt := t.bt, btClock := t.btClock, storeCorrected := t.storeCorrected,
      host := t.host, prisms := t.prisms }
    let n := k.val
    let p := s.pollOps
    let st (s : State) (i : Nat) : Nat := s.rd (PRZ_ARM_STATE i)
    let slow : Prop := s.on PRZ_GCTL_SLOWEN = true ∧ (s.schedS n).released.isSome ∧ (s.calS n).running = none ∧ st s n = armActive
    let recent := min 15 ((smGet [] s.red.probAt n).filter fun t => decide (s.now < t + 86400 * 10 ^ 9)).length
    let testing : Prop := p.red.probations.find? (fun z => z.1 == n) = some (n, pr) ∧ st p n = armProbation
    let late : Prop := pr.since + p.rd PRZ_PROB_PTMO * 1000000 < p.now
    let back (good : Bool) : Prop := testing ∧ ¬ late ∧ p.allBack pr.ops = true ∧ p.allGood pr.ops (fun z => z == 0 || z == 1) = good
    let found : Prop := (p.surfacesOf (bayOf n)).find? (fun z => hportSlice z == n) = some hp
    let key := bsid.toNat * 64 + j.val
    let missing : Prop := p.bandSet bsid.toNat = some x ∧ j.val < x.members.length ∧ p.memberMissing bsid.toNat x j.val = true
      ∧ p.othersFirst bsid.toNat x = false ∧ p.rebuiltByMove bsid.toNat x = false
    let onto : Prop := missing ∧ p.red.replace.find? (fun z => z.1 == key) = some (key, band)
    let failed : Prop := st p (hportSlice (band / 2 ^ 15)) = armFailed
    let engine : Prop := s.energy.trimming = false ∧ s.dom (118 + e.val) = 2 ∧ s.on (PRZ_CTL_EN e.val) = true ∧ (s.prismS e.val).result = none
    let fromEncode : Prop := (s.lp (512 + 4 * e.val)).entries = h :: rest ∧ (s.lp (513 + 4 * e.val)).entries = []
    let fromOther (op : Nat) : Prop := (s.lp (513 + 4 * e.val)).entries = h :: rest ∧ (s.lp (512 + 4 * e.val)).entries = [] ∧ h.at 64 8 = op
    let bad (t : State) : Prop := ∃ z, (t.prismS e.val).result = some z ∧ z.at 0 64 = h.at 0 64 ∧ z.at 64 16 = 4
    let good (t : State) : Prop := ∃ z, (t.prismS e.val).result = some z ∧ z.at 0 64 = h.at 0 64 ∧ z.at 64 16 ∈ [0, 1, 2, 3, 5]
    (slow → answers (.slowMember k) s fun t => keeps t ∧ t.on (PRZ_ARM_SLOW n) = true ∧ st t n = (if s.rd PRZ_PROB_PMAX ≤ recent then armFailed else armSuspect))
    ∧ ((s.schedS n).released = none → (s.sliceS n).ops = [] → answers (.slowMember k) s fun t => keeps t ∧ t = s)
    ∧ ((st s n = armSuspect → s.on (BL_CTL_ATTACHED (bayOf n)) = true → s.dom n = 2 → s.dom (64 + bayOf n) = 2 → answers (.probation k) s fun t => keeps t ∧ st t n = armProbation
        ∧ ∃ z ∈ t.red.probations, z.1 = n ∧ z.2.since = s.now ∧ z.2.stage = 0) ∧ (st s n ≠ armSuspect → answers (.probation k) s fun t => keeps t ∧ t = s))
    ∧ ((testing → late → answers (.probationResult k wrote) s fun t => keeps t ∧ st t n = armFailed) ∧ (back false → answers (.probationResult k wrote) s fun t => keeps t ∧ st t n = armFailed)
      ∧ (testing → ¬ late → p.allBack pr.ops = false → answers (.probationResult k wrote) s fun t => keeps t ∧ t = p))
    ∧ (back true → found → (pr.stage = 0 → answers (.probationResult k wrote) s fun t => keeps t ∧ st t n = armProbation ∧ t.out.head? = some (.landingRun hp (p.lzSect n - 64) 64 3))
      ∧ (pr.stage = 1 → wrote = false → answers (.probationResult k wrote) s fun t => keeps t ∧ st t n = armFailed) ∧ (pr.stage = 2 → answers (.probationResult k wrote) s fun t => keeps t ∧ st t n = armActive))
    ∧ (p.red.probations.find? (fun z => z.1 == n) = none → answers (.probationResult k wrote) s fun t => keeps t ∧ t = p)
    ∧ ((s.on (BL_CTL_ATTACHED b.val) = true → answers (.reattachTimeout b) s fun t => keeps t ∧ t = s) ∧ (s.on (BL_CTL_ATTACHED b.val) = false → st s (2 * b.val) = armSuspect →
      st s (2 * b.val + 1) = armSuspect → answers (.reattachTimeout b) s fun t => keeps t ∧ st t (2 * b.val) = armFailed ∧ st t (2 * b.val + 1) = armFailed))
    ∧ ((p.bandSet bsid.toNat = none ∨ (p.bandSet bsid.toNat = some x ∧ p.memberMissing bsid.toNat x j.val = false ∧ p.red.degraded = [])) → answers (.rebuild bsid j plan) s fun t => keeps t ∧ t = p)
    ∧ (onto → (failed → answers (.rebuild bsid j plan) s fun t => keeps t ∧ ∀ z ∈ t.red.replace, z.1 ≠ key) ∧ (¬ failed → x.next ≤ p.wpOf band / max 1 x.u → answers (.rebuild bsid j plan) s fun t => keeps t ∧ 
        (t.bandSet bsid.toNat).map BandSet.members = some (x.members.set j.val band) ∧ ∀ z ∈ t.red.replace, z.1 ≠ key))
    ∧ (s.on (PRZ_CTL_EN e.val) = false → (answers (.prismEncode e) s fun t => keeps t ∧ t = s) ∧ (answers (.prismReconstruct e) s fun t => keeps t ∧ t = s) ∧ (answers (.prismCheck e) s fun t => keeps t ∧ t = s))
    ∧ (engine → fromEncode → (s.badJob true h = true → answers (.prismEncode e) s fun t => keeps t ∧ bad t ∧ t.mem = s.mem) ∧ (s.badJob true h = false → answers (.prismEncode e) s fun t => keeps t ∧ good t))
    ∧ (engine → fromOther 2 → (s.badJob false h = true → answers (.prismReconstruct e) s fun t => keeps t ∧ bad t ∧ t.mem = s.mem) ∧ (s.badJob false h = false → answers (.prismReconstruct e) s fun t => keeps t ∧ good t))
    ∧ (engine → fromOther 3 → (s.badJob false h = true → answers (.prismCheck e) s fun t => keeps t ∧ bad t ∧ t.mem = s.mem) ∧ (s.badJob false h = false → answers (.prismCheck e) s fun t => keeps t ∧ good t))
    ∧ (s.dom (118 + e.val) = 2 → (s.prismS e.val).result = some r → s.stalled = [] → 0 < (s.lp (514 + 4 * e.val)).free → answers (.prismResult e) s fun t => keeps t ∧ 
        (t.prismS e.val).result = none ∧ t.on (PRZ_STAT_BUSY e.val) = false ∧ (t.lp (514 + 4 * e.val)).entries.length = (s.lp (514 + 4 * e.val)).entries.length + 1)
    ∧ ((s.prismS e.val).result = none → answers (.prismResult e) s fun t => keeps t ∧ t = s)

/-- O52. With the reference clocks of the port. A packet is accepted where its port takes it, its prefix and size are those of
its kind, its session is open under its epoch and tag, its port is the session's and its PN is new. A whole HELLO
opens a session of the lowest free SID with status 0 and otherwise answers the status without one; a repeat gets the
same answer; under an entropy fault it is dropped. An accepted CMD within the window is kept with its data and passed
to policy in turn; one beyond CLIM changes no command and is acknowledged. DATA goes to its command or is held. ACK
releases what it covers and takes RXWIN. RESET answers under the next epoch or closes; LOG READ, RESUME and DISCARD
answer a CTLR. While the port takes nothing every packet leaves the state. ARP, neighbour discovery and echo answer
for the port. The expiry commands act on their session as R314, R315, R317, R318, R335 and R336 say; PORT_LINK_CHANGE
shows the link.
(R306, R308, R310, R312, R313, R314, R317, R318, R319, R324, R329, R330) -/
def Obligations.SessionsAndPackets : Prop :=
  ∀ (s : State) (p : Port) (m : HelloMsg) (b : List Byte) (h : HelloDone) (k : Pkt) (c : Capsule) (x : SessSt) (ctag : BitVec 16) (seq doff win : BitVec 32) (n : Word) (map : BitVec 256) (bytes : List Byte) (e : LogEntry) (f : BitVec 32) (u : Unacked) (a4 : BitVec 32) (a6 : BitVec 128) (up v6 close : Bool), s.sysrefOk = true → s.hrefOk = true →
    let keeps (t : State) : Prop := t = { s with
      regs := t.regs, host := t.host, sec := t.sec, free := t.free, out := t.out, lps := t.lps,
      stalled := t.stalled, vital := t.vital, energy := t.energy }
    let acc (kind : Nat) (plain : List Byte) : Prop := s.networkOk k = true ∧ prefixOk k kind plain = true ∧ s.sess k.sid = some x ∧ k.epoch.toNat = x.epoch
      ∧ k.tag = packetTag x.prk k plain ∧ k.port.val = x.port ∧ x.member = none ∧ pnDuplicate x.seen k.pn.toNat = false
    let ctl (op arg : Nat) : Prop := acc 5 (controlBytes ctag.toNat op 0 arg) ∧ x.lastCtl = none
    let has (t : State) (q : SessSt → Prop) : Prop := ∃ y, t.sess k.sid = some y ∧ q y
    let counted (t : State) (f : Nat → Fld) : Prop := t.rd (f k.port.val) = min (s.rd (f k.port.val) + 1) (2 ^ 32 - 1)
    let ctlAnswer (t : State) (op st : Nat) : Prop := ∃ q r, t.out.head? = some (.packet q) ∧ q.body = .ctlr ctag op st r ∧ q.sid = k.sid.toNat
    let quiet : Prop := s.portUp x.port = true ∧ s.on APR_STAT_FROZEN = false
    let open_ : Prop := s.portOpen p.val = true ∧ s.frameOk p.val m.v6 m.vlan = true ∧ s.udpOk m.fragment m.udpOk m.udp = true
    let whole : Prop := open_ ∧ helloBody m.segs = some b ∧ helloPrefixOk m = true ∧ s.on SEC_STAT_ENTFLT = false
    let fresh : Prop := ∀ d ∈ s.host.hellos, d.body ≠ b
    let free := lowestFree s.host.sessions 0
    let new : CmdSt := placeData { cap := c, at_ := s.now } 0 c.data
    let taken : Prop := acc 1 (capsuleBytes c) ∧ seqLater c.seq x.clim = false ∧ x.void = [] ∧ seqLater c.seq x.last = true ∧ x.cmds = [] ∧ ∀ d ∈ x.early, d.1 ≠ c.seq
    let lp := lane 256 x.port k.sid
    (whole → fresh → answers (.hello p m) s fun t => keeps t ∧ (s.helloStatus m b = 0 → ∃ q y g, t.out.head? = some (.packet q) ∧ q.body = .hellor g ∧ q.peer = m.src
        ∧ t.sess (BitVec.ofNat 14 free) = some y ∧ y.port = p.val ∧ y.peer = m.src ∧ y.epoch = 1 ∧ y.cmds = [] ∧ y.tenant = (helloTenant b).toNat % 1024)
      ∧ (s.helloStatus m b ≠ 0 → (∃ q, t.out = .packet q :: s.out ∧ q.body = .hellor ([0, 0] ++ refusalBody b (s.helloStatus m b)))
        ∧ t.host.sessions = s.host.sessions ∧ t.regs = s.regs))
    ∧ (whole → s.host.hellos = [h] → h.body = b → s.now ≤ h.at_ + 10 ^ 10 → answers (.hello p m) s fun t => keeps t ∧ t.out = (h.answer.map Out.packet).reverse ++ s.out ∧ t.host = s.host ∧ t.regs = s.regs)
    ∧ (open_ → (s.on SEC_STAT_ENTFLT = true ∨ helloBody m.segs = none) → answers (.hello p m) s fun t => keeps t ∧ t.host = s.host ∧ t.out = s.out
        ∧ t.rd (HPT_DROP_COUNT p.val) = min (s.rd (HPT_DROP_COUNT p.val) + 1) (2 ^ 32 - 1))
    ∧ (taken → (x.next ≠ c.seq → answers (.hostCmd k c) s fun t => keeps t ∧ has t (fun y => y.cmds = [new] ∧ y.last = x.last ∧ y.next = x.next) ∧ counted t HPT_RXOK_COUNT ∧ t.lps = s.lps)
      ∧ (x.next = c.seq → x.frozen = none → s.stalled = [] → 0 < (s.lp lp).free → answers (.hostCmd k c) s fun t => keeps t ∧ 
        has t (fun y => y.cmds = [new] ∧ y.last = x.last ∧ y.next = x.next + 1) ∧ (t.lp lp).entries = (s.lp lp).entries ++ [hostEntry k.sid.toNat c.seq]))
    ∧ (acc 1 (capsuleBytes c) → seqLater c.seq x.clim = true → answers (.hostCmd k c) s fun t => keeps t ∧ has t (fun y => y.cmds = x.cmds ∧ y.ackDue = 0) ∧ counted t HPT_DROP_COUNT
        ∧ ∃ q l w r, t.out = .packet q :: s.out ∧ q.body = .ack l w r)
    ∧ (acc 2 (dataBody seq doff bytes) → seqLater seq x.last = true → ((∀ d ∈ x.cmds, d.cap.seq ≠ seq) → answers (.hostData k seq doff bytes) s fun t => keeps t ∧ has t (fun y => y.cmds = x.cmds
        ∧ y.early = x.early ++ [(seq, doff.toNat, bytes, s.now)]))
      ∧ ((∃ d ∈ x.cmds, d.cap.seq = seq) → answers (.hostData k seq doff bytes) s fun t => keeps t ∧ has t fun y => y.early = x.early
        ∧ y.cmds = x.cmds.map fun d => if d.cap.seq = seq then placeData d doff.toNat bytes else d))
    ∧ (acc 4 (ackBody n.toNat map win.toNat) → x.cmds = [] → answers (.hostAck k n map win) s fun t => keeps t ∧ has t fun y => y.rxwin = win.toNat
        ∧ y.unacked = x.unacked.filter fun u => ! ackCovers n.toNat map u.pkt.pn)
    ∧ (ctl 2 close.toNat → isOldReset x k ctag (controlBytes ctag.toNat 2 0 close.toNat) = false →
      (close = false → x.epoch < 65535 → answers (.sessionReset k ctag close) s fun t => keeps t ∧ ctlAnswer t 2 0
        ∧ has t (fun y => y.epoch = x.epoch + 1 ∧ y.cmds = [] ∧ y.frozen = none ∧ y.last = x.mark ∧ y.next = x.mark + 1 ∧ y.pn = 1))
      ∧ (close = true → answers (.sessionReset k ctag close) s fun t => keeps t ∧ ctlAnswer t 2 0 ∧ t.sess k.sid = none))
    ∧ (ctl 3 n.toNat → (4 ≤ n.toNat → answers (.logRead k ctag n) s fun t => keeps t ∧ ctlAnswer t 3 0x1001) ∧ (n.toNat < 4 → x.log[n.toNat]? = none → answers (.logRead k ctag n) s fun t => keeps t ∧ ctlAnswer t 3 0x2001)
      ∧ (n.toNat < 4 → x.log[n.toNat]? = some e → answers (.logRead k ctag n) s fun t => keeps t ∧ ctlAnswer t 3 0))
    ∧ (ctl 4 0 → (x.frozen = none → answers (.restartResume k ctag) s fun t => keeps t ∧ ctlAnswer t 4 0x1002)
      ∧ (x.frozen = some f → x.cmds = [] → answers (.restartResume k ctag) s fun t => keeps t ∧ ctlAnswer t 4 0 ∧ has t fun y => y.frozen = none ∧ y.next = x.next))
    ∧ (ctl 4 1 → (x.frozen = none → answers (.restartDiscard k ctag) s fun t => keeps t ∧ ctlAnswer t 4 0x1002)
      ∧ (x.frozen = some f → answers (.restartDiscard k ctag) s fun t => keeps t ∧ ctlAnswer t 4 0 ∧ has t fun y => y.frozen = none ∧ y.last = x.clim ∧ y.next = x.clim + 1
        ∧ y.cmds = [] ∧ (f + 1, x.clim) ∈ y.void))
    ∧ (s.portOpen k.port.val = false → ∀ i ∈ [.hello k.port m, .hostCmd k c, .hostData k seq doff bytes, .hostAck k n map win, .sessionReset k ctag close,
        .logRead k ctag n, .restartResume k ctag, .restartDiscard k ctag, .arpRequest k.port a4, .neighbourDiscovery k.port a6,
        .echoRequest k.port v6 bytes], answers i s fun t => t = s)
    ∧ (s.portOpen p.val = true → (s.on (HPT_PCTL_V4EN p.val) = true → a4.toNat = s.rd (HPT_IP4_ADDR p.val) → answers (.arpRequest p a4) s fun t => keeps t ∧ 
        t.out = .arpReply p.val (s.rd (HPT_MAC_ADDR p.val)) :: s.out)
      ∧ (s.on (HPT_PCTL_V6EN p.val) = true → a6.toNat = s.ip6 p.val → answers (.neighbourDiscovery p a6) s fun t => keeps t ∧ t.out = .neighbourReply p.val (s.rd (HPT_MAC_ADDR p.val)) :: s.out)
      ∧ (s.frameOk p.val v6 none = true → answers (.echoRequest p v6 bytes) s fun t => keeps t ∧ t.out = .echoReply p.val v6 bytes :: s.out))
    ∧ (s.sess k.sid = some x → (x.ackDue = 0 → answers (.ackDelay k.sid) s fun t => keeps t ∧ t = s) ∧ (x.ackDue ≠ 0 → quiet → answers (.ackDelay k.sid) s fun t => keeps t ∧ has t (fun y => y.ackDue = 0 ∧ y.ackSince = none)
        ∧ ∃ q w l, t.out = .packet q :: s.out ∧ q.body = .ack (x.seen.foldl max 0) w l ∧ l = x.clim))
    ∧ (s.sess k.sid = some x → x.unacked.find? (fun u => u.pkt.pn == n.toNat) = some u →
      (u.retries < s.clamp HPT_RTO_RETRIES 1 15 → answers (.retransmissionTimeout k.sid n) s fun t => keeps t ∧ has t (fun y => y.pn = x.pn + 1 ∧ y.unacked.length = x.unacked.length)
        ∧ ((∀ q o r, u.pkt.body ≠ .data q o r) → t.out = .packet (TxPkt.protect x.prk { u.pkt with pn := x.pn, peer := x.peer }) :: s.out))
      ∧ (s.clamp HPT_RTO_RETRIES 1 15 ≤ u.retries → answers (.retransmissionTimeout k.sid n) s fun t => keeps t ∧ has t fun y => y.dormant = true ∧ y.cmds = [] ∧ y.unacked = []))
    ∧ (s.sess k.sid = some x → (∀ d ∈ x.cmds, d.fixed = none ∧ dataComplete d = false) → answers (.dataTTimeout k.sid seq) s fun t => keeps t ∧ 
        has t fun y => y.cmds = x.cmds.map fun d => if d.cap.seq = seq then { d with fixed := some (0x1101, 0, 0), ticket := 0 } else d)
    ∧ (s.sess k.sid = some x → (answers (.dataHoldExpiry k.sid seq) s fun t => keeps t ∧ has t fun y => y.early = x.early.filter (fun q => q.1 != seq) ∧ y.cmds = x.cmds)
      ∧ (answers (.idleTimeout k.sid) s fun t => keeps t ∧ t.sess k.sid = none ∧ t.out = s.out) ∧ (answers (.oldEpochKeyExpiry k.sid) s fun t => keeps t ∧ has t fun y => y = { x with old := none }))
    ∧ (s.sess k.sid = none → ∀ i ∈ [.ackDelay k.sid, .retransmissionTimeout k.sid n, .dataTTimeout k.sid seq, .dataHoldExpiry k.sid seq, .idleTimeout k.sid,
        .oldEpochKeyExpiry k.sid], answers i s fun t => t = s)
    ∧ (answers (.portLinkChange p up) s fun t => keeps t ∧ t.on (HPT_PSTAT_LINK p.val) = up ∧ (up = false → t.on (HPT_PSTAT_DOWNEV p.val) = true)
        ∧ ∀ r : Reg, r.addr ≠ (HPT_PSTAT_LINK p.val).reg.addr → t.reg r = s.reg r)

/-- O53. With SYSREF present; p is the state once policy has taken its waiting results. Policy takes a passed command from its
lightpipe and resolves it; evaluated, a failing check fixes its status, and a GET takes its snapshot. At its turn,
with its port working and the completion lightpipe free, a command with a fixed result and no data left to send
completes with it, a freezing class freezing the session; a ready write completes under the fence without effect. PUT
makes the object exactly its data with VER up by 1; WRITE lays data at OFFSET and changes no other byte, a PART joins
its set; APPEND places it at the size rounded up to 256 bytes; DELETE removes the object and its extents; COMMIT
consumes its part set; a write that is not ready waits. GET, STAT, LIST, DESCRIBE and ATTEST fix their result and give
their first data to be sealed, or complete where there is none. POWER HINT sets the deepest states and its expiry
clears them; PROFILE SELECT completes with its reason or selects; IMAGE STAGE writes a chunk or refuses one past the
limit. A part set times out.
(R322, R341, R343, R345, R346, R347, R348, R349, R350, R353, R358, R360) -/
def Obligations.ObjectAndManagementCommands : Prop :=
  ∀ (s : State) (sid : Sid) (seq : BitVec 32) (plan : Plan) (x : SessSt) (c : CmdSt) (y : ObjSt) (ps : PartSet) (g : Snap) (i l st n r : Nat) (obj : BitVec 128) (id : Word), s.sysrefOk = true →
    let keeps (t : State) : Prop := t = { s with
      regs := t.regs, lps := t.lps, stalled := t.stalled, storeCorrected := t.storeCorrected,
      host := t.host, free := t.free, mem := t.mem, memErr := t.memErr, cache := t.cache, plru := t.plru,
      arrayErr := t.arrayErr, l1d := t.l1d, l1Err := t.l1Err, linked := t.linked, vital := t.vital,
      bt := t.bt, btClock := t.btClock, energy := t.energy, va := t.va, jseqHeld := t.jseqHeld, red := t.red,
      out := t.out, ang := t.ang, beam := t.beam, slices := t.slices, scheds := t.scheds, servos := t.servos,
      life := t.life, hdas := t.hdas, cals := t.cals, latches := t.latches, lpDepth := t.lpDepth,
      cacheBusy := t.cacheBusy, scrubSeen := t.scrubSeen, sysrefOk := t.sysrefOk, brefOk := t.brefOk,
      hrefOk := t.hrefOk, now := t.now, wall := t.wall, btErr := t.btErr, facets := t.facets, spins := t.spins,
      bus := t.bus, ref := t.ref, prisms := t.prisms, sec := t.sec, cfg := t.cfg, hie := t.hie, dma := t.dma,
      evr := t.evr, cores := t.cores, pwr := t.pwr }
    let p := s.pollOps
    let is (u : State) (o : Nat) : Prop := u.cmd sid seq = some (x, c) ∧ c.cap.opc.toNat = o ∧ c.evaluated = true ∧ c.fixed = none
    let ln := lane 384 x.port sid
    let turn (u : State) : Prop := isTurn x c = true ∧ u.cfg.hold = false ∧ x.port < 2 ∧ u.portUp x.port = true ∧ u.on APR_STAT_FROZEN = false
      ∧ (u.lp ln).entries = [] ∧ 0 < (u.lp ln).free ∧ (∀ z ∈ u.stalled, z.1 ≠ ln) ∧ u.host.cpls = []
    let sent (u : State) : Prop := x.queued = [] ∧ ∀ j ∈ u.host.sealing, j.sid ≠ sid.toNat
    let taken : Prop := (s.lp (lane 256 0 sid)).entries = [] ∧ (s.lp (lane 256 1 sid)).entries = []
    let ready (u : State) (o : Nat) : Prop := is u o ∧ turn u ∧ u.fenceStatus = 0
    let has (t : State) (q : SessSt → Prop) : Prop := ∃ z, t.sess sid = some z ∧ q z
    let completes (t : State) (st n r : Nat) : Prop :=
      has t (fun z => z.last = seq ∧ (∀ d ∈ z.cmds, d.cap.seq ≠ seq) ∧ z.frozen = if statusFreezes st then some seq else none)
        ∧ ∃ q e, t.out.head? = some (.packet q) ∧ q.body = .cpl e ∧ e.seq = seq ∧ e.status = st ∧ e.actlen = n ∧ e.result = r
    let sends (t : State) (b : List Byte) (st r : Nat) : Prop := (b = [] → completes t st 0 r)
      ∧ (b ≠ [] → (t.cmd sid seq).map (fun q => q.2.fixed) = some (some (st, b.length, r))
        ∧ ∃ j ∈ t.host.sealing, j.sid = sid.toNat ∧ j.pkt.body = .data seq 0 (b.take (s.psize x.port)))
    let reads (u : State) (o : Nat) : Prop := is u o ∧ turn u ∧ sent u ∧ readOutstanding x = 0
    let d := dataBytes c
    let o := c.cap.obj
    let off := c.cap.offset.toNat
    let old := p.object x.tenant o
    let at_ := appendAt ((old.map ObjSt.size).getD 0)
    let rest := s.host.objects.filter fun q => q.1 / 2 ^ 128 == x.tenant && decide (o.toNat < q.1 % 2 ^ 128)
    let many := c.cap.length.toNat / 32
    let end_ := getEnd c.cap g.size
    let profile := s.selectProfile (c.cap.arg.toNat % 4)
    let chunks := (off, d) :: smGet [] s.cfg.staging (stageKey c.cap)
    let slot := slotSize ((stageSet c.cap chunks).getD (stageKey c.cap))
    let past : Prop := min slot ((stagedLength chunks).getD slot) < off + c.cap.length.toNat
    let plain (o : Nat) : Prop := is s o ∧ turn s ∧ sent s ∧ c.toSend = []
    (s.cmd sid seq = some (x, c) → c.resolved = false → (s.lp (lane 256 0 sid)).entries = [hostEntry sid.toNat seq] → (s.lp (lane 256 1 sid)).entries = [] → s.stalled = [] →
      answers (.evaluationPoint sid seq) s fun t => keeps t ∧ (t.cmd sid seq).map (fun q => q.2.resolved) = some true ∧ (t.lp (lane 256 0 sid)).entries = [])
    ∧ (taken → s.cmd sid seq = some (x, c) → c.resolved = true → c.evaluated = false → c.fixed = none → x.frozen = none → s.mayEvaluate x.tenant c = true →
      (s.evalChecks x.tenant c.cap = none → answers (.evaluationPoint sid seq) s fun t => keeps t ∧ (t.cmd sid seq).map Prod.snd = some { c with evaluated := true, snap := s.takeSnap x.tenant c.cap })
      ∧ (s.evalChecks x.tenant c.cap = some (st, n) → answers (.evaluationPoint sid seq) s fun t => keeps t ∧ (t.cmd sid seq).map (fun q => q.2.fixed) = some (some (st, 0, 0))))
    ∧ (taken → s.cmd sid seq = some (x, c) → turn s → (c.fixed = some (st, n, r) → sent s → c.toSend = [] → answers (.commandCommit sid seq) s fun t => keeps t ∧ completes t st n r)
      ∧ (c.fixed = none → c.ready = true → c.evaluated = true → s.fenceStatus ≠ 0 → answers (.commandCommit sid seq) s fun t => keeps t ∧ completes t s.fenceStatus 0 0
        ∧ t.host.objects = s.host.objects ∧ t.red = s.red))
    ∧ (taken → s.cmd sid seq = some (x, c) → isTurn x c = false → answers (.commandCommit sid seq) s fun t => keeps t ∧ t = s)
    ∧ (c.ready = true → ready p opcPut → answers (.objPut sid seq plan) s fun t => keeps t ∧ completes t 0 d.length ((old.elim 1 fun z => z.ver + 1) % 2 ^ 32)
        ∧ ∃ z, t.object x.tenant o = some z ∧ z.size = d.length ∧ getContents z.bytes 0 d.length = d ∧ z.ver = old.elim 1 fun w => w.ver + 1)
    ∧ (c.ready = true → ready p opcWrite → (capFlag c.cap flPart = false → old = some y → d ≠ [] → answers (.objWrite sid seq plan) s fun t => keeps t ∧ completes t 0 d.length ((y.ver + 1) % 2 ^ 32)
        ∧ ∃ z, t.object x.tenant o = some z ∧ z.size = max y.size (off + d.length) ∧ getContents z.bytes off d.length = d
        ∧ ∀ i, i < off ∨ off + d.length ≤ i → smGet 0 z.bytes i = smGet 0 y.bytes i)
      ∧ (capFlag c.cap flPart = true → answers (.objWrite sid seq plan) s fun t => keeps t ∧ completes t 0 d.length 0 ∧ (t.partSet x.tenant o c.cap.arg).isSome ∧ t.host.objects = p.host.objects))
    ∧ (c.ready = true → ready p opcAppend → answers (.objAppend sid seq plan) s fun t => keeps t ∧ completes t 0 d.length (at_ / 256 % 2 ^ 32)
        ∧ ∃ z, t.object x.tenant o = some z ∧ getContents z.bytes at_ d.length = d ∧ at_ + d.length ≤ z.size)
    ∧ (ready s opcDelete → answers (.objDelete sid seq) s fun t => keeps t ∧ t.object x.tenant o = none ∧ (∀ e ∈ t.red.extents, e.obj ≠ o)
        ∧ completes t (if s.host.parts.any fun q => q.tenant == x.tenant && q.obj == o then 0x0104 else 0) 0 0)
    ∧ (ready s opcCommit → s.partSet x.tenant o c.cap.arg = some ps → answers (.objCommit sid seq) s fun t => keeps t ∧ t.partSet x.tenant o c.cap.arg = none
        ∧ (capFlag c.cap flAbort = true → completes t 0 0 (((s.object x.tenant o).map ObjSt.ver).getD 0 % 2 ^ 32) ∧ t.host.objects = s.host.objects)
        ∧ (capFlag c.cap flAbort = false → completes t 0 0 (((s.object x.tenant o).elim 1 fun z => z.ver + 1) % 2 ^ 32)))
    ∧ (c.ready = false → dataComplete c = false → (is p opcPut → answers (.objPut sid seq plan) s fun t => keeps t ∧ t = p) ∧ (is p opcWrite → answers (.objWrite sid seq plan) s fun t => keeps t ∧ t = p)
      ∧ (is p opcAppend → answers (.objAppend sid seq plan) s fun t => keeps t ∧ t = p))
    ∧ (reads p opcGet → c.snap = some g → (firstLost g.lost off end_.1 = some l → answers (.objGet sid seq plan) s fun t => keeps t ∧ sends t (getContents g.bytes off (l - off)) 0x4001 (g.ver % 2 ^ 32))
      ∧ (firstLost g.lost off end_.1 = none → p.firstAway o off end_.1 = none → p.resyncIn g off end_.1 = none →
        c.reads.getD (p.readsFor g off end_.1 plan.pool.toNat) = [] → answers (.objGet sid seq plan) s fun t => keeps t ∧ sends t (getContents g.bytes off (end_.1 - off)) end_.2 (g.ver % 2 ^ 32)))
    ∧ (reads s opcStat → s.object x.tenant o = some y → answers (.objStat sid seq) s fun t => keeps t ∧ sends t (s.statRecord x.tenant o y) 0 (y.ver % 2 ^ 32) ∧ t.host.objects = s.host.objects)
    ∧ (reads s opcList → answers (.objList sid seq) s fun t => keeps t ∧ ∃ b, b.length = 32 * min many rest.length ∧ sends t b (if many < rest.length then 0x0102 else 0) (min many rest.length))
    ∧ ((reads s opcDescribe → answers (.describe sid seq) s fun t => keeps t ∧ sends t (s.describeBytes x.port) 0 0)
      ∧ (reads s opcAttest → dataComplete c = true → answers (.attest sid seq) s fun t => keeps t ∧ sends t (s.attestBytes sid x d) 0 0) ∧ (is s opcAttest → dataComplete c = false → answers (.attest sid seq) s fun t => keeps t ∧ t = s))
    ∧ ((plain opcPowerHint → answers (.powerHint sid seq) s fun t => keeps t ∧ t.host.hint.mask = c.cap.arg.extractLsb' 0 32 ∧ (∃ m, completes t 0 0 m)
        ∧ ∀ b, b < s.bayCount → t.rd (APR_PS_DEEPEST b) = if (c.cap.arg.extractLsb' 0 32).getLsbD b then bitsOf c.cap.arg 32 3 else 0)
      ∧ answers (.powerHintExpiry) s fun t => keeps t ∧ t.host.hint = {} ∧ ∀ b, b < s.bayCount → t.rd (APR_PS_DEEPEST b) = 0)
    ∧ (plain opcProfile → answers (.profileSelect sid seq) s fun t => keeps t ∧ (profile.1 ≠ 0 → completes t 0x1018 0 profile.1 ∧ t.rd CFG_STATUS_REASON = profile.1 % 2 ^ 16)
        ∧ (profile.1 = 0 → t.rd CFG_STATUS_PROFILE = c.cap.arg.toNat % 4 ∧ t.rd CFG_STATUS_REASON = 0 ∧ t.on CFG_BOOTSEL_VALID = true))
    ∧ (plain opcImage → dataComplete c = true → (past → answers (.imageStage sid seq) s fun t => keeps t ∧ completes t 0x1111 0 0 ∧ t.cfg = s.cfg)
      ∧ (¬ past → capFlag c.cap flLast = false → stageSet c.cap chunks = some i → answers (.imageStage sid seq) s fun t => keeps t ∧ (t.bootEntry i).other = slotWriting
        ∧ completes t 0 c.cap.length.toNat (stagedBytes chunks)))
    ∧ (((∃ q ∈ s.host.parts, q.obj = obj ∧ q.id = id) → answers (.partSetTimeout obj id) s fun t => keeps t ∧ t.host.parts = s.host.parts.filter (fun q => ! (q.obj == obj && q.id == id))
        ∧ t.host.objects = s.host.objects ∧ t.free = s.free + 1)
      ∧ ((∀ q ∈ s.host.parts, ¬ (q.obj = obj ∧ q.id = id)) → answers (.partSetTimeout obj id) s fun t => keeps t ∧ t = s))

/-- O54. With SYSREF present. A cipher engine that is ON takes its oldest job while no trim runs. SEAL of a bad job posts
BAD_ARG, of an empty slot NO_KEY; over readable buffers whose WSEQ lie below SEC_WSEQ it seals each sector in place,
posts DONE and changes no other byte. OPEN decrypts the sectors whose tags verify, leaves the others, and posts how
many failed and the first. GENKEY, LOADKEY and EVICT install or drop the key or post why not. A session job posts its
result; CIPHER_RESULT posts the oldest result, and a sealed packet goes out of its port. Reseeds count; an entropy
failure sets ENTFLT until cleared. A pending CLAIM or TRANSFER blows the slot, or destroys it on a read-back mismatch;
DECOMMISSION destroys it. Loupe unlock needs the fuse intact, a signature over its nonce and, when Owned, DEBUG_ALLOW
and the drain. A fuse command needs VFUSE and no command under way, and acts when done. EXTEST, IDCODE, SAMPLE and
BYPASS set the TAP code; the Loupe acts only when unlocked.
(R363, R368, R369, R372, R373, R377, R378, R380, R390, R391, R392, R604) -/
def Obligations.CipherSecurityAndTap : Prop :=
  ∀ (s : State) (e : Fin 8) (j : Entry) (rest : List Entry) (sj : SealJob) (x : SessSt) (ok : Bool) (key sig : List Byte) (r : OwnerRec) (kind : BitVec 4) (cells : BitVec 412) (code : BitVec 8) (lc : BitVec 4) (c : Core) (w : Word) (k v : Nat), s.sysrefOk = true →
    let keeps (t : State) : Prop := t = { s with
      regs := t.regs, lps := t.lps, stalled := t.stalled, storeCorrected := t.storeCorrected,
      mem := t.mem, memErr := t.memErr, cache := t.cache, plru := t.plru, arrayErr := t.arrayErr,
      l1d := t.l1d, l1Err := t.l1Err, linked := t.linked, sec := t.sec, free := t.free, host := t.host,
      out := t.out, vital := t.vital, bt := t.bt, energy := t.energy, va := t.va, jseqHeld := t.jseqHeld,
      red := t.red, cfg := t.cfg, latches := t.latches, lpDepth := t.lpDepth, cacheBusy := t.cacheBusy,
      scrubSeen := t.scrubSeen, sysrefOk := t.sysrefOk, brefOk := t.brefOk, hrefOk := t.hrefOk, now := t.now,
      wall := t.wall, ang := t.ang, beam := t.beam, slices := t.slices, scheds := t.scheds, btClock := t.btClock,
      btErr := t.btErr, facets := t.facets, servos := t.servos, spins := t.spins, bus := t.bus, life := t.life,
      hdas := t.hdas, cals := t.cals, ref := t.ref, prisms := t.prisms, hie := t.hie, dma := t.dma,
      evr := t.evr, cores := t.cores, pwr := t.pwr }
    let ready (pipe : Nat) : Prop := s.energy.trimming = false ∧ (s.lp pipe).entries = j :: rest ∧ s.dom (126 + e.val / 2) = 2 ∧ s.stalled = []
    let job (op : Nat) : Prop := ready (545 + 4 * e.val) ∧ jobOp j = op
    let results (t : State) : List Entry := smGet [] t.sec.results e.val
    let posts (t : State) (st fails first : Nat) : Prop := results t = results s ++ [cipherEntry j st fails first] ∧ (t.lp (545 + 4 * e.val)).entries = rest
    let slot := j.at 96 16
    let wrap := j.at 192 64
    let tenant := j.at 112 10
    let buf (i : Nat) : Nat := jobBuf j i
    let count := j.at 80 16
    let bytes (u : State) (a n : Nat) : List Byte := (List.range n).map fun q => u.byteAt (a + q)
    let sec (i : Nat) : List Byte := bytes s (buf i) 4160
    let plain : Prop := ∀ i, i < count → s.plainMem (buf i) 4160
    let others (t : State) : Prop := ∀ a, (∀ i, i < count → a < buf i ∨ buf i + 4160 ≤ a) → t.byteAt a = s.byteAt a
    let held (t : State) : Option KeySlot := (t.sec.keys.find? fun q => q.1 == slot).map Prod.snd
    let keyOk : Prop := jobKeyBad j = false ∧ s.on SEC_STAT_KEYSOFF = false
    let out := 546 + 4 * e.val
    let done_ (t : State) (reason : Nat) : Prop := t.rd CFG_STATUS_REASON = reason ∧ t.on CFG_STATUS_BUSY = false
    let owner (t : State) : Prop := (∃ os, t.ownSlot r.slot = { hash := sha384Num r.newPub, os := os, blown := true, valid := true }) ∧ done_ t 0
      ∧ t.host.objects = [] ∧ t.sec.keys = []
    let lost (t : State) : Prop := t.ownSlot r.slot = burnt (s.ownSlot r.slot) ∧ done_ t 0x0308 ∧ t.on CFG_ENABLE_EN = false ∧ t.sec.keys = s.sec.keys
    let signed := s.unlockSigned (beBytes 48 ((Config.cryptoBytes s.free).toNat % 2 ^ 384)) key sig
    let free : Prop := s.sec.loupeFuse = false ∧ s.on SEC_STAT_ENTFLT = false
    let unlocked (t : State) : Prop := t.sec.unlocked = true ∧ t.on SEC_STAT_LOUPE_USED = true
    let fusing (t : State) (f : FuseCmd) : Prop := t.sec.fuse = some f ∧ t.on SEC_FUSE_STAT_BUSY = true ∧ t.rd SEC_FUSE_STAT_ERR = 0
    let err (t : State) (n : Nat) : Prop := t.rd SEC_FUSE_STAT_ERR = n ∧ t.sec = s.sec
    let tap (t : State) (x : BitVec 8) (ext : Bool) : Prop := t.sec.tapCode = x ∧ t.sec.extest = ext
    let loupe : BitVec 8 := 0x80 ||| lc.zeroExtend 8
    (job 1 → (jobBufBad j = true → answers (.cipherSeal e) s fun t => keeps t ∧ posts t 2 0 0xFFFF ∧ t.mem = s.mem) ∧ (jobBufBad j = false → s.slotKey slot = none → answers (.cipherSeal e) s fun t => keeps t ∧ posts t 7 0 0xFFFF ∧ t.mem = s.mem)
      ∧ ∀ q, jobBufBad j = false → s.slotKey slot = some q → plain → (∀ i, i < count → sectorWseq (sec i) < s.vwNat 26) →
        answers (.cipherSeal e) s fun t => keeps t ∧ posts t 0 0 0xFFFF ∧ (∀ i, i < count → bytes t (buf i) 4160 = sealSector q (sec i)) ∧ others t)
    ∧ (job 1 → jobBufBad j = false → (s.slotKey slot).isSome → plain → (∃ i, i < count ∧ s.vwNat 26 ≤ sectorWseq (sec i)) → answers (.cipherSeal e) s fun t => keeps t ∧ posts t 2 0 0xFFFF ∧ t.mem = s.mem)
    ∧ (job 2 → ∀ q, jobBufBad j = false → s.slotKey slot = some q → plain → answers (.cipherOpen e) s fun t => keeps t ∧ 
        (let bad := (List.range count).filter fun i => ! sectorOpens q (sec i)
        posts t (if bad = [] then 0 else 1) bad.length (bad.headD 0xFFFF) ∧ others t ∧ ∀ i, i < count → bytes t (buf i) 4160 =
          if sectorOpens q (sec i) then gcmCrypt q (sectorNonce (sec i)) ((sec i).take 4096) ++ (sec i).drop 4096 else sec i))
    ∧ (job 3 → (jobKeyBad j = true → answers (.cipherGenkey e) s fun t => keeps t ∧ posts t 2 0 0xFFFF) ∧ (jobKeyBad j = false → s.on SEC_STAT_KEYSOFF = true → answers (.cipherGenkey e) s fun t => keeps t ∧ posts t 5 0 0xFFFF)
      ∧ (keyOk → s.on SEC_STAT_ENTFLT = true → answers (.cipherGenkey e) s fun t => keeps t ∧ posts t 6 0 0xFFFF)
      ∧ (keyOk → s.on SEC_STAT_ENTFLT = false → s.plainMem wrap 40 → answers (.cipherGenkey e) s fun t => keeps t ∧ posts t 0 0 0xFFFF ∧ (∃ q, held t = some { tenant := tenant, key := q }
          ∧ bytes t wrap 40 = leBytes 40 (Config.keyWrap (s.tenantKey tenant) q).toNat) ∧ ∀ a, a < wrap ∨ wrap + 40 ≤ a → t.byteAt a = s.byteAt a))
    ∧ (job 4 → keyOk → s.plainMem wrap 40 → answers (.cipherLoadkey e) s fun t => keeps t ∧ t.mem = s.mem
        ∧ match Config.keyUnwrap (s.tenantKey tenant) (BitVec.ofNat 320 (leNat (bytes s wrap 40))) with
          | some q => posts t 0 0 0xFFFF ∧ held t = some { tenant := tenant, key := q }
          | none => posts t 4 0 0xFFFF ∧ t.sec.keys = s.sec.keys)
    ∧ (job 5 → jobBad j = false → (slot < 2 → answers (.cipherEvict e) s fun t => keeps t ∧ posts t 2 0 0xFFFF) ∧ (2 ≤ slot → held s = none → answers (.cipherEvict e) s fun t => keeps t ∧ posts t 7 0 0xFFFF)
      ∧ (2 ≤ slot → (held s).isSome → answers (.cipherEvict e) s fun t => keeps t ∧ posts t 0 0 0xFFFF ∧ held t = none))
    ∧ (ready (544 + 4 * e.val) → answers (.sessionJob e) s fun t => keeps t ∧ results t = results s ++ [cipherEntry j (if j.poison then 2 else 0) 0 0xFFFF] ∧ (t.lp (544 + 4 * e.val)).entries = rest)
    ∧ (s.dom (126 + e.val / 2) ≠ 2 → ∀ i ∈ [.cipherSeal e, .cipherOpen e, .cipherGenkey e, .cipherLoadkey e, .cipherEvict e, .sessionJob e], answers i s fun t => t = s)
    ∧ (results s = j :: rest → s.stalled = [] → 0 < (s.lp out).free → (s.host.sealing = [] → answers (.cipherResult e) s fun t => keeps t ∧ results t = rest
        ∧ ∃ z, (t.lp out).entries = (s.lp out).entries ++ [z] ∧ z.at 0 64 = j.at 0 64)
      ∧ (j = cipherEntry (mkEntry [(0, 64, sj.opid)]) 0 0 0xFFFF → sj.opid < 2 ^ 63 → s.host.sealing = [sj] → (s.lp out).entries = [] → s.portUp sj.pkt.port = true →
        s.on APR_STAT_FROZEN = false → s.sess (BitVec.ofNat 14 sj.sid) = some x → answers (.cipherResult e) s fun t => keeps t ∧ results t = rest ∧ t.out = .packet sj.pkt :: s.out ∧ t.host.sealing = []))
    ∧ (results s = [] → answers (.cipherResult e) s fun t => keeps t ∧ t = s)
    ∧ (∀ i ∈ [.drbgReseed, .reseed], answers i s fun t => keeps t ∧ t.rd SEC_DRBG_RESEEDS = (s.rd SEC_DRBG_RESEEDS + 1) % 2 ^ SEC_DRBG_RESEEDS.width ∧ t.sec = { s.sec with requests := 0 })
    ∧ ((answers (.entropyHealthFailure) s fun t => keeps t ∧ t.on SEC_STAT_ENTFLT = true ∧ t.sec = s.sec) ∧ (s.on SEC_STAT_ENTFLT = true → answers (.entropyFaultClear) s fun t => keeps t ∧ t.on SEC_STAT_ENTFLT = false)
      ∧ (s.on SEC_STAT_ENTFLT = false → answers (.entropyFaultClear) s fun t => keeps t ∧ t = s))
    ∧ ((s.ownPending r 1 = true → answers (.claim r ok) s fun t => keeps t ∧ if ok then owner t else lost t) ∧ (s.ownPending r 1 = false → answers (.claim r ok) s fun t => keeps t ∧ t = s))
    ∧ ((s.ownPending r 2 = true → answers (.transfer r ok) s fun t => keeps t ∧ (ok = true → s.currentSlot ≠ some r.slot → owner t ∧ ∀ i, s.currentSlot = some i → (t.ownSlot i).destroyed = true)
        ∧ (ok = false → lost t)) ∧ (s.ownPending r 2 = false → answers (.transfer r ok) s fun t => keeps t ∧ t = s))
    ∧ ((s.ownPending r 3 = true → answers (.decommission r) s fun t => keeps t ∧ t.ownSlot r.slot = burnt (s.ownSlot r.slot) ∧ done_ t 0 ∧ t.host.objects = [] ∧ t.sec.keys = [])
      ∧ (s.ownPending r 3 = false → answers (.decommission r) s fun t => keeps t ∧ t = s))
    ∧ ((¬ free → answers (.loupeUnlock key sig ok) s fun t => keeps t ∧ t = s) ∧ (free → s.ownState ≠ 1 → answers (.loupeUnlock key sig ok) s fun t => keeps t ∧ t.sec.keys = s.sec.keys
        ∧ if signed then unlocked t else t.sec.unlocked = s.sec.unlocked)
      ∧ (free → s.ownState = 1 → answers (.loupeUnlock key sig ok) s fun t => keeps t ∧ if signed ∧ s.sec.policy.debugAllow ∧ ok then unlocked t ∧ t.sec.keys = [] ∧ t.on SEC_STAT_KEYSOFF = true
        else t.sec.unlocked = s.sec.unlocked ∧ t.sec.keys = s.sec.keys))
    ∧ ((s.on SEC_FUSE_STAT_BUSY = true → answers (.loupeKill) s fun t => keeps t ∧ err t 3) ∧ (s.on SEC_FUSE_STAT_BUSY = false → s.on SEC_STAT_VFUSE = false → answers (.loupeKill) s fun t => keeps t ∧ err t 1)
      ∧ (s.on SEC_FUSE_STAT_BUSY = false → s.on SEC_STAT_VFUSE = true → answers (.loupeKill) s fun t => keeps t ∧ fusing t .loupeKill))
    ∧ (((kind.toNat = 0 ∨ 4 < kind.toNat) → answers (.svnRaise kind) s fun t => keeps t ∧ t = s) ∧ (1 ≤ kind.toNat → kind.toNat ≤ 4 → s.on SEC_FUSE_STAT_BUSY = false → s.on SEC_STAT_VFUSE = true →
        answers (.svnRaise kind) s fun t => keeps t ∧ fusing t (.svn kind.toNat (s.sec.policy.minSvn.getD (kind.toNat - 1) 0))))
    ∧ ((s.sec.fuse = none → answers (.fuseCommandDone ok) s fun t => keeps t ∧ t = s) ∧ (∀ f, s.sec.fuse = some f → answers (.fuseCommandDone false) s fun t => keeps t ∧ t.rd SEC_FUSE_STAT_ERR = 2 ∧ t.on SEC_FUSE_STAT_BUSY = false
        ∧ t.sec = { s.sec with fuse := none })
      ∧ (s.sec.fuse = some .loupeKill → answers (.fuseCommandDone true) s fun t => keeps t ∧ t.sec.loupeFuse = true ∧ t.sec.unlocked = false ∧ t.on SEC_STAT_LOUPE_DEAD = true)
      ∧ (s.sec.fuse = some (.svn k v) → 1 ≤ k → k ≤ s.sec.svn.length → answers (.fuseCommandDone true) s fun t => keeps t ∧ t.sec.svn.getD (k - 1) 0 = max (s.sec.svn.getD (k - 1) 0) (min 32 v)
        ∧ t.on SEC_FUSE_STAT_BUSY = false))
    ∧ ((answers (.extest cells) s fun t => keeps t ∧ tap t 0 true ∧ t.sec.cells = cells ∧ t.out = .tap 412 cells.toNat :: s.out) ∧ (answers (.samplePreload cells) s fun t => keeps t ∧ tap t 2 false ∧ t.sec.cells = cells)
      ∧ (answers (.idcode) s fun t => keeps t ∧ tap t 1 false ∧ t.out = .tap 32 (if s.part = .fy3232s then 0x132325D3 else 0x132645D3) :: s.out) ∧ (answers (.bypass code) s fun t => keeps t ∧ tap t code false ∧ t.out = .tap 1 0 :: s.out))
    ∧ ((s.sec.loupeFuse = true → answers (.loupeFunction lc (.haltCore c)) s fun t => keeps t ∧ tap t loupe false ∧ t.out = .tap 1 0 :: s.out ∧ t.sec.halted = s.sec.halted)
      ∧ (s.sec.loupeFuse = false → s.sec.unlocked = false → answers (.loupeFunction lc (.haltCore c)) s fun t => keeps t ∧ tap t loupe false ∧ t.out = s.out ∧ t.sec.halted = s.sec.halted)
      ∧ (s.sec.loupeFuse = false → s.sec.unlocked = true → (answers (.loupeFunction lc (.haltCore c)) s fun t => keeps t ∧ tap t loupe false ∧ c.val ∈ t.sec.halted)
        ∧ (answers (.loupeFunction lc (.resumeCore c)) s fun t => keeps t ∧ c.val ∉ t.sec.halted) ∧ answers (.loupeFunction lc (.writePc c w)) s fun t => keeps t ∧ (t.core c.val).pc = w &&& ~~~3))

/-- O55. With SYSREF present where the command needs it. LEDGER_UPDATE recomputes E_bank and USABLE and sets DEFICIT exactly
where the reserve test with cost 0 fails. The debit at the head of the queue is admitted where it fits, and stays
otherwise; a waiting one gets its event once. APERTURE_FILL adds a tenth of G_eff to the bucket up to its cap, keeps
the last 100 samples and sets OVER. POWER_LOSS_FLUSH past boot step 1 freezes, raises PLGEN, starts the flush and
writes a run on each of its arms. FLUSH_END with nothing to plan again parks or, with power back, lifts the freeze;
FLUSH_BRAKE with every actuator parked stops the spindles, writes the report and sets FLUSHED. POWER_RETURN before the
end notes it, after it boots. An idle timer moves an idle attached bay, into A3 and A4 only while the reserve holds
without it; a queued operation brings it back. THERMAL_STEP takes the eight nodes together and sets THROT; shutdown
latches after 100 hot updates. A case temperature holds until it expires; a trim within 0.70 to 1.50 sets K.
(R394, R396, R398, R400, R401, R405, R407, R408, R411, R412, R413, R418) -/
def Obligations.EnergyFlushAndThermal : Prop :=
  ∀ (s : State) (code : BitVec 12) (handle ct m p : BitVec 16) (timedOut after : Bool) (written : List (Slice × Nat)) (b : Bay) (n : Fin 4) (h : Nat) (r : List Nat) (d : Debit), s.sysrefOk = true →
    let keeps (t : State) : Prop := t = { s with
      regs := t.regs, lps := t.lps, stalled := t.stalled, vital := t.vital, ang := t.ang, beam := t.beam,
      slices := t.slices, scheds := t.scheds, bt := t.bt, servos := t.servos, life := t.life, hdas := t.hdas,
      cals := t.cals, energy := t.energy, va := t.va, jseqHeld := t.jseqHeld, red := t.red, host := t.host,
      free := t.free, out := t.out, hie := t.hie, spins := t.spins, pwr := t.pwr, storeCorrected := t.storeCorrected,
      latches := t.latches, lpDepth := t.lpDepth, mem := t.mem, memErr := t.memErr, cache := t.cache,
      plru := t.plru, cacheBusy := t.cacheBusy, arrayErr := t.arrayErr, l1d := t.l1d, l1Err := t.l1Err,
      scrubSeen := t.scrubSeen, linked := t.linked, sysrefOk := t.sysrefOk, brefOk := t.brefOk, hrefOk := t.hrefOk,
      now := t.now, wall := t.wall, btClock := t.btClock, btErr := t.btErr, facets := t.facets, bus := t.bus,
      ref := t.ref, prisms := t.prisms, sec := t.sec, cfg := t.cfg, dma := t.dma, evr := t.evr, cores := t.cores }
    let e := s.energy
    let v := s.vholdFine code.toNat
    let bank := if s.on THM_REF_STAT_REFFLT then 0 else bankUnits (s.rd APR_BANK_C) (s.rd APR_BANK_EFF) v (s.rd APR_BANKV_VMIN * 10 * 2 ^ 28)
    let kin := (List.range s.bayCount).foldl (fun t i => t + s.kinUnits i) 0
    let usable := usableMj bank kin (s.rd APR_CTL_DERATE)
    let shown (f : Fld) (x : Nat) (t : State) : Prop := t.rd f = x % 2 ^ f.width
    let geff (t : State) : Prop := shown APR_GEFF_MW (gEff (s.rd APR_GRANT_MW) t.energy.tj) t
    let st := s.rd (APR_PS_STATE b.val)
    let to_ (t : State) : Nat := t.rd (APR_PS_STATE b.val)
    let idle : Prop := s.on (BL_CTL_ATTACHED b.val) = true ∧ s.bayIdle b.val = true ∧ s.rd (APR_IDLE_MS n.val) ≠ 0 ∧ st < n.val + 1
    let step (pw : Nat → Nat) : List Int := thermalNext e.nodes s.tCase (fun i => s.rd (THM_PARAM_R i)) (fun i => s.rd (THM_PARAM_C i)) (s.rd THM_RLAT_R) (s.rd THM_TRIM_K) pw
    let good : Prop := p.toNat ≠ 0 ∧ 70 * p.toNat ≤ 100 * m.toNat ∧ 100 * m.toNat ≤ 150 * p.toNat
    let gen := (s.vwNat 24 + 1) % 2 ^ 32
    let ending : Prop := e.flush = .writing ∧ (timedOut = true ∨ e.plan = [])
    let parked : Prop := e.flush = .parking ∧ s.allParked = true
    let pipe (s : State) (i : Nat) := s.lp (192 + i)
    (e.heldState = [] → e.deficit = none → answers (.ledgerUpdate code) s fun t => keeps t ∧ t.energy.bank = bank ∧ shown APR_BANKV_VHOLD (v / (10 * 2 ^ 28)) t ∧ shown APR_E_BANK_MJ (bank / (2 * 10 ^ 8 * 2 ^ 56)) t
        ∧ shown APR_RETR_MJ s.retrMj t ∧ shown APR_USABLE_MJ usable t ∧ t.on APR_STAT_DEFICIT = ! t.reserveFits 0 ∧ t.energy.outUj = e.outUj)
    ∧ (e.waiting = h :: r → s.debitOf h = some d → (s.debitFits d = true → answers (.debitAdmitted) s fun t => keeps t ∧ t.energy.waiting = r ∧ t.energy.outUj = e.outUj + d.cost * 1000
        ∧ t.energy.staged = e.staged + d.nSect * 4096 ∧ (t.debitOf h).map Debit.admitted = some true) ∧ (s.debitFits d = false → answers (.debitAdmitted) s fun t => keeps t ∧ t = s))
    ∧ (s.debitOf handle.toNat = some d → (d.admitted = false → d.noted = false → answers (.debitWaitEvent handle) s fun t => keeps t ∧ t.debitOf handle.toNat = some { d with noted := true }
        ∧ t.energy.waiting = e.waiting ∧ t.energy.outUj = e.outUj) ∧ ((d.admitted = true ∨ d.noted = true) → answers (.debitWaitEvent handle) s fun t => keeps t ∧ t = s))
    ∧ (s.on APR_CTL_EN = true → answers (.apertureFill) s fun t => keeps t ∧ geff t ∧ t.energy.bucket = min (e.bucket + ((t.rd APR_GEFF_MW + e.tenths) / 10 : Nat)) (t.rd APR_GEFF_MW * 10 : Nat)
        ∧ t.energy.tenths = (t.rd APR_GEFF_MW + e.tenths) % 10 ∧ t.energy.power.tail = e.power.take 99
        ∧ (105 * t.rd APR_GEFF_MW < 100 * (t.energy.power.foldl (· + ·) 0 / t.energy.power.length) → t.on APR_STAT_OVER = true))
    ∧ (s.on APR_CTL_EN = false → answers (.apertureFill) s fun t => keeps t ∧ t.energy.bucket = e.bucket ∧ t.on APR_STAT_OVER = false)
    ∧ ((s.pwr.porLow = true → answers (.powerLossFlush) s fun t => keeps t ∧ t = s) ∧ (s.pwr.porLow = false → s.cfg.step ≤ 1 → answers (.powerLossFlush) s fun t => keeps t ∧ t.on APR_STAT_PFAIL = true ∧ t.energy = e)
      ∧ (s.pwr.porLow = false → 1 < s.cfg.step → (e.flush = .none → answers (.powerLossFlush) s fun t => keeps t ∧ t.on APR_STAT_PFAIL = true ∧ t.on APR_STAT_FROZEN = true ∧ t.on APR_STAT_FLUSHING = true
        ∧ t.energy.flush = .writing ∧ t.rd APR_PLGEN_GEN = gen ∧ t.va.plgen = gen ∧ t.pwr.barred = true ∧ ∀ q ∈ s.flushArms, ∃ x j l, .flushRun q.2 x j l ∈ t.out)
        ∧ (e.flush ≠ .none → answers (.powerLossFlush) s fun t => keeps t ∧ t.on APR_STAT_PFAIL = true ∧ t.energy.flush = e.flush ∧ t.va = s.va)))
    ∧ ((e.flush ≠ .writing → answers (.flushEnd timedOut written) s fun t => keeps t ∧ t = s) ∧ (ending → (e.returned = false ∨ s.on THM_STAT_SHUT = true) → answers (.flushEnd timedOut written) s fun t => keeps t ∧ 
        t.energy.flush = .parking ∧ t.on APR_STAT_FROZEN = s.on APR_STAT_FROZEN)
      ∧ (ending → e.returned = true → s.on THM_STAT_SHUT = false → answers (.flushEnd timedOut written) s fun t => keeps t ∧ t.energy.flush = .none
        ∧ t.on APR_STAT_PRET = true ∧ t.on APR_STAT_FROZEN = false ∧ t.on APR_STAT_FLUSHING = false))
    ∧ ((¬ parked → answers (.flushBrake) s fun t => keeps t ∧ t = s) ∧ (parked → s.on THM_STAT_SHUT = false → s.pwr.forced = none → answers (.flushBrake) s fun t => keeps t ∧ t.energy.flush = .done ∧ t.on APR_STAT_FLUSHED = true
        ∧ t.on APR_STAT_FLUSHING = false ∧ t.va.report = s.flushLosses.take 4096 ∧ t.va.more = s.flushLosses.length - 4096 ∧ t.va.ledger = (e.outUj, e.staged)
        ∧ ∀ i, i < s.bayCount → s.stalled = [] → 0 < (pipe s i).free → (pipe t i).entries = (pipe s i).entries ++ [spinEntry opStop 0])
      ∧ (parked → s.on THM_STAT_SHUT = true → answers (.flushBrake) s fun t => keeps t ∧ ∀ i, i < 132 → s.dom i ≠ dmFused → t.dom i = dmOff))
    ∧ (((s.on APR_STAT_PFAIL = false ∨ s.on THM_STAT_SHUT = true) → answers (.powerReturn after) s fun t => keeps t ∧ t = s)
      ∧ (s.on APR_STAT_PFAIL = true → s.on THM_STAT_SHUT = false → (s.cfg.step ≤ 1 → answers (.powerReturn after) s fun t => keeps t ∧ t.on APR_STAT_PFAIL = false ∧ t.energy = e)
        ∧ (1 < s.cfg.step → e.flush = .writing → answers (.powerReturn false) s fun t => keeps t ∧ t.on APR_STAT_PFAIL = false ∧ t.energy = { e with returned := true })
        ∧ (1 < s.cfg.step → e.flush = .done → answers (.powerReturn true) s fun t => keeps t ∧ t.energy.flush = .none ∧ t.host.sessions = [] ∧ t.cfg.step = 0)))
    ∧ ((¬ idle → answers (.idleTimerExpiry b n) s fun t => keeps t ∧ t = s) ∧ (idle → n.val = 0 → answers (.idleTimerExpiry b n) s fun t => keeps t ∧ to_ t = 1) ∧ (idle → n.val ≠ 0 → (s.vacate b.val).roleBay b.val = true → answers (.idleTimerExpiry b n) s fun t => keeps t ∧ to_ t = max st 1)
      ∧ (idle → s.roleBay b.val = false → (n.val = 1 → answers (.idleTimerExpiry b n) s fun t => keeps t ∧ to_ t = 2) ∧ (2 ≤ n.val → answers (.idleTimerExpiry b n) s fun t => keeps t ∧ t.on (APR_PS_HOLD b.val) = ! s.fitsWithout b.val
        ∧ to_ t = if s.fitsWithout b.val then n.val + 1 else max st 2)))
    ∧ (((st = 0 ∨ s.bayIdle b.val = true) → answers (.powerStateExit b) s fun t => keeps t ∧ t = s) ∧ (st = 1 → s.bayIdle b.val = false → answers (.powerStateExit b) s fun t => keeps t ∧ to_ t = 0 ∧ t.on (APR_PS_HOLD b.val) = false))
    ∧ ((s.on THM_CTL_EN = true → answers (.thermalStep) s fun t => keeps t ∧ (∃ pw, t.energy.nodes = step pw) ∧ t.energy.tj = hottest t.energy.nodes)
      ∧ (s.on THM_CTL_EN = false → answers (.thermalStep) s fun t => keeps t ∧ t.energy.nodes = e.nodes ∧ t.energy.tj = e.tj))
    ∧ (answers (.thermalStep) s fun t => keeps t ∧ (t.on THM_STAT_THROT = true ↔ 95 * 2 ^ 32 < t.energy.tj) ∧ geff t ∧ t.energy.hot = (if 115 * 2 ^ 32 < t.energy.tj then e.hot + 1 else 0))
    ∧ (((e.hot < 100 ∨ s.on THM_STAT_SHUT = true) → answers (.thermalShutdown) s fun t => keeps t ∧ t = s) ∧ (100 ≤ e.hot → s.on THM_STAT_SHUT = false → answers (.thermalShutdown) s fun t => keeps t ∧ t.on THM_STAT_SHUT = true
        ∧ (e.flush = .none → t.on APR_STAT_FROZEN = true ∧ t.energy.flush = .writing ∧ t.energy.flushCause = 5 ∧ t.on APR_STAT_PFAIL = s.on APR_STAT_PFAIL)))
    ∧ ((answers (.caseTemperatureWrite ct) s fun t => keeps t ∧ t.rd THM_CASE_T = ct.toNat ∧ t.energy.caseValid = true ∧ t.on THM_STAT_CASEDFLT = false)
      ∧ (e.caseValid = true → answers (.caseValidityExpiry) s fun t => keeps t ∧ t.energy.caseValid = false ∧ t.on THM_STAT_CASEDFLT = true ∧ t.tCase = s.gradeMax * 2 ^ 24)
      ∧ (e.caseValid = false → answers (.caseValidityExpiry) s fun t => keeps t ∧ t = s))
    ∧ ((answers (.trim) s fun t => keeps t ∧ t.energy = { e with trimming := true }) ∧ (e.trimming = false → answers (.trimDone m p) s fun t => keeps t ∧ t = s)
      ∧ (e.trimming = true → good → answers (.trimDone m p) s fun t => keeps t ∧ t.rd THM_TRIM_K = m.toNat * 2 ^ 14 / p.toNat ∧ t.on THM_STAT_TRIMOK = true ∧ t.energy.trimming = false)
      ∧ (e.trimming = true → ¬ good → answers (.trimDone m p) s fun t => keeps t ∧ t.rd THM_TRIM_K = s.rd THM_TRIM_K ∧ t.on THM_STAT_TRIMBAD = true ∧ t.energy.trimming = false))

/-- O56. CACHE_FILL installs the missing line where a way may be allocated and leaves memory where no line is dirty and no
array error stands. WAY_LOCK takes a mask it may take and refuses one of more than 12 ways. A range operation starts
unless refused with RERR; INVALIDATE leaves no line of its range and does not write memory. A way group changes in
OFF, then STATE, or PWRERR sets. Disabling and enabling go through BUSY and leave no line. MEMORY_SCRUB sets what it
finds and never changes the bytes of memory. VITAL_WORD_CHECK gives each word its majority in three copies and counts
a lost one. JSEQ_WRITE ignores a value not above the current one and holds one that reaches the reservation; a commit
adds 2^24. WSEQ draws or waits; IMGVER returns its status; CORE_RELEASE starts the chosen cores at PWR_BOOTVEC.
(R466, R468, R477, R478, R481, R483, R485, R486, R487, R494, R497, R498) -/
def Obligations.CacheScrubVitalWordsAndReservations : Prop :=
  ∀ (s : State) (a : BitVec 40) (mask : BitVec 16) (incl act : Bool) (way : Fin 16) (g : Fin 4) (i : Fin 64) (w v : Word) (k : CodeCheck) (c : Core) (rd rs1 : GReg), s.sysrefOk = true →
    let keeps (t : State) : Prop := t = { s with
      regs := t.regs, lps := t.lps, stalled := t.stalled, mem := t.mem, memErr := t.memErr,
      cache := t.cache, plru := t.plru, arrayErr := t.arrayErr, l1d := t.l1d, l1Err := t.l1Err, free := t.free,
      cacheBusy := t.cacheBusy, scrubSeen := t.scrubSeen, vital := t.vital, energy := t.energy, va := t.va,
      jseqHeld := t.jseqHeld, cores := t.cores, linked := t.linked, sec := t.sec }
    let m := mask.toNat
    let locked := countTrue ((List.range 16).map m.testBit)
    let lockOk : Prop := locked ≤ 12 ∧ (∀ x, x < 16 → m.testBit x = true → s.groupOff (x / 4) = false) ∧ 4 ≤ allocableCount m s.groupOff ∧ s.on LC_STAT_BUSY = false
    let starts (t : State) (op : Nat) : Prop := t.on LC_RANGE_BUSY = true ∧ t.rd LC_RANGE_OP = op ∧ t.on LC_RANGE_INCL_LOCKED = incl ∧ t.rd LC_RANGE_SKIP_COUNT = 0
    let refused (t : State) : Prop := t.on LC_STAT_RERR = true ∧ t.on LC_RANGE_BUSY = s.on LC_RANGE_BUSY ∧ t.rd LC_RANGE_OP = s.rd LC_RANGE_OP
    let runs (t : State) (op way : Nat) : Prop := if s.rangeRefused op way then refused t else starts t op
    let inRange (p : Nat × CacheLine) : Prop := s.rd LC_RANGE_BASE_ADDR ≤ lineAddr p.1 p.2.tag ∧ lineAddr p.1 p.2.tag < s.rd LC_RANGE_BASE_ADDR + s.rd LC_RANGE_LEN_BYTES
    let group (t : State) (off : Bool) : Prop := if s.groupRefused g.val off then t.on LC_STAT_PWRERR = true ∧ t.rd LC_PWR_OFF = s.rd LC_PWR_OFF
      else (t.rd LC_PWR_OFF).testBit g.val = off ∧ t.on LC_PWR_PBUSY = true
    let isOff := (s.rd LC_PWR_OFF).testBit g.val
    let clean : Prop := s.arrayErr = [] ∧ ∀ p ∈ s.cache, p.2.dirty = false
    let err (t : State) : Nat := smGet 0 t.memErr (granBase a.toNat)
    let scrubs : Prop := s.on MEM_SCRUB_EN = true ∧ s.isMem a.toNat = true
    let idle : Prop := ∀ x, x < 16 → (s.core x).wait = .none
    let u := s.afterFetch c.val
    let next := u.vwNat 26
    let image := (u.g c.val rs1.val).toNat
    let read := u.imgverStatus image
    (s.isMem a.toNat = true → s.on LC_STAT_BYPASS = false → s.findWay a.toNat = none → s.cacheAllocates = true → (∃ x, x < 16 ∧ s.allocable x = true) →
      answers (.cacheFill a k) s fun t => keeps t ∧ (t.findWay a.toNat).isSome ∧ (clean → t.mem = s.mem))
    ∧ (((s.isMem a.toNat = false ∨ s.on LC_STAT_BYPASS = true ∨ (s.findWay a.toNat).isSome) → answers (.cacheFill a k) s fun t => keeps t ∧ t = s))
    ∧ ((lockOk → answers (.wayLock mask) s fun t => keeps t ∧ t.rd LC_LOCK_MASK = m) ∧ (12 < locked → answers (.wayLock mask) s fun t => keeps t ∧ t.on LC_STAT_LOCKERR = true ∧ t.rd LC_LOCK_MASK = s.rd LC_LOCK_MASK))
    ∧ ((answers (.rangeClean incl) s fun t => keeps t ∧ runs t 1 (s.rd LC_RANGE_WAY)) ∧ (answers (.rangeInvalidate incl) s fun t => keeps t ∧ runs t 2 (s.rd LC_RANGE_WAY)) ∧ (answers (.rangeCleanInv incl) s fun t => keeps t ∧ runs t 3 (s.rd LC_RANGE_WAY))
      ∧ (answers (.rangePreload incl way) s fun t => keeps t ∧ runs t 4 way.val))
    ∧ ((s.on LC_RANGE_BUSY = false → answers (.rangeOperationDone) s fun t => keeps t ∧ t = s) ∧ (s.on LC_RANGE_BUSY = true → answers (.rangeOperationDone) s fun t => keeps t ∧ t.on LC_RANGE_BUSY = false
        ∧ (s.rd LC_RANGE_OP = 2 → s.rd LC_LOCK_MASK = 0 → t.mem = s.mem ∧ ∀ q ∈ t.cache, q ∈ s.cache ∧ ¬ inRange q)))
    ∧ ((isOff = false → answers (.wayGroupOff g) s fun t => keeps t ∧ group t true) ∧ (isOff = true → answers (.wayGroupOn g) s fun t => keeps t ∧ group t false) ∧ (isOff = true → answers (.wayGroupOff g) s fun t => keeps t ∧ t = s)
      ∧ (isOff = false → answers (.wayGroupOn g) s fun t => keeps t ∧ t = s))
    ∧ ((s.on LC_PWR_PBUSY = true → answers (.wayGroupChangeDone) s fun t => keeps t ∧ t.rd LC_PWR_STATE = s.rd LC_PWR_OFF ∧ t.on LC_PWR_PBUSY = false) ∧ (s.on LC_PWR_PBUSY = false → answers (.wayGroupChangeDone) s fun t => keeps t ∧ t = s))
    ∧ ((s.on LC_STAT_BYPASS = false → s.on LC_STAT_BUSY = false → s.on LC_CTL_EN = true → answers (.cacheDisable) s fun t => keeps t ∧ t.on LC_CTL_EN = false ∧ t.on LC_STAT_BUSY = true
        ∧ t.cacheBusy = .disabling ∧ t.cache = s.cache) ∧ (s.on LC_CTL_EN = false → answers (.cacheDisable) s fun t => keeps t ∧ t = s))
    ∧ ((s.cacheBusy = .disabling → answers (.cacheDisableDone) s fun t => keeps t ∧ t.cache = [] ∧ t.on LC_STAT_BYPASS = true ∧ t.on LC_STAT_BUSY = false ∧ t.rd LC_LOCK_MASK = 0
        ∧ t.cacheBusy = .idle ∧ (clean → t.mem = s.mem)) ∧ (s.cacheBusy ≠ .disabling → answers (.cacheDisableDone) s fun t => keeps t ∧ t = s))
    ∧ ((s.on LC_STAT_BUSY = true → answers (.cacheEnable) s fun t => keeps t ∧ t.on LC_STAT_CTLERR = true ∧ t.cacheBusy = s.cacheBusy)
      ∧ (s.on LC_STAT_BUSY = false → s.on LC_STAT_BYPASS = true → answers (.cacheEnable) s fun t => keeps t ∧ t.on LC_CTL_EN = true ∧ t.on LC_STAT_BUSY = true ∧ t.cacheBusy = .enabling))
    ∧ ((s.cacheBusy = .enabling → answers (.cacheEnableDone) s fun t => keeps t ∧ t.cache = [] ∧ t.plru = [] ∧ t.on LC_STAT_BYPASS = false ∧ t.on LC_STAT_BUSY = false ∧ t.mem = s.mem)
      ∧ (s.cacheBusy ≠ .enabling → answers (.cacheEnableDone) s fun t => keeps t ∧ t = s))
    ∧ ((¬ scrubs → answers (.memoryScrub a k) s fun t => keeps t ∧ t = s) ∧ (answers (.memoryScrub a k) s fun t => keeps t ∧ t.mem = s.mem ∧ t.cache = s.cache)
      ∧ (scrubs → err s = 0 → (answers (.memoryScrub a .clean) s fun t => keeps t ∧ err t = 0 ∧ t.regs = s.regs) ∧ (answers (.memoryScrub a .correctable) s fun t => keeps t ∧ err t = 0 ∧ t.on MEM_STAT_CEEV = true)
        ∧ (answers (.memoryScrub a .uncorrectable) s fun t => keeps t ∧ err t = 2 ∧ t.on MEM_STAT_UEEV = true)))
    ∧ (((s.vw i.val).lost = false → (s.vw i.val).majority = some w → answers (.vitalWordCheck) s fun t => keeps t ∧ t.vw i.val = { c0 := w, c1 := w, c2 := w, lost := false })
      ∧ ((s.vw i.val).lost = false → (s.vw i.val).majority = none → answers (.vitalWordCheck) s fun t => keeps t ∧ t.on MEM_STAT_VWUE = true)
      ∧ ((∀ x, x < 64 → (s.vw x).lost = true) → answers (.vitalWordCheck) s fun t => keeps t ∧ t = s))
    ∧ ((v.toNat ≤ s.vwNat 27 → answers (.jseqWrite v) s fun t => keeps t ∧ t = s) ∧ (s.vwNat 27 < v.toNat → v.toNat < s.va.resvJ → answers (.jseqWrite v) s fun t => keeps t ∧ t.vwNat 27 = v.toNat ∧ t.jseqHeld = s.jseqHeld)
      ∧ (s.vwNat 27 < v.toNat → s.va.resvJ ≤ v.toNat → answers (.jseqWrite v) s fun t => keeps t ∧ t.vwNat 27 = s.vwNat 27 ∧ t.jseqHeld = s.jseqHeld ++ [v] ∧ t.va.writingJ = true))
    ∧ (idle → (s.va.writingW = true → answers (.reservationCommit false) s fun t => keeps t ∧ t.va = { s.va with resvW := s.va.resvW + 2 ^ 24, writingW := false } ∧ t.vital = s.vital)
      ∧ (s.va.writingW = false → answers (.reservationCommit false) s fun t => keeps t ∧ t = s)
      ∧ (s.va.writingJ = true → s.jseqHeld = [] → answers (.reservationCommit true) s fun t => keeps t ∧ t.va = { s.va with resvJ := s.va.resvJ + 2 ^ 24, writingJ := false } ∧ t.vital = s.vital))
    ∧ (s.executes (c.val) → next + 1 < 2 ^ 64 → (next + 1 < u.va.resvW → answers (.wseq c rd) s fun t => keeps t ∧ u.writesOnly t c.val rd.val (BitVec.ofNat 64 next) ∧ u.retires t c.val ((u.core c.val).pc + 4)
        ∧ t.vwNat 26 = next + 1 ∧ t.reg SEC_WSEQ = BitVec.ofNat 64 (next + 1)) ∧ (u.va.resvW ≤ next + 1 → answers (.wseq c rd) s fun t => keeps t ∧ (t.core c.val).wait = .wseq rd.val ∧ t.vital = u.vital))
    ∧ (s.executes (c.val) → (u.core c.val).priv = true → image % 64 = 0 → answers (.imgver c rd rs1 act) s fun t => keeps t ∧ read.2.2.writesOnly t c.val rd.val (BitVec.ofNat 64 read.1)
        ∧ read.2.2.retires t c.val ((read.2.2.core c.val).pc + 4) ∧ (u.on APR_STAT_PFAIL = true → u.writesOnly t c.val rd.val 7 ∧ t.sec = u.sec)
        ∧ t.sec.policyMeas = (if act ∧ imgKind read.2.1 = 2 ∧ read.1 = 0 then imgMeas read.2.1 else read.2.2.sec.policyMeas))
    ∧ (answers (.coreRelease mask) s fun t => keeps t ∧ ∀ x, x < 16 → (mask.getLsbD x = false → t.core x = s.core x) ∧ (mask.getLsbD x = true → (t.rd PWR_RELEASE_CORE).testBit x = true)
        ∧ (mask.getLsbD x = true → (s.rd PWR_RELEASE_CORE).testBit x = false → s.dom (96 + x) = 2 →
          t.core x = { s.core x with pc := BitVec.ofNat 64 (s.rd PWR_BOOTVEC_ADDR) &&& ~~~3 }))

/-- O57. ARM makes the shadow set valid, or sets SHERR. A channel with LPQ pops a descriptor into it. SHADOW_LOAD makes it the
transfer, or completes it with BAD_DESC. With an incrementing destination in memory without errors, FILL writes the
pattern by address and COPY the source bytes, CNT reaches 0, and no byte outside the destination changes. BURST_GRANT
of the one active channel moves one burst; with 8 outstanding it moves nothing. A bus error sets ERR, its status and
address and ends the transfer. COMPLETION of a transfer with CNT 0 sets DONE; a held completion is pushed when the
inbox has credit. Clearing ERR and disabling a channel or engine drop what their rules say.
(R503, R504, R505, R506, R507, R508, R509, R511, R514, R515, R516) -/
def Obligations.DmaTransfers : Prop :=
  ∀ (s : State) (ch : DmaCh) (e : Entry) (rest : List Entry) (write : Bool) (addr : BitVec 40) (req : BitVec 32), s.sysrefOk = true →
    let keeps (t : State) : Prop := t = { s with
      regs := t.regs, dma := t.dma, lps := t.lps, stalled := t.stalled, storeCorrected := t.storeCorrected,
      free := t.free, latches := t.latches, lpDepth := t.lpDepth, mem := t.mem, memErr := t.memErr,
      cache := t.cache, plru := t.plru, cacheBusy := t.cacheBusy, arrayErr := t.arrayErr, l1d := t.l1d,
      l1Err := t.l1Err, scrubSeen := t.scrubSeen, linked := t.linked, vital := t.vital, sysrefOk := t.sysrefOk,
      brefOk := t.brefOk, hrefOk := t.hrefOk, now := t.now, wall := t.wall, ang := t.ang, beam := t.beam,
      slices := t.slices, scheds := t.scheds, bt := t.bt, btClock := t.btClock, btErr := t.btErr,
      facets := t.facets, servos := t.servos, spins := t.spins, bus := t.bus, life := t.life, hdas := t.hdas,
      cals := t.cals, ref := t.ref, energy := t.energy, va := t.va, jseqHeld := t.jseqHeld, prisms := t.prisms,
      red := t.red, host := t.host, sec := t.sec, cfg := t.cfg, hie := t.hie, evr := t.evr, cores := t.cores,
      pwr := t.pwr, out := t.out }
    let d := ch.d.val
    let i := ch.i.val
    let cfg := s.rd (DMA_CFG_CFG d i)
    let n := s.rd (DMA_CNT_BYTES d i)
    let dst := s.rd (DMA_DST_ADDR d i)
    let src := (s.reg (DMA_SRC d i)).toNat
    let active := s.dmaActive d i
    let failed (t : State) : Bool := t.on (DMA_CH_STAT_ERR d i)
    let bad := (s.dmaS d i).poison || dmaBad (s.reg (DMA_SH_SRC d i)) (s.reg (DMA_SH_DST d i)) (s.rd (DMA_SH_CNT_BYTES d i)) (s.rd (DMA_SH_CFG_CFG d i))
    let loads : Prop := s.dmaOn d i = true ∧ active = false ∧ (s.dmaS d i).wait = none ∧ s.on (DMA_CH_STAT_SHV d i) = true ∧ failed s = false
    let moves (op : Nat) : Prop := s.dmaOn d i = true ∧ active = true ∧ failed s = false ∧ n ≠ 0 ∧ cfgOp cfg = op ∧ cfgReq cfg = 0 ∧ cfgDinc cfg = true
      ∧ cfgDwrap cfg = 0 ∧ cfgBurst cfg ≤ 6 ∧ s.plainMem dst n
    let fromMem : Prop := cfgSinc cfg = true ∧ cfgSwrap cfg = 0 ∧ s.plainMem src n ∧ (src + n ≤ dst ∨ dst + n ≤ src)
    let outside (t : State) : Prop := ∀ a, a < dst ∨ dst + n ≤ a → t.byteAt a = s.byteAt a
    let alone : Prop := ∀ j, j < 16 → j ≠ i → s.dmaActive d j = false
    let off (t : State) (j : Nat) : Prop := t.dmaActive d j = false ∧ t.on (DMA_CH_STAT_SHV d j) = false ∧ t.on (DMA_CH_STAT_CPLWAIT d j) = false ∧ t.on (DMA_CH_STAT_IDLE d j) = true
    let inbox := 672 + cfgCore cfg
    (((s.on (DMA_CH_STAT_SHV d i) = true ∨ s.on (DMA_CH_CTL_LPQ d i) = true) → answers (.dmaArm ch) s fun t => keeps t ∧ t.on (DMA_CH_STAT_SHERR d i) = true ∧ t.dma = s.dma)
      ∧ (s.on (DMA_CH_STAT_SHV d i) = false → s.on (DMA_CH_CTL_LPQ d i) = false → answers (.dmaArm ch) s fun t => keeps t ∧ t.on (DMA_CH_STAT_SHV d i) = true ∧ (t.dmaS d i).poison = false))
    ∧ (s.dmaOn d i = true → s.on (DMA_CH_CTL_LPQ d i) = true → s.on (DMA_CH_STAT_SHV d i) = false → failed s = false → (s.lp (576 + 16 * d + i)).entries = e :: rest →
      s.stalled = [] → answers (.dmaDescriptorPop ch) s fun t => keeps t ∧ t.on (DMA_CH_STAT_SHV d i) = true ∧ t.rd (DMA_SH_CNT_BYTES d i) = e.at 128 32
        ∧ t.rd (DMA_SH_CFG_CFG d i) = e.at 160 32 ∧ (t.dmaS d i).poison = e.poison ∧ (t.lp (576 + 16 * d + i)).entries = rest)
    ∧ ((s.on (DMA_CH_STAT_SHV d i) = true ∨ failed s = true) → answers (.dmaDescriptorPop ch) s fun t => keeps t ∧ t = s)
    ∧ ((loads → bad = false → answers (.shadowLoad ch) s fun t => keeps t ∧ t.dmaActive d i = true ∧ t.rd (DMA_CNT_BYTES d i) = s.rd (DMA_SH_CNT_BYTES d i) ∧ t.rd (DMA_CFG_CFG d i) = s.rd (DMA_SH_CFG_CFG d i)
        ∧ t.on (DMA_CH_STAT_SHV d i) = false) ∧ (loads → bad = true → answers (.shadowLoad ch) s fun t => keeps t ∧ t.dmaActive d i = false ∧ t.rd (DMA_CH_STAT_LASTST d i) = 3)
      ∧ (¬ loads → answers (.shadowLoad ch) s fun t => keeps t ∧ t = s))
    ∧ ((moves 2 → answers (.dmaFill ch) s fun t => keeps t ∧ (∀ j, j < n → t.byteAt (dst + j) = (s.reg (DMA_SRC d i)).extractLsb' (8 * ((dst + j) % 8)) 8) ∧ outside t
        ∧ t.rd (DMA_CNT_BYTES d i) = 0 ∧ failed t = false) ∧ (cfgOp cfg ≠ 2 → answers (.dmaFill ch) s fun t => keeps t ∧ t = s))
    ∧ ((moves 1 → fromMem → answers (.dmaCopy ch) s fun t => keeps t ∧ (∀ j, j < n → t.byteAt (dst + j) = s.byteAt (src + j)) ∧ outside t
        ∧ t.rd (DMA_CNT_BYTES d i) = 0 ∧ failed t = false) ∧ (cfgOp cfg ≠ 1 → answers (.dmaCopy ch) s fun t => keeps t ∧ t = s))
    ∧ ((moves 2 → alone → s.rd (DMA_ENG_STAT_OUTST d) < 8 → answers (.dmaBurstGrant ch.d req) s fun t => keeps t ∧ t.rd (DMA_CNT_BYTES d i) = n - s.burstLen d i ∧ outside t
        ∧ smGet 15 t.dma.last d = i) ∧ (8 ≤ s.rd (DMA_ENG_STAT_OUTST d) → answers (.dmaBurstGrant ch.d req) s fun t => keeps t ∧ t.mem = s.mem ∧ t.dma = s.dma))
    ∧ ((active = true → failed s = false → answers (.dmaBusError ch write addr) s fun t => keeps t ∧ failed t = true ∧ t.rd (DMA_CH_STAT_LASTST d i) = (if write then 2 else 1)
        ∧ t.rd (DMA_ERRADDR_ADDR d i) = addr.toNat ∧ t.dmaActive d i = false) ∧ ((active = false ∨ failed s = true) → answers (.dmaBusError ch write addr) s fun t => keeps t ∧ t = s))
    ∧ ((active = true → n = 0 → failed s = false → answers (.dmaCompletion ch) s fun t => keeps t ∧ t.rd (DMA_CH_STAT_LASTST d i) = 0 ∧ t.on (DMA_CH_STAT_DONE d i) = true
        ∧ t.dmaActive d i = false ∧ t.on (DMA_CH_STAT_IDLE d i) = true) ∧ ((active = false ∨ n ≠ 0) → answers (.dmaCompletion ch) s fun t => keeps t ∧ t = s))
    ∧ (((s.dmaS d i).wait = some e → s.hasCredit inbox = true → answers (.dmaCompletionPush ch) s fun t => keeps t ∧ (t.lp inbox).entries = (s.lp inbox).entries ++ [e]
        ∧ (t.dmaS d i).wait = none ∧ t.on (DMA_CH_STAT_CPLWAIT d i) = false) ∧ ((s.dmaS d i).wait = none → answers (.dmaCompletionPush ch) s fun t => keeps t ∧ t = s))
    ∧ ((answers (.dmaErrClear ch) s fun t => keeps t ∧ failed t = false ∧ ∀ r : Reg, r.addr ≠ (DMA_CH_STAT_ERR d i).reg.addr → t.reg r = s.reg r)
      ∧ (answers (.dmaChannelDisable ch) s fun t => keeps t ∧ t.on (DMA_CH_CTL_EN d i) = false ∧ off t i ∧ (∀ j, j < 16 → j ≠ i → t.dmaActive d j = s.dmaActive d j))
      ∧ (answers (.dmaEngineDisable ch.d) s fun t => keeps t ∧ t.on (DMA_ENG_CTL_EN d) = false ∧ ∀ j, j < 16 → off t j))

/-- O58. READ and SFDP fill the receive FIFO and set BUSY; PROGRAM and ERASE start, refused later with ERR 2 in the protected
region while the Loupe is locked, and are ignored while BUSY. When the operation is done a program clears bits within
its page and an erase sets its 64 KiB block to ones, and no other byte changes; a device error sets ERR 1.
ENABLE_CHECK sets BUSY with the reason its checks give for the selected profile, and when done EN is set or REASON
holds it; CFG_DISABLE clears EN unless the transport runs or a bay is attached. A boot step out of turn does nothing;
in turn each has its effect (where the slot of an image comes from is log entry 109), and a failing one stops boot: a
firmware image that verifies gives core 0 its entry, any other stops it. A staged image that verifies goes into TRIAL,
any other switches nothing; the policy image switches at the second command.
(R521, R523, R524, R526, R530, R569, R570, R577, R598) -/
def Obligations.FlashEnableCheckAndBoot : Prop :=
  ∀ (s : State) (dev ok : Bool) (mbit : Nat) (raw : BitVec 8) (o : FlashOp) (c : CheckRun) (x : BootStep) (tg : Fin 3) (n : Fin 4), s.sysrefOk = true →
    let keeps (t : State) : Prop := t = { s with
      regs := t.regs, cfg := t.cfg, free := t.free, lps := t.lps, stalled := t.stalled, vital := t.vital,
      energy := t.energy, host := t.host, sec := t.sec, latches := t.latches, lpDepth := t.lpDepth,
      storeCorrected := t.storeCorrected, mem := t.mem, memErr := t.memErr, cache := t.cache, plru := t.plru,
      cacheBusy := t.cacheBusy, arrayErr := t.arrayErr, l1d := t.l1d, l1Err := t.l1Err, scrubSeen := t.scrubSeen,
      linked := t.linked, sysrefOk := t.sysrefOk, brefOk := t.brefOk, hrefOk := t.hrefOk, now := t.now,
      wall := t.wall, ang := t.ang, beam := t.beam, slices := t.slices, scheds := t.scheds, bt := t.bt,
      btClock := t.btClock, btErr := t.btErr, facets := t.facets, servos := t.servos, spins := t.spins,
      bus := t.bus, life := t.life, hdas := t.hdas, cals := t.cals, ref := t.ref, va := t.va, jseqHeld := t.jseqHeld,
      prisms := t.prisms, red := t.red, hie := t.hie, dma := t.dma, evr := t.evr, cores := t.cores,
      pwr := t.pwr, out := t.out }
    let busy := s.on CFG_FL_STAT_BUSY
    let addr := s.rd CFG_FL_ADDR_ADDR
    let len := s.rd CFG_FL_LEN_BYTES
    let starts (t : State) (op : Nat) : Prop := t.on CFG_FL_STAT_BUSY = true ∧ t.cfg.flOp = some { op := op, addr := addr, len := len, failed := if addr < 0x30000 ∧ s.sec.unlocked = false then 2 else 0 }
    let same (t : State) : Prop := ∀ a, t.flashByte a = s.flashByte a
    let ended (t : State) (err : Nat) : Prop := t.on CFG_FL_STAT_BUSY = false ∧ t.cfg.flOp = none ∧ t.rd CFG_FL_STAT_ERR = err
    let page (a : Nat) : Prop := a / 256 = o.addr / 256 ∧ a < s.flashSize
    let turn (k : Nat) : Prop := s.cfg.step + 1 = k ∧ s.cfg.stopped = false ∧ s.pwr.porLow = false ∧ (k = 2 → s.on APR_STAT_PFAIL = false)
    let stops (t : State) : Prop := t.cfg.stopped = true
    let v := s.checkedProfile
    let e (j : Nat) := s.bootEntry j
    let staged (j : Nat) : Prop := (e j).other = slotStaged
    let image (j : Nat) := s.slotBytes j (e j).otherSlot
    let trial (t : State) (j : Nat) : Prop := t.bootEntry j = { e j with other := slotTrial, tries := 2 }
    let policyOk : Bool := s.imageGood 2 0 (image 1) && s.digestAllowed (s.digestWith s.cfg.profMeas (imgMeas (image 1)) s.cfg.secHash)
    (busy = false → (answers (.flashRead) s fun t => keeps t ∧ t.on CFG_FL_STAT_BUSY = true ∧ t.cfg.rxf = s.flashBytes addr (min 256 len) ∧ same t)
      ∧ (answers (.sfdpRead) s fun t => keeps t ∧ t.on CFG_FL_STAT_BUSY = true ∧ t.cfg.rxf.length = min 256 len ∧ same t))
    ∧ ((busy = false → (answers (.flashProgram) s fun t => keeps t ∧ starts t 2 ∧ same t) ∧ (answers (.flashErase) s fun t => keeps t ∧ starts t 3 ∧ same t)) ∧ (busy = true → (answers (.flashProgram) s fun t => keeps t ∧ t = s) ∧ (answers (.flashErase) s fun t => keeps t ∧ t = s)))
    ∧ (s.cfg.flOp = some o → (o.failed ≠ 0 → o.failed < 4 → answers (.flashOperationDone dev) s fun t => keeps t ∧ ended t o.failed ∧ same t) ∧ (o.failed = 0 → answers (.flashOperationDone true) s fun t => keeps t ∧ ended t 1 ∧ same t)
      ∧ (o.failed = 0 → o.op = 3 → answers (.flashOperationDone false) s fun t => keeps t ∧ (∀ a, a / 65536 = o.addr / 65536 → t.flashByte a = 0xFF)
        ∧ ∀ a, a / 65536 ≠ o.addr / 65536 → t.flashByte a = s.flashByte a)
      ∧ (o.failed = 0 → o.op = 2 → min 256 o.len ≤ s.cfg.txf.length → answers (.flashOperationDone false) s fun t => keeps t ∧ 
        (∀ i, i < min 256 o.len → page (o.addr + i) → t.flashByte (o.addr + i) = s.flashByte (o.addr + i) &&& s.cfg.txf.getD i 0)
        ∧ ∀ a, (a < o.addr ∨ o.addr + min 256 o.len ≤ a ∨ ¬ page a) → t.flashByte a = s.flashByte a))
    ∧ (s.cfg.flOp = none → answers (.flashOperationDone dev) s fun t => keeps t ∧ t = s)
    ∧ (((s.on CFG_ENABLE_EN = true ∨ s.cfg.check.isSome ∨ s.cfg.owner.isSome) → answers (.enableCheck) s fun t => keeps t ∧ t = s)
      ∧ (s.on CFG_ENABLE_EN = false → s.cfg.check = none → s.cfg.owner = none → answers (.enableCheck) s fun t => keeps t ∧ t.on CFG_STATUS_BUSY = true
        ∧ t.cfg = { s.cfg with check := some { reason := s.checkConf s v s.bootProfile false, profile := v } }))
    ∧ ((s.cfg.check = none → answers (.enableCheckDone) s fun t => keeps t ∧ t = s) ∧ (s.cfg.check = some c → c.reason ≠ 0 → answers (.enableCheckDone) s fun t => keeps t ∧ t.rd CFG_STATUS_REASON = c.reason % 2 ^ 16
        ∧ t.on CFG_STATUS_BUSY = false ∧ t.on CFG_ENABLE_EN = false ∧ t.cfg.check = none)
      ∧ (s.cfg.check = some c → c.reason = 0 → c.profile.policy.ownRec.action = 0 → answers (.enableCheckDone) s fun t => keeps t ∧ t.rd CFG_STATUS_REASON = 0
        ∧ t.on CFG_STATUS_BUSY = false ∧ t.on CFG_ENABLE_EN = true ∧ t.cfg.check = none))
    ∧ (((s.on HPT_GCTL_EN = true ∨ ∃ b, b < 32 ∧ s.on (BL_CTL_ATTACHED b) = true) → answers (.cfgDisable) s fun t => keeps t ∧ t = s)
      ∧ (s.on HPT_GCTL_EN = false → (∀ b, b < 32 → s.on (BL_CTL_ATTACHED b) = false) → answers (.cfgDisable) s fun t => keeps t ∧ t.on CFG_ENABLE_EN = false))
    ∧ ((s.cfg.step + 1 ≠ bootNumber x → bootNumber x ≠ 10 → answers (.boot x) s fun t => keeps t ∧ t = s) ∧ ((s.cfg.stopped = true ∨ s.pwr.porLow = true) → answers (.boot x) s fun t => keeps t ∧ t = s)
      ∧ (turn (bootNumber x) → x ≠ .profile → answers (.boot x) s fun t => keeps t ∧ t.cfg.step = bootNumber x))
    ∧ ((turn 1 → s.rd PWR_STAT_CAUSE = 0 → answers (.boot .aon) s fun t => keeps t ∧ t.va.bootCount = s.va.bootCount + 1 ∧ t.reg SEC_WSEQ = BitVec.ofNat 64 s.va.resvW)
      ∧ (turn 2 → answers (.boot .rom) s fun t => keeps t ∧ ∀ a, 0x10000000 ≤ a → a < 0x10200000 → t.memByte a = 0)
      ∧ (s.on APR_STAT_PFAIL = true → answers (.boot .rom) s fun t => keeps t ∧ t = s))
    ∧ (turn 3 → (answers (.boot (.flash ok mbit raw)) s fun t => keeps t ∧ t.pwr.spiRstN = true) ∧ ((ok = false ∨ mbit < 256) → answers (.boot (.flash ok mbit raw)) s fun t => keeps t ∧ t.rd CFG_STATUS_BOOTERR = 1 ∧ stops t)
      ∧ (ok = true → 256 ≤ mbit → answers (.boot (.flash ok mbit raw)) s fun t => keeps t ∧ if (s.wr CFG_FL_SIZE_MBIT mbit).headerOk then t.rd MEM_DRAM_RAW = raw.toNat ∧ t.cfg.stopped = false
        else t.rd CFG_STATUS_BOOTERR = 2 ∧ stops t) ∧ (ok = true → 256 ≤ mbit → s.cfg.flash = [] → answers (.boot (.flash ok mbit raw)) s fun t => keeps t ∧ stops t))
    ∧ (turn 4 → (e 0).other = slotEmpty → answers (.boot .firmware) s fun t => keeps t ∧ match s.runImage 0 with
        | none => stops t
        | some l => if s.imageGood 1 0 l then (t.core 0).pc = imgEntry l &&& ~~~3 ∧ t.sec.firmware = imgMeas l else stops t)
    ∧ (turn 5 → (∀ j, 1 ≤ j → j < 9 → (e j).other = slotEmpty) → ((e 1).active = none → answers (.boot .profile) s fun t => keeps t ∧ stops t)
      ∧ ((s.activeProfile s.bootProfile) = none → answers (.boot .profile) s fun t => keeps t ∧ stops t ∧ t.on CFG_ENABLE_EN = s.on CFG_ENABLE_EN))
    ∧ (turn 12 → answers (.boot .open_) s fun t => keeps t ∧ t.on HPT_GCTL_EN = true ∧ t.on APR_CTL_LEN = true ∧ t.on APR_CTL_EN = true)
    ∧ ((staged (2 + tg.val) → answers (.imageSwitch (.microcode tg)) s fun t => keeps t ∧ if s.imageGood 3 tg.val (image (2 + tg.val)) then trial t (2 + tg.val)
        ∧ t.sec.microcode = s.sec.microcode.set tg.val (imgMeas (image (2 + tg.val))) else t = s) ∧ (¬ staged (2 + tg.val) → answers (.imageSwitch (.microcode tg)) s fun t => keeps t ∧ t = s)
      ∧ (staged 0 → answers (.imageSwitch .firmware) s fun t => keeps t ∧ if s.imageGood 1 0 (image 0) then trial t 0 else t = s) ∧ (¬ staged 0 → answers (.imageSwitch .firmware) s fun t => keeps t ∧ t = s))
    ∧ ((staged 1 → answers (.imageSwitch .policy) s fun t => keeps t ∧ if policyOk then (s.cfg.hold = false → t.cfg = { s.cfg with hold := true })
        ∧ (s.cfg.hold = true → t.cfg.hold = false ∧ t.sec.policyMeas = imgMeas (image 1) ∧ trial t 1) else t = s) ∧ (¬ staged 1 → answers (.imageSwitch .policy) s fun t => keeps t ∧ t = s)
      ∧ (answers (.imageSwitch (.profile n)) s fun t => keeps t ∧ if (s.selectProfile n.val).1 = 0 then t.rd CFG_STATUS_PROFILE = n.val ∧ t.on CFG_BOOTSEL_VALID = true
        else t.rd CFG_STATUS_REASON = (s.selectProfile n.val).1 % 2 ^ 16 ∧ t.cfg = s.cfg))

/-- O59. A beacon of a term not below the highest seen puts its set and epoch in force and fences exactly where the digest in
force is not in the set; others do nothing. A grant not older than the last is written to APR_GRANT. The acting
manager queues token requests and takes back a token of its holder only; a member takes its token. A standby takes
over with a higher term; ten seconds without a beacon fence a member; PUBLISH raises the epoch. An entry of an empty
channel does nothing; a well-formed one takes its slot of the ring and HEAD moves on; with the recorder frozen it is
held; a bad CODE makes a LOST record instead. FREEZE and its time-out, draining, flushing and MAC verification set
what their rules name.
(R535, R536, R539, R541, R542, R543, R546, R548, R554, R555, R556, R557) -/
def Obligations.HierarchyAndEventRecorder : Prop :=
  ∀ (s : State) (term gs mw : BitVec 32) (epoch : BitVec 16) (ds : List (BitVec 384)) (m : Fin 64) (id : BitVec 8) (b : Bay) (cm : CensusMsg) (ch : Fin 32) (e : Entry) (rest : List Entry) (p : Nat × JPair) (ps : List (Nat × JPair)) (good : Bool) (fl : Nat × Option Nat), s.sysrefOk = true →
    let keeps (t : State) : Prop := t = { s with
      regs := t.regs, lps := t.lps, stalled := t.stalled, host := t.host, hie := t.hie, out := t.out,
      storeCorrected := t.storeCorrected, mem := t.mem, memErr := t.memErr, cache := t.cache, plru := t.plru,
      arrayErr := t.arrayErr, l1d := t.l1d, l1Err := t.l1Err, linked := t.linked, evr := t.evr, cores := t.cores,
      free := t.free, cfg := t.cfg }
    let member : Prop := s.role ≠ roleStandalone
    let known : Prop := max 1 (s.rd HIE_TERM_TERM) ≤ term.toNat
    let set_ : Prop := ds ≠ [] ∧ ds.length ≤ 4
    let pipe := 640 + ch.val
    let entry : Prop := (s.lp pipe).entries = e :: rest ∧ s.stalled = [] ∧ e.poison = false
    let code := e.at 0 10
    let codeOk : Prop := code / 32 = ch.val ∧ 2 < code % 32 ∧ e.at 10 6 = 0
    let plainEntry : Prop := entry ∧ codeOk ∧ ch.val ≠ 3 ∧ s.on (EVR_CODE_UNLIM code) = true ∧ s.evr.chainDue = []
    let slot := s.rd EVR_RING_BASE_ADDR / 2 ^ 20 * 2 ^ 20 + s.rd EVR_HEAD_SEQ % 32768 * 32
    let head (t : State) : Nat := t.rd EVR_HEAD_SEQ
    let q := s.rd EVR_LZSEQ_SEQ
    let sector := 16400 + q % 4096
    let records := (List.range 128).flatMap fun k => s.ringRecord (s.rd EVR_DRAIN_SEQ + k)
    let next := (head s + 1) % 2 ^ EVR_HEAD_SEQ.width
    let flushing (t : State) (limit : Option Nat) : Prop := t.on EVR_STAT_FLUSHING = true ∧ t.on EVR_CTL_FREEZE = false ∧ (s.evr.flush = none → t.evr.flush = some (head s, limit))
    ((s.role = roleStandalone → answers (.hierarchyTick) s fun t => keeps t ∧ t = s) ∧ (member → s.enabled = true → answers (.hierarchyTick) s fun t => keeps t ∧ t.hie.pressed = false))
    ∧ (member → known → set_ → answers (.beacon term epoch ds) s fun t => keeps t ∧ t.hie.allowed = ds ∧ t.rd HIE_TAG_EPOCH = epoch.toNat ∧ t.rd HIE_TERM_TERM = term.toNat
        ∧ t.on HIE_STAT_FENCED = ! ds.contains s.digestNow ∧ t.on HIE_STAT_EXPIRED = false ∧ t.hie.lastBeacon = some s.now)
    ∧ ((s.role = roleStandalone ∨ ¬ known ∨ ¬ set_) → answers (.beacon term epoch ds) s fun t => keeps t ∧ t = s)
    ∧ (((s.role = roleManager ∨ s.role = roleStandby) → answers (.census m cm) s fun t => keeps t ∧ t.rd (HIE_MEMBER1_DEMAND m.val) = cm.demand.toNat ∧ (t.memberS m.val).heard = some s.now ∧ (t.memberS m.val).demand = cm.demand.toNat)
      ∧ (s.role ≠ roleManager → s.role ≠ roleStandby → answers (.census m cm) s fun t => keeps t ∧ t = s))
    ∧ (member → known → (s.acting = false → (s.hie.gseqSeen = none ∨ s.rd HIE_TERM_TERM < term.toNat) → answers (.grant term mw gs) s fun t => keeps t ∧ t.rd APR_GRANT_MW = mw.toNat ∧ t.hie.gseqSeen = some gs.toNat
        ∧ t.hie.decay = none) ∧ (s.acting = true → term.toNat = s.rd HIE_TERM_TERM → answers (.grant term mw gs) s fun t => keeps t ∧ t.rd APR_GRANT_MW = s.rd APR_GRANT_MW))
    ∧ ((s.role = roleStandalone ∨ ¬ known) → answers (.grant term mw gs) s fun t => keeps t ∧ t = s)
    ∧ ((s.acting = false → (answers (.tokenReq m b) s fun t => keeps t ∧ t = s) ∧ (answers (.tokenRet m id) s fun t => keeps t ∧ t = s) ∧ (answers (.tokenLeaseExpiry id) s fun t => keeps t ∧ t = s))
      ∧ (s.acting = true → s.rd (CFG_PARAM_VALUE 19) ≤ s.hie.tokens.length → answers (.tokenReq m b) s fun t => keeps t ∧ t.hie.requests = s.hie.requests ++ [(m.val, b.val)] ∧ t.hie.tokens = s.hie.tokens)
      ∧ (s.acting = true → s.hie.requests = [] → s.tokenHolder id.toNat = some m.val → (answers (.tokenRet m id) s fun t => keeps t ∧ t.hie.tokens = smErase s.hie.tokens id.toNat)
        ∧ (answers (.tokenLeaseExpiry id) s fun t => keeps t ∧ t.hie.tokens = smErase s.hie.tokens id.toNat)) ∧ (s.tokenHolder id.toNat ≠ some m.val → answers (.tokenRet m id) s fun t => keeps t ∧ t = s))
    ∧ ((member → answers (.token id b) s fun t => keeps t ∧ t.on (SPN_CTL_TOKEN b.val) = true ∧ b.val ∉ t.hie.wanted ∧ (b.val, id.toNat) ∈ t.hie.held) ∧ (s.role = roleStandalone → answers (.token id b) s fun t => keeps t ∧ t = s))
    ∧ (s.role = roleStandby → (s.acting = false → answers (.takeover) s fun t => keeps t ∧ t.acting = true ∧ t.rd HIE_TERM_TERM = (s.rd HIE_TERM_TERM + 1) % 2 ^ 32 ∧ t.hie.published = s.hie.allowed
        ∧ t.hie.quietUntil = s.now + 10 ^ 9 ∧ t.rd HIE_TAG_EPOCH = s.rd HIE_TAG_EPOCH) ∧ (s.acting = true → answers (.takeover) s fun t => keeps t ∧ t = s))
    ∧ ((member → s.acting = false → s.on HIE_STAT_EXPIRED = false → answers (.beaconLossFence) s fun t => keeps t ∧ t.on HIE_STAT_FENCED = true ∧ t.on HIE_STAT_EXPIRED = true ∧ t.on HIE_STAT_NOMGR = true
        ∧ t.hie.decay = some (s.now, s.rd APR_GRANT_MW)) ∧ ((s.acting = true ∨ s.on HIE_STAT_EXPIRED = true) → answers (.beaconLossFence) s fun t => keeps t ∧ t = s))
    ∧ ((member → s.acting = true → answers (.publish) s fun t => keeps t ∧ t.hie.published = (List.range (s.clamp HIE_ASET_CTL_COUNT 1 4)).map s.asetDigest
        ∧ t.rd HIE_ASET_CTL_EPOCH = (s.rd HIE_ASET_CTL_EPOCH + 1) % 2 ^ HIE_ASET_CTL_EPOCH.width) ∧ (s.acting = false → answers (.publish) s fun t => keeps t ∧ t = s))
    ∧ (((s.lp pipe).entries = [] → answers (.eventEntry ch) s fun t => keeps t ∧ t = s) ∧ (plainEntry → s.ringLive = true → s.ringTakes ch.val = true → s.plainMem slot 32 → answers (.eventEntry ch) s fun t => keeps t ∧ head t = next
        ∧ (t.lp pipe).entries = rest ∧ (t.byteAt (slot + 6)).toNat = code % 256 ∧ ∀ a, a < slot ∨ slot + 32 ≤ a → t.byteAt a = s.byteAt a))
    ∧ ((plainEntry → s.ringLive = false → s.evr.held.length < 256 → answers (.eventEntry ch) s fun t => keeps t ∧ t.evr.held.length = s.evr.held.length + 1 ∧ t.mem = s.mem ∧ head t = head s)
      ∧ (plainEntry → s.ringLive = true → s.ringTakes ch.val = false → answers (.eventEntry ch) s fun t => keeps t ∧ smGet 0 t.evr.drops ch.val = smGet 0 s.evr.drops ch.val + 1
        ∧ t.on EVR_STAT_LOSTEV = true ∧ t.mem = s.mem))
    ∧ (entry → ¬ codeOk → ch.val ≠ 3 → s.evr.chainDue = [] → s.ringLive = false → s.evr.held.length < 256 → answers (.eventEntry ch) s fun t => keeps t ∧ 
        (t.evr.held.getLast?).map (fun r => recCode r.data) = some (codeLost ch.val) ∧ t.evr.held.length = s.evr.held.length + 1)
    ∧ ((s.evr.supp = [] → answers (.evrSummary) s fun t => keeps t ∧ t = s) ∧ (answers (.evrSummary) s fun t => keeps t ∧ t.evr.supp = []) ∧ (smGet 0 s.evr.drops ch.val = 0 → answers (.evrLost ch) s fun t => keeps t ∧ t = s)
      ∧ (smGet 0 s.evr.drops ch.val ≠ 0 → s.ringLive = true → s.ringTakes ch.val = true → s.evr.chainDue = [] → ch.val ≠ 3 → s.plainMem slot 32 → answers (.evrLost ch) s fun t => keeps t ∧ head t = next
        ∧ smGet 0 t.evr.drops ch.val = 0))
    ∧ ((answers (.freeze true) s fun t => keeps t ∧ t.on EVR_CTL_FREEZE = true ∧ t.mem = s.mem) ∧ (answers (.freeze false) s fun t => keeps t ∧ t.on EVR_CTL_FREEZE = false)
      ∧ (s.on EVR_CTL_FREEZE = false → answers (.freezeTimeout) s fun t => keeps t ∧ t = s) ∧ (s.on EVR_CTL_FREEZE = true → answers (.freezeTimeout) s fun t => keeps t ∧ t.on EVR_CTL_FREEZE = false))
    ∧ (s.red.pairs = p :: ps → (128 ≤ s.undrained → good = true → answers (.logDrain good) s fun t => keeps t ∧ t.rd EVR_DRAIN_SEQ = (s.rd EVR_DRAIN_SEQ + 128) % 2 ^ EVR_DRAIN_SEQ.width
        ∧ t.rd EVR_LZSEQ_SEQ = (s.rd EVR_LZSEQ_SEQ + 1) % 2 ^ EVR_LZSEQ_SEQ.width
        ∧ t.out = .logSector p.2.s1 sector q records :: .logSector p.2.s0 sector q records :: s.out)
      ∧ ((s.undrained < 128 ∨ good = false) → answers (.logDrain good) s fun t => keeps t ∧ t = s))
    ∧ (s.evr.held = [] → (answers (.eventFlush .command) s fun t => keeps t ∧ flushing t none) ∧ (answers (.eventFlush .record) s fun t => keeps t ∧ flushing t none) ∧ (s.on APR_STAT_PFAIL = true → answers (.eventFlush .pfail) s fun t => keeps t ∧ flushing t (some 512))
      ∧ (s.on APR_STAT_PFAIL = false → answers (.eventFlush .pfail) s fun t => keeps t ∧ t = s)
      ∧ (s.on THM_STAT_SHUT = true → answers (.eventFlush .shutdown) s fun t => keeps t ∧ flushing t (some 512)) ∧ (s.on THM_STAT_SHUT = false → answers (.eventFlush .shutdown) s fun t => keeps t ∧ t = s))
    ∧ ((s.evr.flush = some fl → answers (.eventFlushDone) s fun t => keeps t ∧ t.evr.flush = none ∧ t.on EVR_STAT_FLUSHDONE = true ∧ t.on EVR_STAT_FLUSHING = false ∧ t.mem = s.mem)
      ∧ (s.evr.flush = none → answers (.eventFlushDone) s fun t => keeps t ∧ t = s))
    ∧ (answers (.macVerify) s fun t => keeps t ∧ t.on EVR_VCTL_DONE = true ∧ (t.on EVR_VCTL_OK = true ↔ (BitVec.ofNat 256 (s.rowNat EVR_VBUF_WORD 8)).extractLsb' 128 128
        = recordMac s.evr.kevr (BitVec.ofNat 128 (s.rowNat EVR_VPREV_WORD 4)) ((BitVec.ofNat 256 (s.rowNat EVR_VBUF_WORD 8)).extractLsb' 0 128)))

/-- O60. A command that cmdError refuses sets PWR_CMDSTAT.ERR and, but for one given while another runs, its own fields of
PWR_CMD, and changes no other register. QUIESCE that runs makes the domain DRAINING with BUSY and ends at DRAIN_DONE
or, forced, at DRAIN_TIMEOUT in QUIESCED; RESET and ON give RESET, OFF gives OFF, RETURN gives ON. With no ownership
action half done, a cold reset clears memory, queues and sessions, puts boot before its first step and keeps part,
fuses, flash, vital area and surfaces; POR low leaves no domain ON. A warm reset of a drained device keeps memory as
every agent saw it with the cache clean, every vital word but the one that shows the fuses, and its cause; undrained
it waits. A forced reset flushes first; the watchdog forces one unless its limit is 0; KICK restarts it. The sideband
reads and writes its mailboxes in order, sets UNF or OVF, and answers an alert only while alerting.
(R563, R565, R566, R567, R568, R571, R572, R575, R578, R599) -/
def Obligations.PowerDomainsResetsAndSideband : Prop :=
  ∀ (s : State) (who : Agent) (dom off : BitVec 8) (role prof : BitVec 2) (smbus : Bool) (v bt : Byte) (r : List Byte),
    let keeps (t : State) : Prop := t = { s with
      regs := t.regs, lps := t.lps, stalled := t.stalled, storeCorrected := t.storeCorrected,
      mem := t.mem, memErr := t.memErr, cache := t.cache, plru := t.plru, arrayErr := t.arrayErr,
      l1d := t.l1d, l1Err := t.l1Err, linked := t.linked, vital := t.vital, ang := t.ang, beam := t.beam,
      slices := t.slices, scheds := t.scheds, bt := t.bt, btClock := t.btClock, facets := t.facets,
      servos := t.servos, spins := t.spins, life := t.life, hdas := t.hdas, cals := t.cals, energy := t.energy,
      va := t.va, jseqHeld := t.jseqHeld, prisms := t.prisms, red := t.red, host := t.host, sec := t.sec,
      dma := t.dma, cores := t.cores, pwr := t.pwr, free := t.free, out := t.out, latches := t.latches,
      lpDepth := t.lpDepth, cacheBusy := t.cacheBusy, scrubSeen := t.scrubSeen, sysrefOk := t.sysrefOk,
      brefOk := t.brefOk, hrefOk := t.hrefOk, now := t.now, wall := t.wall, btErr := t.btErr, bus := t.bus,
      ref := t.ref, cfg := t.cfg, hie := t.hie, evr := t.evr }
    let n := dom.toNat
    let st (t : State) : Nat := t.dom n
    let runs (op : Nat) : Prop := s.cmdError who n op = none
    let refuses (t : State) (op e : Nat) : Prop := s.cmdError who n op = some e → t.rd PWR_CMDSTAT_ERR = e ∧ (e ≠ 1 → t.rd PWR_CMD_DOM = n ∧ t.rd PWR_CMD_OP = op)
      ∧ ∀ q : Reg, q.addr ≠ PWR_CMDSTAT_ERR.reg.addr → (e = 1 ∨ q.addr ≠ PWR_CMD_DOM.reg.addr) → t.reg q = s.reg q
    let over_ (t : State) : Prop := st t = 4 ∧ t.on PWR_CMDSTAT_BUSY = false ∧ t.pwr.drain = none
    let lasts (t : State) : Prop := t.part = s.part ∧ t.va = s.va ∧ t.cfg.flash = s.cfg.flash ∧ t.sec.loupeFuse = s.sec.loupeFuse ∧ t.sec.svn = s.sec.svn ∧ t.hdas = s.hdas ∧ t.life = s.life
    let held (t : State) : Prop := t.mem = [] ∧ t.cache = [] ∧ t.lps = [] ∧ t.stalled = [] ∧ t.cores = [] ∧ t.host.sessions = []
    let settled : Prop := ∀ c, s.currentSlot = some c → s.sec.sealedSlot = some c
    let free : Prop := s.on THM_STAT_SHUT = false ∧ s.pwr.forced = none
    let forced (t : State) (cause : Nat) : Prop := t.pwr.forced = some cause ∧ t.pwr.warm = none ∧ (s.energy.flush = .none → t.energy.flush = .writing ∧ t.on APR_STAT_FROZEN = true)
    let mailbox : Prop := 0x40 ≤ off.toNat ∧ off.toNat < 0x80
    let up : Prop := s.pwr.porLow = false
    (∀ e, (answers (.quiesce who dom) s fun t => keeps t ∧ refuses t 1 e) ∧ (answers (.domReset who dom) s fun t => keeps t ∧ refuses t 2 e) ∧ (answers (.domOff who dom) s fun t => keeps t ∧ refuses t 3 e) ∧ (answers (.domOn who dom) s fun t => keeps t ∧ refuses t 4 e)
      ∧ (answers (.domReturn who dom) s fun t => keeps t ∧ refuses t 5 e))
    ∧ ((runs 1 → answers (.quiesce who dom) s fun t => keeps t ∧ st t = 3 ∧ t.on PWR_CMDSTAT_BUSY = true ∧ t.pwr.drain = some n) ∧ (runs 2 → answers (.domReset who dom) s fun t => keeps t ∧ st t = 1)
      ∧ (runs 3 → answers (.domOff who dom) s fun t => keeps t ∧ st t = 0) ∧ (runs 4 → answers (.domOn who dom) s fun t => keeps t ∧ st t = 1) ∧ (runs 5 → answers (.domReturn who dom) s fun t => keeps t ∧ st t = 2))
    ∧ ((s.on PWR_CMDSTAT_BUSY = true → answers (.quiesce who dom) s fun t => keeps t ∧ t.rd PWR_CMDSTAT_ERR = 1 ∧ st t = st s) ∧ (s.on PWR_CMDSTAT_BUSY = false → 131 < n → answers (.domOff who dom) s fun t => keeps t ∧ t.rd PWR_CMDSTAT_ERR = 5)
      ∧ (s.on PWR_CMDSTAT_BUSY = false → n ≤ 131 → s.pwr.barred = true → answers (.domOn who dom) s fun t => keeps t ∧ t.rd PWR_CMDSTAT_ERR = 4 ∧ st t = st s)
      ∧ (s.on PWR_CMDSTAT_BUSY = false → n ≤ 131 → s.pwr.barred = false → st s ≠ 0 → answers (.domOn who dom) s fun t => keeps t ∧ t.rd PWR_CMDSTAT_ERR = 2 ∧ st t = st s))
    ∧ ((s.pwr.drain = some n → n < 132 → s.drained n = true → answers (.drainDone dom) s fun t => keeps t ∧ over_ t) ∧ ((s.pwr.drain ≠ some n ∨ s.drained n = false) → answers (.drainDone dom) s fun t => keeps t ∧ t = s)
      ∧ (s.pwr.drain = some n → n < 132 → (n < 112 ∨ 116 ≤ n) → answers (.drainTimeout dom) s fun t => keeps t ∧ over_ t ∧ t.on (PWR_DOM_FORCED n) = true)
      ∧ (112 ≤ n → n < 116 → answers (.drainTimeout dom) s fun t => keeps t ∧ t = s))
    ∧ ((settled → answers (.coldReset role prof) s fun t => keeps t ∧ lasts t ∧ held t ∧ t.cfg.step = 0 ∧ t.rd CFG_STRAP_ROLE = role.toNat ∧ t.rd CFG_STRAP_PROFILE = prof.toNat ∧ t.pwr.porLow = false)
      ∧ (answers (.porNLow) s fun t => keeps t ∧ lasts t ∧ held t ∧ t.pwr.porLow = true ∧ ∀ k, k < 132 → t.dom k ≠ 2))
    ∧ (free → (settled → s.pwr.warm.isSome → s.deviceDrained = true → s.arrayErr = [] → (∀ p ∈ s.cache, p.2.dirty = false) → answers (.warmReset smbus) s fun t => keeps t ∧ t.mem = s.mem ∧ (∀ i, i ≠ 16 → t.vw i = s.vw i) ∧ t.cache = [] ∧ t.sec.loupeFuse = s.sec.loupeFuse
        ∧ t.rd PWR_STAT_CAUSE = (s.pwr.warm.getD 0) % 8 ∧ t.on PWR_STAT_FORCED = false ∧ t.pwr.warm = none)
      ∧ (s.pwr.warm.isSome → s.deviceDrained = false → s.allParked = true → answers (.warmReset smbus) s fun t => keeps t ∧ t = s)
      ∧ (s.pwr.warm = none → s.allParked = false → answers (.warmReset smbus) s fun t => keeps t ∧ t.pwr.warm = some (if smbus then 2 else 1)))
    ∧ ((free → answers (.forcedWarmReset smbus) s fun t => keeps t ∧ forced t (if smbus then 2 else 1)) ∧ (free → s.pwr.warm.isSome → answers (.warmResetDrainTimeout) s fun t => keeps t ∧ forced t 4) ∧ (s.pwr.warm = none → answers (.warmResetDrainTimeout) s fun t => keeps t ∧ t = s)
      ∧ (free → s.rd PWR_WDOG_LIMIT ≠ 0 → answers (.watchdog) s fun t => keeps t ∧ forced t 3) ∧ (s.rd PWR_WDOG_LIMIT = 0 → answers (.watchdog) s fun t => keeps t ∧ t = s)
      ∧ (¬ free → (answers (.warmReset smbus) s fun t => keeps t ∧ t = s) ∧ (answers (.forcedWarmReset smbus) s fun t => keeps t ∧ t = s)) ∧ (answers (.kick) s fun t => keeps t ∧ t = { s with pwr := { s.pwr with kicked := s.now } }))
    ∧ (up → mailbox → (s.pwr.outbound = bt :: r → answers (.smbusRead off) s fun t => keeps t ∧ t.out = .smbus bt :: s.out ∧ t.pwr.outbound = r)
      ∧ (s.pwr.outbound = [] → answers (.smbusRead off) s fun t => keeps t ∧ t.out = .smbus 0 :: s.out ∧ t.on PWR_SMB_UNF = true)
      ∧ (s.pwr.inbound.length < 128 → answers (.smbusWrite off v) s fun t => keeps t ∧ t.pwr.inbound = s.pwr.inbound ++ [v]) ∧ (128 ≤ s.pwr.inbound.length → answers (.smbusWrite off v) s fun t => keeps t ∧ t.on PWR_SMB_OVF = true ∧ t.pwr = s.pwr))
    ∧ (up → (answers (.smbusWrite 0x18 v) s fun t => keeps t ∧ t.rd CFG_BOOTSEL_PROFILE = v.toNat % 4 ∧ t.on CFG_BOOTSEL_VALID = v.getLsbD 2) ∧ (answers (.smbusWrite 0x17 v) s fun t => keeps t ∧ t.rd THM_CASE_T = v.toNat * 256 + s.pwr.caseLow.toNat)
      ∧ (free → answers (.smbusWrite 0x19 0xA7) s fun t => keeps t ∧ forced t 2) ∧ (¬ mailbox → answers (.smbusRead off) s fun t => keeps t ∧ t.out = .smbus (s.sideband off.toNat) :: s.out)
      ∧ (s.alerting = true → answers (.smbusAlertResponse) s fun t => keeps t ∧ t.out = .smbusAddress (0x4C + s.rd PWR_SMB_ADDR) :: s.out) ∧ (s.alerting = false → answers (.smbusAlertResponse) s fun t => keeps t ∧ t = s))
    ∧ (s.pwr.porLow = true → (answers (.smbusRead off) s fun t => keeps t ∧ t = s) ∧ (answers (.smbusWrite off v) s fun t => keeps t ∧ t = s) ∧ (answers (.smbusAlertResponse) s fun t => keeps t ∧ t = s))
end

