-- ==== Sys2Proof/Laws/State.lean ====
section
/-! SUPPORT. Sys2Proof/Laws/State.lean: what each update of the state changes: reading back a sparse map, a register, a
field or a unit's record after writing one, and one lemma per other field of State for each basic update. -/
namespace Sys2Proof.Machine
open Sys2Proof

/-! ### Sparse maps -/

@[simp] theorem smGet_nil {α : Type} (d : α) (k : Nat) : smGet d ([] : SMap α) k = d := rfl

theorem smGet_smErase {α : Type} (d : α) (m : SMap α) (k j : Nat) :
    smGet d (smErase m k) j = if j = k then d else smGet d m j := by
  induction m with
  | nil => simp [smErase, smGet]
  | cons p r ih =>
    obtain ⟨k', v⟩ := p
    by_cases h1 : k' = k
    · by_cases h2 : j = k
      · have := ih
        simp only [h2, if_true] at this
        simp [smErase, h1, h2, this]
      · have h3 : ¬ k = j := fun h => h2 h.symm
        simp [smErase, smGet, h1, h2, h3, ih]
    · by_cases h2 : k' = j
      · have h3 : ¬ j = k := fun h => h1 (h2.trans h)
        simp [smErase, smGet, h2, h3]
      · simp [smErase, smGet, h1, h2, ih]

theorem smGet_smPut {α : Type} (d : α) (m : SMap α) (k j : Nat) (v : α) :
    smGet d (smPut m k v) j = if j = k then v else smGet d m j := by
  induction m with
  | nil => by_cases h : k = j <;> simp [smPut, smGet, h, eq_comm]
  | cons p r ih =>
    obtain ⟨k', v'⟩ := p
    unfold smPut
    split
    · by_cases h : k = j
      · simp [smGet, h]
      · have h2 : ¬ j = k := fun e => h e.symm
        simp [smGet, h, h2]
    · split
      · rename_i h1 h2
        by_cases h : k = j
        · simp [smGet, h]
        · have h3 : ¬ j = k := fun e => h e.symm
          have h4 : ¬ k' = j := fun e => h (h2.symm.trans e)
          simp [smGet, h, h3, h4]
      · rename_i h1 h2
        by_cases h : k' = j
        · have h3 : ¬ j = k := fun e => h2 (h.trans e)
          simp [smGet, h, h3]
        · simp [smGet, h, ih]

theorem smGet_smSet {α : Type} [DecidableEq α] (d : α) (m : SMap α) (k j : Nat) (v : α) :
    smGet d (smSet d m k v) j = if j = k then v else smGet d m j := by
  unfold smSet
  split
  · rename_i h
    rw [smGet_smErase]
    split <;> simp_all
  · exact smGet_smPut d m k j v

@[simp] theorem smGet_smSet_same {α : Type} [DecidableEq α] (d : α) (m : SMap α) (k : Nat) (v : α) :
    smGet d (smSet d m k v) k = v := by simp [smGet_smSet]

theorem smGet_smSet_ne {α : Type} [DecidableEq α] (d e : α) (m : SMap α) {k j : Nat} (v : α) (h : j ≠ k) :
    smGet e (smSet d m k v) j = smGet e m j := by
  unfold smSet
  split
  · rw [smGet_smErase]; simp [h]
  · rw [smGet_smPut]; simp [h]

/-! ### Registers and fields -/

@[simp] theorem State.reg_setReg (s : State) (r : Reg) (v : Word) : (s.setReg r v).reg r = v := by
  simp [State.reg, State.setReg]

theorem State.reg_setReg_ne (s : State) {r q : Reg} (v : Word) (h : q.addr ≠ r.addr) : (s.setReg r v).reg q = s.reg q := by
  simp [State.reg, State.setReg, smGet_smSet_ne _ _ _ _ h]

@[simp] theorem State.rd_wr_ne_reg (s : State) {f g : Fld} (v : Nat) (h : g.reg.addr ≠ f.reg.addr) :
    (s.wr f v).rd g = s.rd g := by
  simp [State.rd, State.wr, State.reg_setReg_ne s _ h]

/-- One bit of a word with a field replaced. -/
theorem getLsbD_putBits (w : Word) (lo n v i : Nat) (hi : i < 64) :
    (putBits w lo n v).getLsbD i = if lo ≤ i ∧ i < lo + n then v.testBit (i - lo) else w.getLsbD i := by
  simp only [putBits, BitVec.getLsbD_or, BitVec.getLsbD_and, BitVec.getLsbD_not, BitVec.getLsbD_shiftLeft,
    BitVec.getLsbD_ofNat, Nat.testBit_two_pow_sub_one, Nat.testBit_mod_two_pow, hi, decide_true, Bool.true_and]
  by_cases h1 : i < lo
  · have h2 : ¬ lo ≤ i := by omega
    simp [h1, h2]
  · have h2 : lo ≤ i := by omega
    have h3 : i - lo < 64 := by omega
    by_cases h4 : i < lo + n
    · have h5 : i - lo < n := by omega
      simp [h1, h2, h3, h4, h5]
    · have h5 : ¬ i - lo < n := by omega
      simp [h1, h2, h3, h4, h5]

theorem bitsOf_putBits (w : Word) (lo n v : Nat) (h : lo + n ≤ 64) : bitsOf (putBits w lo n v) lo n = v % 2 ^ n := by
  have h1 : (putBits w lo n v).extractLsb' lo n = BitVec.ofNat n v := by
    apply BitVec.eq_of_getLsbD_eq
    intro i hi
    have h2 : lo + i < 64 := by omega
    have h3 : lo ≤ lo + i ∧ lo + i < lo + n := by omega
    simp only [BitVec.getLsbD_extractLsb', getLsbD_putBits _ _ _ _ _ h2, BitVec.getLsbD_ofNat, hi, decide_true,
      Bool.true_and, h3, and_self, if_true, Nat.add_sub_cancel_left]
  simp [bitsOf, h1]

theorem bitsOf_putBits_disjoint (w : Word) {lo n lo' n' : Nat} (v : Nat) (h : lo' + n' ≤ lo ∨ lo + n ≤ lo') :
    bitsOf (putBits w lo n v) lo' n' = bitsOf w lo' n' := by
  have h1 : (putBits w lo n v).extractLsb' lo' n' = w.extractLsb' lo' n' := by
    apply BitVec.eq_of_getLsbD_eq
    intro i hi
    by_cases h2 : lo' + i < 64
    · have h3 : ¬ (lo ≤ lo' + i ∧ lo' + i < lo + n) := by omega
      simp only [BitVec.getLsbD_extractLsb', getLsbD_putBits _ _ _ _ _ h2, h3, if_false]
    · simp only [BitVec.getLsbD_extractLsb', BitVec.getLsbD_of_ge _ _ (Nat.le_of_not_lt h2)]
  simp [bitsOf, h1]

/-- A field reads what was written to it, modulo its width. -/
theorem State.rd_wr (s : State) (f : Fld) (v : Nat) (h : f.lo + f.width ≤ 64) : (s.wr f v).rd f = v % 2 ^ f.width := by
  simp [State.rd, State.wr, bitsOf_putBits _ _ _ _ h]

/-- A write of a field leaves the other fields of its register. -/
theorem State.rd_wr_disjoint (s : State) {f g : Fld} (v : Nat) (hr : g.reg = f.reg)
    (h : g.lo + g.width ≤ f.lo ∨ f.lo + f.width ≤ g.lo) : (s.wr f v).rd g = s.rd g := by
  simp [State.rd, State.wr, hr, bitsOf_putBits_disjoint _ v h]

theorem State.on_put (s : State) (f : Fld) (b : Bool) (h : f.lo + f.width ≤ 64) (hw : f.width = 1) : (s.put f b).on f = b := by
  unfold State.on State.put
  rw [State.rd_wr s f _ h, hw]
  cases b <;> rfl

theorem State.on_put_ne_reg (s : State) {f g : Fld} (b : Bool) (h : g.reg.addr ≠ f.reg.addr) : (s.put f b).on g = s.on g := by
  simp [State.on, State.put, h]

/-! ### Records of units -/

@[simp] theorem State.core_setCore (s : State) (k : Nat) (v : CoreSt) : (s.setCore k v).core k = v := by simp [State.core, State.setCore]
theorem State.core_setCore_ne (s : State) {k j : Nat} (v : CoreSt) (h : j ≠ k) : (s.setCore k v).core j = s.core j := by
  simp [State.core, State.setCore, smGet_smSet_ne _ _ _ _ h]
@[simp] theorem State.lp_setLp (s : State) (k : Nat) (v : LpSt) : (s.setLp k v).lp k = v := by simp [State.lp, State.setLp]
theorem State.lp_setLp_ne (s : State) {k j : Nat} (v : LpSt) (h : j ≠ k) : (s.setLp k v).lp j = s.lp j := by
  simp [State.lp, State.setLp, smGet_smSet_ne _ _ _ _ h]
@[simp] theorem State.angS_setAng (s : State) (k : Nat) (v : AngSt) : (s.setAng k v).angS k = v := by simp [State.angS, State.setAng]
theorem State.angS_setAng_ne (s : State) {k j : Nat} (v : AngSt) (h : j ≠ k) : (s.setAng k v).angS j = s.angS j := by
  simp [State.angS, State.setAng, smGet_smSet_ne _ _ _ _ h]
@[simp] theorem State.beamS_setBeam (s : State) (k : Nat) (v : BeamSt) : (s.setBeam k v).beamS k = v := by simp [State.beamS, State.setBeam]
theorem State.beamS_setBeam_ne (s : State) {k j : Nat} (v : BeamSt) (h : j ≠ k) : (s.setBeam k v).beamS j = s.beamS j := by
  simp [State.beamS, State.setBeam, smGet_smSet_ne _ _ _ _ h]
@[simp] theorem State.sliceS_setSlice (s : State) (k : Nat) (v : SliceSt) : (s.setSlice k v).sliceS k = v := by simp [State.sliceS, State.setSlice]
theorem State.sliceS_setSlice_ne (s : State) {k j : Nat} (v : SliceSt) (h : j ≠ k) : (s.setSlice k v).sliceS j = s.sliceS j := by
  simp [State.sliceS, State.setSlice, smGet_smSet_ne _ _ _ _ h]
@[simp] theorem State.schedS_setSched (s : State) (k : Nat) (v : SchedSt) : (s.setSched k v).schedS k = v := by simp [State.schedS, State.setSched]
theorem State.schedS_setSched_ne (s : State) {k j : Nat} (v : SchedSt) (h : j ≠ k) : (s.setSched k v).schedS j = s.schedS j := by
  simp [State.schedS, State.setSched, smGet_smSet_ne _ _ _ _ h]
@[simp] theorem State.facetS_setFacet (s : State) (k : Nat) (v : FctSt) : (s.setFacet k v).facetS k = v := by simp [State.facetS, State.setFacet, smGet_smPut]
theorem State.facetS_setFacet_ne (s : State) {k j : Nat} (v : FctSt) (h : j ≠ k) : (s.setFacet k v).facetS j = s.facetS j := by
  simp [State.facetS, State.setFacet, smGet_smPut, h]
@[simp] theorem State.servoS_setServo (s : State) (k : Nat) (v : ServoSt) : (s.setServo k v).servoS k = v := by simp [State.servoS, State.setServo]
theorem State.servoS_setServo_ne (s : State) {k j : Nat} (v : ServoSt) (h : j ≠ k) : (s.setServo k v).servoS j = s.servoS j := by
  simp [State.servoS, State.setServo, smGet_smSet_ne _ _ _ _ h]
@[simp] theorem State.spinS_setSpin (s : State) (k : Nat) (v : SpinSt) : (s.setSpin k v).spinS k = v := by simp [State.spinS, State.setSpin]
theorem State.spinS_setSpin_ne (s : State) {k j : Nat} (v : SpinSt) (h : j ≠ k) : (s.setSpin k v).spinS j = s.spinS j := by
  simp [State.spinS, State.setSpin, smGet_smSet_ne _ _ _ _ h]
@[simp] theorem State.lifeR_setLife (s : State) (k : Nat) (v : LifeRec) : (s.setLife k v).lifeR k = v := by simp [State.lifeR, State.setLife]
theorem State.lifeR_setLife_ne (s : State) {k j : Nat} (v : LifeRec) (h : j ≠ k) : (s.setLife k v).lifeR j = s.lifeR j := by
  simp [State.lifeR, State.setLife, smGet_smSet_ne _ _ _ _ h]
@[simp] theorem State.calS_setCal (s : State) (k : Nat) (v : CalSt) : (s.setCal k v).calS k = v := by simp [State.calS, State.setCal]
theorem State.calS_setCal_ne (s : State) {k j : Nat} (v : CalSt) (h : j ≠ k) : (s.setCal k v).calS j = s.calS j := by
  simp [State.calS, State.setCal, smGet_smSet_ne _ _ _ _ h]

/-! ### `setReg` -/

@[simp] theorem State.setReg_pending (s : State) (r : Reg) (v : Word) : (s.setReg r v).pending = s.pending := rfl
@[simp] theorem State.setReg_part (s : State) (r : Reg) (v : Word) : (s.setReg r v).part = s.part := rfl
@[simp] theorem State.setReg_latches (s : State) (r : Reg) (v : Word) : (s.setReg r v).latches = s.latches := rfl
@[simp] theorem State.setReg_lps (s : State) (r : Reg) (v : Word) : (s.setReg r v).lps = s.lps := rfl
@[simp] theorem State.setReg_lpDepth (s : State) (r : Reg) (v : Word) : (s.setReg r v).lpDepth = s.lpDepth := rfl
@[simp] theorem State.setReg_stalled (s : State) (r : Reg) (v : Word) : (s.setReg r v).stalled = s.stalled := rfl
@[simp] theorem State.setReg_storeCorrected (s : State) (r : Reg) (v : Word) : (s.setReg r v).storeCorrected = s.storeCorrected := rfl
@[simp] theorem State.setReg_mem (s : State) (r : Reg) (v : Word) : (s.setReg r v).mem = s.mem := rfl
@[simp] theorem State.setReg_memErr (s : State) (r : Reg) (v : Word) : (s.setReg r v).memErr = s.memErr := rfl
@[simp] theorem State.setReg_cache (s : State) (r : Reg) (v : Word) : (s.setReg r v).cache = s.cache := rfl
@[simp] theorem State.setReg_plru (s : State) (r : Reg) (v : Word) : (s.setReg r v).plru = s.plru := rfl
@[simp] theorem State.setReg_cacheBusy (s : State) (r : Reg) (v : Word) : (s.setReg r v).cacheBusy = s.cacheBusy := rfl
@[simp] theorem State.setReg_arrayErr (s : State) (r : Reg) (v : Word) : (s.setReg r v).arrayErr = s.arrayErr := rfl
@[simp] theorem State.setReg_l1d (s : State) (r : Reg) (v : Word) : (s.setReg r v).l1d = s.l1d := rfl
@[simp] theorem State.setReg_l1Err (s : State) (r : Reg) (v : Word) : (s.setReg r v).l1Err = s.l1Err := rfl
@[simp] theorem State.setReg_scrubSeen (s : State) (r : Reg) (v : Word) : (s.setReg r v).scrubSeen = s.scrubSeen := rfl
@[simp] theorem State.setReg_linked (s : State) (r : Reg) (v : Word) : (s.setReg r v).linked = s.linked := rfl
@[simp] theorem State.setReg_vital (s : State) (r : Reg) (v : Word) : (s.setReg r v).vital = s.vital := rfl
@[simp] theorem State.setReg_sysrefOk (s : State) (r : Reg) (v : Word) : (s.setReg r v).sysrefOk = s.sysrefOk := rfl
@[simp] theorem State.setReg_brefOk (s : State) (r : Reg) (v : Word) : (s.setReg r v).brefOk = s.brefOk := rfl
@[simp] theorem State.setReg_hrefOk (s : State) (r : Reg) (v : Word) : (s.setReg r v).hrefOk = s.hrefOk := rfl
@[simp] theorem State.setReg_now (s : State) (r : Reg) (v : Word) : (s.setReg r v).now = s.now := rfl
@[simp] theorem State.setReg_wall (s : State) (r : Reg) (v : Word) : (s.setReg r v).wall = s.wall := rfl
@[simp] theorem State.setReg_ang (s : State) (r : Reg) (v : Word) : (s.setReg r v).ang = s.ang := rfl
@[simp] theorem State.setReg_beam (s : State) (r : Reg) (v : Word) : (s.setReg r v).beam = s.beam := rfl
@[simp] theorem State.setReg_slices (s : State) (r : Reg) (v : Word) : (s.setReg r v).slices = s.slices := rfl
@[simp] theorem State.setReg_scheds (s : State) (r : Reg) (v : Word) : (s.setReg r v).scheds = s.scheds := rfl
@[simp] theorem State.setReg_bt (s : State) (r : Reg) (v : Word) : (s.setReg r v).bt = s.bt := rfl
@[simp] theorem State.setReg_btClock (s : State) (r : Reg) (v : Word) : (s.setReg r v).btClock = s.btClock := rfl
@[simp] theorem State.setReg_btErr (s : State) (r : Reg) (v : Word) : (s.setReg r v).btErr = s.btErr := rfl
@[simp] theorem State.setReg_facets (s : State) (r : Reg) (v : Word) : (s.setReg r v).facets = s.facets := rfl
@[simp] theorem State.setReg_servos (s : State) (r : Reg) (v : Word) : (s.setReg r v).servos = s.servos := rfl
@[simp] theorem State.setReg_spins (s : State) (r : Reg) (v : Word) : (s.setReg r v).spins = s.spins := rfl
@[simp] theorem State.setReg_bus (s : State) (r : Reg) (v : Word) : (s.setReg r v).bus = s.bus := rfl
@[simp] theorem State.setReg_life (s : State) (r : Reg) (v : Word) : (s.setReg r v).life = s.life := rfl
@[simp] theorem State.setReg_hdas (s : State) (r : Reg) (v : Word) : (s.setReg r v).hdas = s.hdas := rfl
@[simp] theorem State.setReg_cals (s : State) (r : Reg) (v : Word) : (s.setReg r v).cals = s.cals := rfl
@[simp] theorem State.setReg_ref (s : State) (r : Reg) (v : Word) : (s.setReg r v).ref = s.ref := rfl
@[simp] theorem State.setReg_energy (s : State) (r : Reg) (v : Word) : (s.setReg r v).energy = s.energy := rfl
@[simp] theorem State.setReg_va (s : State) (r : Reg) (v : Word) : (s.setReg r v).va = s.va := rfl
@[simp] theorem State.setReg_jseqHeld (s : State) (r : Reg) (v : Word) : (s.setReg r v).jseqHeld = s.jseqHeld := rfl
@[simp] theorem State.setReg_prisms (s : State) (r : Reg) (v : Word) : (s.setReg r v).prisms = s.prisms := rfl
@[simp] theorem State.setReg_red (s : State) (r : Reg) (v : Word) : (s.setReg r v).red = s.red := rfl
@[simp] theorem State.setReg_host (s : State) (r : Reg) (v : Word) : (s.setReg r v).host = s.host := rfl
@[simp] theorem State.setReg_sec (s : State) (r : Reg) (v : Word) : (s.setReg r v).sec = s.sec := rfl
@[simp] theorem State.setReg_cfg (s : State) (r : Reg) (v : Word) : (s.setReg r v).cfg = s.cfg := rfl
@[simp] theorem State.setReg_hie (s : State) (r : Reg) (v : Word) : (s.setReg r v).hie = s.hie := rfl
@[simp] theorem State.setReg_dma (s : State) (r : Reg) (v : Word) : (s.setReg r v).dma = s.dma := rfl
@[simp] theorem State.setReg_evr (s : State) (r : Reg) (v : Word) : (s.setReg r v).evr = s.evr := rfl
@[simp] theorem State.setReg_cores (s : State) (r : Reg) (v : Word) : (s.setReg r v).cores = s.cores := rfl
@[simp] theorem State.setReg_pwr (s : State) (r : Reg) (v : Word) : (s.setReg r v).pwr = s.pwr := rfl
@[simp] theorem State.setReg_free (s : State) (r : Reg) (v : Word) : (s.setReg r v).free = s.free := rfl
@[simp] theorem State.setReg_out (s : State) (r : Reg) (v : Word) : (s.setReg r v).out = s.out := rfl

/-! ### `wr` -/

@[simp] theorem State.wr_pending (s : State) (f : Fld) (v : Nat) : (s.wr f v).pending = s.pending := rfl
@[simp] theorem State.wr_part (s : State) (f : Fld) (v : Nat) : (s.wr f v).part = s.part := rfl
@[simp] theorem State.wr_latches (s : State) (f : Fld) (v : Nat) : (s.wr f v).latches = s.latches := rfl
@[simp] theorem State.wr_lps (s : State) (f : Fld) (v : Nat) : (s.wr f v).lps = s.lps := rfl
@[simp] theorem State.wr_lpDepth (s : State) (f : Fld) (v : Nat) : (s.wr f v).lpDepth = s.lpDepth := rfl
@[simp] theorem State.wr_stalled (s : State) (f : Fld) (v : Nat) : (s.wr f v).stalled = s.stalled := rfl
@[simp] theorem State.wr_storeCorrected (s : State) (f : Fld) (v : Nat) : (s.wr f v).storeCorrected = s.storeCorrected := rfl
@[simp] theorem State.wr_mem (s : State) (f : Fld) (v : Nat) : (s.wr f v).mem = s.mem := rfl
@[simp] theorem State.wr_memErr (s : State) (f : Fld) (v : Nat) : (s.wr f v).memErr = s.memErr := rfl
@[simp] theorem State.wr_cache (s : State) (f : Fld) (v : Nat) : (s.wr f v).cache = s.cache := rfl
@[simp] theorem State.wr_plru (s : State) (f : Fld) (v : Nat) : (s.wr f v).plru = s.plru := rfl
@[simp] theorem State.wr_cacheBusy (s : State) (f : Fld) (v : Nat) : (s.wr f v).cacheBusy = s.cacheBusy := rfl
@[simp] theorem State.wr_arrayErr (s : State) (f : Fld) (v : Nat) : (s.wr f v).arrayErr = s.arrayErr := rfl
@[simp] theorem State.wr_l1d (s : State) (f : Fld) (v : Nat) : (s.wr f v).l1d = s.l1d := rfl
@[simp] theorem State.wr_l1Err (s : State) (f : Fld) (v : Nat) : (s.wr f v).l1Err = s.l1Err := rfl
@[simp] theorem State.wr_scrubSeen (s : State) (f : Fld) (v : Nat) : (s.wr f v).scrubSeen = s.scrubSeen := rfl
@[simp] theorem State.wr_linked (s : State) (f : Fld) (v : Nat) : (s.wr f v).linked = s.linked := rfl
@[simp] theorem State.wr_vital (s : State) (f : Fld) (v : Nat) : (s.wr f v).vital = s.vital := rfl
@[simp] theorem State.wr_sysrefOk (s : State) (f : Fld) (v : Nat) : (s.wr f v).sysrefOk = s.sysrefOk := rfl
@[simp] theorem State.wr_brefOk (s : State) (f : Fld) (v : Nat) : (s.wr f v).brefOk = s.brefOk := rfl
@[simp] theorem State.wr_hrefOk (s : State) (f : Fld) (v : Nat) : (s.wr f v).hrefOk = s.hrefOk := rfl
@[simp] theorem State.wr_now (s : State) (f : Fld) (v : Nat) : (s.wr f v).now = s.now := rfl
@[simp] theorem State.wr_wall (s : State) (f : Fld) (v : Nat) : (s.wr f v).wall = s.wall := rfl
@[simp] theorem State.wr_ang (s : State) (f : Fld) (v : Nat) : (s.wr f v).ang = s.ang := rfl
@[simp] theorem State.wr_beam (s : State) (f : Fld) (v : Nat) : (s.wr f v).beam = s.beam := rfl
@[simp] theorem State.wr_slices (s : State) (f : Fld) (v : Nat) : (s.wr f v).slices = s.slices := rfl
@[simp] theorem State.wr_scheds (s : State) (f : Fld) (v : Nat) : (s.wr f v).scheds = s.scheds := rfl
@[simp] theorem State.wr_bt (s : State) (f : Fld) (v : Nat) : (s.wr f v).bt = s.bt := rfl
@[simp] theorem State.wr_btClock (s : State) (f : Fld) (v : Nat) : (s.wr f v).btClock = s.btClock := rfl
@[simp] theorem State.wr_btErr (s : State) (f : Fld) (v : Nat) : (s.wr f v).btErr = s.btErr := rfl
@[simp] theorem State.wr_facets (s : State) (f : Fld) (v : Nat) : (s.wr f v).facets = s.facets := rfl
@[simp] theorem State.wr_servos (s : State) (f : Fld) (v : Nat) : (s.wr f v).servos = s.servos := rfl
@[simp] theorem State.wr_spins (s : State) (f : Fld) (v : Nat) : (s.wr f v).spins = s.spins := rfl
@[simp] theorem State.wr_bus (s : State) (f : Fld) (v : Nat) : (s.wr f v).bus = s.bus := rfl
@[simp] theorem State.wr_life (s : State) (f : Fld) (v : Nat) : (s.wr f v).life = s.life := rfl
@[simp] theorem State.wr_hdas (s : State) (f : Fld) (v : Nat) : (s.wr f v).hdas = s.hdas := rfl
@[simp] theorem State.wr_cals (s : State) (f : Fld) (v : Nat) : (s.wr f v).cals = s.cals := rfl
@[simp] theorem State.wr_ref (s : State) (f : Fld) (v : Nat) : (s.wr f v).ref = s.ref := rfl
@[simp] theorem State.wr_energy (s : State) (f : Fld) (v : Nat) : (s.wr f v).energy = s.energy := rfl
@[simp] theorem State.wr_va (s : State) (f : Fld) (v : Nat) : (s.wr f v).va = s.va := rfl
@[simp] theorem State.wr_jseqHeld (s : State) (f : Fld) (v : Nat) : (s.wr f v).jseqHeld = s.jseqHeld := rfl
@[simp] theorem State.wr_prisms (s : State) (f : Fld) (v : Nat) : (s.wr f v).prisms = s.prisms := rfl
@[simp] theorem State.wr_red (s : State) (f : Fld) (v : Nat) : (s.wr f v).red = s.red := rfl
@[simp] theorem State.wr_host (s : State) (f : Fld) (v : Nat) : (s.wr f v).host = s.host := rfl
@[simp] theorem State.wr_sec (s : State) (f : Fld) (v : Nat) : (s.wr f v).sec = s.sec := rfl
@[simp] theorem State.wr_cfg (s : State) (f : Fld) (v : Nat) : (s.wr f v).cfg = s.cfg := rfl
@[simp] theorem State.wr_hie (s : State) (f : Fld) (v : Nat) : (s.wr f v).hie = s.hie := rfl
@[simp] theorem State.wr_dma (s : State) (f : Fld) (v : Nat) : (s.wr f v).dma = s.dma := rfl
@[simp] theorem State.wr_evr (s : State) (f : Fld) (v : Nat) : (s.wr f v).evr = s.evr := rfl
@[simp] theorem State.wr_cores (s : State) (f : Fld) (v : Nat) : (s.wr f v).cores = s.cores := rfl
@[simp] theorem State.wr_pwr (s : State) (f : Fld) (v : Nat) : (s.wr f v).pwr = s.pwr := rfl
@[simp] theorem State.wr_free (s : State) (f : Fld) (v : Nat) : (s.wr f v).free = s.free := rfl
@[simp] theorem State.wr_out (s : State) (f : Fld) (v : Nat) : (s.wr f v).out = s.out := rfl

/-! ### `put` -/

@[simp] theorem State.put_pending (s : State) (f : Fld) (b : Bool) : (s.put f b).pending = s.pending := rfl
@[simp] theorem State.put_part (s : State) (f : Fld) (b : Bool) : (s.put f b).part = s.part := rfl
@[simp] theorem State.put_latches (s : State) (f : Fld) (b : Bool) : (s.put f b).latches = s.latches := rfl
@[simp] theorem State.put_lps (s : State) (f : Fld) (b : Bool) : (s.put f b).lps = s.lps := rfl
@[simp] theorem State.put_lpDepth (s : State) (f : Fld) (b : Bool) : (s.put f b).lpDepth = s.lpDepth := rfl
@[simp] theorem State.put_stalled (s : State) (f : Fld) (b : Bool) : (s.put f b).stalled = s.stalled := rfl
@[simp] theorem State.put_storeCorrected (s : State) (f : Fld) (b : Bool) : (s.put f b).storeCorrected = s.storeCorrected := rfl
@[simp] theorem State.put_mem (s : State) (f : Fld) (b : Bool) : (s.put f b).mem = s.mem := rfl
@[simp] theorem State.put_memErr (s : State) (f : Fld) (b : Bool) : (s.put f b).memErr = s.memErr := rfl
@[simp] theorem State.put_cache (s : State) (f : Fld) (b : Bool) : (s.put f b).cache = s.cache := rfl
@[simp] theorem State.put_plru (s : State) (f : Fld) (b : Bool) : (s.put f b).plru = s.plru := rfl
@[simp] theorem State.put_cacheBusy (s : State) (f : Fld) (b : Bool) : (s.put f b).cacheBusy = s.cacheBusy := rfl
@[simp] theorem State.put_arrayErr (s : State) (f : Fld) (b : Bool) : (s.put f b).arrayErr = s.arrayErr := rfl
@[simp] theorem State.put_l1d (s : State) (f : Fld) (b : Bool) : (s.put f b).l1d = s.l1d := rfl
@[simp] theorem State.put_l1Err (s : State) (f : Fld) (b : Bool) : (s.put f b).l1Err = s.l1Err := rfl
@[simp] theorem State.put_scrubSeen (s : State) (f : Fld) (b : Bool) : (s.put f b).scrubSeen = s.scrubSeen := rfl
@[simp] theorem State.put_linked (s : State) (f : Fld) (b : Bool) : (s.put f b).linked = s.linked := rfl
@[simp] theorem State.put_vital (s : State) (f : Fld) (b : Bool) : (s.put f b).vital = s.vital := rfl
@[simp] theorem State.put_sysrefOk (s : State) (f : Fld) (b : Bool) : (s.put f b).sysrefOk = s.sysrefOk := rfl
@[simp] theorem State.put_brefOk (s : State) (f : Fld) (b : Bool) : (s.put f b).brefOk = s.brefOk := rfl
@[simp] theorem State.put_hrefOk (s : State) (f : Fld) (b : Bool) : (s.put f b).hrefOk = s.hrefOk := rfl
@[simp] theorem State.put_now (s : State) (f : Fld) (b : Bool) : (s.put f b).now = s.now := rfl
@[simp] theorem State.put_wall (s : State) (f : Fld) (b : Bool) : (s.put f b).wall = s.wall := rfl
@[simp] theorem State.put_ang (s : State) (f : Fld) (b : Bool) : (s.put f b).ang = s.ang := rfl
@[simp] theorem State.put_beam (s : State) (f : Fld) (b : Bool) : (s.put f b).beam = s.beam := rfl
@[simp] theorem State.put_slices (s : State) (f : Fld) (b : Bool) : (s.put f b).slices = s.slices := rfl
@[simp] theorem State.put_scheds (s : State) (f : Fld) (b : Bool) : (s.put f b).scheds = s.scheds := rfl
@[simp] theorem State.put_bt (s : State) (f : Fld) (b : Bool) : (s.put f b).bt = s.bt := rfl
@[simp] theorem State.put_btClock (s : State) (f : Fld) (b : Bool) : (s.put f b).btClock = s.btClock := rfl
@[simp] theorem State.put_btErr (s : State) (f : Fld) (b : Bool) : (s.put f b).btErr = s.btErr := rfl
@[simp] theorem State.put_facets (s : State) (f : Fld) (b : Bool) : (s.put f b).facets = s.facets := rfl
@[simp] theorem State.put_servos (s : State) (f : Fld) (b : Bool) : (s.put f b).servos = s.servos := rfl
@[simp] theorem State.put_spins (s : State) (f : Fld) (b : Bool) : (s.put f b).spins = s.spins := rfl
@[simp] theorem State.put_bus (s : State) (f : Fld) (b : Bool) : (s.put f b).bus = s.bus := rfl
@[simp] theorem State.put_life (s : State) (f : Fld) (b : Bool) : (s.put f b).life = s.life := rfl
@[simp] theorem State.put_hdas (s : State) (f : Fld) (b : Bool) : (s.put f b).hdas = s.hdas := rfl
@[simp] theorem State.put_cals (s : State) (f : Fld) (b : Bool) : (s.put f b).cals = s.cals := rfl
@[simp] theorem State.put_ref (s : State) (f : Fld) (b : Bool) : (s.put f b).ref = s.ref := rfl
@[simp] theorem State.put_energy (s : State) (f : Fld) (b : Bool) : (s.put f b).energy = s.energy := rfl
@[simp] theorem State.put_va (s : State) (f : Fld) (b : Bool) : (s.put f b).va = s.va := rfl
@[simp] theorem State.put_jseqHeld (s : State) (f : Fld) (b : Bool) : (s.put f b).jseqHeld = s.jseqHeld := rfl
@[simp] theorem State.put_prisms (s : State) (f : Fld) (b : Bool) : (s.put f b).prisms = s.prisms := rfl
@[simp] theorem State.put_red (s : State) (f : Fld) (b : Bool) : (s.put f b).red = s.red := rfl
@[simp] theorem State.put_host (s : State) (f : Fld) (b : Bool) : (s.put f b).host = s.host := rfl
@[simp] theorem State.put_sec (s : State) (f : Fld) (b : Bool) : (s.put f b).sec = s.sec := rfl
@[simp] theorem State.put_cfg (s : State) (f : Fld) (b : Bool) : (s.put f b).cfg = s.cfg := rfl
@[simp] theorem State.put_hie (s : State) (f : Fld) (b : Bool) : (s.put f b).hie = s.hie := rfl
@[simp] theorem State.put_dma (s : State) (f : Fld) (b : Bool) : (s.put f b).dma = s.dma := rfl
@[simp] theorem State.put_evr (s : State) (f : Fld) (b : Bool) : (s.put f b).evr = s.evr := rfl
@[simp] theorem State.put_cores (s : State) (f : Fld) (b : Bool) : (s.put f b).cores = s.cores := rfl
@[simp] theorem State.put_pwr (s : State) (f : Fld) (b : Bool) : (s.put f b).pwr = s.pwr := rfl
@[simp] theorem State.put_free (s : State) (f : Fld) (b : Bool) : (s.put f b).free = s.free := rfl
@[simp] theorem State.put_out (s : State) (f : Fld) (b : Bool) : (s.put f b).out = s.out := rfl

/-! ### `setLp` -/

@[simp] theorem State.setLp_pending (s : State) (n : Nat) (l : LpSt) : (s.setLp n l).pending = s.pending := rfl
@[simp] theorem State.setLp_part (s : State) (n : Nat) (l : LpSt) : (s.setLp n l).part = s.part := rfl
@[simp] theorem State.setLp_regs (s : State) (n : Nat) (l : LpSt) : (s.setLp n l).regs = s.regs := rfl
@[simp] theorem State.setLp_latches (s : State) (n : Nat) (l : LpSt) : (s.setLp n l).latches = s.latches := rfl
@[simp] theorem State.setLp_lpDepth (s : State) (n : Nat) (l : LpSt) : (s.setLp n l).lpDepth = s.lpDepth := rfl
@[simp] theorem State.setLp_stalled (s : State) (n : Nat) (l : LpSt) : (s.setLp n l).stalled = s.stalled := rfl
@[simp] theorem State.setLp_storeCorrected (s : State) (n : Nat) (l : LpSt) : (s.setLp n l).storeCorrected = s.storeCorrected := rfl
@[simp] theorem State.setLp_mem (s : State) (n : Nat) (l : LpSt) : (s.setLp n l).mem = s.mem := rfl
@[simp] theorem State.setLp_memErr (s : State) (n : Nat) (l : LpSt) : (s.setLp n l).memErr = s.memErr := rfl
@[simp] theorem State.setLp_cache (s : State) (n : Nat) (l : LpSt) : (s.setLp n l).cache = s.cache := rfl
@[simp] theorem State.setLp_plru (s : State) (n : Nat) (l : LpSt) : (s.setLp n l).plru = s.plru := rfl
@[simp] theorem State.setLp_cacheBusy (s : State) (n : Nat) (l : LpSt) : (s.setLp n l).cacheBusy = s.cacheBusy := rfl
@[simp] theorem State.setLp_arrayErr (s : State) (n : Nat) (l : LpSt) : (s.setLp n l).arrayErr = s.arrayErr := rfl
@[simp] theorem State.setLp_l1d (s : State) (n : Nat) (l : LpSt) : (s.setLp n l).l1d = s.l1d := rfl
@[simp] theorem State.setLp_l1Err (s : State) (n : Nat) (l : LpSt) : (s.setLp n l).l1Err = s.l1Err := rfl
@[simp] theorem State.setLp_scrubSeen (s : State) (n : Nat) (l : LpSt) : (s.setLp n l).scrubSeen = s.scrubSeen := rfl
@[simp] theorem State.setLp_linked (s : State) (n : Nat) (l : LpSt) : (s.setLp n l).linked = s.linked := rfl
@[simp] theorem State.setLp_vital (s : State) (n : Nat) (l : LpSt) : (s.setLp n l).vital = s.vital := rfl
@[simp] theorem State.setLp_sysrefOk (s : State) (n : Nat) (l : LpSt) : (s.setLp n l).sysrefOk = s.sysrefOk := rfl
@[simp] theorem State.setLp_brefOk (s : State) (n : Nat) (l : LpSt) : (s.setLp n l).brefOk = s.brefOk := rfl
@[simp] theorem State.setLp_hrefOk (s : State) (n : Nat) (l : LpSt) : (s.setLp n l).hrefOk = s.hrefOk := rfl
@[simp] theorem State.setLp_now (s : State) (n : Nat) (l : LpSt) : (s.setLp n l).now = s.now := rfl
@[simp] theorem State.setLp_wall (s : State) (n : Nat) (l : LpSt) : (s.setLp n l).wall = s.wall := rfl
@[simp] theorem State.setLp_ang (s : State) (n : Nat) (l : LpSt) : (s.setLp n l).ang = s.ang := rfl
@[simp] theorem State.setLp_beam (s : State) (n : Nat) (l : LpSt) : (s.setLp n l).beam = s.beam := rfl
@[simp] theorem State.setLp_slices (s : State) (n : Nat) (l : LpSt) : (s.setLp n l).slices = s.slices := rfl
@[simp] theorem State.setLp_scheds (s : State) (n : Nat) (l : LpSt) : (s.setLp n l).scheds = s.scheds := rfl
@[simp] theorem State.setLp_bt (s : State) (n : Nat) (l : LpSt) : (s.setLp n l).bt = s.bt := rfl
@[simp] theorem State.setLp_btClock (s : State) (n : Nat) (l : LpSt) : (s.setLp n l).btClock = s.btClock := rfl
@[simp] theorem State.setLp_btErr (s : State) (n : Nat) (l : LpSt) : (s.setLp n l).btErr = s.btErr := rfl
@[simp] theorem State.setLp_facets (s : State) (n : Nat) (l : LpSt) : (s.setLp n l).facets = s.facets := rfl
@[simp] theorem State.setLp_servos (s : State) (n : Nat) (l : LpSt) : (s.setLp n l).servos = s.servos := rfl
@[simp] theorem State.setLp_spins (s : State) (n : Nat) (l : LpSt) : (s.setLp n l).spins = s.spins := rfl
@[simp] theorem State.setLp_bus (s : State) (n : Nat) (l : LpSt) : (s.setLp n l).bus = s.bus := rfl
@[simp] theorem State.setLp_life (s : State) (n : Nat) (l : LpSt) : (s.setLp n l).life = s.life := rfl
@[simp] theorem State.setLp_hdas (s : State) (n : Nat) (l : LpSt) : (s.setLp n l).hdas = s.hdas := rfl
@[simp] theorem State.setLp_cals (s : State) (n : Nat) (l : LpSt) : (s.setLp n l).cals = s.cals := rfl
@[simp] theorem State.setLp_ref (s : State) (n : Nat) (l : LpSt) : (s.setLp n l).ref = s.ref := rfl
@[simp] theorem State.setLp_energy (s : State) (n : Nat) (l : LpSt) : (s.setLp n l).energy = s.energy := rfl
@[simp] theorem State.setLp_va (s : State) (n : Nat) (l : LpSt) : (s.setLp n l).va = s.va := rfl
@[simp] theorem State.setLp_jseqHeld (s : State) (n : Nat) (l : LpSt) : (s.setLp n l).jseqHeld = s.jseqHeld := rfl
@[simp] theorem State.setLp_prisms (s : State) (n : Nat) (l : LpSt) : (s.setLp n l).prisms = s.prisms := rfl
@[simp] theorem State.setLp_red (s : State) (n : Nat) (l : LpSt) : (s.setLp n l).red = s.red := rfl
@[simp] theorem State.setLp_host (s : State) (n : Nat) (l : LpSt) : (s.setLp n l).host = s.host := rfl
@[simp] theorem State.setLp_sec (s : State) (n : Nat) (l : LpSt) : (s.setLp n l).sec = s.sec := rfl
@[simp] theorem State.setLp_cfg (s : State) (n : Nat) (l : LpSt) : (s.setLp n l).cfg = s.cfg := rfl
@[simp] theorem State.setLp_hie (s : State) (n : Nat) (l : LpSt) : (s.setLp n l).hie = s.hie := rfl
@[simp] theorem State.setLp_dma (s : State) (n : Nat) (l : LpSt) : (s.setLp n l).dma = s.dma := rfl
@[simp] theorem State.setLp_evr (s : State) (n : Nat) (l : LpSt) : (s.setLp n l).evr = s.evr := rfl
@[simp] theorem State.setLp_cores (s : State) (n : Nat) (l : LpSt) : (s.setLp n l).cores = s.cores := rfl
@[simp] theorem State.setLp_pwr (s : State) (n : Nat) (l : LpSt) : (s.setLp n l).pwr = s.pwr := rfl
@[simp] theorem State.setLp_free (s : State) (n : Nat) (l : LpSt) : (s.setLp n l).free = s.free := rfl
@[simp] theorem State.setLp_out (s : State) (n : Nat) (l : LpSt) : (s.setLp n l).out = s.out := rfl
@[simp] theorem State.setLp_reg (s : State) (n : Nat) (l : LpSt) (q : Reg) : (s.setLp n l).reg q = s.reg q := rfl
@[simp] theorem State.setLp_rd (s : State) (n : Nat) (l : LpSt) (q : Fld) : (s.setLp n l).rd q = s.rd q := rfl
@[simp] theorem State.setLp_on (s : State) (n : Nat) (l : LpSt) (q : Fld) : (s.setLp n l).on q = s.on q := rfl

/-! ### `setAng` -/

@[simp] theorem State.setAng_pending (s : State) (b : Nat) (v : AngSt) : (s.setAng b v).pending = s.pending := rfl
@[simp] theorem State.setAng_part (s : State) (b : Nat) (v : AngSt) : (s.setAng b v).part = s.part := rfl
@[simp] theorem State.setAng_regs (s : State) (b : Nat) (v : AngSt) : (s.setAng b v).regs = s.regs := rfl
@[simp] theorem State.setAng_latches (s : State) (b : Nat) (v : AngSt) : (s.setAng b v).latches = s.latches := rfl
@[simp] theorem State.setAng_lps (s : State) (b : Nat) (v : AngSt) : (s.setAng b v).lps = s.lps := rfl
@[simp] theorem State.setAng_lpDepth (s : State) (b : Nat) (v : AngSt) : (s.setAng b v).lpDepth = s.lpDepth := rfl
@[simp] theorem State.setAng_stalled (s : State) (b : Nat) (v : AngSt) : (s.setAng b v).stalled = s.stalled := rfl
@[simp] theorem State.setAng_storeCorrected (s : State) (b : Nat) (v : AngSt) : (s.setAng b v).storeCorrected = s.storeCorrected := rfl
@[simp] theorem State.setAng_mem (s : State) (b : Nat) (v : AngSt) : (s.setAng b v).mem = s.mem := rfl
@[simp] theorem State.setAng_memErr (s : State) (b : Nat) (v : AngSt) : (s.setAng b v).memErr = s.memErr := rfl
@[simp] theorem State.setAng_cache (s : State) (b : Nat) (v : AngSt) : (s.setAng b v).cache = s.cache := rfl
@[simp] theorem State.setAng_plru (s : State) (b : Nat) (v : AngSt) : (s.setAng b v).plru = s.plru := rfl
@[simp] theorem State.setAng_cacheBusy (s : State) (b : Nat) (v : AngSt) : (s.setAng b v).cacheBusy = s.cacheBusy := rfl
@[simp] theorem State.setAng_arrayErr (s : State) (b : Nat) (v : AngSt) : (s.setAng b v).arrayErr = s.arrayErr := rfl
@[simp] theorem State.setAng_l1d (s : State) (b : Nat) (v : AngSt) : (s.setAng b v).l1d = s.l1d := rfl
@[simp] theorem State.setAng_l1Err (s : State) (b : Nat) (v : AngSt) : (s.setAng b v).l1Err = s.l1Err := rfl
@[simp] theorem State.setAng_scrubSeen (s : State) (b : Nat) (v : AngSt) : (s.setAng b v).scrubSeen = s.scrubSeen := rfl
@[simp] theorem State.setAng_linked (s : State) (b : Nat) (v : AngSt) : (s.setAng b v).linked = s.linked := rfl
@[simp] theorem State.setAng_vital (s : State) (b : Nat) (v : AngSt) : (s.setAng b v).vital = s.vital := rfl
@[simp] theorem State.setAng_sysrefOk (s : State) (b : Nat) (v : AngSt) : (s.setAng b v).sysrefOk = s.sysrefOk := rfl
@[simp] theorem State.setAng_brefOk (s : State) (b : Nat) (v : AngSt) : (s.setAng b v).brefOk = s.brefOk := rfl
@[simp] theorem State.setAng_hrefOk (s : State) (b : Nat) (v : AngSt) : (s.setAng b v).hrefOk = s.hrefOk := rfl
@[simp] theorem State.setAng_now (s : State) (b : Nat) (v : AngSt) : (s.setAng b v).now = s.now := rfl
@[simp] theorem State.setAng_wall (s : State) (b : Nat) (v : AngSt) : (s.setAng b v).wall = s.wall := rfl
@[simp] theorem State.setAng_beam (s : State) (b : Nat) (v : AngSt) : (s.setAng b v).beam = s.beam := rfl
@[simp] theorem State.setAng_slices (s : State) (b : Nat) (v : AngSt) : (s.setAng b v).slices = s.slices := rfl
@[simp] theorem State.setAng_scheds (s : State) (b : Nat) (v : AngSt) : (s.setAng b v).scheds = s.scheds := rfl
@[simp] theorem State.setAng_bt (s : State) (b : Nat) (v : AngSt) : (s.setAng b v).bt = s.bt := rfl
@[simp] theorem State.setAng_btClock (s : State) (b : Nat) (v : AngSt) : (s.setAng b v).btClock = s.btClock := rfl
@[simp] theorem State.setAng_btErr (s : State) (b : Nat) (v : AngSt) : (s.setAng b v).btErr = s.btErr := rfl
@[simp] theorem State.setAng_facets (s : State) (b : Nat) (v : AngSt) : (s.setAng b v).facets = s.facets := rfl
@[simp] theorem State.setAng_servos (s : State) (b : Nat) (v : AngSt) : (s.setAng b v).servos = s.servos := rfl
@[simp] theorem State.setAng_spins (s : State) (b : Nat) (v : AngSt) : (s.setAng b v).spins = s.spins := rfl
@[simp] theorem State.setAng_bus (s : State) (b : Nat) (v : AngSt) : (s.setAng b v).bus = s.bus := rfl
@[simp] theorem State.setAng_life (s : State) (b : Nat) (v : AngSt) : (s.setAng b v).life = s.life := rfl
@[simp] theorem State.setAng_hdas (s : State) (b : Nat) (v : AngSt) : (s.setAng b v).hdas = s.hdas := rfl
@[simp] theorem State.setAng_cals (s : State) (b : Nat) (v : AngSt) : (s.setAng b v).cals = s.cals := rfl
@[simp] theorem State.setAng_ref (s : State) (b : Nat) (v : AngSt) : (s.setAng b v).ref = s.ref := rfl
@[simp] theorem State.setAng_energy (s : State) (b : Nat) (v : AngSt) : (s.setAng b v).energy = s.energy := rfl
@[simp] theorem State.setAng_va (s : State) (b : Nat) (v : AngSt) : (s.setAng b v).va = s.va := rfl
@[simp] theorem State.setAng_jseqHeld (s : State) (b : Nat) (v : AngSt) : (s.setAng b v).jseqHeld = s.jseqHeld := rfl
@[simp] theorem State.setAng_prisms (s : State) (b : Nat) (v : AngSt) : (s.setAng b v).prisms = s.prisms := rfl
@[simp] theorem State.setAng_red (s : State) (b : Nat) (v : AngSt) : (s.setAng b v).red = s.red := rfl
@[simp] theorem State.setAng_host (s : State) (b : Nat) (v : AngSt) : (s.setAng b v).host = s.host := rfl
@[simp] theorem State.setAng_sec (s : State) (b : Nat) (v : AngSt) : (s.setAng b v).sec = s.sec := rfl
@[simp] theorem State.setAng_cfg (s : State) (b : Nat) (v : AngSt) : (s.setAng b v).cfg = s.cfg := rfl
@[simp] theorem State.setAng_hie (s : State) (b : Nat) (v : AngSt) : (s.setAng b v).hie = s.hie := rfl
@[simp] theorem State.setAng_dma (s : State) (b : Nat) (v : AngSt) : (s.setAng b v).dma = s.dma := rfl
@[simp] theorem State.setAng_evr (s : State) (b : Nat) (v : AngSt) : (s.setAng b v).evr = s.evr := rfl
@[simp] theorem State.setAng_cores (s : State) (b : Nat) (v : AngSt) : (s.setAng b v).cores = s.cores := rfl
@[simp] theorem State.setAng_pwr (s : State) (b : Nat) (v : AngSt) : (s.setAng b v).pwr = s.pwr := rfl
@[simp] theorem State.setAng_free (s : State) (b : Nat) (v : AngSt) : (s.setAng b v).free = s.free := rfl
@[simp] theorem State.setAng_out (s : State) (b : Nat) (v : AngSt) : (s.setAng b v).out = s.out := rfl
@[simp] theorem State.setAng_reg (s : State) (b : Nat) (v : AngSt) (q : Reg) : (s.setAng b v).reg q = s.reg q := rfl
@[simp] theorem State.setAng_rd (s : State) (b : Nat) (v : AngSt) (q : Fld) : (s.setAng b v).rd q = s.rd q := rfl
@[simp] theorem State.setAng_on (s : State) (b : Nat) (v : AngSt) (q : Fld) : (s.setAng b v).on q = s.on q := rfl

/-! ### `setBeam` -/

@[simp] theorem State.setBeam_pending (s : State) (b : Nat) (v : BeamSt) : (s.setBeam b v).pending = s.pending := rfl
@[simp] theorem State.setBeam_part (s : State) (b : Nat) (v : BeamSt) : (s.setBeam b v).part = s.part := rfl
@[simp] theorem State.setBeam_regs (s : State) (b : Nat) (v : BeamSt) : (s.setBeam b v).regs = s.regs := rfl
@[simp] theorem State.setBeam_latches (s : State) (b : Nat) (v : BeamSt) : (s.setBeam b v).latches = s.latches := rfl
@[simp] theorem State.setBeam_lps (s : State) (b : Nat) (v : BeamSt) : (s.setBeam b v).lps = s.lps := rfl
@[simp] theorem State.setBeam_lpDepth (s : State) (b : Nat) (v : BeamSt) : (s.setBeam b v).lpDepth = s.lpDepth := rfl
@[simp] theorem State.setBeam_stalled (s : State) (b : Nat) (v : BeamSt) : (s.setBeam b v).stalled = s.stalled := rfl
@[simp] theorem State.setBeam_storeCorrected (s : State) (b : Nat) (v : BeamSt) : (s.setBeam b v).storeCorrected = s.storeCorrected := rfl
@[simp] theorem State.setBeam_mem (s : State) (b : Nat) (v : BeamSt) : (s.setBeam b v).mem = s.mem := rfl
@[simp] theorem State.setBeam_memErr (s : State) (b : Nat) (v : BeamSt) : (s.setBeam b v).memErr = s.memErr := rfl
@[simp] theorem State.setBeam_cache (s : State) (b : Nat) (v : BeamSt) : (s.setBeam b v).cache = s.cache := rfl
@[simp] theorem State.setBeam_plru (s : State) (b : Nat) (v : BeamSt) : (s.setBeam b v).plru = s.plru := rfl
@[simp] theorem State.setBeam_cacheBusy (s : State) (b : Nat) (v : BeamSt) : (s.setBeam b v).cacheBusy = s.cacheBusy := rfl
@[simp] theorem State.setBeam_arrayErr (s : State) (b : Nat) (v : BeamSt) : (s.setBeam b v).arrayErr = s.arrayErr := rfl
@[simp] theorem State.setBeam_l1d (s : State) (b : Nat) (v : BeamSt) : (s.setBeam b v).l1d = s.l1d := rfl
@[simp] theorem State.setBeam_l1Err (s : State) (b : Nat) (v : BeamSt) : (s.setBeam b v).l1Err = s.l1Err := rfl
@[simp] theorem State.setBeam_scrubSeen (s : State) (b : Nat) (v : BeamSt) : (s.setBeam b v).scrubSeen = s.scrubSeen := rfl
@[simp] theorem State.setBeam_linked (s : State) (b : Nat) (v : BeamSt) : (s.setBeam b v).linked = s.linked := rfl
@[simp] theorem State.setBeam_vital (s : State) (b : Nat) (v : BeamSt) : (s.setBeam b v).vital = s.vital := rfl
@[simp] theorem State.setBeam_sysrefOk (s : State) (b : Nat) (v : BeamSt) : (s.setBeam b v).sysrefOk = s.sysrefOk := rfl
@[simp] theorem State.setBeam_brefOk (s : State) (b : Nat) (v : BeamSt) : (s.setBeam b v).brefOk = s.brefOk := rfl
@[simp] theorem State.setBeam_hrefOk (s : State) (b : Nat) (v : BeamSt) : (s.setBeam b v).hrefOk = s.hrefOk := rfl
@[simp] theorem State.setBeam_now (s : State) (b : Nat) (v : BeamSt) : (s.setBeam b v).now = s.now := rfl
@[simp] theorem State.setBeam_wall (s : State) (b : Nat) (v : BeamSt) : (s.setBeam b v).wall = s.wall := rfl
@[simp] theorem State.setBeam_ang (s : State) (b : Nat) (v : BeamSt) : (s.setBeam b v).ang = s.ang := rfl
@[simp] theorem State.setBeam_slices (s : State) (b : Nat) (v : BeamSt) : (s.setBeam b v).slices = s.slices := rfl
@[simp] theorem State.setBeam_scheds (s : State) (b : Nat) (v : BeamSt) : (s.setBeam b v).scheds = s.scheds := rfl
@[simp] theorem State.setBeam_bt (s : State) (b : Nat) (v : BeamSt) : (s.setBeam b v).bt = s.bt := rfl
@[simp] theorem State.setBeam_btClock (s : State) (b : Nat) (v : BeamSt) : (s.setBeam b v).btClock = s.btClock := rfl
@[simp] theorem State.setBeam_btErr (s : State) (b : Nat) (v : BeamSt) : (s.setBeam b v).btErr = s.btErr := rfl
@[simp] theorem State.setBeam_facets (s : State) (b : Nat) (v : BeamSt) : (s.setBeam b v).facets = s.facets := rfl
@[simp] theorem State.setBeam_servos (s : State) (b : Nat) (v : BeamSt) : (s.setBeam b v).servos = s.servos := rfl
@[simp] theorem State.setBeam_spins (s : State) (b : Nat) (v : BeamSt) : (s.setBeam b v).spins = s.spins := rfl
@[simp] theorem State.setBeam_bus (s : State) (b : Nat) (v : BeamSt) : (s.setBeam b v).bus = s.bus := rfl
@[simp] theorem State.setBeam_life (s : State) (b : Nat) (v : BeamSt) : (s.setBeam b v).life = s.life := rfl
@[simp] theorem State.setBeam_hdas (s : State) (b : Nat) (v : BeamSt) : (s.setBeam b v).hdas = s.hdas := rfl
@[simp] theorem State.setBeam_cals (s : State) (b : Nat) (v : BeamSt) : (s.setBeam b v).cals = s.cals := rfl
@[simp] theorem State.setBeam_ref (s : State) (b : Nat) (v : BeamSt) : (s.setBeam b v).ref = s.ref := rfl
@[simp] theorem State.setBeam_energy (s : State) (b : Nat) (v : BeamSt) : (s.setBeam b v).energy = s.energy := rfl
@[simp] theorem State.setBeam_va (s : State) (b : Nat) (v : BeamSt) : (s.setBeam b v).va = s.va := rfl
@[simp] theorem State.setBeam_jseqHeld (s : State) (b : Nat) (v : BeamSt) : (s.setBeam b v).jseqHeld = s.jseqHeld := rfl
@[simp] theorem State.setBeam_prisms (s : State) (b : Nat) (v : BeamSt) : (s.setBeam b v).prisms = s.prisms := rfl
@[simp] theorem State.setBeam_red (s : State) (b : Nat) (v : BeamSt) : (s.setBeam b v).red = s.red := rfl
@[simp] theorem State.setBeam_host (s : State) (b : Nat) (v : BeamSt) : (s.setBeam b v).host = s.host := rfl
@[simp] theorem State.setBeam_sec (s : State) (b : Nat) (v : BeamSt) : (s.setBeam b v).sec = s.sec := rfl
@[simp] theorem State.setBeam_cfg (s : State) (b : Nat) (v : BeamSt) : (s.setBeam b v).cfg = s.cfg := rfl
@[simp] theorem State.setBeam_hie (s : State) (b : Nat) (v : BeamSt) : (s.setBeam b v).hie = s.hie := rfl
@[simp] theorem State.setBeam_dma (s : State) (b : Nat) (v : BeamSt) : (s.setBeam b v).dma = s.dma := rfl
@[simp] theorem State.setBeam_evr (s : State) (b : Nat) (v : BeamSt) : (s.setBeam b v).evr = s.evr := rfl
@[simp] theorem State.setBeam_cores (s : State) (b : Nat) (v : BeamSt) : (s.setBeam b v).cores = s.cores := rfl
@[simp] theorem State.setBeam_pwr (s : State) (b : Nat) (v : BeamSt) : (s.setBeam b v).pwr = s.pwr := rfl
@[simp] theorem State.setBeam_free (s : State) (b : Nat) (v : BeamSt) : (s.setBeam b v).free = s.free := rfl
@[simp] theorem State.setBeam_out (s : State) (b : Nat) (v : BeamSt) : (s.setBeam b v).out = s.out := rfl
@[simp] theorem State.setBeam_reg (s : State) (b : Nat) (v : BeamSt) (q : Reg) : (s.setBeam b v).reg q = s.reg q := rfl
@[simp] theorem State.setBeam_rd (s : State) (b : Nat) (v : BeamSt) (q : Fld) : (s.setBeam b v).rd q = s.rd q := rfl
@[simp] theorem State.setBeam_on (s : State) (b : Nat) (v : BeamSt) (q : Fld) : (s.setBeam b v).on q = s.on q := rfl

/-! ### `setSlice` -/

@[simp] theorem State.setSlice_pending (s : State) (k : Nat) (v : SliceSt) : (s.setSlice k v).pending = s.pending := rfl
@[simp] theorem State.setSlice_part (s : State) (k : Nat) (v : SliceSt) : (s.setSlice k v).part = s.part := rfl
@[simp] theorem State.setSlice_regs (s : State) (k : Nat) (v : SliceSt) : (s.setSlice k v).regs = s.regs := rfl
@[simp] theorem State.setSlice_latches (s : State) (k : Nat) (v : SliceSt) : (s.setSlice k v).latches = s.latches := rfl
@[simp] theorem State.setSlice_lps (s : State) (k : Nat) (v : SliceSt) : (s.setSlice k v).lps = s.lps := rfl
@[simp] theorem State.setSlice_lpDepth (s : State) (k : Nat) (v : SliceSt) : (s.setSlice k v).lpDepth = s.lpDepth := rfl
@[simp] theorem State.setSlice_stalled (s : State) (k : Nat) (v : SliceSt) : (s.setSlice k v).stalled = s.stalled := rfl
@[simp] theorem State.setSlice_storeCorrected (s : State) (k : Nat) (v : SliceSt) : (s.setSlice k v).storeCorrected = s.storeCorrected := rfl
@[simp] theorem State.setSlice_mem (s : State) (k : Nat) (v : SliceSt) : (s.setSlice k v).mem = s.mem := rfl
@[simp] theorem State.setSlice_memErr (s : State) (k : Nat) (v : SliceSt) : (s.setSlice k v).memErr = s.memErr := rfl
@[simp] theorem State.setSlice_cache (s : State) (k : Nat) (v : SliceSt) : (s.setSlice k v).cache = s.cache := rfl
@[simp] theorem State.setSlice_plru (s : State) (k : Nat) (v : SliceSt) : (s.setSlice k v).plru = s.plru := rfl
@[simp] theorem State.setSlice_cacheBusy (s : State) (k : Nat) (v : SliceSt) : (s.setSlice k v).cacheBusy = s.cacheBusy := rfl
@[simp] theorem State.setSlice_arrayErr (s : State) (k : Nat) (v : SliceSt) : (s.setSlice k v).arrayErr = s.arrayErr := rfl
@[simp] theorem State.setSlice_l1d (s : State) (k : Nat) (v : SliceSt) : (s.setSlice k v).l1d = s.l1d := rfl
@[simp] theorem State.setSlice_l1Err (s : State) (k : Nat) (v : SliceSt) : (s.setSlice k v).l1Err = s.l1Err := rfl
@[simp] theorem State.setSlice_scrubSeen (s : State) (k : Nat) (v : SliceSt) : (s.setSlice k v).scrubSeen = s.scrubSeen := rfl
@[simp] theorem State.setSlice_linked (s : State) (k : Nat) (v : SliceSt) : (s.setSlice k v).linked = s.linked := rfl
@[simp] theorem State.setSlice_vital (s : State) (k : Nat) (v : SliceSt) : (s.setSlice k v).vital = s.vital := rfl
@[simp] theorem State.setSlice_sysrefOk (s : State) (k : Nat) (v : SliceSt) : (s.setSlice k v).sysrefOk = s.sysrefOk := rfl
@[simp] theorem State.setSlice_brefOk (s : State) (k : Nat) (v : SliceSt) : (s.setSlice k v).brefOk = s.brefOk := rfl
@[simp] theorem State.setSlice_hrefOk (s : State) (k : Nat) (v : SliceSt) : (s.setSlice k v).hrefOk = s.hrefOk := rfl
@[simp] theorem State.setSlice_now (s : State) (k : Nat) (v : SliceSt) : (s.setSlice k v).now = s.now := rfl
@[simp] theorem State.setSlice_wall (s : State) (k : Nat) (v : SliceSt) : (s.setSlice k v).wall = s.wall := rfl
@[simp] theorem State.setSlice_ang (s : State) (k : Nat) (v : SliceSt) : (s.setSlice k v).ang = s.ang := rfl
@[simp] theorem State.setSlice_beam (s : State) (k : Nat) (v : SliceSt) : (s.setSlice k v).beam = s.beam := rfl
@[simp] theorem State.setSlice_scheds (s : State) (k : Nat) (v : SliceSt) : (s.setSlice k v).scheds = s.scheds := rfl
@[simp] theorem State.setSlice_bt (s : State) (k : Nat) (v : SliceSt) : (s.setSlice k v).bt = s.bt := rfl
@[simp] theorem State.setSlice_btClock (s : State) (k : Nat) (v : SliceSt) : (s.setSlice k v).btClock = s.btClock := rfl
@[simp] theorem State.setSlice_btErr (s : State) (k : Nat) (v : SliceSt) : (s.setSlice k v).btErr = s.btErr := rfl
@[simp] theorem State.setSlice_facets (s : State) (k : Nat) (v : SliceSt) : (s.setSlice k v).facets = s.facets := rfl
@[simp] theorem State.setSlice_servos (s : State) (k : Nat) (v : SliceSt) : (s.setSlice k v).servos = s.servos := rfl
@[simp] theorem State.setSlice_spins (s : State) (k : Nat) (v : SliceSt) : (s.setSlice k v).spins = s.spins := rfl
@[simp] theorem State.setSlice_bus (s : State) (k : Nat) (v : SliceSt) : (s.setSlice k v).bus = s.bus := rfl
@[simp] theorem State.setSlice_life (s : State) (k : Nat) (v : SliceSt) : (s.setSlice k v).life = s.life := rfl
@[simp] theorem State.setSlice_hdas (s : State) (k : Nat) (v : SliceSt) : (s.setSlice k v).hdas = s.hdas := rfl
@[simp] theorem State.setSlice_cals (s : State) (k : Nat) (v : SliceSt) : (s.setSlice k v).cals = s.cals := rfl
@[simp] theorem State.setSlice_ref (s : State) (k : Nat) (v : SliceSt) : (s.setSlice k v).ref = s.ref := rfl
@[simp] theorem State.setSlice_energy (s : State) (k : Nat) (v : SliceSt) : (s.setSlice k v).energy = s.energy := rfl
@[simp] theorem State.setSlice_va (s : State) (k : Nat) (v : SliceSt) : (s.setSlice k v).va = s.va := rfl
@[simp] theorem State.setSlice_jseqHeld (s : State) (k : Nat) (v : SliceSt) : (s.setSlice k v).jseqHeld = s.jseqHeld := rfl
@[simp] theorem State.setSlice_prisms (s : State) (k : Nat) (v : SliceSt) : (s.setSlice k v).prisms = s.prisms := rfl
@[simp] theorem State.setSlice_red (s : State) (k : Nat) (v : SliceSt) : (s.setSlice k v).red = s.red := rfl
@[simp] theorem State.setSlice_host (s : State) (k : Nat) (v : SliceSt) : (s.setSlice k v).host = s.host := rfl
@[simp] theorem State.setSlice_sec (s : State) (k : Nat) (v : SliceSt) : (s.setSlice k v).sec = s.sec := rfl
@[simp] theorem State.setSlice_cfg (s : State) (k : Nat) (v : SliceSt) : (s.setSlice k v).cfg = s.cfg := rfl
@[simp] theorem State.setSlice_hie (s : State) (k : Nat) (v : SliceSt) : (s.setSlice k v).hie = s.hie := rfl
@[simp] theorem State.setSlice_dma (s : State) (k : Nat) (v : SliceSt) : (s.setSlice k v).dma = s.dma := rfl
@[simp] theorem State.setSlice_evr (s : State) (k : Nat) (v : SliceSt) : (s.setSlice k v).evr = s.evr := rfl
@[simp] theorem State.setSlice_cores (s : State) (k : Nat) (v : SliceSt) : (s.setSlice k v).cores = s.cores := rfl
@[simp] theorem State.setSlice_pwr (s : State) (k : Nat) (v : SliceSt) : (s.setSlice k v).pwr = s.pwr := rfl
@[simp] theorem State.setSlice_free (s : State) (k : Nat) (v : SliceSt) : (s.setSlice k v).free = s.free := rfl
@[simp] theorem State.setSlice_out (s : State) (k : Nat) (v : SliceSt) : (s.setSlice k v).out = s.out := rfl
@[simp] theorem State.setSlice_reg (s : State) (k : Nat) (v : SliceSt) (q : Reg) : (s.setSlice k v).reg q = s.reg q := rfl
@[simp] theorem State.setSlice_rd (s : State) (k : Nat) (v : SliceSt) (q : Fld) : (s.setSlice k v).rd q = s.rd q := rfl
@[simp] theorem State.setSlice_on (s : State) (k : Nat) (v : SliceSt) (q : Fld) : (s.setSlice k v).on q = s.on q := rfl

/-! ### `setSched` -/

@[simp] theorem State.setSched_pending (s : State) (k : Nat) (v : SchedSt) : (s.setSched k v).pending = s.pending := rfl
@[simp] theorem State.setSched_part (s : State) (k : Nat) (v : SchedSt) : (s.setSched k v).part = s.part := rfl
@[simp] theorem State.setSched_regs (s : State) (k : Nat) (v : SchedSt) : (s.setSched k v).regs = s.regs := rfl
@[simp] theorem State.setSched_latches (s : State) (k : Nat) (v : SchedSt) : (s.setSched k v).latches = s.latches := rfl
@[simp] theorem State.setSched_lps (s : State) (k : Nat) (v : SchedSt) : (s.setSched k v).lps = s.lps := rfl
@[simp] theorem State.setSched_lpDepth (s : State) (k : Nat) (v : SchedSt) : (s.setSched k v).lpDepth = s.lpDepth := rfl
@[simp] theorem State.setSched_stalled (s : State) (k : Nat) (v : SchedSt) : (s.setSched k v).stalled = s.stalled := rfl
@[simp] theorem State.setSched_storeCorrected (s : State) (k : Nat) (v : SchedSt) : (s.setSched k v).storeCorrected = s.storeCorrected := rfl
@[simp] theorem State.setSched_mem (s : State) (k : Nat) (v : SchedSt) : (s.setSched k v).mem = s.mem := rfl
@[simp] theorem State.setSched_memErr (s : State) (k : Nat) (v : SchedSt) : (s.setSched k v).memErr = s.memErr := rfl
@[simp] theorem State.setSched_cache (s : State) (k : Nat) (v : SchedSt) : (s.setSched k v).cache = s.cache := rfl
@[simp] theorem State.setSched_plru (s : State) (k : Nat) (v : SchedSt) : (s.setSched k v).plru = s.plru := rfl
@[simp] theorem State.setSched_cacheBusy (s : State) (k : Nat) (v : SchedSt) : (s.setSched k v).cacheBusy = s.cacheBusy := rfl
@[simp] theorem State.setSched_arrayErr (s : State) (k : Nat) (v : SchedSt) : (s.setSched k v).arrayErr = s.arrayErr := rfl
@[simp] theorem State.setSched_l1d (s : State) (k : Nat) (v : SchedSt) : (s.setSched k v).l1d = s.l1d := rfl
@[simp] theorem State.setSched_l1Err (s : State) (k : Nat) (v : SchedSt) : (s.setSched k v).l1Err = s.l1Err := rfl
@[simp] theorem State.setSched_scrubSeen (s : State) (k : Nat) (v : SchedSt) : (s.setSched k v).scrubSeen = s.scrubSeen := rfl
@[simp] theorem State.setSched_linked (s : State) (k : Nat) (v : SchedSt) : (s.setSched k v).linked = s.linked := rfl
@[simp] theorem State.setSched_vital (s : State) (k : Nat) (v : SchedSt) : (s.setSched k v).vital = s.vital := rfl
@[simp] theorem State.setSched_sysrefOk (s : State) (k : Nat) (v : SchedSt) : (s.setSched k v).sysrefOk = s.sysrefOk := rfl
@[simp] theorem State.setSched_brefOk (s : State) (k : Nat) (v : SchedSt) : (s.setSched k v).brefOk = s.brefOk := rfl
@[simp] theorem State.setSched_hrefOk (s : State) (k : Nat) (v : SchedSt) : (s.setSched k v).hrefOk = s.hrefOk := rfl
@[simp] theorem State.setSched_now (s : State) (k : Nat) (v : SchedSt) : (s.setSched k v).now = s.now := rfl
@[simp] theorem State.setSched_wall (s : State) (k : Nat) (v : SchedSt) : (s.setSched k v).wall = s.wall := rfl
@[simp] theorem State.setSched_ang (s : State) (k : Nat) (v : SchedSt) : (s.setSched k v).ang = s.ang := rfl
@[simp] theorem State.setSched_beam (s : State) (k : Nat) (v : SchedSt) : (s.setSched k v).beam = s.beam := rfl
@[simp] theorem State.setSched_slices (s : State) (k : Nat) (v : SchedSt) : (s.setSched k v).slices = s.slices := rfl
@[simp] theorem State.setSched_bt (s : State) (k : Nat) (v : SchedSt) : (s.setSched k v).bt = s.bt := rfl
@[simp] theorem State.setSched_btClock (s : State) (k : Nat) (v : SchedSt) : (s.setSched k v).btClock = s.btClock := rfl
@[simp] theorem State.setSched_btErr (s : State) (k : Nat) (v : SchedSt) : (s.setSched k v).btErr = s.btErr := rfl
@[simp] theorem State.setSched_facets (s : State) (k : Nat) (v : SchedSt) : (s.setSched k v).facets = s.facets := rfl
@[simp] theorem State.setSched_servos (s : State) (k : Nat) (v : SchedSt) : (s.setSched k v).servos = s.servos := rfl
@[simp] theorem State.setSched_spins (s : State) (k : Nat) (v : SchedSt) : (s.setSched k v).spins = s.spins := rfl
@[simp] theorem State.setSched_bus (s : State) (k : Nat) (v : SchedSt) : (s.setSched k v).bus = s.bus := rfl
@[simp] theorem State.setSched_life (s : State) (k : Nat) (v : SchedSt) : (s.setSched k v).life = s.life := rfl
@[simp] theorem State.setSched_hdas (s : State) (k : Nat) (v : SchedSt) : (s.setSched k v).hdas = s.hdas := rfl
@[simp] theorem State.setSched_cals (s : State) (k : Nat) (v : SchedSt) : (s.setSched k v).cals = s.cals := rfl
@[simp] theorem State.setSched_ref (s : State) (k : Nat) (v : SchedSt) : (s.setSched k v).ref = s.ref := rfl
@[simp] theorem State.setSched_energy (s : State) (k : Nat) (v : SchedSt) : (s.setSched k v).energy = s.energy := rfl
@[simp] theorem State.setSched_va (s : State) (k : Nat) (v : SchedSt) : (s.setSched k v).va = s.va := rfl
@[simp] theorem State.setSched_jseqHeld (s : State) (k : Nat) (v : SchedSt) : (s.setSched k v).jseqHeld = s.jseqHeld := rfl
@[simp] theorem State.setSched_prisms (s : State) (k : Nat) (v : SchedSt) : (s.setSched k v).prisms = s.prisms := rfl
@[simp] theorem State.setSched_red (s : State) (k : Nat) (v : SchedSt) : (s.setSched k v).red = s.red := rfl
@[simp] theorem State.setSched_host (s : State) (k : Nat) (v : SchedSt) : (s.setSched k v).host = s.host := rfl
@[simp] theorem State.setSched_sec (s : State) (k : Nat) (v : SchedSt) : (s.setSched k v).sec = s.sec := rfl
@[simp] theorem State.setSched_cfg (s : State) (k : Nat) (v : SchedSt) : (s.setSched k v).cfg = s.cfg := rfl
@[simp] theorem State.setSched_hie (s : State) (k : Nat) (v : SchedSt) : (s.setSched k v).hie = s.hie := rfl
@[simp] theorem State.setSched_dma (s : State) (k : Nat) (v : SchedSt) : (s.setSched k v).dma = s.dma := rfl
@[simp] theorem State.setSched_evr (s : State) (k : Nat) (v : SchedSt) : (s.setSched k v).evr = s.evr := rfl
@[simp] theorem State.setSched_cores (s : State) (k : Nat) (v : SchedSt) : (s.setSched k v).cores = s.cores := rfl
@[simp] theorem State.setSched_pwr (s : State) (k : Nat) (v : SchedSt) : (s.setSched k v).pwr = s.pwr := rfl
@[simp] theorem State.setSched_free (s : State) (k : Nat) (v : SchedSt) : (s.setSched k v).free = s.free := rfl
@[simp] theorem State.setSched_out (s : State) (k : Nat) (v : SchedSt) : (s.setSched k v).out = s.out := rfl
@[simp] theorem State.setSched_reg (s : State) (k : Nat) (v : SchedSt) (q : Reg) : (s.setSched k v).reg q = s.reg q := rfl
@[simp] theorem State.setSched_rd (s : State) (k : Nat) (v : SchedSt) (q : Fld) : (s.setSched k v).rd q = s.rd q := rfl
@[simp] theorem State.setSched_on (s : State) (k : Nat) (v : SchedSt) (q : Fld) : (s.setSched k v).on q = s.on q := rfl

/-! ### `setFacet` -/

@[simp] theorem State.setFacet_pending (s : State) (f : Nat) (v : FctSt) : (s.setFacet f v).pending = s.pending := rfl
@[simp] theorem State.setFacet_part (s : State) (f : Nat) (v : FctSt) : (s.setFacet f v).part = s.part := rfl
@[simp] theorem State.setFacet_regs (s : State) (f : Nat) (v : FctSt) : (s.setFacet f v).regs = s.regs := rfl
@[simp] theorem State.setFacet_latches (s : State) (f : Nat) (v : FctSt) : (s.setFacet f v).latches = s.latches := rfl
@[simp] theorem State.setFacet_lps (s : State) (f : Nat) (v : FctSt) : (s.setFacet f v).lps = s.lps := rfl
@[simp] theorem State.setFacet_lpDepth (s : State) (f : Nat) (v : FctSt) : (s.setFacet f v).lpDepth = s.lpDepth := rfl
@[simp] theorem State.setFacet_stalled (s : State) (f : Nat) (v : FctSt) : (s.setFacet f v).stalled = s.stalled := rfl
@[simp] theorem State.setFacet_storeCorrected (s : State) (f : Nat) (v : FctSt) : (s.setFacet f v).storeCorrected = s.storeCorrected := rfl
@[simp] theorem State.setFacet_mem (s : State) (f : Nat) (v : FctSt) : (s.setFacet f v).mem = s.mem := rfl
@[simp] theorem State.setFacet_memErr (s : State) (f : Nat) (v : FctSt) : (s.setFacet f v).memErr = s.memErr := rfl
@[simp] theorem State.setFacet_cache (s : State) (f : Nat) (v : FctSt) : (s.setFacet f v).cache = s.cache := rfl
@[simp] theorem State.setFacet_plru (s : State) (f : Nat) (v : FctSt) : (s.setFacet f v).plru = s.plru := rfl
@[simp] theorem State.setFacet_cacheBusy (s : State) (f : Nat) (v : FctSt) : (s.setFacet f v).cacheBusy = s.cacheBusy := rfl
@[simp] theorem State.setFacet_arrayErr (s : State) (f : Nat) (v : FctSt) : (s.setFacet f v).arrayErr = s.arrayErr := rfl
@[simp] theorem State.setFacet_l1d (s : State) (f : Nat) (v : FctSt) : (s.setFacet f v).l1d = s.l1d := rfl
@[simp] theorem State.setFacet_l1Err (s : State) (f : Nat) (v : FctSt) : (s.setFacet f v).l1Err = s.l1Err := rfl
@[simp] theorem State.setFacet_scrubSeen (s : State) (f : Nat) (v : FctSt) : (s.setFacet f v).scrubSeen = s.scrubSeen := rfl
@[simp] theorem State.setFacet_linked (s : State) (f : Nat) (v : FctSt) : (s.setFacet f v).linked = s.linked := rfl
@[simp] theorem State.setFacet_vital (s : State) (f : Nat) (v : FctSt) : (s.setFacet f v).vital = s.vital := rfl
@[simp] theorem State.setFacet_sysrefOk (s : State) (f : Nat) (v : FctSt) : (s.setFacet f v).sysrefOk = s.sysrefOk := rfl
@[simp] theorem State.setFacet_brefOk (s : State) (f : Nat) (v : FctSt) : (s.setFacet f v).brefOk = s.brefOk := rfl
@[simp] theorem State.setFacet_hrefOk (s : State) (f : Nat) (v : FctSt) : (s.setFacet f v).hrefOk = s.hrefOk := rfl
@[simp] theorem State.setFacet_now (s : State) (f : Nat) (v : FctSt) : (s.setFacet f v).now = s.now := rfl
@[simp] theorem State.setFacet_wall (s : State) (f : Nat) (v : FctSt) : (s.setFacet f v).wall = s.wall := rfl
@[simp] theorem State.setFacet_ang (s : State) (f : Nat) (v : FctSt) : (s.setFacet f v).ang = s.ang := rfl
@[simp] theorem State.setFacet_beam (s : State) (f : Nat) (v : FctSt) : (s.setFacet f v).beam = s.beam := rfl
@[simp] theorem State.setFacet_slices (s : State) (f : Nat) (v : FctSt) : (s.setFacet f v).slices = s.slices := rfl
@[simp] theorem State.setFacet_scheds (s : State) (f : Nat) (v : FctSt) : (s.setFacet f v).scheds = s.scheds := rfl
@[simp] theorem State.setFacet_bt (s : State) (f : Nat) (v : FctSt) : (s.setFacet f v).bt = s.bt := rfl
@[simp] theorem State.setFacet_btClock (s : State) (f : Nat) (v : FctSt) : (s.setFacet f v).btClock = s.btClock := rfl
@[simp] theorem State.setFacet_btErr (s : State) (f : Nat) (v : FctSt) : (s.setFacet f v).btErr = s.btErr := rfl
@[simp] theorem State.setFacet_servos (s : State) (f : Nat) (v : FctSt) : (s.setFacet f v).servos = s.servos := rfl
@[simp] theorem State.setFacet_spins (s : State) (f : Nat) (v : FctSt) : (s.setFacet f v).spins = s.spins := rfl
@[simp] theorem State.setFacet_bus (s : State) (f : Nat) (v : FctSt) : (s.setFacet f v).bus = s.bus := rfl
@[simp] theorem State.setFacet_life (s : State) (f : Nat) (v : FctSt) : (s.setFacet f v).life = s.life := rfl
@[simp] theorem State.setFacet_hdas (s : State) (f : Nat) (v : FctSt) : (s.setFacet f v).hdas = s.hdas := rfl
@[simp] theorem State.setFacet_cals (s : State) (f : Nat) (v : FctSt) : (s.setFacet f v).cals = s.cals := rfl
@[simp] theorem State.setFacet_ref (s : State) (f : Nat) (v : FctSt) : (s.setFacet f v).ref = s.ref := rfl
@[simp] theorem State.setFacet_energy (s : State) (f : Nat) (v : FctSt) : (s.setFacet f v).energy = s.energy := rfl
@[simp] theorem State.setFacet_va (s : State) (f : Nat) (v : FctSt) : (s.setFacet f v).va = s.va := rfl
@[simp] theorem State.setFacet_jseqHeld (s : State) (f : Nat) (v : FctSt) : (s.setFacet f v).jseqHeld = s.jseqHeld := rfl
@[simp] theorem State.setFacet_prisms (s : State) (f : Nat) (v : FctSt) : (s.setFacet f v).prisms = s.prisms := rfl
@[simp] theorem State.setFacet_red (s : State) (f : Nat) (v : FctSt) : (s.setFacet f v).red = s.red := rfl
@[simp] theorem State.setFacet_host (s : State) (f : Nat) (v : FctSt) : (s.setFacet f v).host = s.host := rfl
@[simp] theorem State.setFacet_sec (s : State) (f : Nat) (v : FctSt) : (s.setFacet f v).sec = s.sec := rfl
@[simp] theorem State.setFacet_cfg (s : State) (f : Nat) (v : FctSt) : (s.setFacet f v).cfg = s.cfg := rfl
@[simp] theorem State.setFacet_hie (s : State) (f : Nat) (v : FctSt) : (s.setFacet f v).hie = s.hie := rfl
@[simp] theorem State.setFacet_dma (s : State) (f : Nat) (v : FctSt) : (s.setFacet f v).dma = s.dma := rfl
@[simp] theorem State.setFacet_evr (s : State) (f : Nat) (v : FctSt) : (s.setFacet f v).evr = s.evr := rfl
@[simp] theorem State.setFacet_cores (s : State) (f : Nat) (v : FctSt) : (s.setFacet f v).cores = s.cores := rfl
@[simp] theorem State.setFacet_pwr (s : State) (f : Nat) (v : FctSt) : (s.setFacet f v).pwr = s.pwr := rfl
@[simp] theorem State.setFacet_free (s : State) (f : Nat) (v : FctSt) : (s.setFacet f v).free = s.free := rfl
@[simp] theorem State.setFacet_out (s : State) (f : Nat) (v : FctSt) : (s.setFacet f v).out = s.out := rfl
@[simp] theorem State.setFacet_reg (s : State) (f : Nat) (v : FctSt) (q : Reg) : (s.setFacet f v).reg q = s.reg q := rfl
@[simp] theorem State.setFacet_rd (s : State) (f : Nat) (v : FctSt) (q : Fld) : (s.setFacet f v).rd q = s.rd q := rfl
@[simp] theorem State.setFacet_on (s : State) (f : Nat) (v : FctSt) (q : Fld) : (s.setFacet f v).on q = s.on q := rfl

/-! ### `setServo` -/

@[simp] theorem State.setServo_pending (s : State) (k : Nat) (v : ServoSt) : (s.setServo k v).pending = s.pending := rfl
@[simp] theorem State.setServo_part (s : State) (k : Nat) (v : ServoSt) : (s.setServo k v).part = s.part := rfl
@[simp] theorem State.setServo_regs (s : State) (k : Nat) (v : ServoSt) : (s.setServo k v).regs = s.regs := rfl
@[simp] theorem State.setServo_latches (s : State) (k : Nat) (v : ServoSt) : (s.setServo k v).latches = s.latches := rfl
@[simp] theorem State.setServo_lps (s : State) (k : Nat) (v : ServoSt) : (s.setServo k v).lps = s.lps := rfl
@[simp] theorem State.setServo_lpDepth (s : State) (k : Nat) (v : ServoSt) : (s.setServo k v).lpDepth = s.lpDepth := rfl
@[simp] theorem State.setServo_stalled (s : State) (k : Nat) (v : ServoSt) : (s.setServo k v).stalled = s.stalled := rfl
@[simp] theorem State.setServo_storeCorrected (s : State) (k : Nat) (v : ServoSt) : (s.setServo k v).storeCorrected = s.storeCorrected := rfl
@[simp] theorem State.setServo_mem (s : State) (k : Nat) (v : ServoSt) : (s.setServo k v).mem = s.mem := rfl
@[simp] theorem State.setServo_memErr (s : State) (k : Nat) (v : ServoSt) : (s.setServo k v).memErr = s.memErr := rfl
@[simp] theorem State.setServo_cache (s : State) (k : Nat) (v : ServoSt) : (s.setServo k v).cache = s.cache := rfl
@[simp] theorem State.setServo_plru (s : State) (k : Nat) (v : ServoSt) : (s.setServo k v).plru = s.plru := rfl
@[simp] theorem State.setServo_cacheBusy (s : State) (k : Nat) (v : ServoSt) : (s.setServo k v).cacheBusy = s.cacheBusy := rfl
@[simp] theorem State.setServo_arrayErr (s : State) (k : Nat) (v : ServoSt) : (s.setServo k v).arrayErr = s.arrayErr := rfl
@[simp] theorem State.setServo_l1d (s : State) (k : Nat) (v : ServoSt) : (s.setServo k v).l1d = s.l1d := rfl
@[simp] theorem State.setServo_l1Err (s : State) (k : Nat) (v : ServoSt) : (s.setServo k v).l1Err = s.l1Err := rfl
@[simp] theorem State.setServo_scrubSeen (s : State) (k : Nat) (v : ServoSt) : (s.setServo k v).scrubSeen = s.scrubSeen := rfl
@[simp] theorem State.setServo_linked (s : State) (k : Nat) (v : ServoSt) : (s.setServo k v).linked = s.linked := rfl
@[simp] theorem State.setServo_vital (s : State) (k : Nat) (v : ServoSt) : (s.setServo k v).vital = s.vital := rfl
@[simp] theorem State.setServo_sysrefOk (s : State) (k : Nat) (v : ServoSt) : (s.setServo k v).sysrefOk = s.sysrefOk := rfl
@[simp] theorem State.setServo_brefOk (s : State) (k : Nat) (v : ServoSt) : (s.setServo k v).brefOk = s.brefOk := rfl
@[simp] theorem State.setServo_hrefOk (s : State) (k : Nat) (v : ServoSt) : (s.setServo k v).hrefOk = s.hrefOk := rfl
@[simp] theorem State.setServo_now (s : State) (k : Nat) (v : ServoSt) : (s.setServo k v).now = s.now := rfl
@[simp] theorem State.setServo_wall (s : State) (k : Nat) (v : ServoSt) : (s.setServo k v).wall = s.wall := rfl
@[simp] theorem State.setServo_ang (s : State) (k : Nat) (v : ServoSt) : (s.setServo k v).ang = s.ang := rfl
@[simp] theorem State.setServo_beam (s : State) (k : Nat) (v : ServoSt) : (s.setServo k v).beam = s.beam := rfl
@[simp] theorem State.setServo_slices (s : State) (k : Nat) (v : ServoSt) : (s.setServo k v).slices = s.slices := rfl
@[simp] theorem State.setServo_scheds (s : State) (k : Nat) (v : ServoSt) : (s.setServo k v).scheds = s.scheds := rfl
@[simp] theorem State.setServo_bt (s : State) (k : Nat) (v : ServoSt) : (s.setServo k v).bt = s.bt := rfl
@[simp] theorem State.setServo_btClock (s : State) (k : Nat) (v : ServoSt) : (s.setServo k v).btClock = s.btClock := rfl
@[simp] theorem State.setServo_btErr (s : State) (k : Nat) (v : ServoSt) : (s.setServo k v).btErr = s.btErr := rfl
@[simp] theorem State.setServo_facets (s : State) (k : Nat) (v : ServoSt) : (s.setServo k v).facets = s.facets := rfl
@[simp] theorem State.setServo_spins (s : State) (k : Nat) (v : ServoSt) : (s.setServo k v).spins = s.spins := rfl
@[simp] theorem State.setServo_bus (s : State) (k : Nat) (v : ServoSt) : (s.setServo k v).bus = s.bus := rfl
@[simp] theorem State.setServo_life (s : State) (k : Nat) (v : ServoSt) : (s.setServo k v).life = s.life := rfl
@[simp] theorem State.setServo_hdas (s : State) (k : Nat) (v : ServoSt) : (s.setServo k v).hdas = s.hdas := rfl
@[simp] theorem State.setServo_cals (s : State) (k : Nat) (v : ServoSt) : (s.setServo k v).cals = s.cals := rfl
@[simp] theorem State.setServo_ref (s : State) (k : Nat) (v : ServoSt) : (s.setServo k v).ref = s.ref := rfl
@[simp] theorem State.setServo_energy (s : State) (k : Nat) (v : ServoSt) : (s.setServo k v).energy = s.energy := rfl
@[simp] theorem State.setServo_va (s : State) (k : Nat) (v : ServoSt) : (s.setServo k v).va = s.va := rfl
@[simp] theorem State.setServo_jseqHeld (s : State) (k : Nat) (v : ServoSt) : (s.setServo k v).jseqHeld = s.jseqHeld := rfl
@[simp] theorem State.setServo_prisms (s : State) (k : Nat) (v : ServoSt) : (s.setServo k v).prisms = s.prisms := rfl
@[simp] theorem State.setServo_red (s : State) (k : Nat) (v : ServoSt) : (s.setServo k v).red = s.red := rfl
@[simp] theorem State.setServo_host (s : State) (k : Nat) (v : ServoSt) : (s.setServo k v).host = s.host := rfl
@[simp] theorem State.setServo_sec (s : State) (k : Nat) (v : ServoSt) : (s.setServo k v).sec = s.sec := rfl
@[simp] theorem State.setServo_cfg (s : State) (k : Nat) (v : ServoSt) : (s.setServo k v).cfg = s.cfg := rfl
@[simp] theorem State.setServo_hie (s : State) (k : Nat) (v : ServoSt) : (s.setServo k v).hie = s.hie := rfl
@[simp] theorem State.setServo_dma (s : State) (k : Nat) (v : ServoSt) : (s.setServo k v).dma = s.dma := rfl
@[simp] theorem State.setServo_evr (s : State) (k : Nat) (v : ServoSt) : (s.setServo k v).evr = s.evr := rfl
@[simp] theorem State.setServo_cores (s : State) (k : Nat) (v : ServoSt) : (s.setServo k v).cores = s.cores := rfl
@[simp] theorem State.setServo_pwr (s : State) (k : Nat) (v : ServoSt) : (s.setServo k v).pwr = s.pwr := rfl
@[simp] theorem State.setServo_free (s : State) (k : Nat) (v : ServoSt) : (s.setServo k v).free = s.free := rfl
@[simp] theorem State.setServo_out (s : State) (k : Nat) (v : ServoSt) : (s.setServo k v).out = s.out := rfl
@[simp] theorem State.setServo_reg (s : State) (k : Nat) (v : ServoSt) (q : Reg) : (s.setServo k v).reg q = s.reg q := rfl
@[simp] theorem State.setServo_rd (s : State) (k : Nat) (v : ServoSt) (q : Fld) : (s.setServo k v).rd q = s.rd q := rfl
@[simp] theorem State.setServo_on (s : State) (k : Nat) (v : ServoSt) (q : Fld) : (s.setServo k v).on q = s.on q := rfl

/-! ### `setSpin` -/

@[simp] theorem State.setSpin_pending (s : State) (b : Nat) (v : SpinSt) : (s.setSpin b v).pending = s.pending := rfl
@[simp] theorem State.setSpin_part (s : State) (b : Nat) (v : SpinSt) : (s.setSpin b v).part = s.part := rfl
@[simp] theorem State.setSpin_regs (s : State) (b : Nat) (v : SpinSt) : (s.setSpin b v).regs = s.regs := rfl
@[simp] theorem State.setSpin_latches (s : State) (b : Nat) (v : SpinSt) : (s.setSpin b v).latches = s.latches := rfl
@[simp] theorem State.setSpin_lps (s : State) (b : Nat) (v : SpinSt) : (s.setSpin b v).lps = s.lps := rfl
@[simp] theorem State.setSpin_lpDepth (s : State) (b : Nat) (v : SpinSt) : (s.setSpin b v).lpDepth = s.lpDepth := rfl
@[simp] theorem State.setSpin_stalled (s : State) (b : Nat) (v : SpinSt) : (s.setSpin b v).stalled = s.stalled := rfl
@[simp] theorem State.setSpin_storeCorrected (s : State) (b : Nat) (v : SpinSt) : (s.setSpin b v).storeCorrected = s.storeCorrected := rfl
@[simp] theorem State.setSpin_mem (s : State) (b : Nat) (v : SpinSt) : (s.setSpin b v).mem = s.mem := rfl
@[simp] theorem State.setSpin_memErr (s : State) (b : Nat) (v : SpinSt) : (s.setSpin b v).memErr = s.memErr := rfl
@[simp] theorem State.setSpin_cache (s : State) (b : Nat) (v : SpinSt) : (s.setSpin b v).cache = s.cache := rfl
@[simp] theorem State.setSpin_plru (s : State) (b : Nat) (v : SpinSt) : (s.setSpin b v).plru = s.plru := rfl
@[simp] theorem State.setSpin_cacheBusy (s : State) (b : Nat) (v : SpinSt) : (s.setSpin b v).cacheBusy = s.cacheBusy := rfl
@[simp] theorem State.setSpin_arrayErr (s : State) (b : Nat) (v : SpinSt) : (s.setSpin b v).arrayErr = s.arrayErr := rfl
@[simp] theorem State.setSpin_l1d (s : State) (b : Nat) (v : SpinSt) : (s.setSpin b v).l1d = s.l1d := rfl
@[simp] theorem State.setSpin_l1Err (s : State) (b : Nat) (v : SpinSt) : (s.setSpin b v).l1Err = s.l1Err := rfl
@[simp] theorem State.setSpin_scrubSeen (s : State) (b : Nat) (v : SpinSt) : (s.setSpin b v).scrubSeen = s.scrubSeen := rfl
@[simp] theorem State.setSpin_linked (s : State) (b : Nat) (v : SpinSt) : (s.setSpin b v).linked = s.linked := rfl
@[simp] theorem State.setSpin_vital (s : State) (b : Nat) (v : SpinSt) : (s.setSpin b v).vital = s.vital := rfl
@[simp] theorem State.setSpin_sysrefOk (s : State) (b : Nat) (v : SpinSt) : (s.setSpin b v).sysrefOk = s.sysrefOk := rfl
@[simp] theorem State.setSpin_brefOk (s : State) (b : Nat) (v : SpinSt) : (s.setSpin b v).brefOk = s.brefOk := rfl
@[simp] theorem State.setSpin_hrefOk (s : State) (b : Nat) (v : SpinSt) : (s.setSpin b v).hrefOk = s.hrefOk := rfl
@[simp] theorem State.setSpin_now (s : State) (b : Nat) (v : SpinSt) : (s.setSpin b v).now = s.now := rfl
@[simp] theorem State.setSpin_wall (s : State) (b : Nat) (v : SpinSt) : (s.setSpin b v).wall = s.wall := rfl
@[simp] theorem State.setSpin_ang (s : State) (b : Nat) (v : SpinSt) : (s.setSpin b v).ang = s.ang := rfl
@[simp] theorem State.setSpin_beam (s : State) (b : Nat) (v : SpinSt) : (s.setSpin b v).beam = s.beam := rfl
@[simp] theorem State.setSpin_slices (s : State) (b : Nat) (v : SpinSt) : (s.setSpin b v).slices = s.slices := rfl
@[simp] theorem State.setSpin_scheds (s : State) (b : Nat) (v : SpinSt) : (s.setSpin b v).scheds = s.scheds := rfl
@[simp] theorem State.setSpin_bt (s : State) (b : Nat) (v : SpinSt) : (s.setSpin b v).bt = s.bt := rfl
@[simp] theorem State.setSpin_btClock (s : State) (b : Nat) (v : SpinSt) : (s.setSpin b v).btClock = s.btClock := rfl
@[simp] theorem State.setSpin_btErr (s : State) (b : Nat) (v : SpinSt) : (s.setSpin b v).btErr = s.btErr := rfl
@[simp] theorem State.setSpin_facets (s : State) (b : Nat) (v : SpinSt) : (s.setSpin b v).facets = s.facets := rfl
@[simp] theorem State.setSpin_servos (s : State) (b : Nat) (v : SpinSt) : (s.setSpin b v).servos = s.servos := rfl
@[simp] theorem State.setSpin_bus (s : State) (b : Nat) (v : SpinSt) : (s.setSpin b v).bus = s.bus := rfl
@[simp] theorem State.setSpin_life (s : State) (b : Nat) (v : SpinSt) : (s.setSpin b v).life = s.life := rfl
@[simp] theorem State.setSpin_hdas (s : State) (b : Nat) (v : SpinSt) : (s.setSpin b v).hdas = s.hdas := rfl
@[simp] theorem State.setSpin_cals (s : State) (b : Nat) (v : SpinSt) : (s.setSpin b v).cals = s.cals := rfl
@[simp] theorem State.setSpin_ref (s : State) (b : Nat) (v : SpinSt) : (s.setSpin b v).ref = s.ref := rfl
@[simp] theorem State.setSpin_energy (s : State) (b : Nat) (v : SpinSt) : (s.setSpin b v).energy = s.energy := rfl
@[simp] theorem State.setSpin_va (s : State) (b : Nat) (v : SpinSt) : (s.setSpin b v).va = s.va := rfl
@[simp] theorem State.setSpin_jseqHeld (s : State) (b : Nat) (v : SpinSt) : (s.setSpin b v).jseqHeld = s.jseqHeld := rfl
@[simp] theorem State.setSpin_prisms (s : State) (b : Nat) (v : SpinSt) : (s.setSpin b v).prisms = s.prisms := rfl
@[simp] theorem State.setSpin_red (s : State) (b : Nat) (v : SpinSt) : (s.setSpin b v).red = s.red := rfl
@[simp] theorem State.setSpin_host (s : State) (b : Nat) (v : SpinSt) : (s.setSpin b v).host = s.host := rfl
@[simp] theorem State.setSpin_sec (s : State) (b : Nat) (v : SpinSt) : (s.setSpin b v).sec = s.sec := rfl
@[simp] theorem State.setSpin_cfg (s : State) (b : Nat) (v : SpinSt) : (s.setSpin b v).cfg = s.cfg := rfl
@[simp] theorem State.setSpin_hie (s : State) (b : Nat) (v : SpinSt) : (s.setSpin b v).hie = s.hie := rfl
@[simp] theorem State.setSpin_dma (s : State) (b : Nat) (v : SpinSt) : (s.setSpin b v).dma = s.dma := rfl
@[simp] theorem State.setSpin_evr (s : State) (b : Nat) (v : SpinSt) : (s.setSpin b v).evr = s.evr := rfl
@[simp] theorem State.setSpin_cores (s : State) (b : Nat) (v : SpinSt) : (s.setSpin b v).cores = s.cores := rfl
@[simp] theorem State.setSpin_pwr (s : State) (b : Nat) (v : SpinSt) : (s.setSpin b v).pwr = s.pwr := rfl
@[simp] theorem State.setSpin_free (s : State) (b : Nat) (v : SpinSt) : (s.setSpin b v).free = s.free := rfl
@[simp] theorem State.setSpin_out (s : State) (b : Nat) (v : SpinSt) : (s.setSpin b v).out = s.out := rfl
@[simp] theorem State.setSpin_reg (s : State) (b : Nat) (v : SpinSt) (q : Reg) : (s.setSpin b v).reg q = s.reg q := rfl
@[simp] theorem State.setSpin_rd (s : State) (b : Nat) (v : SpinSt) (q : Fld) : (s.setSpin b v).rd q = s.rd q := rfl
@[simp] theorem State.setSpin_on (s : State) (b : Nat) (v : SpinSt) (q : Fld) : (s.setSpin b v).on q = s.on q := rfl

/-! ### `setLife` -/

@[simp] theorem State.setLife_pending (s : State) (p : Nat) (v : LifeRec) : (s.setLife p v).pending = s.pending := rfl
@[simp] theorem State.setLife_part (s : State) (p : Nat) (v : LifeRec) : (s.setLife p v).part = s.part := rfl
@[simp] theorem State.setLife_regs (s : State) (p : Nat) (v : LifeRec) : (s.setLife p v).regs = s.regs := rfl
@[simp] theorem State.setLife_latches (s : State) (p : Nat) (v : LifeRec) : (s.setLife p v).latches = s.latches := rfl
@[simp] theorem State.setLife_lps (s : State) (p : Nat) (v : LifeRec) : (s.setLife p v).lps = s.lps := rfl
@[simp] theorem State.setLife_lpDepth (s : State) (p : Nat) (v : LifeRec) : (s.setLife p v).lpDepth = s.lpDepth := rfl
@[simp] theorem State.setLife_stalled (s : State) (p : Nat) (v : LifeRec) : (s.setLife p v).stalled = s.stalled := rfl
@[simp] theorem State.setLife_storeCorrected (s : State) (p : Nat) (v : LifeRec) : (s.setLife p v).storeCorrected = s.storeCorrected := rfl
@[simp] theorem State.setLife_mem (s : State) (p : Nat) (v : LifeRec) : (s.setLife p v).mem = s.mem := rfl
@[simp] theorem State.setLife_memErr (s : State) (p : Nat) (v : LifeRec) : (s.setLife p v).memErr = s.memErr := rfl
@[simp] theorem State.setLife_cache (s : State) (p : Nat) (v : LifeRec) : (s.setLife p v).cache = s.cache := rfl
@[simp] theorem State.setLife_plru (s : State) (p : Nat) (v : LifeRec) : (s.setLife p v).plru = s.plru := rfl
@[simp] theorem State.setLife_cacheBusy (s : State) (p : Nat) (v : LifeRec) : (s.setLife p v).cacheBusy = s.cacheBusy := rfl
@[simp] theorem State.setLife_arrayErr (s : State) (p : Nat) (v : LifeRec) : (s.setLife p v).arrayErr = s.arrayErr := rfl
@[simp] theorem State.setLife_l1d (s : State) (p : Nat) (v : LifeRec) : (s.setLife p v).l1d = s.l1d := rfl
@[simp] theorem State.setLife_l1Err (s : State) (p : Nat) (v : LifeRec) : (s.setLife p v).l1Err = s.l1Err := rfl
@[simp] theorem State.setLife_scrubSeen (s : State) (p : Nat) (v : LifeRec) : (s.setLife p v).scrubSeen = s.scrubSeen := rfl
@[simp] theorem State.setLife_linked (s : State) (p : Nat) (v : LifeRec) : (s.setLife p v).linked = s.linked := rfl
@[simp] theorem State.setLife_vital (s : State) (p : Nat) (v : LifeRec) : (s.setLife p v).vital = s.vital := rfl
@[simp] theorem State.setLife_sysrefOk (s : State) (p : Nat) (v : LifeRec) : (s.setLife p v).sysrefOk = s.sysrefOk := rfl
@[simp] theorem State.setLife_brefOk (s : State) (p : Nat) (v : LifeRec) : (s.setLife p v).brefOk = s.brefOk := rfl
@[simp] theorem State.setLife_hrefOk (s : State) (p : Nat) (v : LifeRec) : (s.setLife p v).hrefOk = s.hrefOk := rfl
@[simp] theorem State.setLife_now (s : State) (p : Nat) (v : LifeRec) : (s.setLife p v).now = s.now := rfl
@[simp] theorem State.setLife_wall (s : State) (p : Nat) (v : LifeRec) : (s.setLife p v).wall = s.wall := rfl
@[simp] theorem State.setLife_ang (s : State) (p : Nat) (v : LifeRec) : (s.setLife p v).ang = s.ang := rfl
@[simp] theorem State.setLife_beam (s : State) (p : Nat) (v : LifeRec) : (s.setLife p v).beam = s.beam := rfl
@[simp] theorem State.setLife_slices (s : State) (p : Nat) (v : LifeRec) : (s.setLife p v).slices = s.slices := rfl
@[simp] theorem State.setLife_scheds (s : State) (p : Nat) (v : LifeRec) : (s.setLife p v).scheds = s.scheds := rfl
@[simp] theorem State.setLife_bt (s : State) (p : Nat) (v : LifeRec) : (s.setLife p v).bt = s.bt := rfl
@[simp] theorem State.setLife_btClock (s : State) (p : Nat) (v : LifeRec) : (s.setLife p v).btClock = s.btClock := rfl
@[simp] theorem State.setLife_btErr (s : State) (p : Nat) (v : LifeRec) : (s.setLife p v).btErr = s.btErr := rfl
@[simp] theorem State.setLife_facets (s : State) (p : Nat) (v : LifeRec) : (s.setLife p v).facets = s.facets := rfl
@[simp] theorem State.setLife_servos (s : State) (p : Nat) (v : LifeRec) : (s.setLife p v).servos = s.servos := rfl
@[simp] theorem State.setLife_spins (s : State) (p : Nat) (v : LifeRec) : (s.setLife p v).spins = s.spins := rfl
@[simp] theorem State.setLife_bus (s : State) (p : Nat) (v : LifeRec) : (s.setLife p v).bus = s.bus := rfl
@[simp] theorem State.setLife_hdas (s : State) (p : Nat) (v : LifeRec) : (s.setLife p v).hdas = s.hdas := rfl
@[simp] theorem State.setLife_cals (s : State) (p : Nat) (v : LifeRec) : (s.setLife p v).cals = s.cals := rfl
@[simp] theorem State.setLife_ref (s : State) (p : Nat) (v : LifeRec) : (s.setLife p v).ref = s.ref := rfl
@[simp] theorem State.setLife_energy (s : State) (p : Nat) (v : LifeRec) : (s.setLife p v).energy = s.energy := rfl
@[simp] theorem State.setLife_va (s : State) (p : Nat) (v : LifeRec) : (s.setLife p v).va = s.va := rfl
@[simp] theorem State.setLife_jseqHeld (s : State) (p : Nat) (v : LifeRec) : (s.setLife p v).jseqHeld = s.jseqHeld := rfl
@[simp] theorem State.setLife_prisms (s : State) (p : Nat) (v : LifeRec) : (s.setLife p v).prisms = s.prisms := rfl
@[simp] theorem State.setLife_red (s : State) (p : Nat) (v : LifeRec) : (s.setLife p v).red = s.red := rfl
@[simp] theorem State.setLife_host (s : State) (p : Nat) (v : LifeRec) : (s.setLife p v).host = s.host := rfl
@[simp] theorem State.setLife_sec (s : State) (p : Nat) (v : LifeRec) : (s.setLife p v).sec = s.sec := rfl
@[simp] theorem State.setLife_cfg (s : State) (p : Nat) (v : LifeRec) : (s.setLife p v).cfg = s.cfg := rfl
@[simp] theorem State.setLife_hie (s : State) (p : Nat) (v : LifeRec) : (s.setLife p v).hie = s.hie := rfl
@[simp] theorem State.setLife_dma (s : State) (p : Nat) (v : LifeRec) : (s.setLife p v).dma = s.dma := rfl
@[simp] theorem State.setLife_evr (s : State) (p : Nat) (v : LifeRec) : (s.setLife p v).evr = s.evr := rfl
@[simp] theorem State.setLife_cores (s : State) (p : Nat) (v : LifeRec) : (s.setLife p v).cores = s.cores := rfl
@[simp] theorem State.setLife_pwr (s : State) (p : Nat) (v : LifeRec) : (s.setLife p v).pwr = s.pwr := rfl
@[simp] theorem State.setLife_free (s : State) (p : Nat) (v : LifeRec) : (s.setLife p v).free = s.free := rfl
@[simp] theorem State.setLife_out (s : State) (p : Nat) (v : LifeRec) : (s.setLife p v).out = s.out := rfl
@[simp] theorem State.setLife_reg (s : State) (p : Nat) (v : LifeRec) (q : Reg) : (s.setLife p v).reg q = s.reg q := rfl
@[simp] theorem State.setLife_rd (s : State) (p : Nat) (v : LifeRec) (q : Fld) : (s.setLife p v).rd q = s.rd q := rfl
@[simp] theorem State.setLife_on (s : State) (p : Nat) (v : LifeRec) (q : Fld) : (s.setLife p v).on q = s.on q := rfl

/-! ### `setCal` -/

@[simp] theorem State.setCal_pending (s : State) (k : Nat) (v : CalSt) : (s.setCal k v).pending = s.pending := rfl
@[simp] theorem State.setCal_part (s : State) (k : Nat) (v : CalSt) : (s.setCal k v).part = s.part := rfl
@[simp] theorem State.setCal_regs (s : State) (k : Nat) (v : CalSt) : (s.setCal k v).regs = s.regs := rfl
@[simp] theorem State.setCal_latches (s : State) (k : Nat) (v : CalSt) : (s.setCal k v).latches = s.latches := rfl
@[simp] theorem State.setCal_lps (s : State) (k : Nat) (v : CalSt) : (s.setCal k v).lps = s.lps := rfl
@[simp] theorem State.setCal_lpDepth (s : State) (k : Nat) (v : CalSt) : (s.setCal k v).lpDepth = s.lpDepth := rfl
@[simp] theorem State.setCal_stalled (s : State) (k : Nat) (v : CalSt) : (s.setCal k v).stalled = s.stalled := rfl
@[simp] theorem State.setCal_storeCorrected (s : State) (k : Nat) (v : CalSt) : (s.setCal k v).storeCorrected = s.storeCorrected := rfl
@[simp] theorem State.setCal_mem (s : State) (k : Nat) (v : CalSt) : (s.setCal k v).mem = s.mem := rfl
@[simp] theorem State.setCal_memErr (s : State) (k : Nat) (v : CalSt) : (s.setCal k v).memErr = s.memErr := rfl
@[simp] theorem State.setCal_cache (s : State) (k : Nat) (v : CalSt) : (s.setCal k v).cache = s.cache := rfl
@[simp] theorem State.setCal_plru (s : State) (k : Nat) (v : CalSt) : (s.setCal k v).plru = s.plru := rfl
@[simp] theorem State.setCal_cacheBusy (s : State) (k : Nat) (v : CalSt) : (s.setCal k v).cacheBusy = s.cacheBusy := rfl
@[simp] theorem State.setCal_arrayErr (s : State) (k : Nat) (v : CalSt) : (s.setCal k v).arrayErr = s.arrayErr := rfl
@[simp] theorem State.setCal_l1d (s : State) (k : Nat) (v : CalSt) : (s.setCal k v).l1d = s.l1d := rfl
@[simp] theorem State.setCal_l1Err (s : State) (k : Nat) (v : CalSt) : (s.setCal k v).l1Err = s.l1Err := rfl
@[simp] theorem State.setCal_scrubSeen (s : State) (k : Nat) (v : CalSt) : (s.setCal k v).scrubSeen = s.scrubSeen := rfl
@[simp] theorem State.setCal_linked (s : State) (k : Nat) (v : CalSt) : (s.setCal k v).linked = s.linked := rfl
@[simp] theorem State.setCal_vital (s : State) (k : Nat) (v : CalSt) : (s.setCal k v).vital = s.vital := rfl
@[simp] theorem State.setCal_sysrefOk (s : State) (k : Nat) (v : CalSt) : (s.setCal k v).sysrefOk = s.sysrefOk := rfl
@[simp] theorem State.setCal_brefOk (s : State) (k : Nat) (v : CalSt) : (s.setCal k v).brefOk = s.brefOk := rfl
@[simp] theorem State.setCal_hrefOk (s : State) (k : Nat) (v : CalSt) : (s.setCal k v).hrefOk = s.hrefOk := rfl
@[simp] theorem State.setCal_now (s : State) (k : Nat) (v : CalSt) : (s.setCal k v).now = s.now := rfl
@[simp] theorem State.setCal_wall (s : State) (k : Nat) (v : CalSt) : (s.setCal k v).wall = s.wall := rfl
@[simp] theorem State.setCal_ang (s : State) (k : Nat) (v : CalSt) : (s.setCal k v).ang = s.ang := rfl
@[simp] theorem State.setCal_beam (s : State) (k : Nat) (v : CalSt) : (s.setCal k v).beam = s.beam := rfl
@[simp] theorem State.setCal_slices (s : State) (k : Nat) (v : CalSt) : (s.setCal k v).slices = s.slices := rfl
@[simp] theorem State.setCal_scheds (s : State) (k : Nat) (v : CalSt) : (s.setCal k v).scheds = s.scheds := rfl
@[simp] theorem State.setCal_bt (s : State) (k : Nat) (v : CalSt) : (s.setCal k v).bt = s.bt := rfl
@[simp] theorem State.setCal_btClock (s : State) (k : Nat) (v : CalSt) : (s.setCal k v).btClock = s.btClock := rfl
@[simp] theorem State.setCal_btErr (s : State) (k : Nat) (v : CalSt) : (s.setCal k v).btErr = s.btErr := rfl
@[simp] theorem State.setCal_facets (s : State) (k : Nat) (v : CalSt) : (s.setCal k v).facets = s.facets := rfl
@[simp] theorem State.setCal_servos (s : State) (k : Nat) (v : CalSt) : (s.setCal k v).servos = s.servos := rfl
@[simp] theorem State.setCal_spins (s : State) (k : Nat) (v : CalSt) : (s.setCal k v).spins = s.spins := rfl
@[simp] theorem State.setCal_bus (s : State) (k : Nat) (v : CalSt) : (s.setCal k v).bus = s.bus := rfl
@[simp] theorem State.setCal_life (s : State) (k : Nat) (v : CalSt) : (s.setCal k v).life = s.life := rfl
@[simp] theorem State.setCal_hdas (s : State) (k : Nat) (v : CalSt) : (s.setCal k v).hdas = s.hdas := rfl
@[simp] theorem State.setCal_ref (s : State) (k : Nat) (v : CalSt) : (s.setCal k v).ref = s.ref := rfl
@[simp] theorem State.setCal_energy (s : State) (k : Nat) (v : CalSt) : (s.setCal k v).energy = s.energy := rfl
@[simp] theorem State.setCal_va (s : State) (k : Nat) (v : CalSt) : (s.setCal k v).va = s.va := rfl
@[simp] theorem State.setCal_jseqHeld (s : State) (k : Nat) (v : CalSt) : (s.setCal k v).jseqHeld = s.jseqHeld := rfl
@[simp] theorem State.setCal_prisms (s : State) (k : Nat) (v : CalSt) : (s.setCal k v).prisms = s.prisms := rfl
@[simp] theorem State.setCal_red (s : State) (k : Nat) (v : CalSt) : (s.setCal k v).red = s.red := rfl
@[simp] theorem State.setCal_host (s : State) (k : Nat) (v : CalSt) : (s.setCal k v).host = s.host := rfl
@[simp] theorem State.setCal_sec (s : State) (k : Nat) (v : CalSt) : (s.setCal k v).sec = s.sec := rfl
@[simp] theorem State.setCal_cfg (s : State) (k : Nat) (v : CalSt) : (s.setCal k v).cfg = s.cfg := rfl
@[simp] theorem State.setCal_hie (s : State) (k : Nat) (v : CalSt) : (s.setCal k v).hie = s.hie := rfl
@[simp] theorem State.setCal_dma (s : State) (k : Nat) (v : CalSt) : (s.setCal k v).dma = s.dma := rfl
@[simp] theorem State.setCal_evr (s : State) (k : Nat) (v : CalSt) : (s.setCal k v).evr = s.evr := rfl
@[simp] theorem State.setCal_cores (s : State) (k : Nat) (v : CalSt) : (s.setCal k v).cores = s.cores := rfl
@[simp] theorem State.setCal_pwr (s : State) (k : Nat) (v : CalSt) : (s.setCal k v).pwr = s.pwr := rfl
@[simp] theorem State.setCal_free (s : State) (k : Nat) (v : CalSt) : (s.setCal k v).free = s.free := rfl
@[simp] theorem State.setCal_out (s : State) (k : Nat) (v : CalSt) : (s.setCal k v).out = s.out := rfl
@[simp] theorem State.setCal_reg (s : State) (k : Nat) (v : CalSt) (q : Reg) : (s.setCal k v).reg q = s.reg q := rfl
@[simp] theorem State.setCal_rd (s : State) (k : Nat) (v : CalSt) (q : Fld) : (s.setCal k v).rd q = s.rd q := rfl
@[simp] theorem State.setCal_on (s : State) (k : Nat) (v : CalSt) (q : Fld) : (s.setCal k v).on q = s.on q := rfl

/-! ### `setCore` -/

@[simp] theorem State.setCore_pending (s : State) (c : Nat) (k : CoreSt) : (s.setCore c k).pending = s.pending := rfl
@[simp] theorem State.setCore_part (s : State) (c : Nat) (k : CoreSt) : (s.setCore c k).part = s.part := rfl
@[simp] theorem State.setCore_regs (s : State) (c : Nat) (k : CoreSt) : (s.setCore c k).regs = s.regs := rfl
@[simp] theorem State.setCore_latches (s : State) (c : Nat) (k : CoreSt) : (s.setCore c k).latches = s.latches := rfl
@[simp] theorem State.setCore_lps (s : State) (c : Nat) (k : CoreSt) : (s.setCore c k).lps = s.lps := rfl
@[simp] theorem State.setCore_lpDepth (s : State) (c : Nat) (k : CoreSt) : (s.setCore c k).lpDepth = s.lpDepth := rfl
@[simp] theorem State.setCore_stalled (s : State) (c : Nat) (k : CoreSt) : (s.setCore c k).stalled = s.stalled := rfl
@[simp] theorem State.setCore_storeCorrected (s : State) (c : Nat) (k : CoreSt) : (s.setCore c k).storeCorrected = s.storeCorrected := rfl
@[simp] theorem State.setCore_mem (s : State) (c : Nat) (k : CoreSt) : (s.setCore c k).mem = s.mem := rfl
@[simp] theorem State.setCore_memErr (s : State) (c : Nat) (k : CoreSt) : (s.setCore c k).memErr = s.memErr := rfl
@[simp] theorem State.setCore_cache (s : State) (c : Nat) (k : CoreSt) : (s.setCore c k).cache = s.cache := rfl
@[simp] theorem State.setCore_plru (s : State) (c : Nat) (k : CoreSt) : (s.setCore c k).plru = s.plru := rfl
@[simp] theorem State.setCore_cacheBusy (s : State) (c : Nat) (k : CoreSt) : (s.setCore c k).cacheBusy = s.cacheBusy := rfl
@[simp] theorem State.setCore_arrayErr (s : State) (c : Nat) (k : CoreSt) : (s.setCore c k).arrayErr = s.arrayErr := rfl
@[simp] theorem State.setCore_l1d (s : State) (c : Nat) (k : CoreSt) : (s.setCore c k).l1d = s.l1d := rfl
@[simp] theorem State.setCore_l1Err (s : State) (c : Nat) (k : CoreSt) : (s.setCore c k).l1Err = s.l1Err := rfl
@[simp] theorem State.setCore_scrubSeen (s : State) (c : Nat) (k : CoreSt) : (s.setCore c k).scrubSeen = s.scrubSeen := rfl
@[simp] theorem State.setCore_linked (s : State) (c : Nat) (k : CoreSt) : (s.setCore c k).linked = s.linked := rfl
@[simp] theorem State.setCore_vital (s : State) (c : Nat) (k : CoreSt) : (s.setCore c k).vital = s.vital := rfl
@[simp] theorem State.setCore_sysrefOk (s : State) (c : Nat) (k : CoreSt) : (s.setCore c k).sysrefOk = s.sysrefOk := rfl
@[simp] theorem State.setCore_brefOk (s : State) (c : Nat) (k : CoreSt) : (s.setCore c k).brefOk = s.brefOk := rfl
@[simp] theorem State.setCore_hrefOk (s : State) (c : Nat) (k : CoreSt) : (s.setCore c k).hrefOk = s.hrefOk := rfl
@[simp] theorem State.setCore_now (s : State) (c : Nat) (k : CoreSt) : (s.setCore c k).now = s.now := rfl
@[simp] theorem State.setCore_wall (s : State) (c : Nat) (k : CoreSt) : (s.setCore c k).wall = s.wall := rfl
@[simp] theorem State.setCore_ang (s : State) (c : Nat) (k : CoreSt) : (s.setCore c k).ang = s.ang := rfl
@[simp] theorem State.setCore_beam (s : State) (c : Nat) (k : CoreSt) : (s.setCore c k).beam = s.beam := rfl
@[simp] theorem State.setCore_slices (s : State) (c : Nat) (k : CoreSt) : (s.setCore c k).slices = s.slices := rfl
@[simp] theorem State.setCore_scheds (s : State) (c : Nat) (k : CoreSt) : (s.setCore c k).scheds = s.scheds := rfl
@[simp] theorem State.setCore_bt (s : State) (c : Nat) (k : CoreSt) : (s.setCore c k).bt = s.bt := rfl
@[simp] theorem State.setCore_btClock (s : State) (c : Nat) (k : CoreSt) : (s.setCore c k).btClock = s.btClock := rfl
@[simp] theorem State.setCore_btErr (s : State) (c : Nat) (k : CoreSt) : (s.setCore c k).btErr = s.btErr := rfl
@[simp] theorem State.setCore_facets (s : State) (c : Nat) (k : CoreSt) : (s.setCore c k).facets = s.facets := rfl
@[simp] theorem State.setCore_servos (s : State) (c : Nat) (k : CoreSt) : (s.setCore c k).servos = s.servos := rfl
@[simp] theorem State.setCore_spins (s : State) (c : Nat) (k : CoreSt) : (s.setCore c k).spins = s.spins := rfl
@[simp] theorem State.setCore_bus (s : State) (c : Nat) (k : CoreSt) : (s.setCore c k).bus = s.bus := rfl
@[simp] theorem State.setCore_life (s : State) (c : Nat) (k : CoreSt) : (s.setCore c k).life = s.life := rfl
@[simp] theorem State.setCore_hdas (s : State) (c : Nat) (k : CoreSt) : (s.setCore c k).hdas = s.hdas := rfl
@[simp] theorem State.setCore_cals (s : State) (c : Nat) (k : CoreSt) : (s.setCore c k).cals = s.cals := rfl
@[simp] theorem State.setCore_ref (s : State) (c : Nat) (k : CoreSt) : (s.setCore c k).ref = s.ref := rfl
@[simp] theorem State.setCore_energy (s : State) (c : Nat) (k : CoreSt) : (s.setCore c k).energy = s.energy := rfl
@[simp] theorem State.setCore_va (s : State) (c : Nat) (k : CoreSt) : (s.setCore c k).va = s.va := rfl
@[simp] theorem State.setCore_jseqHeld (s : State) (c : Nat) (k : CoreSt) : (s.setCore c k).jseqHeld = s.jseqHeld := rfl
@[simp] theorem State.setCore_prisms (s : State) (c : Nat) (k : CoreSt) : (s.setCore c k).prisms = s.prisms := rfl
@[simp] theorem State.setCore_red (s : State) (c : Nat) (k : CoreSt) : (s.setCore c k).red = s.red := rfl
@[simp] theorem State.setCore_host (s : State) (c : Nat) (k : CoreSt) : (s.setCore c k).host = s.host := rfl
@[simp] theorem State.setCore_sec (s : State) (c : Nat) (k : CoreSt) : (s.setCore c k).sec = s.sec := rfl
@[simp] theorem State.setCore_cfg (s : State) (c : Nat) (k : CoreSt) : (s.setCore c k).cfg = s.cfg := rfl
@[simp] theorem State.setCore_hie (s : State) (c : Nat) (k : CoreSt) : (s.setCore c k).hie = s.hie := rfl
@[simp] theorem State.setCore_dma (s : State) (c : Nat) (k : CoreSt) : (s.setCore c k).dma = s.dma := rfl
@[simp] theorem State.setCore_evr (s : State) (c : Nat) (k : CoreSt) : (s.setCore c k).evr = s.evr := rfl
@[simp] theorem State.setCore_pwr (s : State) (c : Nat) (k : CoreSt) : (s.setCore c k).pwr = s.pwr := rfl
@[simp] theorem State.setCore_free (s : State) (c : Nat) (k : CoreSt) : (s.setCore c k).free = s.free := rfl
@[simp] theorem State.setCore_out (s : State) (c : Nat) (k : CoreSt) : (s.setCore c k).out = s.out := rfl
@[simp] theorem State.setCore_reg (s : State) (c : Nat) (k : CoreSt) (q : Reg) : (s.setCore c k).reg q = s.reg q := rfl
@[simp] theorem State.setCore_rd (s : State) (c : Nat) (k : CoreSt) (q : Fld) : (s.setCore c k).rd q = s.rd q := rfl
@[simp] theorem State.setCore_on (s : State) (c : Nat) (k : CoreSt) (q : Fld) : (s.setCore c k).on q = s.on q := rfl

/-! ### `setG` -/

@[simp] theorem State.setG_pending (s : State) (c r : Nat) (v : Word) : (s.setG c r v).pending = s.pending := rfl
@[simp] theorem State.setG_part (s : State) (c r : Nat) (v : Word) : (s.setG c r v).part = s.part := rfl
@[simp] theorem State.setG_regs (s : State) (c r : Nat) (v : Word) : (s.setG c r v).regs = s.regs := rfl
@[simp] theorem State.setG_latches (s : State) (c r : Nat) (v : Word) : (s.setG c r v).latches = s.latches := rfl
@[simp] theorem State.setG_lps (s : State) (c r : Nat) (v : Word) : (s.setG c r v).lps = s.lps := rfl
@[simp] theorem State.setG_lpDepth (s : State) (c r : Nat) (v : Word) : (s.setG c r v).lpDepth = s.lpDepth := rfl
@[simp] theorem State.setG_stalled (s : State) (c r : Nat) (v : Word) : (s.setG c r v).stalled = s.stalled := rfl
@[simp] theorem State.setG_storeCorrected (s : State) (c r : Nat) (v : Word) : (s.setG c r v).storeCorrected = s.storeCorrected := rfl
@[simp] theorem State.setG_mem (s : State) (c r : Nat) (v : Word) : (s.setG c r v).mem = s.mem := rfl
@[simp] theorem State.setG_memErr (s : State) (c r : Nat) (v : Word) : (s.setG c r v).memErr = s.memErr := rfl
@[simp] theorem State.setG_cache (s : State) (c r : Nat) (v : Word) : (s.setG c r v).cache = s.cache := rfl
@[simp] theorem State.setG_plru (s : State) (c r : Nat) (v : Word) : (s.setG c r v).plru = s.plru := rfl
@[simp] theorem State.setG_cacheBusy (s : State) (c r : Nat) (v : Word) : (s.setG c r v).cacheBusy = s.cacheBusy := rfl
@[simp] theorem State.setG_arrayErr (s : State) (c r : Nat) (v : Word) : (s.setG c r v).arrayErr = s.arrayErr := rfl
@[simp] theorem State.setG_l1d (s : State) (c r : Nat) (v : Word) : (s.setG c r v).l1d = s.l1d := rfl
@[simp] theorem State.setG_l1Err (s : State) (c r : Nat) (v : Word) : (s.setG c r v).l1Err = s.l1Err := rfl
@[simp] theorem State.setG_scrubSeen (s : State) (c r : Nat) (v : Word) : (s.setG c r v).scrubSeen = s.scrubSeen := rfl
@[simp] theorem State.setG_linked (s : State) (c r : Nat) (v : Word) : (s.setG c r v).linked = s.linked := rfl
@[simp] theorem State.setG_vital (s : State) (c r : Nat) (v : Word) : (s.setG c r v).vital = s.vital := rfl
@[simp] theorem State.setG_sysrefOk (s : State) (c r : Nat) (v : Word) : (s.setG c r v).sysrefOk = s.sysrefOk := rfl
@[simp] theorem State.setG_brefOk (s : State) (c r : Nat) (v : Word) : (s.setG c r v).brefOk = s.brefOk := rfl
@[simp] theorem State.setG_hrefOk (s : State) (c r : Nat) (v : Word) : (s.setG c r v).hrefOk = s.hrefOk := rfl
@[simp] theorem State.setG_now (s : State) (c r : Nat) (v : Word) : (s.setG c r v).now = s.now := rfl
@[simp] theorem State.setG_wall (s : State) (c r : Nat) (v : Word) : (s.setG c r v).wall = s.wall := rfl
@[simp] theorem State.setG_ang (s : State) (c r : Nat) (v : Word) : (s.setG c r v).ang = s.ang := rfl
@[simp] theorem State.setG_beam (s : State) (c r : Nat) (v : Word) : (s.setG c r v).beam = s.beam := rfl
@[simp] theorem State.setG_slices (s : State) (c r : Nat) (v : Word) : (s.setG c r v).slices = s.slices := rfl
@[simp] theorem State.setG_scheds (s : State) (c r : Nat) (v : Word) : (s.setG c r v).scheds = s.scheds := rfl
@[simp] theorem State.setG_bt (s : State) (c r : Nat) (v : Word) : (s.setG c r v).bt = s.bt := rfl
@[simp] theorem State.setG_btClock (s : State) (c r : Nat) (v : Word) : (s.setG c r v).btClock = s.btClock := rfl
@[simp] theorem State.setG_btErr (s : State) (c r : Nat) (v : Word) : (s.setG c r v).btErr = s.btErr := rfl
@[simp] theorem State.setG_facets (s : State) (c r : Nat) (v : Word) : (s.setG c r v).facets = s.facets := rfl
@[simp] theorem State.setG_servos (s : State) (c r : Nat) (v : Word) : (s.setG c r v).servos = s.servos := rfl
@[simp] theorem State.setG_spins (s : State) (c r : Nat) (v : Word) : (s.setG c r v).spins = s.spins := rfl
@[simp] theorem State.setG_bus (s : State) (c r : Nat) (v : Word) : (s.setG c r v).bus = s.bus := rfl
@[simp] theorem State.setG_life (s : State) (c r : Nat) (v : Word) : (s.setG c r v).life = s.life := rfl
@[simp] theorem State.setG_hdas (s : State) (c r : Nat) (v : Word) : (s.setG c r v).hdas = s.hdas := rfl
@[simp] theorem State.setG_cals (s : State) (c r : Nat) (v : Word) : (s.setG c r v).cals = s.cals := rfl
@[simp] theorem State.setG_ref (s : State) (c r : Nat) (v : Word) : (s.setG c r v).ref = s.ref := rfl
@[simp] theorem State.setG_energy (s : State) (c r : Nat) (v : Word) : (s.setG c r v).energy = s.energy := rfl
@[simp] theorem State.setG_va (s : State) (c r : Nat) (v : Word) : (s.setG c r v).va = s.va := rfl
@[simp] theorem State.setG_jseqHeld (s : State) (c r : Nat) (v : Word) : (s.setG c r v).jseqHeld = s.jseqHeld := rfl
@[simp] theorem State.setG_prisms (s : State) (c r : Nat) (v : Word) : (s.setG c r v).prisms = s.prisms := rfl
@[simp] theorem State.setG_red (s : State) (c r : Nat) (v : Word) : (s.setG c r v).red = s.red := rfl
@[simp] theorem State.setG_host (s : State) (c r : Nat) (v : Word) : (s.setG c r v).host = s.host := rfl
@[simp] theorem State.setG_sec (s : State) (c r : Nat) (v : Word) : (s.setG c r v).sec = s.sec := rfl
@[simp] theorem State.setG_cfg (s : State) (c r : Nat) (v : Word) : (s.setG c r v).cfg = s.cfg := rfl
@[simp] theorem State.setG_hie (s : State) (c r : Nat) (v : Word) : (s.setG c r v).hie = s.hie := rfl
@[simp] theorem State.setG_dma (s : State) (c r : Nat) (v : Word) : (s.setG c r v).dma = s.dma := rfl
@[simp] theorem State.setG_evr (s : State) (c r : Nat) (v : Word) : (s.setG c r v).evr = s.evr := rfl
@[simp] theorem State.setG_pwr (s : State) (c r : Nat) (v : Word) : (s.setG c r v).pwr = s.pwr := rfl
@[simp] theorem State.setG_free (s : State) (c r : Nat) (v : Word) : (s.setG c r v).free = s.free := rfl
@[simp] theorem State.setG_out (s : State) (c r : Nat) (v : Word) : (s.setG c r v).out = s.out := rfl
@[simp] theorem State.setG_reg (s : State) (c r : Nat) (v : Word) (q : Reg) : (s.setG c r v).reg q = s.reg q := rfl
@[simp] theorem State.setG_rd (s : State) (c r : Nat) (v : Word) (q : Fld) : (s.setG c r v).rd q = s.rd q := rfl
@[simp] theorem State.setG_on (s : State) (c r : Nat) (v : Word) (q : Fld) : (s.setG c r v).on q = s.on q := rfl

/-! ### `retire` -/

@[simp] theorem State.retire_pending (s : State) (c : Nat) : (s.retire c).pending = s.pending := rfl
@[simp] theorem State.retire_part (s : State) (c : Nat) : (s.retire c).part = s.part := rfl
@[simp] theorem State.retire_regs (s : State) (c : Nat) : (s.retire c).regs = s.regs := rfl
@[simp] theorem State.retire_latches (s : State) (c : Nat) : (s.retire c).latches = s.latches := rfl
@[simp] theorem State.retire_lps (s : State) (c : Nat) : (s.retire c).lps = s.lps := rfl
@[simp] theorem State.retire_lpDepth (s : State) (c : Nat) : (s.retire c).lpDepth = s.lpDepth := rfl
@[simp] theorem State.retire_stalled (s : State) (c : Nat) : (s.retire c).stalled = s.stalled := rfl
@[simp] theorem State.retire_storeCorrected (s : State) (c : Nat) : (s.retire c).storeCorrected = s.storeCorrected := rfl
@[simp] theorem State.retire_mem (s : State) (c : Nat) : (s.retire c).mem = s.mem := rfl
@[simp] theorem State.retire_memErr (s : State) (c : Nat) : (s.retire c).memErr = s.memErr := rfl
@[simp] theorem State.retire_cache (s : State) (c : Nat) : (s.retire c).cache = s.cache := rfl
@[simp] theorem State.retire_plru (s : State) (c : Nat) : (s.retire c).plru = s.plru := rfl
@[simp] theorem State.retire_cacheBusy (s : State) (c : Nat) : (s.retire c).cacheBusy = s.cacheBusy := rfl
@[simp] theorem State.retire_arrayErr (s : State) (c : Nat) : (s.retire c).arrayErr = s.arrayErr := rfl
@[simp] theorem State.retire_l1d (s : State) (c : Nat) : (s.retire c).l1d = s.l1d := rfl
@[simp] theorem State.retire_l1Err (s : State) (c : Nat) : (s.retire c).l1Err = s.l1Err := rfl
@[simp] theorem State.retire_scrubSeen (s : State) (c : Nat) : (s.retire c).scrubSeen = s.scrubSeen := rfl
@[simp] theorem State.retire_linked (s : State) (c : Nat) : (s.retire c).linked = s.linked := rfl
@[simp] theorem State.retire_vital (s : State) (c : Nat) : (s.retire c).vital = s.vital := rfl
@[simp] theorem State.retire_sysrefOk (s : State) (c : Nat) : (s.retire c).sysrefOk = s.sysrefOk := rfl
@[simp] theorem State.retire_brefOk (s : State) (c : Nat) : (s.retire c).brefOk = s.brefOk := rfl
@[simp] theorem State.retire_hrefOk (s : State) (c : Nat) : (s.retire c).hrefOk = s.hrefOk := rfl
@[simp] theorem State.retire_now (s : State) (c : Nat) : (s.retire c).now = s.now := rfl
@[simp] theorem State.retire_wall (s : State) (c : Nat) : (s.retire c).wall = s.wall := rfl
@[simp] theorem State.retire_ang (s : State) (c : Nat) : (s.retire c).ang = s.ang := rfl
@[simp] theorem State.retire_beam (s : State) (c : Nat) : (s.retire c).beam = s.beam := rfl
@[simp] theorem State.retire_slices (s : State) (c : Nat) : (s.retire c).slices = s.slices := rfl
@[simp] theorem State.retire_scheds (s : State) (c : Nat) : (s.retire c).scheds = s.scheds := rfl
@[simp] theorem State.retire_bt (s : State) (c : Nat) : (s.retire c).bt = s.bt := rfl
@[simp] theorem State.retire_btClock (s : State) (c : Nat) : (s.retire c).btClock = s.btClock := rfl
@[simp] theorem State.retire_btErr (s : State) (c : Nat) : (s.retire c).btErr = s.btErr := rfl
@[simp] theorem State.retire_facets (s : State) (c : Nat) : (s.retire c).facets = s.facets := rfl
@[simp] theorem State.retire_servos (s : State) (c : Nat) : (s.retire c).servos = s.servos := rfl
@[simp] theorem State.retire_spins (s : State) (c : Nat) : (s.retire c).spins = s.spins := rfl
@[simp] theorem State.retire_bus (s : State) (c : Nat) : (s.retire c).bus = s.bus := rfl
@[simp] theorem State.retire_life (s : State) (c : Nat) : (s.retire c).life = s.life := rfl
@[simp] theorem State.retire_hdas (s : State) (c : Nat) : (s.retire c).hdas = s.hdas := rfl
@[simp] theorem State.retire_cals (s : State) (c : Nat) : (s.retire c).cals = s.cals := rfl
@[simp] theorem State.retire_ref (s : State) (c : Nat) : (s.retire c).ref = s.ref := rfl
@[simp] theorem State.retire_energy (s : State) (c : Nat) : (s.retire c).energy = s.energy := rfl
@[simp] theorem State.retire_va (s : State) (c : Nat) : (s.retire c).va = s.va := rfl
@[simp] theorem State.retire_jseqHeld (s : State) (c : Nat) : (s.retire c).jseqHeld = s.jseqHeld := rfl
@[simp] theorem State.retire_prisms (s : State) (c : Nat) : (s.retire c).prisms = s.prisms := rfl
@[simp] theorem State.retire_red (s : State) (c : Nat) : (s.retire c).red = s.red := rfl
@[simp] theorem State.retire_host (s : State) (c : Nat) : (s.retire c).host = s.host := rfl
@[simp] theorem State.retire_sec (s : State) (c : Nat) : (s.retire c).sec = s.sec := rfl
@[simp] theorem State.retire_cfg (s : State) (c : Nat) : (s.retire c).cfg = s.cfg := rfl
@[simp] theorem State.retire_hie (s : State) (c : Nat) : (s.retire c).hie = s.hie := rfl
@[simp] theorem State.retire_dma (s : State) (c : Nat) : (s.retire c).dma = s.dma := rfl
@[simp] theorem State.retire_evr (s : State) (c : Nat) : (s.retire c).evr = s.evr := rfl
@[simp] theorem State.retire_pwr (s : State) (c : Nat) : (s.retire c).pwr = s.pwr := rfl
@[simp] theorem State.retire_free (s : State) (c : Nat) : (s.retire c).free = s.free := rfl
@[simp] theorem State.retire_out (s : State) (c : Nat) : (s.retire c).out = s.out := rfl
@[simp] theorem State.retire_reg (s : State) (c : Nat) (q : Reg) : (s.retire c).reg q = s.reg q := rfl
@[simp] theorem State.retire_rd (s : State) (c : Nat) (q : Fld) : (s.retire c).rd q = s.rd q := rfl
@[simp] theorem State.retire_on (s : State) (c : Nat) (q : Fld) : (s.retire c).on q = s.on q := rfl

/-! ### `emit` -/

@[simp] theorem State.emit_pending (s : State) (o : Out) : (s.emit o).pending = s.pending := rfl
@[simp] theorem State.emit_part (s : State) (o : Out) : (s.emit o).part = s.part := rfl
@[simp] theorem State.emit_regs (s : State) (o : Out) : (s.emit o).regs = s.regs := rfl
@[simp] theorem State.emit_latches (s : State) (o : Out) : (s.emit o).latches = s.latches := rfl
@[simp] theorem State.emit_lps (s : State) (o : Out) : (s.emit o).lps = s.lps := rfl
@[simp] theorem State.emit_lpDepth (s : State) (o : Out) : (s.emit o).lpDepth = s.lpDepth := rfl
@[simp] theorem State.emit_stalled (s : State) (o : Out) : (s.emit o).stalled = s.stalled := rfl
@[simp] theorem State.emit_storeCorrected (s : State) (o : Out) : (s.emit o).storeCorrected = s.storeCorrected := rfl
@[simp] theorem State.emit_mem (s : State) (o : Out) : (s.emit o).mem = s.mem := rfl
@[simp] theorem State.emit_memErr (s : State) (o : Out) : (s.emit o).memErr = s.memErr := rfl
@[simp] theorem State.emit_cache (s : State) (o : Out) : (s.emit o).cache = s.cache := rfl
@[simp] theorem State.emit_plru (s : State) (o : Out) : (s.emit o).plru = s.plru := rfl
@[simp] theorem State.emit_cacheBusy (s : State) (o : Out) : (s.emit o).cacheBusy = s.cacheBusy := rfl
@[simp] theorem State.emit_arrayErr (s : State) (o : Out) : (s.emit o).arrayErr = s.arrayErr := rfl
@[simp] theorem State.emit_l1d (s : State) (o : Out) : (s.emit o).l1d = s.l1d := rfl
@[simp] theorem State.emit_l1Err (s : State) (o : Out) : (s.emit o).l1Err = s.l1Err := rfl
@[simp] theorem State.emit_scrubSeen (s : State) (o : Out) : (s.emit o).scrubSeen = s.scrubSeen := rfl
@[simp] theorem State.emit_linked (s : State) (o : Out) : (s.emit o).linked = s.linked := rfl
@[simp] theorem State.emit_vital (s : State) (o : Out) : (s.emit o).vital = s.vital := rfl
@[simp] theorem State.emit_sysrefOk (s : State) (o : Out) : (s.emit o).sysrefOk = s.sysrefOk := rfl
@[simp] theorem State.emit_brefOk (s : State) (o : Out) : (s.emit o).brefOk = s.brefOk := rfl
@[simp] theorem State.emit_hrefOk (s : State) (o : Out) : (s.emit o).hrefOk = s.hrefOk := rfl
@[simp] theorem State.emit_now (s : State) (o : Out) : (s.emit o).now = s.now := rfl
@[simp] theorem State.emit_wall (s : State) (o : Out) : (s.emit o).wall = s.wall := rfl
@[simp] theorem State.emit_ang (s : State) (o : Out) : (s.emit o).ang = s.ang := rfl
@[simp] theorem State.emit_beam (s : State) (o : Out) : (s.emit o).beam = s.beam := rfl
@[simp] theorem State.emit_slices (s : State) (o : Out) : (s.emit o).slices = s.slices := rfl
@[simp] theorem State.emit_scheds (s : State) (o : Out) : (s.emit o).scheds = s.scheds := rfl
@[simp] theorem State.emit_bt (s : State) (o : Out) : (s.emit o).bt = s.bt := rfl
@[simp] theorem State.emit_btClock (s : State) (o : Out) : (s.emit o).btClock = s.btClock := rfl
@[simp] theorem State.emit_btErr (s : State) (o : Out) : (s.emit o).btErr = s.btErr := rfl
@[simp] theorem State.emit_facets (s : State) (o : Out) : (s.emit o).facets = s.facets := rfl
@[simp] theorem State.emit_servos (s : State) (o : Out) : (s.emit o).servos = s.servos := rfl
@[simp] theorem State.emit_spins (s : State) (o : Out) : (s.emit o).spins = s.spins := rfl
@[simp] theorem State.emit_bus (s : State) (o : Out) : (s.emit o).bus = s.bus := rfl
@[simp] theorem State.emit_life (s : State) (o : Out) : (s.emit o).life = s.life := rfl
@[simp] theorem State.emit_hdas (s : State) (o : Out) : (s.emit o).hdas = s.hdas := rfl
@[simp] theorem State.emit_cals (s : State) (o : Out) : (s.emit o).cals = s.cals := rfl
@[simp] theorem State.emit_ref (s : State) (o : Out) : (s.emit o).ref = s.ref := rfl
@[simp] theorem State.emit_energy (s : State) (o : Out) : (s.emit o).energy = s.energy := rfl
@[simp] theorem State.emit_va (s : State) (o : Out) : (s.emit o).va = s.va := rfl
@[simp] theorem State.emit_jseqHeld (s : State) (o : Out) : (s.emit o).jseqHeld = s.jseqHeld := rfl
@[simp] theorem State.emit_prisms (s : State) (o : Out) : (s.emit o).prisms = s.prisms := rfl
@[simp] theorem State.emit_red (s : State) (o : Out) : (s.emit o).red = s.red := rfl
@[simp] theorem State.emit_host (s : State) (o : Out) : (s.emit o).host = s.host := rfl
@[simp] theorem State.emit_sec (s : State) (o : Out) : (s.emit o).sec = s.sec := rfl
@[simp] theorem State.emit_cfg (s : State) (o : Out) : (s.emit o).cfg = s.cfg := rfl
@[simp] theorem State.emit_hie (s : State) (o : Out) : (s.emit o).hie = s.hie := rfl
@[simp] theorem State.emit_dma (s : State) (o : Out) : (s.emit o).dma = s.dma := rfl
@[simp] theorem State.emit_evr (s : State) (o : Out) : (s.emit o).evr = s.evr := rfl
@[simp] theorem State.emit_cores (s : State) (o : Out) : (s.emit o).cores = s.cores := rfl
@[simp] theorem State.emit_pwr (s : State) (o : Out) : (s.emit o).pwr = s.pwr := rfl
@[simp] theorem State.emit_free (s : State) (o : Out) : (s.emit o).free = s.free := rfl
@[simp] theorem State.emit_reg (s : State) (o : Out) (q : Reg) : (s.emit o).reg q = s.reg q := rfl
@[simp] theorem State.emit_rd (s : State) (o : Out) (q : Fld) : (s.emit o).rd q = s.rd q := rfl
@[simp] theorem State.emit_on (s : State) (o : Out) (q : Fld) : (s.emit o).on q = s.on q := rfl

/-! ### `draw` -/

@[simp] theorem State.draw_pending (s : State) : (s.draw).pending = s.pending := rfl
@[simp] theorem State.draw_part (s : State) : (s.draw).part = s.part := rfl
@[simp] theorem State.draw_regs (s : State) : (s.draw).regs = s.regs := rfl
@[simp] theorem State.draw_latches (s : State) : (s.draw).latches = s.latches := rfl
@[simp] theorem State.draw_lps (s : State) : (s.draw).lps = s.lps := rfl
@[simp] theorem State.draw_lpDepth (s : State) : (s.draw).lpDepth = s.lpDepth := rfl
@[simp] theorem State.draw_stalled (s : State) : (s.draw).stalled = s.stalled := rfl
@[simp] theorem State.draw_storeCorrected (s : State) : (s.draw).storeCorrected = s.storeCorrected := rfl
@[simp] theorem State.draw_mem (s : State) : (s.draw).mem = s.mem := rfl
@[simp] theorem State.draw_memErr (s : State) : (s.draw).memErr = s.memErr := rfl
@[simp] theorem State.draw_cache (s : State) : (s.draw).cache = s.cache := rfl
@[simp] theorem State.draw_plru (s : State) : (s.draw).plru = s.plru := rfl
@[simp] theorem State.draw_cacheBusy (s : State) : (s.draw).cacheBusy = s.cacheBusy := rfl
@[simp] theorem State.draw_arrayErr (s : State) : (s.draw).arrayErr = s.arrayErr := rfl
@[simp] theorem State.draw_l1d (s : State) : (s.draw).l1d = s.l1d := rfl
@[simp] theorem State.draw_l1Err (s : State) : (s.draw).l1Err = s.l1Err := rfl
@[simp] theorem State.draw_scrubSeen (s : State) : (s.draw).scrubSeen = s.scrubSeen := rfl
@[simp] theorem State.draw_linked (s : State) : (s.draw).linked = s.linked := rfl
@[simp] theorem State.draw_vital (s : State) : (s.draw).vital = s.vital := rfl
@[simp] theorem State.draw_sysrefOk (s : State) : (s.draw).sysrefOk = s.sysrefOk := rfl
@[simp] theorem State.draw_brefOk (s : State) : (s.draw).brefOk = s.brefOk := rfl
@[simp] theorem State.draw_hrefOk (s : State) : (s.draw).hrefOk = s.hrefOk := rfl
@[simp] theorem State.draw_now (s : State) : (s.draw).now = s.now := rfl
@[simp] theorem State.draw_wall (s : State) : (s.draw).wall = s.wall := rfl
@[simp] theorem State.draw_ang (s : State) : (s.draw).ang = s.ang := rfl
@[simp] theorem State.draw_beam (s : State) : (s.draw).beam = s.beam := rfl
@[simp] theorem State.draw_slices (s : State) : (s.draw).slices = s.slices := rfl
@[simp] theorem State.draw_scheds (s : State) : (s.draw).scheds = s.scheds := rfl
@[simp] theorem State.draw_bt (s : State) : (s.draw).bt = s.bt := rfl
@[simp] theorem State.draw_btClock (s : State) : (s.draw).btClock = s.btClock := rfl
@[simp] theorem State.draw_btErr (s : State) : (s.draw).btErr = s.btErr := rfl
@[simp] theorem State.draw_facets (s : State) : (s.draw).facets = s.facets := rfl
@[simp] theorem State.draw_servos (s : State) : (s.draw).servos = s.servos := rfl
@[simp] theorem State.draw_spins (s : State) : (s.draw).spins = s.spins := rfl
@[simp] theorem State.draw_bus (s : State) : (s.draw).bus = s.bus := rfl
@[simp] theorem State.draw_life (s : State) : (s.draw).life = s.life := rfl
@[simp] theorem State.draw_hdas (s : State) : (s.draw).hdas = s.hdas := rfl
@[simp] theorem State.draw_cals (s : State) : (s.draw).cals = s.cals := rfl
@[simp] theorem State.draw_ref (s : State) : (s.draw).ref = s.ref := rfl
@[simp] theorem State.draw_energy (s : State) : (s.draw).energy = s.energy := rfl
@[simp] theorem State.draw_va (s : State) : (s.draw).va = s.va := rfl
@[simp] theorem State.draw_jseqHeld (s : State) : (s.draw).jseqHeld = s.jseqHeld := rfl
@[simp] theorem State.draw_prisms (s : State) : (s.draw).prisms = s.prisms := rfl
@[simp] theorem State.draw_red (s : State) : (s.draw).red = s.red := rfl
@[simp] theorem State.draw_host (s : State) : (s.draw).host = s.host := rfl
@[simp] theorem State.draw_sec (s : State) : (s.draw).sec = s.sec := rfl
@[simp] theorem State.draw_cfg (s : State) : (s.draw).cfg = s.cfg := rfl
@[simp] theorem State.draw_hie (s : State) : (s.draw).hie = s.hie := rfl
@[simp] theorem State.draw_dma (s : State) : (s.draw).dma = s.dma := rfl
@[simp] theorem State.draw_evr (s : State) : (s.draw).evr = s.evr := rfl
@[simp] theorem State.draw_cores (s : State) : (s.draw).cores = s.cores := rfl
@[simp] theorem State.draw_pwr (s : State) : (s.draw).pwr = s.pwr := rfl
@[simp] theorem State.draw_out (s : State) : (s.draw).out = s.out := rfl
@[simp] theorem State.draw_reg (s : State) (q : Reg) : (s.draw).reg q = s.reg q := rfl
@[simp] theorem State.draw_rd (s : State) (q : Fld) : (s.draw).rd q = s.rd q := rfl
@[simp] theorem State.draw_on (s : State) (q : Fld) : (s.draw).on q = s.on q := rfl

/-! ### `setMemByte` -/

@[simp] theorem State.setMemByte_pending (s : State) (a : Nat) (b : Byte) : (s.setMemByte a b).pending = s.pending := rfl
@[simp] theorem State.setMemByte_part (s : State) (a : Nat) (b : Byte) : (s.setMemByte a b).part = s.part := rfl
@[simp] theorem State.setMemByte_regs (s : State) (a : Nat) (b : Byte) : (s.setMemByte a b).regs = s.regs := rfl
@[simp] theorem State.setMemByte_latches (s : State) (a : Nat) (b : Byte) : (s.setMemByte a b).latches = s.latches := rfl
@[simp] theorem State.setMemByte_lps (s : State) (a : Nat) (b : Byte) : (s.setMemByte a b).lps = s.lps := rfl
@[simp] theorem State.setMemByte_lpDepth (s : State) (a : Nat) (b : Byte) : (s.setMemByte a b).lpDepth = s.lpDepth := rfl
@[simp] theorem State.setMemByte_stalled (s : State) (a : Nat) (b : Byte) : (s.setMemByte a b).stalled = s.stalled := rfl
@[simp] theorem State.setMemByte_storeCorrected (s : State) (a : Nat) (b : Byte) : (s.setMemByte a b).storeCorrected = s.storeCorrected := rfl
@[simp] theorem State.setMemByte_memErr (s : State) (a : Nat) (b : Byte) : (s.setMemByte a b).memErr = s.memErr := rfl
@[simp] theorem State.setMemByte_cache (s : State) (a : Nat) (b : Byte) : (s.setMemByte a b).cache = s.cache := rfl
@[simp] theorem State.setMemByte_plru (s : State) (a : Nat) (b : Byte) : (s.setMemByte a b).plru = s.plru := rfl
@[simp] theorem State.setMemByte_cacheBusy (s : State) (a : Nat) (b : Byte) : (s.setMemByte a b).cacheBusy = s.cacheBusy := rfl
@[simp] theorem State.setMemByte_arrayErr (s : State) (a : Nat) (b : Byte) : (s.setMemByte a b).arrayErr = s.arrayErr := rfl
@[simp] theorem State.setMemByte_l1d (s : State) (a : Nat) (b : Byte) : (s.setMemByte a b).l1d = s.l1d := rfl
@[simp] theorem State.setMemByte_l1Err (s : State) (a : Nat) (b : Byte) : (s.setMemByte a b).l1Err = s.l1Err := rfl
@[simp] theorem State.setMemByte_scrubSeen (s : State) (a : Nat) (b : Byte) : (s.setMemByte a b).scrubSeen = s.scrubSeen := rfl
@[simp] theorem State.setMemByte_linked (s : State) (a : Nat) (b : Byte) : (s.setMemByte a b).linked = s.linked := rfl
@[simp] theorem State.setMemByte_vital (s : State) (a : Nat) (b : Byte) : (s.setMemByte a b).vital = s.vital := rfl
@[simp] theorem State.setMemByte_sysrefOk (s : State) (a : Nat) (b : Byte) : (s.setMemByte a b).sysrefOk = s.sysrefOk := rfl
@[simp] theorem State.setMemByte_brefOk (s : State) (a : Nat) (b : Byte) : (s.setMemByte a b).brefOk = s.brefOk := rfl
@[simp] theorem State.setMemByte_hrefOk (s : State) (a : Nat) (b : Byte) : (s.setMemByte a b).hrefOk = s.hrefOk := rfl
@[simp] theorem State.setMemByte_now (s : State) (a : Nat) (b : Byte) : (s.setMemByte a b).now = s.now := rfl
@[simp] theorem State.setMemByte_wall (s : State) (a : Nat) (b : Byte) : (s.setMemByte a b).wall = s.wall := rfl
@[simp] theorem State.setMemByte_ang (s : State) (a : Nat) (b : Byte) : (s.setMemByte a b).ang = s.ang := rfl
@[simp] theorem State.setMemByte_beam (s : State) (a : Nat) (b : Byte) : (s.setMemByte a b).beam = s.beam := rfl
@[simp] theorem State.setMemByte_slices (s : State) (a : Nat) (b : Byte) : (s.setMemByte a b).slices = s.slices := rfl
@[simp] theorem State.setMemByte_scheds (s : State) (a : Nat) (b : Byte) : (s.setMemByte a b).scheds = s.scheds := rfl
@[simp] theorem State.setMemByte_bt (s : State) (a : Nat) (b : Byte) : (s.setMemByte a b).bt = s.bt := rfl
@[simp] theorem State.setMemByte_btClock (s : State) (a : Nat) (b : Byte) : (s.setMemByte a b).btClock = s.btClock := rfl
@[simp] theorem State.setMemByte_btErr (s : State) (a : Nat) (b : Byte) : (s.setMemByte a b).btErr = s.btErr := rfl
@[simp] theorem State.setMemByte_facets (s : State) (a : Nat) (b : Byte) : (s.setMemByte a b).facets = s.facets := rfl
@[simp] theorem State.setMemByte_servos (s : State) (a : Nat) (b : Byte) : (s.setMemByte a b).servos = s.servos := rfl
@[simp] theorem State.setMemByte_spins (s : State) (a : Nat) (b : Byte) : (s.setMemByte a b).spins = s.spins := rfl
@[simp] theorem State.setMemByte_bus (s : State) (a : Nat) (b : Byte) : (s.setMemByte a b).bus = s.bus := rfl
@[simp] theorem State.setMemByte_life (s : State) (a : Nat) (b : Byte) : (s.setMemByte a b).life = s.life := rfl
@[simp] theorem State.setMemByte_hdas (s : State) (a : Nat) (b : Byte) : (s.setMemByte a b).hdas = s.hdas := rfl
@[simp] theorem State.setMemByte_cals (s : State) (a : Nat) (b : Byte) : (s.setMemByte a b).cals = s.cals := rfl
@[simp] theorem State.setMemByte_ref (s : State) (a : Nat) (b : Byte) : (s.setMemByte a b).ref = s.ref := rfl
@[simp] theorem State.setMemByte_energy (s : State) (a : Nat) (b : Byte) : (s.setMemByte a b).energy = s.energy := rfl
@[simp] theorem State.setMemByte_va (s : State) (a : Nat) (b : Byte) : (s.setMemByte a b).va = s.va := rfl
@[simp] theorem State.setMemByte_jseqHeld (s : State) (a : Nat) (b : Byte) : (s.setMemByte a b).jseqHeld = s.jseqHeld := rfl
@[simp] theorem State.setMemByte_prisms (s : State) (a : Nat) (b : Byte) : (s.setMemByte a b).prisms = s.prisms := rfl
@[simp] theorem State.setMemByte_red (s : State) (a : Nat) (b : Byte) : (s.setMemByte a b).red = s.red := rfl
@[simp] theorem State.setMemByte_host (s : State) (a : Nat) (b : Byte) : (s.setMemByte a b).host = s.host := rfl
@[simp] theorem State.setMemByte_sec (s : State) (a : Nat) (b : Byte) : (s.setMemByte a b).sec = s.sec := rfl
@[simp] theorem State.setMemByte_cfg (s : State) (a : Nat) (b : Byte) : (s.setMemByte a b).cfg = s.cfg := rfl
@[simp] theorem State.setMemByte_hie (s : State) (a : Nat) (b : Byte) : (s.setMemByte a b).hie = s.hie := rfl
@[simp] theorem State.setMemByte_dma (s : State) (a : Nat) (b : Byte) : (s.setMemByte a b).dma = s.dma := rfl
@[simp] theorem State.setMemByte_evr (s : State) (a : Nat) (b : Byte) : (s.setMemByte a b).evr = s.evr := rfl
@[simp] theorem State.setMemByte_cores (s : State) (a : Nat) (b : Byte) : (s.setMemByte a b).cores = s.cores := rfl
@[simp] theorem State.setMemByte_pwr (s : State) (a : Nat) (b : Byte) : (s.setMemByte a b).pwr = s.pwr := rfl
@[simp] theorem State.setMemByte_free (s : State) (a : Nat) (b : Byte) : (s.setMemByte a b).free = s.free := rfl
@[simp] theorem State.setMemByte_out (s : State) (a : Nat) (b : Byte) : (s.setMemByte a b).out = s.out := rfl
@[simp] theorem State.setMemByte_reg (s : State) (a : Nat) (b : Byte) (q : Reg) : (s.setMemByte a b).reg q = s.reg q := rfl
@[simp] theorem State.setMemByte_rd (s : State) (a : Nat) (b : Byte) (q : Fld) : (s.setMemByte a b).rd q = s.rd q := rfl
@[simp] theorem State.setMemByte_on (s : State) (a : Nat) (b : Byte) (q : Fld) : (s.setMemByte a b).on q = s.on q := rfl

end Sys2Proof.Machine
end

