-- ==== Sys2Proof/Laws/Lightpipes.lean ====
section
/-! SUPPORT. Sys2Proof/Laws/Lightpipes.lean: what a push, a pop, a returned credit and an event can do (R18 to R29, R548):
nothing outside the lightpipes, the waiting pushes and, for an event, the counter of free values. -/
namespace Sys2Proof.Machine
open Sys2Proof

/-- Appending touches the lightpipes only. -/
theorem State.lpAppend_frame (s : State) (n : Nat) (e : Entry) : s.lpAppend n e = { s with lps := (s.lpAppend n e).lps } := rfl

/-- A push of a hardware producer is appended with a credit taken, or waits; nothing is dropped (R25). -/
theorem State.hwPush_cases (s : State) (n : Nat) (e : Entry) :
    (0 < (s.lp n).free ∧ s.hwPush n e = s.setLp n { s.lp n with entries := (s.lp n).entries ++ [e], free := (s.lp n).free - 1 })
      ∨ s.hwPush n e = { s with stalled := s.stalled ++ [(n, e)] } := by
  unfold State.hwPush
  split
  next h => exact .inl ⟨h.1, rfl⟩
  next => exact .inr rfl

/-- A push touches the lightpipes and the waiting pushes only. -/
theorem State.hwPush_frame (s : State) (n : Nat) (e : Entry) :
    s.hwPush n e = { s with lps := (s.hwPush n e).lps, stalled := (s.hwPush n e).stalled } := by
  rcases s.hwPush_cases n e with ⟨-, h⟩ | h <;> rw [h] <;> rfl

/-- With credit and no push waiting for the lightpipe, a push is appended. -/
theorem State.hwPush_of_credit {s : State} {n : Nat} (e : Entry) (h : 0 < (s.lp n).free) (hs : ∀ p ∈ s.stalled, p.1 ≠ n) :
    s.hwPush n e = s.lpAppend n e := by
  have hn : ¬ (s.stalled.any (fun p => p.1 == n)) = true := by
    rw [List.any_eq_true]
    exact fun ⟨p, hp, he⟩ => hs p hp (by simpa using he)
  unfold State.hwPush
  rw [if_pos ⟨h, hn⟩]

/-- Granting credits to waiting pushes touches the lightpipes and the waiting pushes only. -/
theorem State.grantStalled_frame (s : State) (n fuel : Nat) :
    s.grantStalled n fuel = { s with lps := (s.grantStalled n fuel).lps, stalled := (s.grantStalled n fuel).stalled } := by
  induction fuel generalizing s with
  | zero => rfl
  | succ k ih =>
    unfold State.grantStalled
    repeat' split
    · rfl
    · rfl
    · rw [ih]; rfl

/-- A returned credit touches the lightpipes and the waiting pushes only. -/
theorem State.creditBack_frame (s : State) (n : Nat) :
    s.creditBack n = { s with lps := (s.creditBack n).lps, stalled := (s.creditBack n).stalled } := by
  unfold State.creditBack
  dsimp only
  split
  · rw [State.grantStalled_frame]; rfl
  · rfl

/-- An event draws its arguments as a free value and pushes one entry to its channel; nothing else changes (R546 to R548). -/
theorem State.event_frame (s : State) (ch : Nat) (k : EvKind) (cls idx : Nat) :
    s.event ch k cls idx
      = { s with free := s.free + 1, lps := (s.event ch k cls idx).lps, stalled := (s.event ch k cls idx).stalled } := by
  unfold State.event
  rw [State.hwPush_frame]

/-- An event leaves every register. -/
@[simp] theorem State.event_reg (s : State) (ch : Nat) (k : EvKind) (cls idx : Nat) (r : Reg) :
    (s.event ch k cls idx).reg r = s.reg r := by rw [State.event_frame]; rfl
@[simp] theorem State.event_rd (s : State) (ch : Nat) (k : EvKind) (cls idx : Nat) (f : Fld) :
    (s.event ch k cls idx).rd f = s.rd f := by rw [State.event_frame]; rfl
@[simp] theorem State.event_core (s : State) (ch : Nat) (k : EvKind) (cls idx c : Nat) :
    (s.event ch k cls idx).core c = s.core c := by rw [State.event_frame]; rfl

/-- A pop of a hardware consumer answers the oldest entry, whatever else it does, and exactly where there is one (R24, R26). -/
theorem State.hwPop_none_iff (s : State) (n : Nat) : s.hwPop n = none ↔ (s.lp n).entries = [] := by
  unfold State.hwPop
  split <;> simp_all

/-- The entry answered is the oldest, with what the store's check words corrected (R20). -/
theorem State.hwPop_entry {s t : State} {n : Nat} {e : Entry} (h : s.hwPop n = some (e, t)) :
    ∃ d r, (s.lp n).entries = d :: r ∧ e = { d with ce := 0 } := by
  unfold State.hwPop at h
  split at h
  next => cases h
  next d r hd =>
    simp only [Option.some.injEq, Prod.mk.injEq] at h
    exact ⟨d, r, hd, h.1.symm⟩

/-- What the check words of a popped entry show is counted, and a poisoned one raises an event; nothing else changes (R20). -/
theorem State.storeFound_frame (s : State) (n : Nat) (e : Entry) :
    s.storeFound n e = { s with storeCorrected := (s.storeFound n e).storeCorrected, lps := (s.storeFound n e).lps,
                                stalled := (s.storeFound n e).stalled, free := (s.storeFound n e).free } := by
  unfold State.storeFound
  dsimp only
  split
  · rw [State.event_frame]
  · rfl

/-- A pop touches the lightpipes, the waiting pushes, the count of corrected words and the counter of free values only. -/
theorem State.hwPop_frame {s t : State} {n : Nat} {e : Entry} (h : s.hwPop n = some (e, t)) :
    t = { s with lps := t.lps, stalled := t.stalled, storeCorrected := t.storeCorrected, free := t.free } := by
  unfold State.hwPop at h
  split at h
  next => cases h
  next d r hd =>
    simp only [Option.some.injEq, Prod.mk.injEq] at h
    rw [← h.2, State.storeFound_frame]
    split
    · rfl
    · rw [State.creditBack_frame]; rfl

end Sys2Proof.Machine
end

