-- ==== Sys2Proof/Laws/Memory.lean ====
section
/-! SUPPORT. Sys2Proof/Laws/Memory.lean: memory keeps its canonical form under every operation on it, and what a byte of
memory reads after one is written. -/
namespace Sys2Proof.Machine
open Sys2Proof

/-! ### The canonical form -/

theorem smWf_weaken {α : Type} [DecidableEq α] {d : α} {m : SMap α} {lo lo' : Option Nat}
    (h : smWf d lo m = true) (hl : ∀ l, lo' = some l → ∃ k, lo = some k ∧ l ≤ k) : smWf d lo' m = true := by
  cases m with
  | nil => rfl
  | cons p r =>
    obtain ⟨k, v⟩ := p
    simp only [smWf, Bool.and_eq_true] at h ⊢
    refine ⟨⟨?_, h.1.2⟩, h.2⟩
    cases lo' with
    | none => rfl
    | some l =>
      obtain ⟨k', hk, hle⟩ := hl l rfl
      subst hk
      have := of_decide_eq_true h.1.1
      exact decide_eq_true (Nat.lt_of_le_of_lt hle this)

theorem smWf_smErase {α : Type} [DecidableEq α] {d : α} {m : SMap α} {lo : Option Nat} (k : Nat)
    (h : smWf d lo m = true) : smWf d lo (smErase m k) = true := by
  induction m generalizing lo with
  | nil => rfl
  | cons p r ih =>
    obtain ⟨k', v⟩ := p
    simp only [smWf, Bool.and_eq_true] at h
    unfold smErase
    split
    · refine ih (smWf_weaken h.2 fun l hl => ?_)
      subst hl
      exact ⟨k', rfl, Nat.le_of_lt (of_decide_eq_true h.1.1)⟩
    · simp only [smWf, Bool.and_eq_true]
      exact ⟨h.1, ih h.2⟩

theorem smWf_cons {α : Type} [DecidableEq α] {d v : α} {m : SMap α} {lo : Option Nat} {k : Nat}
    (hk : ∀ l, lo = some l → l < k) (hv : v ≠ d) (h : smWf d (some k) m = true) : smWf d lo ((k, v) :: m) = true := by
  simp only [smWf, Bool.and_eq_true]
  refine ⟨⟨?_, decide_eq_true hv⟩, h⟩
  cases lo with
  | none => rfl
  | some l => exact decide_eq_true (hk l rfl)

theorem smWf_uncons {α : Type} [DecidableEq α] {d v : α} {m : SMap α} {lo : Option Nat} {k : Nat}
    (h : smWf d lo ((k, v) :: m) = true) : (∀ l, lo = some l → l < k) ∧ v ≠ d ∧ smWf d (some k) m = true := by
  simp only [smWf, Bool.and_eq_true] at h
  refine ⟨fun l hl => ?_, of_decide_eq_true h.1.2, h.2⟩
  subst hl
  exact of_decide_eq_true h.1.1

theorem smWf_smPut {α : Type} [DecidableEq α] {d v : α} {m : SMap α} {lo : Option Nat} {k : Nat}
    (h : smWf d lo m = true) (hk : ∀ l, lo = some l → l < k) (hv : v ≠ d) : smWf d lo (smPut m k v) = true := by
  induction m generalizing lo with
  | nil => exact smWf_cons hk hv rfl
  | cons p r ih =>
    obtain ⟨k', v'⟩ := p
    obtain ⟨h1, h2, h3⟩ := smWf_uncons h
    unfold smPut
    split
    next hlt => exact smWf_cons hk hv (smWf_cons (fun l hl => by cases hl; exact hlt) h2 h3)
    next hge =>
      split
      next heq => subst heq; exact smWf_cons hk hv h3
      next hne => exact smWf_cons h1 h2 (ih h3 fun l hl => by cases hl; omega)

theorem smWf_smSet {α : Type} [DecidableEq α] {d : α} {m : SMap α} (k : Nat) (v : α)
    (h : smWf d none m = true) : smWf d none (smSet d m k v) = true := by
  unfold smSet
  split
  next => exact smWf_smErase k h
  next hv => exact smWf_smPut h (fun _ hl => nomatch hl) hv

theorem smWf_filter {α : Type} [DecidableEq α] {d : α} {m : SMap α} {lo : Option Nat} (p : Nat × α → Bool)
    (h : smWf d lo m = true) : smWf d lo (m.filter p) = true := by
  induction m generalizing lo with
  | nil => rfl
  | cons q r ih =>
    obtain ⟨k, v⟩ := q
    simp only [smWf, Bool.and_eq_true] at h
    rw [List.filter_cons]
    split
    · simp only [smWf, Bool.and_eq_true]
      exact ⟨h.1, ih h.2⟩
    · refine ih (smWf_weaken h.2 fun l hl => ?_)
      subst hl
      exact ⟨k, rfl, Nat.le_of_lt (of_decide_eq_true h.1.1)⟩

/-- Writing a byte keeps the form. -/
theorem Memory.wf_smSet {m : List Host.Cell} (k : Nat) (v : Byte) (h : Memory.wf m = true) :
    Memory.wf (smSet 0 m k v) = true := smWf_smSet k v h

/-- Clearing a range keeps the form. -/
theorem Memory.wf_filter {m : List Host.Cell} (p : Nat × Byte → Bool) (h : Memory.wf m = true) :
    Memory.wf (m.filter p) = true := smWf_filter p h

/-- Memory after reset is in canonical form. -/
theorem Memory.wf_reset : Memory.wf State.reset.mem = true := rfl

/-! ### Bytes of memory -/

theorem State.memByte_setMemByte (s : State) (a b : Nat) (v : Byte) :
    (s.setMemByte a v).memByte b = if b = a then v else s.memByte b := smGet_smSet 0 s.mem a b v

theorem State.memByte_setMemBytes (s : State) (a b : Nat) (bs : List Byte) :
    (s.setMemBytes a bs).memByte b = if h : a ≤ b ∧ b < a + bs.length then bs[b - a]'(by omega) else s.memByte b := by
  induction bs generalizing s a with
  | nil =>
    have : ¬ (a ≤ b ∧ b < a + ([] : List Byte).length) := by simp
    rw [dif_neg this]; rfl
  | cons v r ih =>
    show ((s.setMemByte a v).setMemBytes (a + 1) r).memByte b = _
    rw [ih, State.memByte_setMemByte]
    by_cases h1 : a + 1 ≤ b ∧ b < a + 1 + r.length
    · have h2 : a ≤ b ∧ b < a + (v :: r).length := by simp; omega
      rw [dif_pos h1, dif_pos h2, List.getElem_cons, dif_neg (by omega)]
      congr 1
    · rw [dif_neg h1]
      by_cases h3 : b = a
      · subst h3
        have h2 : b ≤ b ∧ b < b + (v :: r).length := by simp
        rw [if_pos rfl, dif_pos h2]
        simp
      · have h2 : ¬ (a ≤ b ∧ b < a + (v :: r).length) := by simp; omega
        rw [if_neg h3, dif_neg h2]

/-! ### Operations that leave memory -/

@[simp] theorem State.bump_mem (s : State) (f : Fld) (n : Nat) : (s.bump f n).mem = s.mem := by
  unfold State.bump; rfl
@[simp] theorem State.bumpWrap_mem (s : State) (f : Fld) (n : Nat) : (s.bumpWrap f n).mem = s.mem := by
  unfold State.bumpWrap; rfl
@[simp] theorem State.memErrAddr_mem (s : State) (g src : Nat) (ue : Bool) : (s.memErrAddr g src ue).mem = s.mem := rfl
@[simp] theorem State.setLine_mem (s : State) (k : Nat) (l : CacheLine) : (s.setLine k l).mem = s.mem := rfl
@[simp] theorem State.dropL1_mem (s : State) (a : Nat) : (s.dropL1 a).mem = s.mem := rfl
@[simp] theorem State.dropLine_mem (s : State) (k : Nat) : (s.dropLine k).mem = s.mem := by
  unfold State.dropLine; cases s.lineAt k <;> rfl
@[simp] theorem State.touch_mem (s : State) (set w : Nat) : (s.touch set w).mem = s.mem := rfl
@[simp] theorem State.breakLinks_mem (s : State) (a : Nat) : (s.breakLinks a).mem = s.mem := rfl
@[simp] theorem State.lpAppend_mem (s : State) (n : Nat) (e : Entry) : (s.lpAppend n e).mem = s.mem := by
  unfold State.lpAppend; repeat' first | rfl | split
@[simp] theorem State.hwPush_mem (s : State) (n : Nat) (e : Entry) : (s.hwPush n e).mem = s.mem := by
  unfold State.hwPush; repeat' first | rfl | (simp; done) | split
@[simp] theorem State.event_mem (s : State) (ch : Nat) (k : EvKind) (cls idx : Nat) : (s.event ch k cls idx).mem = s.mem := by
  unfold State.event; simp
@[simp] theorem State.setArrErr_mem (s : State) (k : Nat) (e : ArrayErr) : (s.setArrErr k e).mem = s.mem := rfl
@[simp] theorem State.noteArray_mem (s : State) (k : Nat) (tag ue : Bool) : (s.noteArray k tag ue).mem = s.mem := rfl
@[simp] theorem State.tagError_mem (s : State) (k : Nat) : (s.tagError k).mem = s.mem := by
  unfold State.tagError; split
  · simp
  · dsimp only; split <;> simp
@[simp] theorem State.dataErrors_mem (s : State) (k : Nat) (w : BitVec 8) : (s.dataErrors k w).mem = s.mem := by
  unfold State.dataErrors; split
  · rfl
  · dsimp only; repeat' split
    all_goals simp
@[simp] theorem State.settleLine_mem (s : State) (k : Nat) : (s.settleLine k).mem = s.mem := by
  unfold State.settleLine; repeat' split
  all_goals simp
@[simp] theorem State.freshWords_mem (s : State) (k : Nat) (w : BitVec 8) : (s.freshWords k w).mem = s.mem := by
  unfold State.freshWords; split <;> simp
@[simp] theorem State.settle_mem (s : State) (a : Nat) (w : BitVec 8) : (s.settle a w).mem = s.mem := by
  have e : ∀ (l : List Nat) (s : State), (l.foldl (fun s w =>
      if (s.arrErr (cacheSet a * 16 + w)).tag then s.tagError (cacheSet a * 16 + w) else s) s).mem = s.mem := by
    intro l
    induction l with
    | nil => intro s; rfl
    | cons x r ih =>
      intro s
      rw [List.foldl_cons, ih]
      split <;> simp
  unfold State.settle; dsimp only; repeat' split
  all_goals simp [e]
/-- A cache whose arrays show no error is settled as it is. -/
theorem State.settle_of_nil {s : State} (a : Nat) (w : BitVec 8) (h : s.arrayErr = []) : s.settle a w = s := by
  unfold State.settle; rw [h]; rfl
@[simp] theorem State.countLookup_mem (s : State) (hit first : Bool) (a : Nat) : (s.countLookup hit first a).mem = s.mem := by
  unfold State.countLookup; repeat' first | rfl | (simp; done) | split
@[simp] theorem State.memCorrected_mem (s : State) (g src : Nat) : (s.memCorrected g src).mem = s.mem := by
  unfold State.memCorrected; dsimp only; split <;> simp
@[simp] theorem State.memUncorrectable_mem (s : State) (g src : Nat) : (s.memUncorrectable g src).mem = s.mem := by
  unfold State.memUncorrectable; dsimp only; split <;> simp
@[simp] theorem State.memProbe_mem (s : State) (g src : Nat) : (s.memProbe g src).2.mem = s.mem := by
  unfold State.memProbe; split <;> simp
@[simp] theorem State.memReadPiece_mem (s : State) (a n src : Nat) : (s.memReadPiece a n src).2.mem = s.mem := by
  unfold State.memReadPiece
  split <;> (next h => rw [← State.memProbe_mem s (granBase a) src, h])

/-! ### Operations that write memory keep its form -/

theorem State.setMemByte_wf {s : State} (a : Nat) (v : Byte) (h : Memory.wf s.mem = true) :
    Memory.wf (s.setMemByte a v).mem = true := Memory.wf_smSet a v h

theorem State.setMemBytes_wf {s : State} (a : Nat) (bs : List Byte) (h : Memory.wf s.mem = true) :
    Memory.wf (s.setMemBytes a bs).mem = true := by
  induction bs generalizing s a with
  | nil => exact h
  | cons v r ih => exact ih (a + 1) (State.setMemByte_wf a v h)

theorem forUpTo_wf {n : Nat} {f : Nat → State → State} {s : State} (hf : ∀ i t, Memory.wf t.mem = true → Memory.wf (f i t).mem = true)
    (h : Memory.wf s.mem = true) : Memory.wf (forUpTo n f s).mem = true := by
  unfold forUpTo
  generalize List.range n = l
  induction l generalizing s with
  | nil => exact h
  | cons x r ih => exact ih (hf _ _ h)

theorem State.memWritePiece_wf {s : State} (a : Nat) (bs : List Byte) (h : Memory.wf s.mem = true) :
    Memory.wf (s.memWritePiece a bs).2.mem = true := by
  unfold State.memWritePiece
  dsimp only
  repeat' split
  · exact State.setMemBytes_wf a bs h
  · exact State.setMemBytes_wf a bs h
  · exact State.setMemBytes_wf a bs (by simpa using h)
  · simpa using h

theorem State.writeBackGran_wf {s : State} (base : Nat) (l : CacheLine) (i : Nat) (h : Memory.wf s.mem = true) :
    Memory.wf (s.writeBackGran base l i).mem = true := by
  unfold State.writeBackGran
  dsimp only
  split <;> exact State.setMemBytes_wf _ _ h

theorem State.writeBack_wf {s : State} (key : Nat) (h : Memory.wf s.mem = true) : Memory.wf (s.writeBack key).mem = true := by
  unfold State.writeBack
  repeat' split
  · exact h
  · rw [State.setLine_mem]
    exact forUpTo_wf (fun i t ht => State.writeBackGran_wf _ _ i ht) h
  · exact h

theorem State.cleanLine_wf {s : State} (key : Nat) (h : Memory.wf s.mem = true) : Memory.wf (s.cleanLine key).mem = true :=
  State.writeBack_wf key (by simpa using h)

theorem State.evictLine_wf {s : State} (key : Nat) (h : Memory.wf s.mem = true) : Memory.wf (s.evictLine key).mem = true :=
  (State.dropLine_mem _ key).symm ▸ State.cleanLine_wf key h

@[simp] theorem State.fillGrans_mem (s : State) (base n : Nat) : (s.fillGrans base n).2.mem = s.mem := by
  induction n with
  | zero => rfl
  | succ n ih =>
    unfold State.fillGrans
    dsimp only
    split <;>
      (next h =>
        have e := State.memReadPiece_mem (s.fillGrans base n).2 (base + n * granSize base) (granSize base) 3
        rw [h] at e
        exact e.trans ih)

theorem State.fillInto_wf {s : State} (a w : Nat) (h : Memory.wf s.mem = true) : Memory.wf (s.fillInto a w).mem = true := by
  unfold State.fillInto
  simpa using State.evictLine_wf _ h

theorem State.cacheFill_wf {s : State} (a : Nat) (h : Memory.wf s.mem = true) : Memory.wf (s.cacheFill a).mem = true := by
  unfold State.cacheFill
  split
  · exact State.fillInto_wf _ _ h
  · exact h

theorem State.afterMiss_wf {s : State} (alloc : Bool) (hit first : Bool) (a : Nat) (h : Memory.wf s.mem = true) :
    Memory.wf (if alloc = true then (s.countLookup hit first a).cacheFill a else s.countLookup hit first a).mem = true := by
  split
  · exact State.cacheFill_wf _ (by simpa using h)
  · simpa using h

theorem State.cachedRead_wf {s : State} (alloc first : Bool) (a n : Nat) (h : Memory.wf s.mem = true) :
    Memory.wf (s.cachedRead alloc first a n).2.mem = true := by
  have hf := State.afterMiss_wf alloc false first a h
  have hc : Memory.wf (s.countLookup true first a).mem = true := by simpa using h
  revert hf hc
  unfold State.cachedRead
  dsimp only
  generalize (if alloc = true then (s.countLookup false first a).cacheFill a else s.countLookup false first a) = u
  generalize s.countLookup true first a = v
  intro hf hc
  repeat' split
  all_goals first | exact h | exact hf | exact hc | (simpa using h) | (simpa using hf) | (simpa using hc)

theorem State.readPiece_wf {s : State} (alloc first : Bool) (a n : Nat) (h : Memory.wf s.mem = true) :
    Memory.wf (s.readPiece alloc first a n).2.mem = true := by
  unfold State.readPiece
  repeat' split
  · exact h
  · simpa using h
  · exact State.cachedRead_wf _ _ _ _ (by simpa using h)

theorem State.writeLine_wf {s : State} (w a : Nat) (bs : List Byte) (h : Memory.wf s.mem = true) :
    Memory.wf (s.writeLine w a bs).2.mem = true := by
  unfold State.writeLine
  dsimp only
  repeat' split
  all_goals first | exact h | exact State.memWritePiece_wf _ _ (by simpa using h) | (simpa using h)

theorem State.cachedWrite_wf {s : State} (alloc first : Bool) (a : Nat) (bs : List Byte) (h : Memory.wf s.mem = true) :
    Memory.wf (s.cachedWrite alloc first a bs).2.mem = true := by
  have hf := State.afterMiss_wf alloc false first a h
  have hc : Memory.wf (s.countLookup true first a).mem = true := by simpa using h
  revert hf hc
  unfold State.cachedWrite
  dsimp only
  generalize (if alloc = true then (s.countLookup false first a).cacheFill a else s.countLookup false first a) = u
  generalize s.countLookup true first a = v
  intro hf hc
  repeat' split
  all_goals first
    | exact h
    | exact State.memWritePiece_wf _ _ h
    | exact State.memWritePiece_wf _ _ hf
    | exact State.memWritePiece_wf _ _ hc
    | exact State.writeLine_wf _ _ _ hf
    | exact State.writeLine_wf _ _ _ hc

theorem State.writePiece_wf {s : State} (alloc first : Bool) (a : Nat) (bs : List Byte) (h : Memory.wf s.mem = true) :
    Memory.wf (s.writePiece alloc first a bs).2.mem = true := by
  unfold State.writePiece
  repeat' split
  · exact h
  · exact State.memWritePiece_wf _ _ h
  · exact State.cachedWrite_wf _ _ _ _ (by simpa using h)

theorem State.readPieces_wf {s : State} (alloc first : Bool) (l : List (Nat × Nat)) (h : Memory.wf s.mem = true) :
    Memory.wf (s.readPieces alloc first l).2.mem = true := by
  induction l generalizing s first with
  | nil => exact h
  | cons p r ih =>
    obtain ⟨a, n⟩ := p
    have h1 := State.readPiece_wf alloc first a n h
    unfold State.readPieces
    split
    next s1 e => rw [e] at h1; exact h1
    next s1 e =>
      rw [e] at h1
      have h2 := ih (s := s1) false h1
      split <;> (next e2 => rw [e2] at h2; exact h2)

theorem State.writePieces_wf {s : State} (alloc first : Bool) (l : List (Nat × Nat)) (bs : List Byte) (h : Memory.wf s.mem = true) :
    Memory.wf (s.writePieces alloc first l bs).2.mem = true := by
  induction l generalizing s first bs with
  | nil => exact h
  | cons p r ih =>
    obtain ⟨a, n⟩ := p
    have h1 := State.writePiece_wf alloc first a (bs.take n) h
    unfold State.writePieces
    split
    next s1 e => rw [e] at h1; exact ih false (bs.drop n) (s := s1.breakLinks a) h1
    next s1 e =>
      rw [e] at h1
      have h2 := ih false (bs.drop n) (s := s1) h1
      split <;> (next e2 => rw [e2] at h2; exact h2)

/-- Reading memory through the cache keeps memory's form: a miss may write a dirty line back (R478). -/
theorem State.busRead_wf {s : State} (alloc : Bool) (a n : Nat) (h : Memory.wf s.mem = true) :
    Memory.wf (s.busRead alloc a n).2.mem = true := State.readPieces_wf _ _ _ h

/-- Writing memory through the cache keeps memory's form. -/
theorem State.busWrite_wf {s : State} (alloc : Bool) (a : Nat) (bs : List Byte) (h : Memory.wf s.mem = true) :
    Memory.wf (s.busWrite alloc a bs).2.mem = true := State.writePieces_wf _ _ _ _ h

/-- An agent's read keeps memory's form. -/
theorem State.fetchBytes_wf {s : State} (a n : Nat) (h : Memory.wf s.mem = true) : Memory.wf (s.fetchBytes a n).2.mem = true := by
  have h1 := State.busRead_wf false a n h
  unfold State.fetchBytes
  split <;> (next e => rw [e] at h1; exact h1)

@[simp] theorem State.l1Room_mem (s : State) (c : Nat) : (s.l1Room c).mem = s.mem := by
  unfold State.l1Room; dsimp only; split <;> rfl
@[simp] theorem State.l1Fill_mem (s : State) (c a : Nat) : (s.l1Fill c a).mem = s.mem := by
  unfold State.l1Fill; repeat' split
  all_goals simp
@[simp] theorem State.l1Parity_mem (s : State) (c : Nat) (i : Bool) (line : Nat) (drop : State → State)
    (h : ∀ t, (drop t).mem = t.mem) : (s.l1Parity c i line drop).mem = s.mem := by
  unfold State.l1Parity; split <;> simp [h]

/-- A core's load keeps memory's form: a miss of its level-1 cache reads through the Lens cache. -/
theorem State.l1Load_wf {s : State} (c a n : Nat) (h : Memory.wf s.mem = true) : Memory.wf (s.l1Load c a n).2.mem = true := by
  unfold State.l1Load
  dsimp only
  generalize hu : State.l1Parity _ _ _ _ _ = u
  have hm : u.mem = s.mem := hu ▸ State.l1Parity_mem _ _ _ _ _ (fun _ => rfl)
  have h1 := State.busRead_wf (s := u) true a n (hm.symm ▸ h)
  split
  · exact hm.symm ▸ h
  · split <;> (next e => rw [e] at h1; simpa using h1)

end Sys2Proof.Machine
end

