-- ==== Sys2Proof/Laws/Access.lean ====
section
/-! SUPPORT. Sys2Proof/Laws/Access.lean: what an access to memory can touch (R42 to R45, R476 to R490): memory and its error state, the
caches, the registers that count and show errors, the lightpipes of events and the counter of free values; nothing else. Each lemma
`accessed_X` says that doing X next stays within that. -/
namespace Sys2Proof.Machine
open Sys2Proof

/-- `t` differs from `s` only in what an access to memory may touch. -/
def State.accessed (s t : State) : Prop :=
  t = { s with
    regs := t.regs, lps := t.lps, stalled := t.stalled, mem := t.mem, memErr := t.memErr, cache := t.cache, plru := t.plru
    arrayErr := t.arrayErr, l1d := t.l1d, l1Err := t.l1Err, linked := t.linked, free := t.free }

theorem State.accessed_refl (s : State) : s.accessed s := rfl

theorem State.accessed_trans {s t u : State} (h1 : s.accessed t) (h2 : t.accessed u) : s.accessed u := by
  unfold State.accessed at *
  rw [h2, h1]

theorem State.accessed_pending {s t : State} (h : s.accessed t) : t.pending = s.pending := by rw [h]
theorem State.accessed_cores {s t : State} (h : s.accessed t) : t.cores = s.cores := by rw [h]
theorem State.accessed_core {s t : State} (h : s.accessed t) (c : Nat) : t.core c = s.core c := by rw [h]; rfl

theorem State.accessed_wr {s t : State} (h : s.accessed t) (f : Fld) (v : Nat) : s.accessed (t.wr f v) :=
  State.accessed_trans h rfl
theorem State.accessed_put {s t : State} (h : s.accessed t) (f : Fld) (v : Bool) : s.accessed (t.put f v) :=
  State.accessed_trans h rfl
theorem State.accessed_bump {s t : State} (h : s.accessed t) (f : Fld) (n : Nat) : s.accessed (t.bump f n) :=
  State.accessed_trans h (by unfold State.bump; rfl)
theorem State.accessed_bumpWrap {s t : State} (h : s.accessed t) (f : Fld) (n : Nat) : s.accessed (t.bumpWrap f n) :=
  State.accessed_trans h (by unfold State.bumpWrap; rfl)
theorem State.accessed_hwPush {s t : State} (h : s.accessed t) (n : Nat) (e : Entry) : s.accessed (t.hwPush n e) :=
  State.accessed_trans h (by unfold State.accessed; rw [State.hwPush_frame])
theorem State.accessed_event {s t : State} (h : s.accessed t) (ch : Nat) (k : EvKind) (cls idx : Nat) : s.accessed (t.event ch k cls idx) :=
  State.accessed_trans h (by unfold State.accessed; rw [State.event_frame])
theorem State.accessed_memErrAddr {s t : State} (h : s.accessed t) (g src : Nat) (ue : Bool) : s.accessed (t.memErrAddr g src ue) :=
  State.accessed_trans h rfl
theorem State.accessed_setLine {s t : State} (h : s.accessed t) (k : Nat) (l : CacheLine) : s.accessed (t.setLine k l) :=
  State.accessed_trans h rfl
theorem State.accessed_dropL1 {s t : State} (h : s.accessed t) (a : Nat) : s.accessed (t.dropL1 a) :=
  State.accessed_trans h rfl
theorem State.accessed_dropLine {s t : State} (h : s.accessed t) (k : Nat) : s.accessed (t.dropLine k) :=
  State.accessed_trans h (by unfold State.dropLine; cases t.lineAt k <;> rfl)
theorem State.accessed_touch {s t : State} (h : s.accessed t) (set w : Nat) : s.accessed (t.touch set w) :=
  State.accessed_trans h rfl
theorem State.accessed_breakLinks {s t : State} (h : s.accessed t) (a : Nat) : s.accessed (t.breakLinks a) :=
  State.accessed_trans h rfl
theorem State.accessed_setArrErr {s t : State} (h : s.accessed t) (k : Nat) (e : ArrayErr) : s.accessed (t.setArrErr k e) :=
  State.accessed_trans h rfl
theorem State.accessed_noteArray {s t : State} (h : s.accessed t) (k : Nat) (tag ue : Bool) : s.accessed (t.noteArray k tag ue) :=
  State.accessed_trans h rfl
theorem State.accessed_draw {s t : State} (h : s.accessed t) : s.accessed (t.draw) :=
  State.accessed_trans h rfl
theorem State.accessed_setMemBytes {s t : State} (h : s.accessed t) (a : Nat) (bs : List Byte) : s.accessed (t.setMemBytes a bs) := by
  induction bs generalizing t a with
  | nil => exact h
  | cons v r ih => exact ih (State.accessed_trans (u := t.setMemByte a v) h rfl) _

/-- A chain of operations each of which stays within an access. -/
theorem State.accessed_foldl {s t : State} {α : Type} (f : State → α → State) (hf : ∀ u x, s.accessed u → s.accessed (f u x)) (l : List α)
    (h : s.accessed t) : s.accessed (l.foldl f t) := by
  induction l generalizing t with
  | nil => exact h
  | cons x r ih => exact ih (hf t x h)

theorem State.accessed_forUpTo {s t : State} (n : Nat) (f : Nat → State → State) (hf : ∀ i u, s.accessed u → s.accessed (f i u))
    (h : s.accessed t) : s.accessed (forUpTo n f t) := State.accessed_foldl _ (fun u i hu => hf i u hu) _ h

theorem State.accessed_memCorrected {s t : State} (h : s.accessed t) (g src : Nat) : s.accessed (t.memCorrected g src) := by
  have h1 : s.accessed { t with memErr := smErase t.memErr g } := State.accessed_trans h rfl
  unfold State.memCorrected
  dsimp only
  split <;> exact State.accessed_memErrAddr (State.accessed_put (State.accessed_bump h1 _ _) _ _) _ _ _
theorem State.accessed_memUncorrectable {s t : State} (h : s.accessed t) (g src : Nat) : s.accessed (t.memUncorrectable g src) := by
  unfold State.memUncorrectable
  try dsimp only
  repeat' split
  all_goals (repeat first | with_reducible exact h | with_reducible apply State.accessed_memCorrected | with_reducible apply State.accessed_setMemBytes | with_reducible apply State.accessed_draw | with_reducible apply State.accessed_noteArray | with_reducible apply State.accessed_setArrErr | with_reducible apply State.accessed_breakLinks | with_reducible apply State.accessed_touch | with_reducible apply State.accessed_dropLine | with_reducible apply State.accessed_dropL1 | with_reducible apply State.accessed_setLine | with_reducible apply State.accessed_memErrAddr | with_reducible apply State.accessed_event | with_reducible apply State.accessed_hwPush | with_reducible apply State.accessed_bumpWrap | with_reducible apply State.accessed_bump | with_reducible apply State.accessed_put | with_reducible apply State.accessed_wr)
theorem State.accessed_memProbe {s t : State} (h : s.accessed t) (g src : Nat) : s.accessed ((t.memProbe g src).2) := by
  unfold State.memProbe
  try dsimp only
  repeat' split
  all_goals (repeat first | with_reducible exact h | with_reducible apply State.accessed_memUncorrectable | with_reducible apply State.accessed_memCorrected | with_reducible apply State.accessed_setMemBytes | with_reducible apply State.accessed_draw | with_reducible apply State.accessed_noteArray | with_reducible apply State.accessed_setArrErr | with_reducible apply State.accessed_breakLinks | with_reducible apply State.accessed_touch | with_reducible apply State.accessed_dropLine | with_reducible apply State.accessed_dropL1 | with_reducible apply State.accessed_setLine | with_reducible apply State.accessed_memErrAddr | with_reducible apply State.accessed_event | with_reducible apply State.accessed_hwPush | with_reducible apply State.accessed_bumpWrap | with_reducible apply State.accessed_bump | with_reducible apply State.accessed_put | with_reducible apply State.accessed_wr)
theorem State.accessed_memReadPiece {s t : State} (h : s.accessed t) (a n src : Nat) : s.accessed (t.memReadPiece a n src).2 := by
  have h1 := State.accessed_memProbe h (granBase a) src
  unfold State.memReadPiece
  split <;> (next e => rw [e] at h1; exact h1)
theorem State.accessed_memWritePiece {s t : State} (h : s.accessed t) (a : Nat) (bs : List Byte) :
    s.accessed (t.memWritePiece a bs).2 := by
  unfold State.memWritePiece
  dsimp only
  repeat' split
  · exact State.accessed_trans (State.accessed_setMemBytes h a bs) rfl
  · exact State.accessed_setMemBytes h a bs
  · exact State.accessed_setMemBytes (State.accessed_memCorrected h _ _) a bs
  · exact State.accessed_event (State.accessed_memErrAddr (State.accessed_put (State.accessed_bump h _ _) _ _) _ _ _) _ _ _ _
theorem State.accessed_tagError {s t : State} (h : s.accessed t) (k : Nat) : s.accessed (t.tagError k) := by
  unfold State.tagError
  try dsimp only
  repeat' split
  all_goals (repeat first | with_reducible exact h | with_reducible apply State.accessed_memWritePiece | with_reducible apply State.accessed_memReadPiece | with_reducible apply State.accessed_memProbe | with_reducible apply State.accessed_memUncorrectable | with_reducible apply State.accessed_memCorrected | with_reducible apply State.accessed_setMemBytes | with_reducible apply State.accessed_draw | with_reducible apply State.accessed_noteArray | with_reducible apply State.accessed_setArrErr | with_reducible apply State.accessed_breakLinks | with_reducible apply State.accessed_touch | with_reducible apply State.accessed_dropLine | with_reducible apply State.accessed_dropL1 | with_reducible apply State.accessed_setLine | with_reducible apply State.accessed_memErrAddr | with_reducible apply State.accessed_event | with_reducible apply State.accessed_hwPush | with_reducible apply State.accessed_bumpWrap | with_reducible apply State.accessed_bump | with_reducible apply State.accessed_put | with_reducible apply State.accessed_wr)
theorem State.accessed_dataErrors {s t : State} (h : s.accessed t) (k : Nat) (w : BitVec 8) : s.accessed (t.dataErrors k w) := by
  unfold State.dataErrors
  try dsimp only
  repeat' split
  all_goals (repeat first | with_reducible exact h | with_reducible apply State.accessed_tagError | with_reducible apply State.accessed_memWritePiece | with_reducible apply State.accessed_memReadPiece | with_reducible apply State.accessed_memProbe | with_reducible apply State.accessed_memUncorrectable | with_reducible apply State.accessed_memCorrected | with_reducible apply State.accessed_setMemBytes | with_reducible apply State.accessed_draw | with_reducible apply State.accessed_noteArray | with_reducible apply State.accessed_setArrErr | with_reducible apply State.accessed_breakLinks | with_reducible apply State.accessed_touch | with_reducible apply State.accessed_dropLine | with_reducible apply State.accessed_dropL1 | with_reducible apply State.accessed_setLine | with_reducible apply State.accessed_memErrAddr | with_reducible apply State.accessed_event | with_reducible apply State.accessed_hwPush | with_reducible apply State.accessed_bumpWrap | with_reducible apply State.accessed_bump | with_reducible apply State.accessed_put | with_reducible apply State.accessed_wr)
theorem State.accessed_settle {s t : State} (h : s.accessed t) (a : Nat) (w : BitVec 8) : s.accessed (t.settle a w) := by
  have e : ∀ l : List Nat, s.accessed (l.foldl (fun s w =>
      if (s.arrErr (cacheSet a * 16 + w)).tag then s.tagError (cacheSet a * 16 + w) else s) t) := fun l =>
    State.accessed_foldl _ (fun u x hu => by
      show s.accessed (if _ then _ else _)
      split
      · exact State.accessed_tagError hu _
      · exact hu) l h
  unfold State.settle
  split
  · exact h
  · have h1 := e (List.range 16)
    dsimp only at h1 ⊢
    generalize List.foldl _ t (List.range 16) = u at h1 ⊢
    split
    · exact h1
    · exact State.accessed_dataErrors h1 _ _
theorem State.accessed_settleLine {s t : State} (h : s.accessed t) (k : Nat) : s.accessed (t.settleLine k) := by
  unfold State.settleLine
  try dsimp only
  repeat' split
  all_goals (repeat first | with_reducible exact h | with_reducible apply State.accessed_settle | with_reducible apply State.accessed_dataErrors | with_reducible apply State.accessed_tagError | with_reducible apply State.accessed_memWritePiece | with_reducible apply State.accessed_memReadPiece | with_reducible apply State.accessed_memProbe | with_reducible apply State.accessed_memUncorrectable | with_reducible apply State.accessed_memCorrected | with_reducible apply State.accessed_setMemBytes | with_reducible apply State.accessed_draw | with_reducible apply State.accessed_noteArray | with_reducible apply State.accessed_setArrErr | with_reducible apply State.accessed_breakLinks | with_reducible apply State.accessed_touch | with_reducible apply State.accessed_dropLine | with_reducible apply State.accessed_dropL1 | with_reducible apply State.accessed_setLine | with_reducible apply State.accessed_memErrAddr | with_reducible apply State.accessed_event | with_reducible apply State.accessed_hwPush | with_reducible apply State.accessed_bumpWrap | with_reducible apply State.accessed_bump | with_reducible apply State.accessed_put | with_reducible apply State.accessed_wr)
theorem State.accessed_freshWords {s t : State} (h : s.accessed t) (k : Nat) (w : BitVec 8) : s.accessed (t.freshWords k w) := by
  unfold State.freshWords
  try dsimp only
  repeat' split
  all_goals (repeat first | with_reducible exact h | with_reducible apply State.accessed_settleLine | with_reducible apply State.accessed_settle | with_reducible apply State.accessed_dataErrors | with_reducible apply State.accessed_tagError | with_reducible apply State.accessed_memWritePiece | with_reducible apply State.accessed_memReadPiece | with_reducible apply State.accessed_memProbe | with_reducible apply State.accessed_memUncorrectable | with_reducible apply State.accessed_memCorrected | with_reducible apply State.accessed_setMemBytes | with_reducible apply State.accessed_draw | with_reducible apply State.accessed_noteArray | with_reducible apply State.accessed_setArrErr | with_reducible apply State.accessed_breakLinks | with_reducible apply State.accessed_touch | with_reducible apply State.accessed_dropLine | with_reducible apply State.accessed_dropL1 | with_reducible apply State.accessed_setLine | with_reducible apply State.accessed_memErrAddr | with_reducible apply State.accessed_event | with_reducible apply State.accessed_hwPush | with_reducible apply State.accessed_bumpWrap | with_reducible apply State.accessed_bump | with_reducible apply State.accessed_put | with_reducible apply State.accessed_wr)
theorem State.accessed_writeBackGran {s t : State} (h : s.accessed t) (base : Nat) (l : CacheLine) (i : Nat) :
    s.accessed (t.writeBackGran base l i) := by
  unfold State.writeBackGran
  dsimp only
  split <;> exact State.accessed_trans (State.accessed_setMemBytes h _ _) rfl
theorem State.accessed_writeBack {s t : State} (h : s.accessed t) (k : Nat) : s.accessed (t.writeBack k) := by
  unfold State.writeBack
  try dsimp only
  repeat' split
  all_goals (repeat first | with_reducible exact h | exact State.accessed_forUpTo _ _ (fun i u hu => State.accessed_writeBackGran hu _ _ i) h | with_reducible apply State.accessed_writeBackGran | with_reducible apply State.accessed_freshWords | with_reducible apply State.accessed_settleLine | with_reducible apply State.accessed_settle | with_reducible apply State.accessed_dataErrors | with_reducible apply State.accessed_tagError | with_reducible apply State.accessed_memWritePiece | with_reducible apply State.accessed_memReadPiece | with_reducible apply State.accessed_memProbe | with_reducible apply State.accessed_memUncorrectable | with_reducible apply State.accessed_memCorrected | with_reducible apply State.accessed_setMemBytes | with_reducible apply State.accessed_draw | with_reducible apply State.accessed_noteArray | with_reducible apply State.accessed_setArrErr | with_reducible apply State.accessed_breakLinks | with_reducible apply State.accessed_touch | with_reducible apply State.accessed_dropLine | with_reducible apply State.accessed_dropL1 | with_reducible apply State.accessed_setLine | with_reducible apply State.accessed_memErrAddr | with_reducible apply State.accessed_event | with_reducible apply State.accessed_hwPush | with_reducible apply State.accessed_bumpWrap | with_reducible apply State.accessed_bump | with_reducible apply State.accessed_put | with_reducible apply State.accessed_wr)
theorem State.accessed_cleanLine {s t : State} (h : s.accessed t) (k : Nat) : s.accessed (t.cleanLine k) := by
  unfold State.cleanLine
  try dsimp only
  repeat' split
  all_goals (repeat first | with_reducible exact h | with_reducible apply State.accessed_writeBack | with_reducible apply State.accessed_writeBackGran | with_reducible apply State.accessed_freshWords | with_reducible apply State.accessed_settleLine | with_reducible apply State.accessed_settle | with_reducible apply State.accessed_dataErrors | with_reducible apply State.accessed_tagError | with_reducible apply State.accessed_memWritePiece | with_reducible apply State.accessed_memReadPiece | with_reducible apply State.accessed_memProbe | with_reducible apply State.accessed_memUncorrectable | with_reducible apply State.accessed_memCorrected | with_reducible apply State.accessed_setMemBytes | with_reducible apply State.accessed_draw | with_reducible apply State.accessed_noteArray | with_reducible apply State.accessed_setArrErr | with_reducible apply State.accessed_breakLinks | with_reducible apply State.accessed_touch | with_reducible apply State.accessed_dropLine | with_reducible apply State.accessed_dropL1 | with_reducible apply State.accessed_setLine | with_reducible apply State.accessed_memErrAddr | with_reducible apply State.accessed_event | with_reducible apply State.accessed_hwPush | with_reducible apply State.accessed_bumpWrap | with_reducible apply State.accessed_bump | with_reducible apply State.accessed_put | with_reducible apply State.accessed_wr)
theorem State.accessed_evictLine {s t : State} (h : s.accessed t) (k : Nat) : s.accessed (t.evictLine k) := by
  unfold State.evictLine
  try dsimp only
  repeat' split
  all_goals (repeat first | with_reducible exact h | with_reducible apply State.accessed_cleanLine | with_reducible apply State.accessed_writeBack | with_reducible apply State.accessed_writeBackGran | with_reducible apply State.accessed_freshWords | with_reducible apply State.accessed_settleLine | with_reducible apply State.accessed_settle | with_reducible apply State.accessed_dataErrors | with_reducible apply State.accessed_tagError | with_reducible apply State.accessed_memWritePiece | with_reducible apply State.accessed_memReadPiece | with_reducible apply State.accessed_memProbe | with_reducible apply State.accessed_memUncorrectable | with_reducible apply State.accessed_memCorrected | with_reducible apply State.accessed_setMemBytes | with_reducible apply State.accessed_draw | with_reducible apply State.accessed_noteArray | with_reducible apply State.accessed_setArrErr | with_reducible apply State.accessed_breakLinks | with_reducible apply State.accessed_touch | with_reducible apply State.accessed_dropLine | with_reducible apply State.accessed_dropL1 | with_reducible apply State.accessed_setLine | with_reducible apply State.accessed_memErrAddr | with_reducible apply State.accessed_event | with_reducible apply State.accessed_hwPush | with_reducible apply State.accessed_bumpWrap | with_reducible apply State.accessed_bump | with_reducible apply State.accessed_put | with_reducible apply State.accessed_wr)
theorem State.accessed_fillGrans {s t : State} (h : s.accessed t) (base n : Nat) : s.accessed (t.fillGrans base n).2 := by
  induction n with
  | zero => exact h
  | succ n ih =>
    have h1 := State.accessed_memReadPiece ih (base + n * granSize base) (granSize base) 3
    unfold State.fillGrans
    dsimp only
    split <;> (next e => rw [e] at h1; exact h1)
theorem State.accessed_fillInto {s t : State} (h : s.accessed t) (a w : Nat) : s.accessed (t.fillInto a w) := by
  unfold State.fillInto
  try dsimp only
  repeat' split
  all_goals (repeat first | with_reducible exact h | with_reducible apply State.accessed_fillGrans | with_reducible apply State.accessed_evictLine | with_reducible apply State.accessed_cleanLine | with_reducible apply State.accessed_writeBack | with_reducible apply State.accessed_writeBackGran | with_reducible apply State.accessed_freshWords | with_reducible apply State.accessed_settleLine | with_reducible apply State.accessed_settle | with_reducible apply State.accessed_dataErrors | with_reducible apply State.accessed_tagError | with_reducible apply State.accessed_memWritePiece | with_reducible apply State.accessed_memReadPiece | with_reducible apply State.accessed_memProbe | with_reducible apply State.accessed_memUncorrectable | with_reducible apply State.accessed_memCorrected | with_reducible apply State.accessed_setMemBytes | with_reducible apply State.accessed_draw | with_reducible apply State.accessed_noteArray | with_reducible apply State.accessed_setArrErr | with_reducible apply State.accessed_breakLinks | with_reducible apply State.accessed_touch | with_reducible apply State.accessed_dropLine | with_reducible apply State.accessed_dropL1 | with_reducible apply State.accessed_setLine | with_reducible apply State.accessed_memErrAddr | with_reducible apply State.accessed_event | with_reducible apply State.accessed_hwPush | with_reducible apply State.accessed_bumpWrap | with_reducible apply State.accessed_bump | with_reducible apply State.accessed_put | with_reducible apply State.accessed_wr)
theorem State.accessed_cacheFill {s t : State} (h : s.accessed t) (a : Nat) : s.accessed (t.cacheFill a) := by
  unfold State.cacheFill
  try dsimp only
  repeat' split
  all_goals (repeat first | with_reducible exact h | with_reducible apply State.accessed_fillInto | with_reducible apply State.accessed_fillGrans | with_reducible apply State.accessed_evictLine | with_reducible apply State.accessed_cleanLine | with_reducible apply State.accessed_writeBack | with_reducible apply State.accessed_writeBackGran | with_reducible apply State.accessed_freshWords | with_reducible apply State.accessed_settleLine | with_reducible apply State.accessed_settle | with_reducible apply State.accessed_dataErrors | with_reducible apply State.accessed_tagError | with_reducible apply State.accessed_memWritePiece | with_reducible apply State.accessed_memReadPiece | with_reducible apply State.accessed_memProbe | with_reducible apply State.accessed_memUncorrectable | with_reducible apply State.accessed_memCorrected | with_reducible apply State.accessed_setMemBytes | with_reducible apply State.accessed_draw | with_reducible apply State.accessed_noteArray | with_reducible apply State.accessed_setArrErr | with_reducible apply State.accessed_breakLinks | with_reducible apply State.accessed_touch | with_reducible apply State.accessed_dropLine | with_reducible apply State.accessed_dropL1 | with_reducible apply State.accessed_setLine | with_reducible apply State.accessed_memErrAddr | with_reducible apply State.accessed_event | with_reducible apply State.accessed_hwPush | with_reducible apply State.accessed_bumpWrap | with_reducible apply State.accessed_bump | with_reducible apply State.accessed_put | with_reducible apply State.accessed_wr)
theorem State.accessed_countLookup {s t : State} (h : s.accessed t) (hit first : Bool) (a : Nat) : s.accessed (t.countLookup hit first a) := by
  unfold State.countLookup
  try dsimp only
  repeat' split
  all_goals (repeat first | with_reducible exact h | with_reducible apply State.accessed_cacheFill | with_reducible apply State.accessed_fillInto | with_reducible apply State.accessed_fillGrans | with_reducible apply State.accessed_evictLine | with_reducible apply State.accessed_cleanLine | with_reducible apply State.accessed_writeBack | with_reducible apply State.accessed_writeBackGran | with_reducible apply State.accessed_freshWords | with_reducible apply State.accessed_settleLine | with_reducible apply State.accessed_settle | with_reducible apply State.accessed_dataErrors | with_reducible apply State.accessed_tagError | with_reducible apply State.accessed_memWritePiece | with_reducible apply State.accessed_memReadPiece | with_reducible apply State.accessed_memProbe | with_reducible apply State.accessed_memUncorrectable | with_reducible apply State.accessed_memCorrected | with_reducible apply State.accessed_setMemBytes | with_reducible apply State.accessed_draw | with_reducible apply State.accessed_noteArray | with_reducible apply State.accessed_setArrErr | with_reducible apply State.accessed_breakLinks | with_reducible apply State.accessed_touch | with_reducible apply State.accessed_dropLine | with_reducible apply State.accessed_dropL1 | with_reducible apply State.accessed_setLine | with_reducible apply State.accessed_memErrAddr | with_reducible apply State.accessed_event | with_reducible apply State.accessed_hwPush | with_reducible apply State.accessed_bumpWrap | with_reducible apply State.accessed_bump | with_reducible apply State.accessed_put | with_reducible apply State.accessed_wr)
theorem State.accessed_afterMiss {s t : State} (h : s.accessed t) (alloc first : Bool) (a : Nat) :
    s.accessed (if alloc = true then (t.countLookup false first a).cacheFill a else t.countLookup false first a) := by
  split
  · exact State.accessed_cacheFill (State.accessed_countLookup h _ _ _) _
  · exact State.accessed_countLookup h _ _ _
theorem State.accessed_cachedRead {s t : State} (h : s.accessed t) (alloc first : Bool) (a n : Nat) :
    s.accessed (t.cachedRead alloc first a n).2 := by
  have hf := State.accessed_afterMiss h alloc first a
  have hc := State.accessed_countLookup h true first a
  revert hf hc
  unfold State.cachedRead
  dsimp only
  generalize (if alloc = true then (t.countLookup false first a).cacheFill a else t.countLookup false first a) = u
  generalize t.countLookup true first a = v
  intro hf hc
  repeat' split
  all_goals first
    | exact hf
    | exact hc
    | exact State.accessed_touch hf _ _
    | exact State.accessed_touch hc _ _
    | exact State.accessed_memReadPiece hf _ _ _
    | exact State.accessed_memReadPiece hc _ _ _
theorem State.accessed_readPiece {s t : State} (h : s.accessed t) (alloc first : Bool) (a n : Nat) : s.accessed ((t.readPiece alloc first a n).2) := by
  unfold State.readPiece
  try dsimp only
  repeat' split
  all_goals (repeat first | with_reducible exact h | with_reducible apply State.accessed_cachedRead | with_reducible apply State.accessed_countLookup | with_reducible apply State.accessed_cacheFill | with_reducible apply State.accessed_fillInto | with_reducible apply State.accessed_fillGrans | with_reducible apply State.accessed_evictLine | with_reducible apply State.accessed_cleanLine | with_reducible apply State.accessed_writeBack | with_reducible apply State.accessed_writeBackGran | with_reducible apply State.accessed_freshWords | with_reducible apply State.accessed_settleLine | with_reducible apply State.accessed_settle | with_reducible apply State.accessed_dataErrors | with_reducible apply State.accessed_tagError | with_reducible apply State.accessed_memWritePiece | with_reducible apply State.accessed_memReadPiece | with_reducible apply State.accessed_memProbe | with_reducible apply State.accessed_memUncorrectable | with_reducible apply State.accessed_memCorrected | with_reducible apply State.accessed_setMemBytes | with_reducible apply State.accessed_draw | with_reducible apply State.accessed_noteArray | with_reducible apply State.accessed_setArrErr | with_reducible apply State.accessed_breakLinks | with_reducible apply State.accessed_touch | with_reducible apply State.accessed_dropLine | with_reducible apply State.accessed_dropL1 | with_reducible apply State.accessed_setLine | with_reducible apply State.accessed_memErrAddr | with_reducible apply State.accessed_event | with_reducible apply State.accessed_hwPush | with_reducible apply State.accessed_bumpWrap | with_reducible apply State.accessed_bump | with_reducible apply State.accessed_put | with_reducible apply State.accessed_wr)
theorem State.accessed_writeLine {s t : State} (h : s.accessed t) (w a : Nat) (bs : List Byte) : s.accessed ((t.writeLine w a bs).2) := by
  unfold State.writeLine
  try dsimp only
  repeat' split
  all_goals (repeat first | with_reducible exact h | with_reducible apply State.accessed_readPiece | with_reducible apply State.accessed_cachedRead | with_reducible apply State.accessed_countLookup | with_reducible apply State.accessed_cacheFill | with_reducible apply State.accessed_fillInto | with_reducible apply State.accessed_fillGrans | with_reducible apply State.accessed_evictLine | with_reducible apply State.accessed_cleanLine | with_reducible apply State.accessed_writeBack | with_reducible apply State.accessed_writeBackGran | with_reducible apply State.accessed_freshWords | with_reducible apply State.accessed_settleLine | with_reducible apply State.accessed_settle | with_reducible apply State.accessed_dataErrors | with_reducible apply State.accessed_tagError | with_reducible apply State.accessed_memWritePiece | with_reducible apply State.accessed_memReadPiece | with_reducible apply State.accessed_memProbe | with_reducible apply State.accessed_memUncorrectable | with_reducible apply State.accessed_memCorrected | with_reducible apply State.accessed_setMemBytes | with_reducible apply State.accessed_draw | with_reducible apply State.accessed_noteArray | with_reducible apply State.accessed_setArrErr | with_reducible apply State.accessed_breakLinks | with_reducible apply State.accessed_touch | with_reducible apply State.accessed_dropLine | with_reducible apply State.accessed_dropL1 | with_reducible apply State.accessed_setLine | with_reducible apply State.accessed_memErrAddr | with_reducible apply State.accessed_event | with_reducible apply State.accessed_hwPush | with_reducible apply State.accessed_bumpWrap | with_reducible apply State.accessed_bump | with_reducible apply State.accessed_put | with_reducible apply State.accessed_wr)
theorem State.accessed_cachedWrite {s t : State} (h : s.accessed t) (alloc first : Bool) (a : Nat) (bs : List Byte) :
    s.accessed (t.cachedWrite alloc first a bs).2 := by
  have hf := State.accessed_afterMiss h alloc first a
  have hc := State.accessed_countLookup h true first a
  revert hf hc
  unfold State.cachedWrite
  dsimp only
  generalize (if alloc = true then (t.countLookup false first a).cacheFill a else t.countLookup false first a) = u
  generalize t.countLookup true first a = v
  intro hf hc
  repeat' split
  all_goals first
    | exact State.accessed_memWritePiece hf _ _
    | exact State.accessed_memWritePiece hc _ _
    | exact State.accessed_writeLine hf _ _ _
    | exact State.accessed_writeLine hc _ _ _
theorem State.accessed_writePiece {s t : State} (h : s.accessed t) (alloc first : Bool) (a : Nat) (bs : List Byte) : s.accessed ((t.writePiece alloc first a bs).2) := by
  unfold State.writePiece
  try dsimp only
  repeat' split
  all_goals (repeat first | with_reducible exact h | with_reducible apply State.accessed_cachedWrite | with_reducible apply State.accessed_writeLine | with_reducible apply State.accessed_readPiece | with_reducible apply State.accessed_cachedRead | with_reducible apply State.accessed_countLookup | with_reducible apply State.accessed_cacheFill | with_reducible apply State.accessed_fillInto | with_reducible apply State.accessed_fillGrans | with_reducible apply State.accessed_evictLine | with_reducible apply State.accessed_cleanLine | with_reducible apply State.accessed_writeBack | with_reducible apply State.accessed_writeBackGran | with_reducible apply State.accessed_freshWords | with_reducible apply State.accessed_settleLine | with_reducible apply State.accessed_settle | with_reducible apply State.accessed_dataErrors | with_reducible apply State.accessed_tagError | with_reducible apply State.accessed_memWritePiece | with_reducible apply State.accessed_memReadPiece | with_reducible apply State.accessed_memProbe | with_reducible apply State.accessed_memUncorrectable | with_reducible apply State.accessed_memCorrected | with_reducible apply State.accessed_setMemBytes | with_reducible apply State.accessed_draw | with_reducible apply State.accessed_noteArray | with_reducible apply State.accessed_setArrErr | with_reducible apply State.accessed_breakLinks | with_reducible apply State.accessed_touch | with_reducible apply State.accessed_dropLine | with_reducible apply State.accessed_dropL1 | with_reducible apply State.accessed_setLine | with_reducible apply State.accessed_memErrAddr | with_reducible apply State.accessed_event | with_reducible apply State.accessed_hwPush | with_reducible apply State.accessed_bumpWrap | with_reducible apply State.accessed_bump | with_reducible apply State.accessed_put | with_reducible apply State.accessed_wr)
theorem State.accessed_readPieces {s t : State} (h : s.accessed t) (alloc first : Bool) (l : List (Nat × Nat)) :
    s.accessed (t.readPieces alloc first l).2 := by
  induction l generalizing t first with
  | nil => exact h
  | cons p r ih =>
    obtain ⟨a, n⟩ := p
    have h1 := State.accessed_readPiece h alloc first a n
    unfold State.readPieces
    split
    next s1 e => rw [e] at h1; exact h1
    next s1 e =>
      rw [e] at h1
      have h2 := ih h1 false
      split <;> (next e2 => rw [e2] at h2; exact h2)

theorem State.accessed_writePieces {s t : State} (h : s.accessed t) (alloc first : Bool) (l : List (Nat × Nat)) (bs : List Byte) :
    s.accessed (t.writePieces alloc first l bs).2 := by
  induction l generalizing t first bs with
  | nil => exact h
  | cons p r ih =>
    obtain ⟨a, n⟩ := p
    have h1 := State.accessed_writePiece h alloc first a (bs.take n)
    unfold State.writePieces
    split
    next s1 e => rw [e] at h1; exact ih (State.accessed_breakLinks h1 a) false (bs.drop n)
    next s1 e =>
      rw [e] at h1
      have h2 := ih h1 false (bs.drop n)
      split <;> (next e2 => rw [e2] at h2; exact h2)

/-- A read of memory through the cache stays within an access. -/
theorem State.accessed_busRead {s t : State} (h : s.accessed t) (alloc : Bool) (a n : Nat) : s.accessed (t.busRead alloc a n).2 :=
  State.accessed_readPieces h _ _ _

/-- So does a write. -/
theorem State.accessed_busWrite {s t : State} (h : s.accessed t) (alloc : Bool) (a : Nat) (bs : List Byte) :
    s.accessed (t.busWrite alloc a bs).2 := State.accessed_writePieces h _ _ _ _

theorem State.accessed_l1Room {s t : State} (h : s.accessed t) (c : Nat) : s.accessed (t.l1Room c) := by
  unfold State.l1Room; dsimp only; split
  · exact h
  · refine State.accessed_trans h ?_
    exact rfl

theorem State.accessed_l1Fill {s t : State} (h : s.accessed t) (c a : Nat) : s.accessed (t.l1Fill c a) := by
  unfold State.l1Fill; repeat' split
  all_goals first
    | exact h
    | (refine State.accessed_trans (State.accessed_l1Room h c) ?_; exact rfl)

theorem State.accessed_l1Parity {s t : State} (h : s.accessed t) (c : Nat) (i : Bool) (line : Nat) (drop : State → State)
    (hd : ∀ u, s.accessed u → s.accessed (drop u)) : s.accessed (t.l1Parity c i line drop) := by
  unfold State.l1Parity; split
  · exact State.accessed_bump (hd _ (by refine State.accessed_trans h ?_; exact rfl)) _ _
  · exact h

/-- And a core's load through its level-1 data cache. -/
theorem State.accessed_l1Load {s t : State} (h : s.accessed t) (c a n : Nat) : s.accessed (t.l1Load c a n).2 := by
  unfold State.l1Load
  dsimp only
  generalize hu : State.l1Parity _ _ _ _ _ = u
  have h0 : s.accessed u := hu ▸ State.accessed_l1Parity h _ _ _ _ (fun _ hv => by refine State.accessed_trans hv ?_; exact rfl)
  have h1 := State.accessed_busRead h0 true a n
  split
  · exact h0
  · split
    · next e => rw [e] at h1; exact h1
    · next e => rw [e] at h1; exact State.accessed_l1Fill h1 c a

/-! ### Fetching -/

/-- A fetch keeps the queue of commands. -/
theorem State.fetch_pending (s : State) (c : Nat) : (s.fetch c).2.pending = s.pending := by
  have hf : ∀ u : State, ∀ line, (u.icFill c line).pending = u.pending := by
    intro u line; unfold State.icFill; dsimp only; split
    · split <;> rfl
    · rfl
  have hp : ∀ line, (s.l1Parity c true line fun s =>
      s.setCore c { s.core c with icache := (s.core c).icache.filter fun p => p.1 != line }).pending = s.pending := by
    intro line; unfold State.l1Parity; split
    · unfold State.bump; rfl
    · rfl
  unfold State.fetch
  dsimp only
  split
  · rfl
  · split
    · rfl
    · have h1 := hp ((s.core c).pc.toNat / 64)
      revert h1
      generalize State.l1Parity _ _ _ _ _ = u
      intro h1
      split
      · exact h1
      · split
        · rw [hf]; exact h1
        · have h2 := State.accessed_pending (State.accessed_busRead u.accessed_refl true (s.core c).pc.toNat 4)
          split
          · next e => rw [e] at h2; exact h2.trans h1
          · next e => rw [e] at h2; rw [hf]; exact h2.trans h1

/-- So does what precedes an instruction's effect. -/
@[simp] theorem State.afterFetch_pending (s : State) (c : Nat) : (s.afterFetch c).pending = s.pending := by
  unfold State.afterFetch; rw [State.fetch_pending]; rfl

end Sys2Proof.Machine
end

