-- ==== Sys2Proof/Laws/Codeword.lean ====
section
/-! SUPPORT. Sys2Proof/Laws/Codeword.lean: scrambling twice gives the bytes back, and the codeword of a sector decodes to
its bytes (R111, R131). -/
namespace Sys2Proof.Laws
open Sys2Proof Sys2Proof.Machine

@[simp] theorem scramble_length (c : BitVec 23) (l : List Byte) : (scramble c l).length = l.length := by
  induction l generalizing c with
  | nil => rfl
  | cons b r ih => simp [scramble, ih]

/-- The scrambler's bits come off as they went on. -/
@[simp] theorem scramble_scramble (c : BitVec 23) (l : List Byte) : scramble c (scramble c l) = l := by
  induction l generalizing c with
  | nil => rfl
  | cons b r ih => simp [scramble, ih, BitVec.xor_assoc]

@[simp] theorem leBytes_length (n v : Nat) : (leBytes n v).length = n := by
  induction n generalizing v with
  | zero => rfl
  | succ n ih => simp [leBytes, ih]

/-- The codeword that R111 writes for 4,160 bytes decodes to them (R131). -/
theorem decodeWord_codewordOf (index : Nat) (data : List Byte) (h : data.length = 4160) :
    decodeWord index (codewordOf index data) = some data := by
  have hi : (infoOf data).length = 4164 := by simp [infoOf, h]
  have hp : (parityBytes (infoOf data)).length = 264 := by simp [parityBytes]
  have ht : (infoOf data).take 4160 = data := by simp [infoOf, ← h]
  have hd : (infoOf data).drop 4160 = leBytes 4 (crc32c data).toNat := by simp [infoOf, ← h]
  have hT : (infoOf data ++ parityBytes (infoOf data)).take 4164 = infoOf data := by rw [← hi]; simp
  have hD : (infoOf data ++ parityBytes (infoOf data)).drop 4164 = parityBytes (infoOf data) := by rw [← hi]; simp
  unfold decodeWord codewordOf
  simp only [scramble_scramble, hT, hD, ht, hd, scramble_length, List.length_append, hi, hp]
  simp

end Sys2Proof.Laws
end

