-- ==== Sys2Proof/Laws/Cores.lean ====
section
/-! SUPPORT. Sys2Proof/Laws/Cores.lean: what the shared operations of Rilic instructions can do: running an instruction,
the two- and three-register forms, a division, a branch, and taking a trap to M level or to O level (R423 to R447). -/
namespace Sys2Proof.Machine
open Sys2Proof

/-- A command's next state is what its effect left, with the queue as it was. -/
theorem done_eq (s t : State) : done s t = .next { t with pending := s.pending } := rfl

/-- A core-only effect completes, and the queue is as it was anyway. -/
theorem done_result {s u t : State} {c rd : Nat} {v pc : Word} (hp : u.pending = s.pending) (h : u.result t c rd v pc) :
    ∃ w, done s t = .next w ∧ u.result w c rd v pc := by
  have e : t.pending = s.pending := by rw [h.1.1]; exact hp
  refine ⟨t, ?_, h⟩
  unfold done
  rw [← e]

/-! ### Running an instruction -/

theorem State.instr_of_executes {s : State} {c : Nat} (f : State → State) (h : s.executes c) :
    s.instr c f = f (s.afterFetch c) := by
  have h2 := h.2
  unfold State.instr State.afterFetch
  rw [h.1]
  dsimp only
  generalize State.fetch _ _ = p at h2 ⊢
  obtain ⟨o, u⟩ := p
  cases h2
  rfl

theorem State.instr_idle {s : State} {c : Nat} (f : State → State) (h : s.coreRuns c = false) : s.instr c f = s := by
  unfold State.instr
  simp [h]

theorem State.instr_of_fetchTraps {s : State} {c cause : Nat} (f : State → State) (h : s.fetchTraps c cause) :
    s.instr c f = (s.afterFetch c).trap c cause (s.core c).pc := by
  have h2 := h.2
  unfold State.instr State.afterFetch
  rw [h.1]
  dsimp only
  generalize State.fetch _ _ = p at h2 ⊢
  obtain ⟨o, u⟩ := p
  cases h2
  rfl

/-- What an instruction command can do: nothing, its effect after the fetch, or a trap of the fetch. -/
theorem State.instr_cases (s : State) (c : Nat) (f : State → State) :
    (s.coreRuns c = false ∧ s.instr c f = s)
      ∨ (s.executes c ∧ s.instr c f = f (s.afterFetch c))
      ∨ ∃ cause, s.fetchTraps c cause ∧ s.instr c f = (s.afterFetch c).trap c cause (s.core c).pc := by
  cases h : s.coreRuns c
  · exact .inl ⟨rfl, s.instr_idle f h⟩
  · cases h2 : ((s.setCore c (s.core c).fetched).fetch c).1 with
    | none => exact .inr (.inl ⟨⟨h, h2⟩, s.instr_of_executes f ⟨h, h2⟩⟩)
    | some cause => exact .inr (.inr ⟨cause, ⟨h, h2⟩, s.instr_of_fetchTraps f ⟨h, h2⟩⟩)

/-! ### General registers -/

@[simp] theorem CoreSt.greg_zero (k : CoreSt) : k.greg 0 = 0 := rfl

theorem CoreSt.greg_withG (k : CoreSt) (r q : Nat) (v : Word) : (k.withG r v).greg q = if q = r ∧ q ≠ 0 then v else k.greg q := by
  by_cases hr : r = 0
  · subst hr
    have : ¬ (q = 0 ∧ q ≠ 0) := fun h => h.2 h.1
    rw [if_neg this]
    rfl
  · unfold CoreSt.withG CoreSt.greg
    rw [if_neg hr]
    by_cases hq : q = 0
    · simp [hq]
    · by_cases h : q = r
      · subst h; simp [hq]
      · simp [hq, h, smGet_smSet]

@[simp] theorem CoreSt.withG_pc (k : CoreSt) (r : Nat) (v : Word) : (k.withG r v).pc = k.pc := by
  unfold CoreSt.withG; split <;> rfl
@[simp] theorem CoreSt.withG_instret (k : CoreSt) (r : Nat) (v : Word) : (k.withG r v).instret = k.instret := by
  unfold CoreSt.withG; split <;> rfl

theorem CoreSt.withG_frame (k : CoreSt) (r : Nat) (v : Word) : k.withG r v = { k with g := (k.withG r v).g } := by
  unfold CoreSt.withG; split <;> rfl

/-- Replacing a core's record leaves everything else. -/
theorem State.onlyCore_setCore (s : State) (c : Nat) (k : CoreSt) : s.onlyCore (s.setCore c k) c :=
  ⟨rfl, fun _ h => State.core_setCore_ne s k h⟩

/-- What two updates of one core leave. -/
theorem State.onlyCore_trans {s t u : State} {c : Nat} (h1 : s.onlyCore t c) (h2 : t.onlyCore u c) : s.onlyCore u c := by
  refine ⟨?_, fun d hd => (h2.2 d hd).trans (h1.2 d hd)⟩
  have e1 := h1.1
  have e2 := h2.1
  generalize t.cores = a at e1
  generalize u.cores = b at e2 ⊢
  subst e1
  exact e2

theorem State.onlyCore_setG (s : State) (c r : Nat) (v : Word) : s.onlyCore (s.setG c r v) c := s.onlyCore_setCore c _
theorem State.onlyCore_retire (s : State) (c : Nat) : s.onlyCore (s.retire c) c := s.onlyCore_setCore c _
theorem State.onlyCore_retireTo (s : State) (c : Nat) (pc : Word) : s.onlyCore (s.retireTo c pc) c := s.onlyCore_setCore c _

@[simp] theorem State.core_setG (s : State) (c r : Nat) (v : Word) : (s.setG c r v).core c = (s.core c).withG r v := by
  unfold State.setG; rw [State.core_setCore]
@[simp] theorem State.core_retire (s : State) (c : Nat) :
    (s.retire c).core c = { s.core c with pc := (s.core c).pc + 4, instret := (s.core c).instret + 1 } := by
  unfold State.retire; dsimp only; rw [State.core_setCore]
@[simp] theorem State.core_retireTo (s : State) (c : Nat) (pc : Word) :
    (s.retireTo c pc).core c = { s.core c with pc := pc &&& ~~~3, instret := (s.core c).instret + 1 } := by
  unfold State.retireTo; dsimp only; rw [State.core_setCore]

/-! ### Retiring with a result -/

/-- A state that differs in core `c` alone, whose record has `v` in `rd` and PC moved on, is the result that statements speak
of. -/
theorem State.result_intro {s t : State} {c rd : Nat} {v pc : Word} (h : s.onlyCore t c)
    (hc : t.core c = { (s.core c).withG rd v with pc := pc, instret := (s.core c).instret + 1 }) : s.result t c rd v pc := by
  refine ⟨h, ?_, ?_, ?_⟩
  · unfold State.retires
    rw [hc, CoreSt.withG_frame]
  · rfl
  · intro r
    show (t.core c).greg r = _
    rw [hc]
    exact CoreSt.greg_withG (s.core c) rd r v

/-- Writing `v` to `rd` and retiring. -/
theorem State.result_setG_retire (s : State) (c rd : Nat) (v : Word) :
    s.result ((s.setG c rd v).retire c) c rd v ((s.core c).pc + 4) := by
  refine State.result_intro (State.onlyCore_trans (State.onlyCore_setG _ c rd v) (State.onlyCore_retire _ c)) ?_
  rw [State.core_retire, State.core_setG, CoreSt.withG_pc, CoreSt.withG_instret]

/-- Writing `v` to `rd` and retiring to a target: bits [1:0] of PC read 0 (R423). -/
theorem State.result_setG_retireTo (s : State) (c rd : Nat) (v pc : Word) :
    s.result ((s.setG c rd v).retireTo c pc) c rd v (pc &&& ~~~3) := by
  refine State.result_intro (State.onlyCore_trans (State.onlyCore_setG _ c rd v) (State.onlyCore_retireTo _ c pc)) ?_
  rw [State.core_retireTo, State.core_setG, CoreSt.withG_instret]

/-- Retiring without a register written. -/
theorem State.result_retire (s : State) (c : Nat) : s.result (s.retire c) c 0 0 ((s.core c).pc + 4) :=
  State.result_intro (State.onlyCore_retire _ c) (State.core_retire s c)

/-- Retiring to a target without a register written. -/
theorem State.result_retireTo (s : State) (c : Nat) (pc : Word) : s.result (s.retireTo c pc) c 0 0 (pc &&& ~~~3) :=
  State.result_intro (State.onlyCore_retireTo _ c pc) (State.core_retireTo s c pc)

/-- An instruction that writes `rd` from two registers completes with that result and nothing else. -/
theorem State.alu3_result {s : State} (c : Core) (rd rs1 rs2 : GReg) (f : Word → Word → Word) (h : s.executes c.val) :
    let u := s.afterFetch c.val
    ∃ t, done s (s.alu3 c rd rs1 rs2 f) = .next t
      ∧ u.result t c.val rd.val (f (u.g c.val rs1.val) (u.g c.val rs2.val)) ((u.core c.val).pc + 4) := by
  refine done_result (s.afterFetch_pending c.val) ?_
  unfold State.alu3
  rw [State.instr_of_executes _ h]
  exact State.result_setG_retire _ _ _ _

/-- An instruction that writes `rd` from one register completes with that result and nothing else. -/
theorem State.alu2_result {s : State} (c : Core) (rd rs1 : GReg) (f : Word → Word) (h : s.executes c.val) :
    let u := s.afterFetch c.val
    ∃ t, done s (s.alu2 c rd rs1 f) = .next t ∧ u.result t c.val rd.val (f (u.g c.val rs1.val)) ((u.core c.val).pc + 4) := by
  refine done_result (s.afterFetch_pending c.val) ?_
  unfold State.alu2
  rw [State.instr_of_executes _ h]
  exact State.result_setG_retire _ _ _ _

/-- A branch goes to its target or on, and writes no register. -/
theorem State.branch_result {s : State} (c : Core) (rs1 rs2 : GReg) (off : BitVec 16) (p : Word → Word → Bool) (h : s.executes c.val) :
    let u := s.afterFetch c.val
    ∃ t, done s (s.branch c rs1 rs2 off p) = .next t
      ∧ u.result t c.val 0 0 (if p (u.g c.val rs1.val) (u.g c.val rs2.val) then branchTarget (u.core c.val).pc (immS off) &&& ~~~3
          else (u.core c.val).pc + 4) := by
  refine done_result (s.afterFetch_pending c.val) ?_
  unfold State.branch
  rw [State.instr_of_executes _ h]
  split
  · exact State.result_retireTo _ _ _
  · exact State.result_retire _ _

/-! ### Traps -/

/-- What a synchronous trap can do (R444, R445, R447): it goes to O level, halts the core, or goes to M level. -/
theorem State.trapWith_cases (s : State) (c cause : Nat) (tval : Word) (imprecise : Bool) :
    s.trapWith c cause tval imprecise
        = { s.setCore c { s.core c with
              otpc := (s.core c).pc, ocause := BitVec.ofNat 64 cause, otval := tval, ota := true, pc := (s.core c).otvec
              wait := .none, ll := none } with linked := smErase s.linked c }
      ∨ s.trapWith c cause tval imprecise = s.doubleTrap c
      ∨ s.trapWith c cause tval imprecise
        = s.enterM c (BitVec.ofNat 64 (cause + if imprecise then 2 ^ 62 else 0)) tval (s.core c).pc (s.core c).tvec := by
  unfold State.trapWith
  dsimp only
  split
  · exact .inl rfl
  · split
    · exact .inr (.inl rfl)
    · exact .inr (.inr rfl)

/-- What the fetch check reads of a core: its level, its protection table and its instruction cache. -/
theorem State.fetchBad_congr {s t : State} {k k' : CoreSt} (pc : Word) (hs : ∀ a, t.readable a = s.readable a)
    (hp : k'.priv = k.priv) (hl : k'.mpuLo = k.mpuLo) (hh : k'.mpuHi = k.mpuHi) (hi : k'.icache = k.icache) :
    t.fetchBad k' pc = s.fetchBad k pc := by
  unfold State.fetchBad CoreSt.rights CoreSt.region CoreSt.covers CoreSt.holdsLine
  simp only [hs, hp, hl, hh, hi]

/-- A core's record replaced and its reservation cleared: nothing else changes. -/
theorem State.frame_setCore_linked (s : State) (c : Nat) (k : CoreSt) (l : SMap Nat) :
    ({ s.setCore c k with linked := l } : State) = { s with cores := (s.setCore c k).cores, linked := l } := rfl

/-- Under `trapsToM` a precise trap enters M level as R444 says, and nothing else changes. -/
theorem State.trap_entersM {s : State} {c cause : Nat} (tval : Word) (h : s.trapsToM c cause) : s.entersM (s.trap c cause tval) c cause tval := by
  obtain ⟨h1, h2, h3⟩ := h
  have e : s.trap c cause tval
      = { s.setCore c { s.core c with
          tpc := (s.core c).pc, cause := BitVec.ofNat 64 cause, tval := tval, ppriv := (s.core c).priv, pie := (s.core c).ie
          priv := true, ie := false, ta := true, pc := (s.core c).tvec, wait := .none, ll := none } with
          linked := smErase s.linked c } := by
    unfold State.trap State.trapWith
    dsimp only
    rw [if_neg, if_neg]
    · unfold State.enterM
      simp only [Bool.false_eq_true, if_false, Nat.add_zero]
      rw [if_neg]
      have hv : s.fetchBad { s.core c with
          tpc := (s.core c).pc, cause := BitVec.ofNat 64 cause, tval := tval, ppriv := (s.core c).priv, pie := (s.core c).ie
          priv := true, ie := false, ta := true, pc := (s.core c).tvec, wait := .none, ll := none } (s.core c).tvec = none := by
        rw [← h3]; exact State.fetchBad_congr _ (fun _ => rfl) rfl rfl rfl rfl
      simp [hv]
    · exact h2
    · intro hh
      exact h1 ⟨by simpa using hh.1, hh.2.1, hh.2.2.1, by simpa using hh.2.2.2⟩
  refine ⟨by rw [e, State.frame_setCore_linked], fun d hd => ?_, ?_⟩
  · rw [e]
    exact State.core_setCore_ne s _ hd
  · rw [e]
    exact State.core_setCore s c _

/-- A delegated trap from O level while no O trap is active goes to O level as R445 says, and nothing else changes. -/
theorem State.trap_entersO {s : State} {c cause : Nat} (tval : Word) (hp : (s.core c).priv = false) (hd : delegable cause = true)
    (ho : (s.core c).odeleg.getLsbD cause = true) (ha : (s.core c).ota = false) : s.entersO (s.trap c cause tval) c cause tval := by
  have e : s.trap c cause tval
      = { s.setCore c { s.core c with
          otpc := (s.core c).pc, ocause := BitVec.ofNat 64 cause, otval := tval, ota := true, pc := (s.core c).otvec
          wait := .none, ll := none } with linked := smErase s.linked c } := by
    unfold State.trap State.trapWith
    dsimp only
    rw [if_pos]
    exact ⟨by simpa using hp, hd, ho, by simpa using ha⟩
  refine ⟨by rw [e, State.frame_setCore_linked], fun d hd => ?_, ?_⟩
  · rw [e]
    exact State.core_setCore_ne s _ hd
  · rw [e]
    exact State.core_setCore s c _

end Sys2Proof.Machine
end

