-- ==== Sys2Proof/Laws/PerInstr.lean ====
section
/-! SUPPORT. Sys2Proof/Laws/PerInstr.lean: one lemma per command for the family `Wf`: which commands can be ill formed. -/
namespace Sys2Proof.Laws.Wf
open Sys2Proof

/-- The command carries a list, a code or a word on which `Instr.wf` sets a condition (R87, R111, R604, R389, R433). -/
def checked : Instr → Bool
  | .upstreamFrame _ _ _ | .sectorDecode _ _ | .deferredDecode _ _ _ | .retryStep _ _ | .bypass _ | .loupeFunction _ _
  | .reservedOpcode _ _ => true
  | _ => false

/-- A command that carries no such operand is well formed whatever its operands are. -/
def Statement (i : Instr) : Prop := checked i = false → i.wf = true

theorem registerWrite (x0 : _) (x1 : _) (x2 : _) (x3 : _) : Statement (.registerWrite x0 x1 x2 x3) := by intro h; first | rfl | cases h
theorem clockLoss (x0 : _) : Statement (.clockLoss x0) := by intro h; first | rfl | cases h
theorem syncMark (x0 : _) (x1 : _) (x2 : _) : Statement (.syncMark x0 x1 x2) := by intro h; first | rfl | cases h
theorem miss (x0 : _) : Statement (.miss x0) := by intro h; first | rfl | cases h
theorem actionDue (x0 : _) (x1 : _) : Statement (.actionDue x0 x1) := by intro h; first | rfl | cases h
theorem snapshot : Statement (.snapshot) := by intro h; first | rfl | cases h
theorem racksyncEdge (x0 : _) : Statement (.racksyncEdge x0) := by intro h; first | rfl | cases h
theorem racksyncHold : Statement (.racksyncHold) := by intro h; first | rfl | cases h
theorem downstreamFrame (x0 : _) : Statement (.downstreamFrame x0) := by intro h; first | rfl | cases h
theorem upstreamFrame (x0 : _) (x1 : _) (x2 : _) : Statement (.upstreamFrame x0 x1 x2) := by intro h; first | rfl | cases h
theorem laneDown (x0 : _) (x1 : _) : Statement (.laneDown x0 x1) := by intro h; first | rfl | cases h
theorem managedWord (x0 : _) (x1 : _) : Statement (.managedWord x0 x1) := by intro h; first | rfl | cases h
theorem managedWordRetry (x0 : _) (x1 : _) : Statement (.managedWordRetry x0 x1) := by intro h; first | rfl | cases h
theorem trainingStart (x0 : _) : Statement (.trainingStart x0) := by intro h; first | rfl | cases h
theorem trainingStepDone (x0 : _) (x1 : _) : Statement (.trainingStepDone x0 x1) := by intro h; first | rfl | cases h
theorem trainingTimeout (x0 : _) : Statement (.trainingTimeout x0) := by intro h; first | rfl | cases h
theorem linkDisable (x0 : _) : Statement (.linkDisable x0) := by intro h; first | rfl | cases h
theorem signalDetect (x0 : _) (x1 : _) : Statement (.signalDetect x0 x1) := by intro h; first | rfl | cases h
theorem challengeTimeout (x0 : _) : Statement (.challengeTimeout x0) := by intro h; first | rfl | cases h
theorem attach (x0 : _) (x1 : _) : Statement (.attach x0 x1) := by intro h; first | rfl | cases h
theorem mediaRead (x0 : _) : Statement (.mediaRead x0) := by intro h; first | rfl | cases h
theorem mediaWrite (x0 : _) : Statement (.mediaWrite x0) := by intro h; first | rfl | cases h
theorem mediaVerify (x0 : _) : Statement (.mediaVerify x0) := by intro h; first | rfl | cases h
theorem mediaCancel (x0 : _) : Statement (.mediaCancel x0) := by intro h; first | rfl | cases h
theorem schedulerSelect (x0 : _) : Statement (.schedulerSelect x0) := by intro h; first | rfl | cases h
theorem sliceHandover (x0 : _) : Statement (.sliceHandover x0) := by intro h; first | rfl | cases h
theorem sectorDecode (x0 : _) (x1 : _) : Statement (.sectorDecode x0 x1) := by intro h; first | rfl | cases h
theorem deferredDecode (x0 : _) (x1 : _) (x2 : _) : Statement (.deferredDecode x0 x1 x2) := by intro h; first | rfl | cases h
theorem retryStep (x0 : _) (x1 : _) : Statement (.retryStep x0 x1) := by intro h; first | rfl | cases h
theorem noAngleTimeout (x0 : _) : Statement (.noAngleTimeout x0) := by intro h; first | rfl | cases h
theorem sliceCompletion (x0 : _) : Statement (.sliceCompletion x0) := by intro h; first | rfl | cases h
theorem facetNext (x0 : _) (x1 : _) : Statement (.facetNext x0 x1) := by intro h; first | rfl | cases h
theorem facetRet (x0 : _) (x1 : _) : Statement (.facetRet x0 x1) := by intro h; first | rfl | cases h
theorem facetLoop (x0 : _) (x1 : _) : Statement (.facetLoop x0 x1) := by intro h; first | rfl | cases h
theorem facetBr (x0 : _) (x1 : _) : Statement (.facetBr x0 x1) := by intro h; first | rfl | cases h
theorem facetJmp (x0 : _) (x1 : _) : Statement (.facetJmp x0 x1) := by intro h; first | rfl | cases h
theorem facetCall (x0 : _) (x1 : _) : Statement (.facetCall x0 x1) := by intro h; first | rfl | cases h
theorem facetGoto (x0 : _) (x1 : _) : Statement (.facetGoto x0 x1) := by intro h; first | rfl | cases h
theorem facetBrt (x0 : _) (x1 : _) : Statement (.facetBrt x0 x1) := by intro h; first | rfl | cases h
theorem facetNaLoop (x0 : _) (x1 : _) : Statement (.facetNaLoop x0 x1) := by intro h; first | rfl | cases h
theorem facetDispatch (x0 : _) (x1 : _) : Statement (.facetDispatch x0 x1) := by intro h; first | rfl | cases h
theorem microTrap (x0 : _) : Statement (.microTrap x0) := by intro h; first | rfl | cases h
theorem facetWatchdog (x0 : _) : Statement (.facetWatchdog x0) := by intro h; first | rfl | cases h
theorem facetScrub (x0 : _) (x1 : _) : Statement (.facetScrub x0 x1) := by intro h; first | rfl | cases h
theorem storeWindowWrite (x0 : _) (x1 : _) (x2 : _) : Statement (.storeWindowWrite x0 x1 x2) := by intro h; first | rfl | cases h
theorem facetClear (x0 : _) : Statement (.facetClear x0) := by intro h; first | rfl | cases h
theorem facetClearDone (x0 : _) : Statement (.facetClearDone x0) := by intro h; first | rfl | cases h
theorem facetVerify (x0 : _) : Statement (.facetVerify x0) := by intro h; first | rfl | cases h
theorem facetVerifyDone (x0 : _) : Statement (.facetVerifyDone x0) := by intro h; first | rfl | cases h
theorem swapArm (x0 : _) (x1 : _) (x2 : _) : Statement (.swapArm x0 x1 x2) := by intro h; first | rfl | cases h
theorem bankSwitch (x0 : _) : Statement (.bankSwitch x0) := by intro h; first | rfl | cases h
theorem runStart (x0 : _) : Statement (.runStart x0) := by intro h; first | rfl | cases h
theorem runHalt (x0 : _) : Statement (.runHalt x0) := by intro h; first | rfl | cases h
theorem doorbell (x0 : _) : Statement (.doorbell x0) := by intro h; first | rfl | cases h
theorem servoSample (x0 : _) (x1 : _) : Statement (.servoSample x0 x1) := by intro h; first | rfl | cases h
theorem outputDeadline (x0 : _) : Statement (.outputDeadline x0) := by intro h; first | rfl | cases h
theorem followingErrorTimeout (x0 : _) : Statement (.followingErrorTimeout x0) := by intro h; first | rfl | cases h
theorem servoSeek (x0 : _) : Statement (.servoSeek x0) := by intro h; first | rfl | cases h
theorem servoOffset (x0 : _) : Statement (.servoOffset x0) := by intro h; first | rfl | cases h
theorem servoPark (x0 : _) : Statement (.servoPark x0) := by intro h; first | rfl | cases h
theorem servoLoad (x0 : _) : Statement (.servoLoad x0) := by intro h; first | rfl | cases h
theorem servoResult (x0 : _) : Statement (.servoResult x0) := by intro h; first | rfl | cases h
theorem seekTimeout (x0 : _) : Statement (.seekTimeout x0) := by intro h; first | rfl | cases h
theorem loadTimeout (x0 : _) : Statement (.loadTimeout x0) := by intro h; first | rfl | cases h
theorem servoReacqTimeout (x0 : _) : Statement (.servoReacqTimeout x0) := by intro h; first | rfl | cases h
theorem parkRequest (x0 : _) : Statement (.parkRequest x0) := by intro h; first | rfl | cases h
theorem parkDataPhaseEnd (x0 : _) : Statement (.parkDataPhaseEnd x0) := by intro h; first | rfl | cases h
theorem parkRampPhaseEnd (x0 : _) : Statement (.parkRampPhaseEnd x0) := by intro h; first | rfl | cases h
theorem gainCopy (x0 : _) (x1 : _) : Statement (.gainCopy x0 x1) := by intro h; first | rfl | cases h
theorem servoEnable (x0 : _) (x1 : _) : Statement (.servoEnable x0 x1) := by intro h; first | rfl | cases h
theorem spindleEnable (x0 : _) (x1 : _) : Statement (.spindleEnable x0 x1) := by intro h; first | rfl | cases h
theorem spindleStart (x0 : _) : Statement (.spindleStart x0) := by intro h; first | rfl | cases h
theorem spindleSpeed (x0 : _) : Statement (.spindleSpeed x0) := by intro h; first | rfl | cases h
theorem spindleStop (x0 : _) : Statement (.spindleStop x0) := by intro h; first | rfl | cases h
theorem spindleRegen (x0 : _) : Statement (.spindleRegen x0) := by intro h; first | rfl | cases h
theorem spindleRegenEnd (x0 : _) : Statement (.spindleRegenEnd x0) := by intro h; first | rfl | cases h
theorem spindleCoast (x0 : _) : Statement (.spindleCoast x0) := by intro h; first | rfl | cases h
theorem spindleAbort (x0 : _) : Statement (.spindleAbort x0) := by intro h; first | rfl | cases h
theorem listenEnd (x0 : _) (x1 : _) (x2 : _) (x3 : _) : Statement (.listenEnd x0 x1 x2 x3) := by intro h; first | rfl | cases h
theorem probeDone (x0 : _) (x1 : _) : Statement (.probeDone x0 x1) := by intro h; first | rfl | cases h
theorem stepDriveInterval (x0 : _) (x1 : _) : Statement (.stepDriveInterval x0 x1) := by intro h; first | rfl | cases h
theorem pwmPeriod (x0 : _) (x1 : _) (x2 : _) : Statement (.pwmPeriod x0 x1 x2) := by intro h; first | rfl | cases h
theorem phaseOutputDeadline (x0 : _) : Statement (.phaseOutputDeadline x0) := by intro h; first | rfl | cases h
theorem backEmfZeroCrossing (x0 : _) (x1 : _) (x2 : _) : Statement (.backEmfZeroCrossing x0 x1 x2) := by intro h; first | rfl | cases h
theorem spinupTimeout (x0 : _) : Statement (.spinupTimeout x0) := by intro h; first | rfl | cases h
theorem stopParkWaitTimeout (x0 : _) : Statement (.stopParkWaitTimeout x0) := by intro h; first | rfl | cases h
theorem brakeHoldEnd (x0 : _) : Statement (.brakeHoldEnd x0) := by intro h; first | rfl | cases h
theorem rotorLoss (x0 : _) : Statement (.rotorLoss x0) := by intro h; first | rfl | cases h
theorem reacqWindowEnd (x0 : _) : Statement (.reacqWindowEnd x0) := by intro h; first | rfl | cases h
theorem reacqTimeout (x0 : _) : Statement (.reacqTimeout x0) := by intro h; first | rfl | cases h
theorem commutationHaltPark (x0 : _) : Statement (.commutationHaltPark x0) := by intro h; first | rfl | cases h
theorem vmotorSample (x0 : _) : Statement (.vmotorSample x0) := by intro h; first | rfl | cases h
theorem chopperTest : Statement (.chopperTest) := by intro h; first | rfl | cases h
theorem chopperTestDone (x0 : _) (x1 : _) (x2 : _) : Statement (.chopperTestDone x0 x1 x2) := by intro h; first | rfl | cases h
theorem lifeFold : Statement (.lifeFold) := by intro h; first | rfl | cases h
theorem lifeRecordWrite (x0 : _) : Statement (.lifeRecordWrite x0) := by intro h; first | rfl | cases h
theorem reconciliation (x0 : _) (x1 : _) : Statement (.reconciliation x0 x1) := by intro h; first | rfl | cases h
theorem calibrationRun (x0 : _) (x1 : _) (x2 : _) : Statement (.calibrationRun x0 x1 x2) := by intro h; first | rfl | cases h
theorem calibrationResult (x0 : _) (x1 : _) : Statement (.calibrationResult x0 x1) := by intro h; first | rfl | cases h
theorem calibrationDeferExpiry (x0 : _) (x1 : _) (x2 : _) : Statement (.calibrationDeferExpiry x0 x1 x2) := by intro h; first | rfl | cases h
theorem vrefinMeasure (x0 : _) : Statement (.vrefinMeasure x0) := by intro h; first | rfl | cases h
theorem bridgeRatio (x0 : _) (x1 : _) (x2 : _) : Statement (.bridgeRatio x0 x1 x2) := by intro h; first | rfl | cases h
theorem btRead (x0 : _) : Statement (.btRead x0) := by intro h; first | rfl | cases h
theorem btWrite (x0 : _) : Statement (.btWrite x0) := by intro h; first | rfl | cases h
theorem btOpen (x0 : _) : Statement (.btOpen x0) := by intro h; first | rfl | cases h
theorem btClose (x0 : _) : Statement (.btClose x0) := by intro h; first | rfl | cases h
theorem btClean : Statement (.btClean) := by intro h; first | rfl | cases h
theorem btInval : Statement (.btInval) := by intro h; first | rfl | cases h
theorem btRestore (x0 : _) : Statement (.btRestore x0) := by intro h; first | rfl | cases h
theorem btInvalidCommand (x0 : _) (x1 : _) : Statement (.btInvalidCommand x0 x1) := by intro h; first | rfl | cases h
theorem btFetch (x0 : _) : Statement (.btFetch x0) := by intro h; first | rfl | cases h
theorem checkpointStart : Statement (.checkpointStart) := by intro h; first | rfl | cases h
theorem checkpointCommit (x0 : _) (x1 : _) (x2 : _) : Statement (.checkpointCommit x0 x1 x2) := by intro h; first | rfl | cases h
theorem recovery (x0 : _) : Statement (.recovery x0) := by intro h; first | rfl | cases h
theorem compaction (x0 : _) (x1 : _) : Statement (.compaction x0 x1) := by intro h; first | rfl | cases h
theorem prismEncode (x0 : _) : Statement (.prismEncode x0) := by intro h; first | rfl | cases h
theorem prismReconstruct (x0 : _) : Statement (.prismReconstruct x0) := by intro h; first | rfl | cases h
theorem prismCheck (x0 : _) : Statement (.prismCheck x0) := by intro h; first | rfl | cases h
theorem prismResult (x0 : _) : Statement (.prismResult x0) := by intro h; first | rfl | cases h
theorem journalFlush (x0 : _) (x1 : _) (x2 : _) : Statement (.journalFlush x0 x1 x2) := by intro h; first | rfl | cases h
theorem stripeSeal (x0 : _) (x1 : _) : Statement (.stripeSeal x0 x1) := by intro h; first | rfl | cases h
theorem bitmapClear (x0 : _) : Statement (.bitmapClear x0) := by intro h; first | rfl | cases h
theorem slowMember (x0 : _) : Statement (.slowMember x0) := by intro h; first | rfl | cases h
theorem probation (x0 : _) : Statement (.probation x0) := by intro h; first | rfl | cases h
theorem probationResult (x0 : _) (x1 : _) : Statement (.probationResult x0 x1) := by intro h; first | rfl | cases h
theorem reattachTimeout (x0 : _) : Statement (.reattachTimeout x0) := by intro h; first | rfl | cases h
theorem rebuild (x0 : _) (x1 : _) (x2 : _) : Statement (.rebuild x0 x1 x2) := by intro h; first | rfl | cases h
theorem reshape (x0 : _) (x1 : _) : Statement (.reshape x0 x1) := by intro h; first | rfl | cases h
theorem hello (x0 : _) (x1 : _) : Statement (.hello x0 x1) := by intro h; first | rfl | cases h
theorem hostCmd (x0 : _) (x1 : _) : Statement (.hostCmd x0 x1) := by intro h; first | rfl | cases h
theorem hostData (x0 : _) (x1 : _) (x2 : _) (x3 : _) : Statement (.hostData x0 x1 x2 x3) := by intro h; first | rfl | cases h
theorem hostAck (x0 : _) (x1 : _) (x2 : _) (x3 : _) : Statement (.hostAck x0 x1 x2 x3) := by intro h; first | rfl | cases h
theorem sessionReset (x0 : _) (x1 : _) (x2 : _) : Statement (.sessionReset x0 x1 x2) := by intro h; first | rfl | cases h
theorem logRead (x0 : _) (x1 : _) (x2 : _) : Statement (.logRead x0 x1 x2) := by intro h; first | rfl | cases h
theorem restartResume (x0 : _) (x1 : _) : Statement (.restartResume x0 x1) := by intro h; first | rfl | cases h
theorem restartDiscard (x0 : _) (x1 : _) : Statement (.restartDiscard x0 x1) := by intro h; first | rfl | cases h
theorem arpRequest (x0 : _) (x1 : _) : Statement (.arpRequest x0 x1) := by intro h; first | rfl | cases h
theorem neighbourDiscovery (x0 : _) (x1 : _) : Statement (.neighbourDiscovery x0 x1) := by intro h; first | rfl | cases h
theorem echoRequest (x0 : _) (x1 : _) (x2 : _) : Statement (.echoRequest x0 x1 x2) := by intro h; first | rfl | cases h
theorem ackDelay (x0 : _) : Statement (.ackDelay x0) := by intro h; first | rfl | cases h
theorem retransmissionTimeout (x0 : _) (x1 : _) : Statement (.retransmissionTimeout x0 x1) := by intro h; first | rfl | cases h
theorem dataTTimeout (x0 : _) (x1 : _) : Statement (.dataTTimeout x0 x1) := by intro h; first | rfl | cases h
theorem idleTimeout (x0 : _) : Statement (.idleTimeout x0) := by intro h; first | rfl | cases h
theorem oldEpochKeyExpiry (x0 : _) : Statement (.oldEpochKeyExpiry x0) := by intro h; first | rfl | cases h
theorem portLinkChange (x0 : _) (x1 : _) : Statement (.portLinkChange x0 x1) := by intro h; first | rfl | cases h
theorem evaluationPoint (x0 : _) (x1 : _) : Statement (.evaluationPoint x0 x1) := by intro h; first | rfl | cases h
theorem commandCommit (x0 : _) (x1 : _) : Statement (.commandCommit x0 x1) := by intro h; first | rfl | cases h
theorem objPut (x0 : _) (x1 : _) (x2 : _) : Statement (.objPut x0 x1 x2) := by intro h; first | rfl | cases h
theorem objWrite (x0 : _) (x1 : _) (x2 : _) : Statement (.objWrite x0 x1 x2) := by intro h; first | rfl | cases h
theorem objAppend (x0 : _) (x1 : _) (x2 : _) : Statement (.objAppend x0 x1 x2) := by intro h; first | rfl | cases h
theorem objGet (x0 : _) (x1 : _) (x2 : _) : Statement (.objGet x0 x1 x2) := by intro h; first | rfl | cases h
theorem objStat (x0 : _) (x1 : _) : Statement (.objStat x0 x1) := by intro h; first | rfl | cases h
theorem objDelete (x0 : _) (x1 : _) : Statement (.objDelete x0 x1) := by intro h; first | rfl | cases h
theorem objList (x0 : _) (x1 : _) : Statement (.objList x0 x1) := by intro h; first | rfl | cases h
theorem objCommit (x0 : _) (x1 : _) : Statement (.objCommit x0 x1) := by intro h; first | rfl | cases h
theorem partSetTimeout (x0 : _) (x1 : _) : Statement (.partSetTimeout x0 x1) := by intro h; first | rfl | cases h
theorem describe (x0 : _) (x1 : _) : Statement (.describe x0 x1) := by intro h; first | rfl | cases h
theorem powerHint (x0 : _) (x1 : _) : Statement (.powerHint x0 x1) := by intro h; first | rfl | cases h
theorem powerHintExpiry : Statement (.powerHintExpiry) := by intro h; first | rfl | cases h
theorem attest (x0 : _) (x1 : _) : Statement (.attest x0 x1) := by intro h; first | rfl | cases h
theorem profileSelect (x0 : _) (x1 : _) : Statement (.profileSelect x0 x1) := by intro h; first | rfl | cases h
theorem imageStage (x0 : _) (x1 : _) : Statement (.imageStage x0 x1) := by intro h; first | rfl | cases h
theorem cipherSeal (x0 : _) : Statement (.cipherSeal x0) := by intro h; first | rfl | cases h
theorem cipherOpen (x0 : _) : Statement (.cipherOpen x0) := by intro h; first | rfl | cases h
theorem cipherGenkey (x0 : _) : Statement (.cipherGenkey x0) := by intro h; first | rfl | cases h
theorem cipherLoadkey (x0 : _) : Statement (.cipherLoadkey x0) := by intro h; first | rfl | cases h
theorem cipherEvict (x0 : _) : Statement (.cipherEvict x0) := by intro h; first | rfl | cases h
theorem sessionJob (x0 : _) : Statement (.sessionJob x0) := by intro h; first | rfl | cases h
theorem cipherResult (x0 : _) : Statement (.cipherResult x0) := by intro h; first | rfl | cases h
theorem drbgReseed : Statement (.drbgReseed) := by intro h; first | rfl | cases h
theorem reseed : Statement (.reseed) := by intro h; first | rfl | cases h
theorem entropyHealthFailure : Statement (.entropyHealthFailure) := by intro h; first | rfl | cases h
theorem claim (x0 : _) (x1 : _) : Statement (.claim x0 x1) := by intro h; first | rfl | cases h
theorem transfer (x0 : _) (x1 : _) : Statement (.transfer x0 x1) := by intro h; first | rfl | cases h
theorem decommission (x0 : _) : Statement (.decommission x0) := by intro h; first | rfl | cases h
theorem loupeUnlock (x0 : _) (x1 : _) (x2 : _) : Statement (.loupeUnlock x0 x1 x2) := by intro h; first | rfl | cases h
theorem loupeKill : Statement (.loupeKill) := by intro h; first | rfl | cases h
theorem svnRaise (x0 : _) : Statement (.svnRaise x0) := by intro h; first | rfl | cases h
theorem extest (x0 : _) : Statement (.extest x0) := by intro h; first | rfl | cases h
theorem idcode : Statement (.idcode) := by intro h; first | rfl | cases h
theorem samplePreload (x0 : _) : Statement (.samplePreload x0) := by intro h; first | rfl | cases h
theorem bypass (x0 : _) : Statement (.bypass x0) := by intro h; first | rfl | cases h
theorem loupeFunction (x0 : _) (x1 : _) : Statement (.loupeFunction x0 x1) := by intro h; first | rfl | cases h
theorem ledgerUpdate (x0 : _) : Statement (.ledgerUpdate x0) := by intro h; first | rfl | cases h
theorem debitAdmitted : Statement (.debitAdmitted) := by intro h; first | rfl | cases h
theorem debitWaitEvent (x0 : _) : Statement (.debitWaitEvent x0) := by intro h; first | rfl | cases h
theorem apertureFill : Statement (.apertureFill) := by intro h; first | rfl | cases h
theorem powerLossFlush : Statement (.powerLossFlush) := by intro h; first | rfl | cases h
theorem flushEnd (x0 : _) (x1 : _) : Statement (.flushEnd x0 x1) := by intro h; first | rfl | cases h
theorem flushBrake : Statement (.flushBrake) := by intro h; first | rfl | cases h
theorem powerReturn (x0 : _) : Statement (.powerReturn x0) := by intro h; first | rfl | cases h
theorem idleTimerExpiry (x0 : _) (x1 : _) : Statement (.idleTimerExpiry x0 x1) := by intro h; first | rfl | cases h
theorem powerStateExit (x0 : _) : Statement (.powerStateExit x0) := by intro h; first | rfl | cases h
theorem thermalStep : Statement (.thermalStep) := by intro h; first | rfl | cases h
theorem thermalShutdown : Statement (.thermalShutdown) := by intro h; first | rfl | cases h
theorem caseTemperatureWrite (x0 : _) : Statement (.caseTemperatureWrite x0) := by intro h; first | rfl | cases h
theorem caseValidityExpiry : Statement (.caseValidityExpiry) := by intro h; first | rfl | cases h
theorem trim : Statement (.trim) := by intro h; first | rfl | cases h
theorem trimDone (x0 : _) (x1 : _) : Statement (.trimDone x0 x1) := by intro h; first | rfl | cases h
theorem add (x0 : _) (x1 : _) (x2 : _) (x3 : _) : Statement (.add x0 x1 x2 x3) := by intro h; first | rfl | cases h
theorem addN (x0 : _) (x1 : _) (x2 : _) (x3 : _) : Statement (.addN x0 x1 x2 x3) := by intro h; first | rfl | cases h
theorem sub (x0 : _) (x1 : _) (x2 : _) (x3 : _) : Statement (.sub x0 x1 x2 x3) := by intro h; first | rfl | cases h
theorem subN (x0 : _) (x1 : _) (x2 : _) (x3 : _) : Statement (.subN x0 x1 x2 x3) := by intro h; first | rfl | cases h
theorem and (x0 : _) (x1 : _) (x2 : _) (x3 : _) : Statement (.and x0 x1 x2 x3) := by intro h; first | rfl | cases h
theorem ior (x0 : _) (x1 : _) (x2 : _) (x3 : _) : Statement (.ior x0 x1 x2 x3) := by intro h; first | rfl | cases h
theorem eor (x0 : _) (x1 : _) (x2 : _) (x3 : _) : Statement (.eor x0 x1 x2 x3) := by intro h; first | rfl | cases h
theorem andc (x0 : _) (x1 : _) (x2 : _) (x3 : _) : Statement (.andc x0 x1 x2 x3) := by intro h; first | rfl | cases h
theorem iorc (x0 : _) (x1 : _) (x2 : _) (x3 : _) : Statement (.iorc x0 x1 x2 x3) := by intro h; first | rfl | cases h
theorem shl (x0 : _) (x1 : _) (x2 : _) (x3 : _) : Statement (.shl x0 x1 x2 x3) := by intro h; first | rfl | cases h
theorem shlN (x0 : _) (x1 : _) (x2 : _) (x3 : _) : Statement (.shlN x0 x1 x2 x3) := by intro h; first | rfl | cases h
theorem shr (x0 : _) (x1 : _) (x2 : _) (x3 : _) : Statement (.shr x0 x1 x2 x3) := by intro h; first | rfl | cases h
theorem shrN (x0 : _) (x1 : _) (x2 : _) (x3 : _) : Statement (.shrN x0 x1 x2 x3) := by intro h; first | rfl | cases h
theorem sar (x0 : _) (x1 : _) (x2 : _) (x3 : _) : Statement (.sar x0 x1 x2 x3) := by intro h; first | rfl | cases h
theorem sarN (x0 : _) (x1 : _) (x2 : _) (x3 : _) : Statement (.sarN x0 x1 x2 x3) := by intro h; first | rfl | cases h
theorem ror (x0 : _) (x1 : _) (x2 : _) (x3 : _) : Statement (.ror x0 x1 x2 x3) := by intro h; first | rfl | cases h
theorem rorN (x0 : _) (x1 : _) (x2 : _) (x3 : _) : Statement (.rorN x0 x1 x2 x3) := by intro h; first | rfl | cases h
theorem cmps (x0 : _) (x1 : _) (x2 : _) (x3 : _) : Statement (.cmps x0 x1 x2 x3) := by intro h; first | rfl | cases h
theorem cmpu (x0 : _) (x1 : _) (x2 : _) (x3 : _) : Statement (.cmpu x0 x1 x2 x3) := by intro h; first | rfl | cases h
theorem mins (x0 : _) (x1 : _) (x2 : _) (x3 : _) : Statement (.mins x0 x1 x2 x3) := by intro h; first | rfl | cases h
theorem maxs (x0 : _) (x1 : _) (x2 : _) (x3 : _) : Statement (.maxs x0 x1 x2 x3) := by intro h; first | rfl | cases h
theorem minu (x0 : _) (x1 : _) (x2 : _) (x3 : _) : Statement (.minu x0 x1 x2 x3) := by intro h; first | rfl | cases h
theorem maxu (x0 : _) (x1 : _) (x2 : _) (x3 : _) : Statement (.maxu x0 x1 x2 x3) := by intro h; first | rfl | cases h
theorem extu (x0 : _) (x1 : _) (x2 : _) (x3 : _) : Statement (.extu x0 x1 x2 x3) := by intro h; first | rfl | cases h
theorem exts (x0 : _) (x1 : _) (x2 : _) (x3 : _) : Statement (.exts x0 x1 x2 x3) := by intro h; first | rfl | cases h
theorem cntlz (x0 : _) (x1 : _) (x2 : _) : Statement (.cntlz x0 x1 x2) := by intro h; first | rfl | cases h
theorem cnttz (x0 : _) (x1 : _) (x2 : _) : Statement (.cnttz x0 x1 x2) := by intro h; first | rfl | cases h
theorem cntone (x0 : _) (x1 : _) (x2 : _) : Statement (.cntone x0 x1 x2) := by intro h; first | rfl | cases h
theorem revb (x0 : _) (x1 : _) (x2 : _) : Statement (.revb x0 x1 x2) := by intro h; first | rfl | cases h
theorem addi (x0 : _) (x1 : _) (x2 : _) (x3 : _) : Statement (.addi x0 x1 x2 x3) := by intro h; first | rfl | cases h
theorem andi (x0 : _) (x1 : _) (x2 : _) (x3 : _) : Statement (.andi x0 x1 x2 x3) := by intro h; first | rfl | cases h
theorem iori (x0 : _) (x1 : _) (x2 : _) (x3 : _) : Statement (.iori x0 x1 x2 x3) := by intro h; first | rfl | cases h
theorem eori (x0 : _) (x1 : _) (x2 : _) (x3 : _) : Statement (.eori x0 x1 x2 x3) := by intro h; first | rfl | cases h
theorem cmpsi (x0 : _) (x1 : _) (x2 : _) (x3 : _) : Statement (.cmpsi x0 x1 x2 x3) := by intro h; first | rfl | cases h
theorem cmpui (x0 : _) (x1 : _) (x2 : _) (x3 : _) : Statement (.cmpui x0 x1 x2 x3) := by intro h; first | rfl | cases h
theorem addiN (x0 : _) (x1 : _) (x2 : _) (x3 : _) : Statement (.addiN x0 x1 x2 x3) := by intro h; first | rfl | cases h
theorem shi (x0 : _) (x1 : _) (x2 : _) (x3 : _) : Statement (.shi x0 x1 x2 x3) := by intro h; first | rfl | cases h
theorem setq (x0 : _) (x1 : _) (x2 : _) (x3 : _) : Statement (.setq x0 x1 x2 x3) := by intro h; first | rfl | cases h
theorem addpc (x0 : _) (x1 : _) (x2 : _) : Statement (.addpc x0 x1 x2) := by intro h; first | rfl | cases h
theorem mlo (x0 : _) (x1 : _) (x2 : _) (x3 : _) : Statement (.mlo x0 x1 x2 x3) := by intro h; first | rfl | cases h
theorem mloN (x0 : _) (x1 : _) (x2 : _) (x3 : _) : Statement (.mloN x0 x1 x2 x3) := by intro h; first | rfl | cases h
theorem mhi (x0 : _) (x1 : _) (x2 : _) (x3 : _) : Statement (.mhi x0 x1 x2 x3) := by intro h; first | rfl | cases h
theorem mhiu (x0 : _) (x1 : _) (x2 : _) (x3 : _) : Statement (.mhiu x0 x1 x2 x3) := by intro h; first | rfl | cases h
theorem mhisu (x0 : _) (x1 : _) (x2 : _) (x3 : _) : Statement (.mhisu x0 x1 x2 x3) := by intro h; first | rfl | cases h
theorem quo (x0 : _) (x1 : _) (x2 : _) (x3 : _) : Statement (.quo x0 x1 x2 x3) := by intro h; first | rfl | cases h
theorem quoN (x0 : _) (x1 : _) (x2 : _) (x3 : _) : Statement (.quoN x0 x1 x2 x3) := by intro h; first | rfl | cases h
theorem quou (x0 : _) (x1 : _) (x2 : _) (x3 : _) : Statement (.quou x0 x1 x2 x3) := by intro h; first | rfl | cases h
theorem quouN (x0 : _) (x1 : _) (x2 : _) (x3 : _) : Statement (.quouN x0 x1 x2 x3) := by intro h; first | rfl | cases h
theorem rem (x0 : _) (x1 : _) (x2 : _) (x3 : _) : Statement (.rem x0 x1 x2 x3) := by intro h; first | rfl | cases h
theorem remN (x0 : _) (x1 : _) (x2 : _) (x3 : _) : Statement (.remN x0 x1 x2 x3) := by intro h; first | rfl | cases h
theorem remu (x0 : _) (x1 : _) (x2 : _) (x3 : _) : Statement (.remu x0 x1 x2 x3) := by intro h; first | rfl | cases h
theorem remuN (x0 : _) (x1 : _) (x2 : _) (x3 : _) : Statement (.remuN x0 x1 x2 x3) := by intro h; first | rfl | cases h
theorem mod (x0 : _) (x1 : _) (x2 : _) (x3 : _) : Statement (.mod x0 x1 x2 x3) := by intro h; first | rfl | cases h
theorem modN (x0 : _) (x1 : _) (x2 : _) (x3 : _) : Statement (.modN x0 x1 x2 x3) := by intro h; first | rfl | cases h
theorem lb (x0 : _) (x1 : _) (x2 : _) (x3 : _) : Statement (.lb x0 x1 x2 x3) := by intro h; first | rfl | cases h
theorem lh (x0 : _) (x1 : _) (x2 : _) (x3 : _) : Statement (.lh x0 x1 x2 x3) := by intro h; first | rfl | cases h
theorem lw (x0 : _) (x1 : _) (x2 : _) (x3 : _) : Statement (.lw x0 x1 x2 x3) := by intro h; first | rfl | cases h
theorem ld (x0 : _) (x1 : _) (x2 : _) (x3 : _) : Statement (.ld x0 x1 x2 x3) := by intro h; first | rfl | cases h
theorem lbu (x0 : _) (x1 : _) (x2 : _) (x3 : _) : Statement (.lbu x0 x1 x2 x3) := by intro h; first | rfl | cases h
theorem lhu (x0 : _) (x1 : _) (x2 : _) (x3 : _) : Statement (.lhu x0 x1 x2 x3) := by intro h; first | rfl | cases h
theorem lwu (x0 : _) (x1 : _) (x2 : _) (x3 : _) : Statement (.lwu x0 x1 x2 x3) := by intro h; first | rfl | cases h
theorem sb (x0 : _) (x1 : _) (x2 : _) (x3 : _) : Statement (.sb x0 x1 x2 x3) := by intro h; first | rfl | cases h
theorem sh (x0 : _) (x1 : _) (x2 : _) (x3 : _) : Statement (.sh x0 x1 x2 x3) := by intro h; first | rfl | cases h
theorem sw (x0 : _) (x1 : _) (x2 : _) (x3 : _) : Statement (.sw x0 x1 x2 x3) := by intro h; first | rfl | cases h
theorem sd (x0 : _) (x1 : _) (x2 : _) (x3 : _) : Statement (.sd x0 x1 x2 x3) := by intro h; first | rfl | cases h
theorem beq (x0 : _) (x1 : _) (x2 : _) (x3 : _) : Statement (.beq x0 x1 x2 x3) := by intro h; first | rfl | cases h
theorem bne (x0 : _) (x1 : _) (x2 : _) (x3 : _) : Statement (.bne x0 x1 x2 x3) := by intro h; first | rfl | cases h
theorem blt (x0 : _) (x1 : _) (x2 : _) (x3 : _) : Statement (.blt x0 x1 x2 x3) := by intro h; first | rfl | cases h
theorem bge (x0 : _) (x1 : _) (x2 : _) (x3 : _) : Statement (.bge x0 x1 x2 x3) := by intro h; first | rfl | cases h
theorem bltu (x0 : _) (x1 : _) (x2 : _) (x3 : _) : Statement (.bltu x0 x1 x2 x3) := by intro h; first | rfl | cases h
theorem bgeu (x0 : _) (x1 : _) (x2 : _) (x3 : _) : Statement (.bgeu x0 x1 x2 x3) := by intro h; first | rfl | cases h
theorem j (x0 : _) (x1 : _) : Statement (.j x0 x1) := by intro h; first | rfl | cases h
theorem jl (x0 : _) (x1 : _) : Statement (.jl x0 x1) := by intro h; first | rfl | cases h
theorem jlr (x0 : _) (x1 : _) (x2 : _) (x3 : _) : Statement (.jlr x0 x1 x2 x3) := by intro h; first | rfl | cases h
theorem ll (x0 : _) (x1 : _) (x2 : _) (x3 : _) (x4 : _) : Statement (.ll x0 x1 x2 x3 x4) := by intro h; first | rfl | cases h
theorem sc (x0 : _) (x1 : _) (x2 : _) (x3 : _) (x4 : _) : Statement (.sc x0 x1 x2 x3 x4) := by intro h; first | rfl | cases h
theorem swap (x0 : _) (x1 : _) (x2 : _) (x3 : _) (x4 : _) : Statement (.swap x0 x1 x2 x3 x4) := by intro h; first | rfl | cases h
theorem atomicAdd (x0 : _) (x1 : _) (x2 : _) (x3 : _) (x4 : _) : Statement (.atomicAdd x0 x1 x2 x3 x4) := by intro h; first | rfl | cases h
theorem atomicAnd (x0 : _) (x1 : _) (x2 : _) (x3 : _) (x4 : _) : Statement (.atomicAnd x0 x1 x2 x3 x4) := by intro h; first | rfl | cases h
theorem atomicOr (x0 : _) (x1 : _) (x2 : _) (x3 : _) (x4 : _) : Statement (.atomicOr x0 x1 x2 x3 x4) := by intro h; first | rfl | cases h
theorem atomicXor (x0 : _) (x1 : _) (x2 : _) (x3 : _) (x4 : _) : Statement (.atomicXor x0 x1 x2 x3 x4) := by intro h; first | rfl | cases h
theorem atomicMin (x0 : _) (x1 : _) (x2 : _) (x3 : _) (x4 : _) : Statement (.atomicMin x0 x1 x2 x3 x4) := by intro h; first | rfl | cases h
theorem atomicMax (x0 : _) (x1 : _) (x2 : _) (x3 : _) (x4 : _) : Statement (.atomicMax x0 x1 x2 x3 x4) := by intro h; first | rfl | cases h
theorem atomicMinu (x0 : _) (x1 : _) (x2 : _) (x3 : _) (x4 : _) : Statement (.atomicMinu x0 x1 x2 x3 x4) := by intro h; first | rfl | cases h
theorem atomicMaxu (x0 : _) (x1 : _) (x2 : _) (x3 : _) (x4 : _) : Statement (.atomicMaxu x0 x1 x2 x3 x4) := by intro h; first | rfl | cases h
theorem cas (x0 : _) (x1 : _) (x2 : _) (x3 : _) (x4 : _) : Statement (.cas x0 x1 x2 x3 x4) := by intro h; first | rfl | cases h
theorem fence (x0 : _) : Statement (.fence x0) := by intro h; first | rfl | cases h
theorem reservedOpcode (x0 : _) (x1 : _) : Statement (.reservedOpcode x0 x1) := by intro h; first | rfl | cases h
theorem postedStoreError (x0 : _) : Statement (.postedStoreError x0) := by intro h; first | rfl | cases h
theorem interruptTaken (x0 : _) : Statement (.interruptTaken x0) := by intro h; first | rfl | cases h
theorem timecmpReached (x0 : _) : Statement (.timecmpReached x0) := by intro h; first | rfl | cases h
theorem push (x0 : _) (x1 : _) (x2 : _) (x3 : _) : Statement (.push x0 x1 x2 x3) := by intro h; first | rfl | cases h
theorem pusht (x0 : _) (x1 : _) (x2 : _) (x3 : _) : Statement (.pusht x0 x1 x2 x3) := by intro h; first | rfl | cases h
theorem pop (x0 : _) (x1 : _) (x2 : _) (x3 : _) : Statement (.pop x0 x1 x2 x3) := by intro h; first | rfl | cases h
theorem popt (x0 : _) (x1 : _) (x2 : _) (x3 : _) : Statement (.popt x0 x1 x2 x3) := by intro h; first | rfl | cases h
theorem count (x0 : _) (x1 : _) (x2 : _) : Statement (.count x0 x1 x2) := by intro h; first | rfl | cases h
theorem resv (x0 : _) (x1 : _) (x2 : _) : Statement (.resv x0 x1 x2) := by intro h; first | rfl | cases h
theorem rels (x0 : _) (x1 : _) (x2 : _) : Statement (.rels x0 x1 x2) := by intro h; first | rfl | cases h
theorem note (x0 : _) (x1 : _) (x2 : _) (x3 : _) : Statement (.note x0 x1 x2 x3) := by intro h; first | rfl | cases h
theorem lightpipeWaitGranted (x0 : _) : Statement (.lightpipeWaitGranted x0) := by intro h; first | rfl | cases h
theorem notificationFire (x0 : _) : Statement (.notificationFire x0) := by intro h; first | rfl | cases h
theorem armAction (x0 : _) (x1 : _) (x2 : _) (x3 : _) : Statement (.armAction x0 x1 x2 x3) := by intro h; first | rfl | cases h
theorem acancel (x0 : _) (x1 : _) (x2 : _) : Statement (.acancel x0 x1 x2) := by intro h; first | rfl | cases h
theorem astat (x0 : _) (x1 : _) (x2 : _) : Statement (.astat x0 x1 x2) := by intro h; first | rfl | cases h
theorem rdang (x0 : _) (x1 : _) (x2 : _) : Statement (.rdang x0 x1 x2) := by intro h; first | rfl | cases h
theorem rdwt (x0 : _) (x1 : _) : Statement (.rdwt x0 x1) := by intro h; first | rfl | cases h
theorem debit (x0 : _) (x1 : _) (x2 : _) (x3 : _) (x4 : _) : Statement (.debit x0 x1 x2 x3 x4) := by intro h; first | rfl | cases h
theorem credit (x0 : _) (x1 : _) (x2 : _) (x3 : _) : Statement (.credit x0 x1 x2 x3) := by intro h; first | rfl | cases h
theorem withdraw (x0 : _) (x1 : _) (x2 : _) : Statement (.withdraw x0 x1 x2) := by intro h; first | rfl | cases h
theorem lquery (x0 : _) (x1 : _) (x2 : _) : Statement (.lquery x0 x1 x2) := by intro h; first | rfl | cases h
theorem adebit (x0 : _) (x1 : _) (x2 : _) (x3 : _) : Statement (.adebit x0 x1 x2 x3) := by intro h; first | rfl | cases h
theorem adebitGranted (x0 : _) : Statement (.adebitGranted x0) := by intro h; first | rfl | cases h
theorem crr (x0 : _) (x1 : _) (x2 : _) : Statement (.crr x0 x1 x2) := by intro h; first | rfl | cases h
theorem crw (x0 : _) (x1 : _) (x2 : _) (x3 : _) : Statement (.crw x0 x1 x2 x3) := by intro h; first | rfl | cases h
theorem crs (x0 : _) (x1 : _) (x2 : _) (x3 : _) : Statement (.crs x0 x1 x2 x3) := by intro h; first | rfl | cases h
theorem crc (x0 : _) (x1 : _) (x2 : _) (x3 : _) : Statement (.crc x0 x1 x2 x3) := by intro h; first | rfl | cases h
theorem tret (x0 : _) : Statement (.tret x0) := by intro h; first | rfl | cases h
theorem syscall (x0 : _) (x1 : _) : Statement (.syscall x0 x1) := by intro h; first | rfl | cases h
theorem brk (x0 : _) : Statement (.brk x0) := by intro h; first | rfl | cases h
theorem icinv (x0 : _) (x1 : _) (x2 : _) : Statement (.icinv x0 x1 x2) := by intro h; first | rfl | cases h
theorem wseq (x0 : _) (x1 : _) : Statement (.wseq x0 x1) := by intro h; first | rfl | cases h
theorem wait (x0 : _) : Statement (.wait x0) := by intro h; first | rfl | cases h
theorem waitResume (x0 : _) : Statement (.waitResume x0) := by intro h; first | rfl | cases h
theorem imgver (x0 : _) (x1 : _) (x2 : _) (x3 : _) : Statement (.imgver x0 x1 x2 x3) := by intro h; first | rfl | cases h
theorem cacheFill (x0 : _) (x1 : _) : Statement (.cacheFill x0 x1) := by intro h; first | rfl | cases h
theorem wayLock (x0 : _) : Statement (.wayLock x0) := by intro h; first | rfl | cases h
theorem rangeClean (x0 : _) : Statement (.rangeClean x0) := by intro h; first | rfl | cases h
theorem rangeInvalidate (x0 : _) : Statement (.rangeInvalidate x0) := by intro h; first | rfl | cases h
theorem rangeCleanInv (x0 : _) : Statement (.rangeCleanInv x0) := by intro h; first | rfl | cases h
theorem rangePreload (x0 : _) (x1 : _) : Statement (.rangePreload x0 x1) := by intro h; first | rfl | cases h
theorem rangeOperationDone : Statement (.rangeOperationDone) := by intro h; first | rfl | cases h
theorem wayGroupOff (x0 : _) : Statement (.wayGroupOff x0) := by intro h; first | rfl | cases h
theorem wayGroupOn (x0 : _) : Statement (.wayGroupOn x0) := by intro h; first | rfl | cases h
theorem wayGroupChangeDone : Statement (.wayGroupChangeDone) := by intro h; first | rfl | cases h
theorem cacheDisable : Statement (.cacheDisable) := by intro h; first | rfl | cases h
theorem cacheDisableDone : Statement (.cacheDisableDone) := by intro h; first | rfl | cases h
theorem cacheEnable : Statement (.cacheEnable) := by intro h; first | rfl | cases h
theorem cacheEnableDone : Statement (.cacheEnableDone) := by intro h; first | rfl | cases h
theorem memoryScrub (x0 : _) (x1 : _) : Statement (.memoryScrub x0 x1) := by intro h; first | rfl | cases h
theorem vitalWordCheck : Statement (.vitalWordCheck) := by intro h; first | rfl | cases h
theorem jseqWrite (x0 : _) : Statement (.jseqWrite x0) := by intro h; first | rfl | cases h
theorem reservationCommit (x0 : _) : Statement (.reservationCommit x0) := by intro h; first | rfl | cases h
theorem dmaArm (x0 : _) : Statement (.dmaArm x0) := by intro h; first | rfl | cases h
theorem dmaDescriptorPop (x0 : _) : Statement (.dmaDescriptorPop x0) := by intro h; first | rfl | cases h
theorem shadowLoad (x0 : _) : Statement (.shadowLoad x0) := by intro h; first | rfl | cases h
theorem dmaCopy (x0 : _) : Statement (.dmaCopy x0) := by intro h; first | rfl | cases h
theorem dmaFill (x0 : _) : Statement (.dmaFill x0) := by intro h; first | rfl | cases h
theorem dmaBurstGrant (x0 : _) (x1 : _) : Statement (.dmaBurstGrant x0 x1) := by intro h; first | rfl | cases h
theorem dmaBusError (x0 : _) (x1 : _) (x2 : _) : Statement (.dmaBusError x0 x1 x2) := by intro h; first | rfl | cases h
theorem dmaCompletion (x0 : _) : Statement (.dmaCompletion x0) := by intro h; first | rfl | cases h
theorem dmaCompletionPush (x0 : _) : Statement (.dmaCompletionPush x0) := by intro h; first | rfl | cases h
theorem dmaErrClear (x0 : _) : Statement (.dmaErrClear x0) := by intro h; first | rfl | cases h
theorem dmaChannelDisable (x0 : _) : Statement (.dmaChannelDisable x0) := by intro h; first | rfl | cases h
theorem dmaEngineDisable (x0 : _) : Statement (.dmaEngineDisable x0) := by intro h; first | rfl | cases h
theorem flashRead : Statement (.flashRead) := by intro h; first | rfl | cases h
theorem flashProgram : Statement (.flashProgram) := by intro h; first | rfl | cases h
theorem flashErase : Statement (.flashErase) := by intro h; first | rfl | cases h
theorem sfdpRead : Statement (.sfdpRead) := by intro h; first | rfl | cases h
theorem flashOperationDone (x0 : _) : Statement (.flashOperationDone x0) := by intro h; first | rfl | cases h
theorem enableCheck : Statement (.enableCheck) := by intro h; first | rfl | cases h
theorem cfgDisable : Statement (.cfgDisable) := by intro h; first | rfl | cases h
theorem boot (x0 : _) : Statement (.boot x0) := by intro h; first | rfl | cases h
theorem imageSwitch (x0 : _) : Statement (.imageSwitch x0) := by intro h; first | rfl | cases h
theorem hierarchyTick : Statement (.hierarchyTick) := by intro h; first | rfl | cases h
theorem beacon (x0 : _) (x1 : _) (x2 : _) : Statement (.beacon x0 x1 x2) := by intro h; first | rfl | cases h
theorem census (x0 : _) (x1 : _) : Statement (.census x0 x1) := by intro h; first | rfl | cases h
theorem grant (x0 : _) (x1 : _) (x2 : _) : Statement (.grant x0 x1 x2) := by intro h; first | rfl | cases h
theorem tokenReq (x0 : _) (x1 : _) : Statement (.tokenReq x0 x1) := by intro h; first | rfl | cases h
theorem token (x0 : _) (x1 : _) : Statement (.token x0 x1) := by intro h; first | rfl | cases h
theorem tokenRet (x0 : _) (x1 : _) : Statement (.tokenRet x0 x1) := by intro h; first | rfl | cases h
theorem takeover : Statement (.takeover) := by intro h; first | rfl | cases h
theorem beaconLossFence : Statement (.beaconLossFence) := by intro h; first | rfl | cases h
theorem tokenLeaseExpiry (x0 : _) : Statement (.tokenLeaseExpiry x0) := by intro h; first | rfl | cases h
theorem publish : Statement (.publish) := by intro h; first | rfl | cases h
theorem eventEntry (x0 : _) : Statement (.eventEntry x0) := by intro h; first | rfl | cases h
theorem evrSummary : Statement (.evrSummary) := by intro h; first | rfl | cases h
theorem evrLost (x0 : _) : Statement (.evrLost x0) := by intro h; first | rfl | cases h
theorem freeze (x0 : _) : Statement (.freeze x0) := by intro h; first | rfl | cases h
theorem freezeTimeout : Statement (.freezeTimeout) := by intro h; first | rfl | cases h
theorem logDrain (x0 : _) : Statement (.logDrain x0) := by intro h; first | rfl | cases h
theorem eventFlush (x0 : _) : Statement (.eventFlush x0) := by intro h; first | rfl | cases h
theorem eventFlushDone : Statement (.eventFlushDone) := by intro h; first | rfl | cases h
theorem macVerify : Statement (.macVerify) := by intro h; first | rfl | cases h
theorem quiesce (x0 : _) (x1 : _) : Statement (.quiesce x0 x1) := by intro h; first | rfl | cases h
theorem domReset (x0 : _) (x1 : _) : Statement (.domReset x0 x1) := by intro h; first | rfl | cases h
theorem domOff (x0 : _) (x1 : _) : Statement (.domOff x0 x1) := by intro h; first | rfl | cases h
theorem domOn (x0 : _) (x1 : _) : Statement (.domOn x0 x1) := by intro h; first | rfl | cases h
theorem domReturn (x0 : _) (x1 : _) : Statement (.domReturn x0 x1) := by intro h; first | rfl | cases h
theorem drainDone (x0 : _) : Statement (.drainDone x0) := by intro h; first | rfl | cases h
theorem drainTimeout (x0 : _) : Statement (.drainTimeout x0) := by intro h; first | rfl | cases h
theorem coreRelease (x0 : _) : Statement (.coreRelease x0) := by intro h; first | rfl | cases h
theorem coldReset (x0 : _) (x1 : _) : Statement (.coldReset x0 x1) := by intro h; first | rfl | cases h
theorem warmReset (x0 : _) : Statement (.warmReset x0) := by intro h; first | rfl | cases h
theorem forcedWarmReset (x0 : _) : Statement (.forcedWarmReset x0) := by intro h; first | rfl | cases h
theorem warmResetDrainTimeout : Statement (.warmResetDrainTimeout) := by intro h; first | rfl | cases h
theorem watchdog : Statement (.watchdog) := by intro h; first | rfl | cases h
theorem kick : Statement (.kick) := by intro h; first | rfl | cases h
theorem smbusRead (x0 : _) : Statement (.smbusRead x0) := by intro h; first | rfl | cases h
theorem smbusWrite (x0 : _) (x1 : _) : Statement (.smbusWrite x0 x1) := by intro h; first | rfl | cases h
theorem smbusAlertResponse : Statement (.smbusAlertResponse) := by intro h; first | rfl | cases h
theorem startBrakeEnd (x0 : _) : Statement (.startBrakeEnd x0) := by intro h; first | rfl | cases h
theorem dataHoldExpiry (x0 : _) (x1 : _) : Statement (.dataHoldExpiry x0 x1) := by intro h; first | rfl | cases h
theorem registerRead (x0 : _) (x1 : _) (x2 : _) : Statement (.registerRead x0 x1 x2) := by intro h; first | rfl | cases h
theorem fuseCommandDone (x0 : _) : Statement (.fuseCommandDone x0) := by intro h; first | rfl | cases h
theorem entropyFaultClear : Statement (.entropyFaultClear) := by intro h; first | rfl | cases h
theorem porNLow : Statement (.porNLow) := by intro h; first | rfl | cases h
theorem clockReturn (x0 : _) : Statement (.clockReturn x0) := by intro h; first | rfl | cases h
theorem btCommandDone : Statement (.btCommandDone) := by intro h; first | rfl | cases h
theorem enableCheckDone : Statement (.enableCheckDone) := by intro h; first | rfl | cases h
theorem serviceTimeHalving : Statement (.serviceTimeHalving) := by intro h; first | rfl | cases h

end Sys2Proof.Laws.Wf
end

