-- ==== Sys2Proof/Tests/Slice0.lean ====
section
/-! SUPPORT. The author's own tests: ill-formed terms are refused, single steps give what the spec says, and every
statement's hypotheses can be met (one theorem `witness_<Name>` for each statement that has hypotheses). -/
namespace Sys2Proof.Tests
open Sys2Proof Sys2Proof.Machine
set_option maxRecDepth 20000

/-- A core 0 with a record. -/
def withCore0 (k : CoreSt) : State := State.reset.setCore 0 k
/-- An O-level core 0 that may fetch, read and write every page, and use lightpipe 5. -/
def oCore : CoreSt :=
  { priv := false, mpuLo := [(0, 0x0000000F), (1, 0x00005017)], mpuHi := [(0, 0xFFFFFFF000), (1, 0x5000)] }
/-- SRAM's first address in g1, 2 in g2, 3 in g3. -/
def regs123 : SMap Word := [(1, 0x10000000), (2, 2), (3, 3)]
/-- A lightpipe with entries and credits. -/
def withLp (n : Nat) (e : List Entry) (free : Nat) (s : State := State.reset) : State := s.setLp n { entries := e, free := free }
/-- Fields written. -/
def putAll (l : List (Fld × Nat)) (s : State) : State := l.foldl (fun s p => s.wr p.1 p.2) s
/-- An entry of fields. -/
def entry (l : List (Nat × Nat × Nat)) : Entry := mkEntry l

/-- A good upstream frame: its CRC is that of its body (R76, R87). -/
def goodFrame : UpFrame := { crc := crc32c (upBody {}) }
theorem goodFrame_good : upGood goodFrame = true := by simp [upGood, goodFrame, upBody]

/-- A packet of session 0's first epoch under an empty PRK, with its true tag (R308). -/
def okPkt (kind : BitVec 4) (plain : List Byte) (plen : Nat := 0) : Pkt :=
  { kind := kind, epoch := 1, pn := 1, plen := plen, tag := packetTag [] { kind := kind, epoch := 1, pn := 1, plen := plen } plain }

/-- Every bay has at most 12 heads where one bay's identity block says so. -/
theorem counted_one (s : State) (x : BeamSt) (h : s.beam = []) (h0 : x.id.heads0 ≤ 12) (h1 : x.id.heads1 ≤ 12) :
    ∀ i a, (s.setBeam 0 x).headCount i a ≤ 12 := by
  intro i a
  show (if a = 0 then (smGet {} (smSet {} s.beam 0 x) i).id.heads0 else (smGet {} (smSet {} s.beam 0 x) i).id.heads1) ≤ 12
  rw [smGet_smSet, h]
  split <;> split <;> first | exact h0 | exact h1 | exact Nat.zero_le 12

/-- BAND and INDEX in the metadata of a sector all of one byte. -/
theorem flat_band (b : Byte) : ((List.replicate 4160 b).drop 4112).take 4 = List.replicate 4 b := by simp
theorem flat_index (b : Byte) : ((List.replicate 4160 b).drop 4116).take 4 = List.replicate 4 b := by simp

/-- SRAM memory of a state that bypasses the cache and holds no error is plain. -/
theorem plain_sram (s : State) (h : s.on LC_STAT_BYPASS = true) (e : s.memErr = []) : s.plainMem 0x10000000 4160 := by
  refine ⟨h, fun i hi => ⟨?_, ?_, ?_⟩⟩
  · simp [inMemRange, isSram]; omega
  · simp [State.isMem, isSram]; omega
  · rw [e]; rfl
/-- The one buffer of a cipher job at SRAM's first address is plain memory. -/
theorem plain_one (s : State) (j : Entry) (h : s.on LC_STAT_BYPASS = true) (e : s.memErr = []) (n : j.at 80 16 = 1)
    (a : j.at 128 64 = 0x10000000) : ∀ i, i < j.at 80 16 → s.plainMem (jobBuf j i) 4160 := by
  intro i hi
  have h0 : i = 0 := by omega
  subst h0
  simpa [jobBuf, a] using plain_sram s h e

/-! ### Ill-formed terms: one for each check of `Instr.wf` (log entry 49) -/

theorem test_wf_upstreamFrame_three_servo_values : (Instr.upstreamFrame 0 0 { servo := [0, 0, 0] }).wf = false := by decide
theorem test_wf_upstreamFrame_three_phase_values : (Instr.upstreamFrame 0 0 { phase := [0, 0, 0] }).wf = false := by decide
theorem test_wf_upstreamFrame_seven_responses : (Instr.upstreamFrame 0 0 { responses := List.replicate 7 0 }).wf = false := by decide
theorem test_wf_upstreamFrame_1153_samples : (Instr.upstreamFrame 0 0 { samp := List.replicate 1153 0 }).wf = false := by
  simp [Instr.wf, UpFrame.wf]
theorem test_wf_sectorDecode_no_codeword : (Instr.sectorDecode 0 {}).wf = false := by decide
theorem test_wf_deferredDecode_short : (Instr.deferredDecode 0 0 { word := [0] }).wf = false := by decide
theorem test_wf_retryStep_one_short : (Instr.retryStep 0 [{ word := [0] }]).wf = false := by decide
theorem test_wf_bypass_code_of_extest : (Instr.bypass 0x00).wf = false := by decide
theorem test_wf_bypass_code_of_loupe : (Instr.bypass 0x80).wf = false := by decide
theorem test_wf_loupeFunction_65_bytes : (Instr.loupeFunction 1 (.writeMem 0 (List.replicate 65 0))).wf = false := by decide
theorem test_wf_reservedOpcode_of_add : (Instr.reservedOpcode 0 0x00000001).wf = false := by decide
theorem test_wf_plain_commands : (Instr.miss 0).wf = true ∧ (Instr.bypass 0xFF).wf = true ∧ (Instr.reservedOpcode 0 0).wf = true := by
  decide

/-! ### Single steps; the expected values are worked out by hand from the rule named -/

/-- What a command leaves, read through `f`; none where it does not go on. -/
def after {α : Type} (i : Instr) (s : State) (f : State → α) : Option α :=
  match exec i s with
  | .next t => some (f t)
  | _ => none
/-- Core 0 with −7 in g1, 2 in g2 and SRAM's first address in g3. -/
def core7 : State := withCore0 { g := [(1, 0xFFFFFFFFFFFFFFF9), (2, 2), (3, 0x10000000)] }
/-- Register 4 of core 0 after a command. -/
def g4 (i : Instr) (s : State := core7) : Option Word := after i s fun t => t.g 0 4

/-- R436's example. -/
theorem test_quo_example : g4 (.quo 0 4 1 2) = some 0xFFFFFFFFFFFFFFFD := by decide
theorem test_rem_example : g4 (.rem 0 4 1 2) = some 0xFFFFFFFFFFFFFFFF := by decide
theorem test_mod_example : g4 (.mod 0 4 1 2) = some 1 := by decide
/-- R436: the most negative value over −1. -/
theorem test_quo_most_negative :
    g4 (.quo 0 4 1 2) (withCore0 { g := [(1, 0x8000000000000000), (2, 0xFFFFFFFFFFFFFFFF)] }) = some 0x8000000000000000 := by decide
/-- R436: a divisor of 0 raises ARITH (0x0B) and leaves rd. -/
theorem test_quo_by_zero : after (.quo 0 4 1 0) core7 (fun t => ((t.core 0).cause, t.g 0 4)) = some (0x0B, 0) := by decide
/-- R434. -/
theorem test_add_narrow_wraps : g4 (.addN 0 4 1 2) (withCore0 { g := [(1, 0x7FFFFFFF), (2, 1)] }) = some 0xFFFFFFFF80000000 := by decide
theorem test_ror : g4 (.ror 0 4 1 2) (withCore0 { g := [(1, 5), (2, 1)] }) = some 0x8000000000000002 := by decide
theorem test_extu_past_bit_63 : g4 (.extu 0 4 1 2) (withCore0 { g := [(1, 0xF000000000000000), (2, 0x083C)] }) = some 0xF := by decide
theorem test_exts : g4 (.exts 0 4 1 2) (withCore0 { g := [(1, 0x80), (2, 0x0404)] }) = some 0xFFFFFFFFFFFFFFF8 := by decide
theorem test_revb : g4 (.revb 0 4 1) (withCore0 { g := [(1, 0x0102030405060708)] }) = some 0x0807060504030201 := by decide
/-- R425: g0 reads 0 and discards writes. -/
theorem test_add_to_g0 : after (.add 0 0 1 2) core7 (fun t => t.g 0 0) = some 0 := by decide
/-- R435: SETQ with q = 3. -/
theorem test_setq : g4 (.setq 0 4 3 0x8001) = some 0x8001000000000000 := by decide
/-- R437: a sign-extended halfword; words lie lowest byte first. -/
theorem test_lh_sign : g4 (.lh 0 4 3 2) ((core7.setMemByte 0x10000002 0x34).setMemByte 0x10000003 0x82) = some 0xFFFFFFFFFFFF8234 := by decide
theorem test_sw_low_byte_first :
    after (.sw 0 1 3 4) core7 (fun t => (t.byteAt 0x10000003, t.byteAt 0x10000004, t.byteAt 0x10000007, t.byteAt 0x10000008))
      = some (0, 0xF9, 0xFF, 0) := by decide
/-- R438: JLR takes rs1 before it writes rd. -/
theorem test_jlr_same_register :
    after (.jlr 0 3 3 7) core7 (fun t => ((t.core 0).pc, t.g 0 3)) = some (0x10000004, 4) := by decide
theorem test_blt_signed : after (.blt 0 1 2 4) core7 (fun t => (t.core 0).pc) = some 16 := by decide
theorem test_bltu_unsigned : after (.bltu 0 1 2 4) core7 (fun t => (t.core 0).pc) = some 4 := by decide
/-- SRAM holds 7 at g3's address, the cache 9, with errors in its arrays (R488, R489). -/
def lineWith (dirty : Bool) (e : ArrayErr) : State :=
  (((core7.setMemByte 0x10000000 7).put LC_STAT_BYPASS false).setLine 0 { tag := 0x200, dirty := dirty, data := 9 }).setArrErr 0 e
theorem test_single_bit_error_corrected :
    after (.ld 0 4 3 0) (lineWith true { ce := 3 }) (fun t => (t.g 0 4, t.rd LC_CE_DATA, t.arrayErr)) = some (9, 1, [(0, { ce := 2 })]) := by decide
theorem test_double_bit_error_clean : g4 (.ld 0 4 3 0) (lineWith false { ue := 1 }) = some 7 := by decide
theorem test_double_bit_error_dirty :
    after (.ld 0 4 3 0) (lineWith true { ue := 1 }) (fun t => ((t.core 0).cause, t.on LC_STAT_DATAUE)) = some (9, true) := by decide
theorem test_tag_error_dirty :
    after (.ld 0 4 3 0) (lineWith true { tag := true }) (fun t => (t.g 0 4, t.on LC_STAT_TAGUE, t.rd LC_ERR_KIND)) = some (7, true, 1) := by decide
/-- R439: CAS that does not match leaves memory and returns what it read. -/
theorem test_cas_no_match : after (.cas 0 4 3 2 true) (core7.setMemByte 0x10000000 9) (fun t => (t.g 0 4, t.byteAt 0x10000000)) = some (9, 9) := by
  decide
theorem test_cas_match : after (.cas 0 0 3 2 true) core7 (fun t => t.byteAt 0x10000000) = some 2 := by decide
/-- R20: a lightpipe is a FIFO. -/
theorem test_lightpipe_first_in_first_out :
    after (.pop 0 4 300 0) (withLp 300 [entry [(0, 64, 5)], entry [(0, 64, 6)]] 1) (fun t => (t.lp 300).entries.map (·.at 0 64)) = some [6] := by
  decide
/-- R39: with 16 GiB installed the last valid byte is 0x13_FFFF_FFFF. -/
theorem test_last_dram_byte :
    ((State.reset.wr MEM_DRAM_SIZE 16).isDram 0x13FFFFFFFF, (State.reset.wr MEM_DRAM_SIZE 16).isDram 0x1400000000) = (true, false) := by decide
/-- The published check value of CRC-32C, over the digits 1 to 9 in ASCII. -/
theorem test_crc32c_check : crc32c [0x31, 0x32, 0x33, 0x34, 0x35, 0x36, 0x37, 0x38, 0x39] = 0xE3069283 := by decide
/-- R263: a command to the band table while BUSY answers ERR 4. -/
theorem test_btOpen_while_busy : after (.btOpen 0) (State.reset.put MEM_BT_STAT_BUSY true) (fun t => t.rd MEM_BT_STAT_ERR) = some 4 := by decide
/-- R543: a member whose digest is not allowed is fenced. -/
theorem test_beacon_fences : after (.beacon 1 7 [0]) State.reset (fun t => (t.on HIE_STAT_FENCED, t.rd HIE_TAG_EPOCH)) = some (true, 7) := by decide
/-- R571: QUIESCE of a domain that is OFF answers ERR 2. -/
theorem test_quiesce_off : after (.quiesce .loupe 131) (State.reset.wr (PWR_DOM_STATE 131) 0) (fun t => t.rd PWR_CMDSTAT_ERR) = some 2 := by decide
/-- R604: IDCODE of the 32-bay part. -/
theorem test_idcode : after .idcode State.reset (fun t => t.out.head?) = some (some (.tap 32 0x132645D3)) := by decide
/-- The step takes the front of the queue; on an empty queue 1 ns passes (log entry 4). -/
theorem test_step_idle : step State.reset = .next State.reset.idle ∧ State.reset.tick.now = 1 := ⟨rfl, by decide⟩
theorem test_step_front :
    (match step { State.reset with pending := [.smbusWrite 0x17 0x19, .idcode] } with | .next t => some (t.rd THM_CASE_T, t.pending) | _ => none)
      = some (0x1900, [.idcode]) := by decide

/-! ### Witnesses -/

/-- The hypotheses of `Obligations.EveryWellFormedCommandCompletes` can hold. -/
theorem witness_EveryWellFormedCommandCompletes :
    let i : Instr := .bypass 0x10
    i.wf = true :=
  by decide

/-- The hypotheses of `Obligations.QueueOfWellFormedCommandsRunsOn` can hold. -/
theorem witness_QueueOfWellFormedCommandsRunsOn :
    let s : State := { State.reset with pending := [.miss 0, .bypass 0x10] }
    s.queueWf :=
  by decide

/-- The hypotheses of `Obligations.EveryStepKeepsMemoryCanonical` can hold. -/
theorem witness_EveryStepKeepsMemoryCanonical :
    let s : State := State.reset.setMemByte 0x10000000 7
    let t : State := State.idle (State.reset.setMemByte 0x10000000 7)
    s.Inv ∧ step s = .next t :=
  ⟨by decide, rfl⟩

/-- The hypotheses of `Obligations.IntegerRegisterInstructions` can hold. -/
theorem witness_IntegerRegisterInstructions :
    let s₀ : State := withCore0 { g := regs123 }
    let c : Core := 0
    s₀.executes c.val :=
  by decide

/-- The hypotheses of `Obligations.FieldAndCountInstructions` can hold. -/
theorem witness_FieldAndCountInstructions :
    let s₀ : State := withCore0 { g := regs123 }
    let c : Core := 0
    s₀.executes c.val :=
  by decide

/-- The hypotheses of `Obligations.IntegerImmediateInstructions` can hold. -/
theorem witness_IntegerImmediateInstructions :
    (
    let s₀ : State := withCore0 { g := regs123 }
    let c : Core := 0
    let imm : BitVec 16 := 0xFF
    s₀.executes c.val ∧ imm.toNat < 256) ∧
    (
    let s₀ : State := withCore0 { g := regs123 }
    let c : Core := 0
    let imm : BitVec 16 := 0x100
    let n := imm.toNat % 64
    s₀.executes c.val ∧ 256 ≤ imm.toNat ∧ imm.toNat < 512 ∧ n < 32) ∧
    (
    let s₀ : State := withCore0 { g := regs123 }
    let c : Core := 0
    let imm : BitVec 16 := 0x120
    let s := s₀.afterFetch c.val
    let n := imm.toNat % 64
    s₀.executes c.val ∧ (512 ≤ imm.toNat ∨ (256 ≤ imm.toNat ∧ 32 ≤ n)) ∧ s.trapsToM c.val 0x01) :=
  ⟨by decide,
    by decide,
    by decide⟩

/-- The hypotheses of `Obligations.MultiplyAndDivideInstructions` can hold. -/
theorem witness_MultiplyAndDivideInstructions :
    (
    let s₀ : State := withCore0 { g := regs123 }
    let c : Core := 0
    let w : Word32 := 0x0400000A
    s₀.executes c.val ∧ (w.extractLsb' 26 6).toNat = 1 ∧ (w.extractLsb' 0 11).toNat ∉ [1, 2, 3, 4, 5, 6, 7, 8, 9, 0x101, 0x105, 0x106, 0x107, 0x108, 0x109]) ∧
    (
    let s₀ : State := withCore0 { g := regs123 }
    let c : Core := 0
    let rs2 : GReg := 2
    let s := s₀.afterFetch c.val
    let b := s.g c.val rs2.val
    let b32 : Word32 := b.setWidth 32
    (s.executes c.val ∧ b ≠ 0 ∧ b32 ≠ 0)) ∧
    (
    let s₀ : State := withCore0 { g := regs123 }
    let c : Core := 0
    let rs2 : GReg := 0
    let s := s₀.afterFetch c.val
    let b := s.g c.val rs2.val
    let b32 : Word32 := b.setWidth 32
    (s.executes c.val ∧ b = 0 ∧ b32 = 0 ∧ s.trapsToM c.val 0x0B)) ∧
    (
    let s₀ : State := withCore0 { oCore with odeleg := 0x800 }
    let c : Core := 0
    let rs2 : GReg := 0
    let s := s₀.afterFetch c.val
    let b := s.g c.val rs2.val
    (s.executes c.val ∧ b = 0 ∧ (s.core c.val).priv = false ∧ (s.core c.val).ota = false ∧ (s.core c.val).odeleg.getLsbD 0x0B = true)) :=
  ⟨by decide,
    by decide,
    by decide,
    by decide⟩

/-- The hypotheses of `Obligations.BranchesAndJumps` can hold. -/
theorem witness_BranchesAndJumps :
    (
    let s₀ : State := withCore0 { g := regs123 }
    let c : Core := 0
    s₀.executes c.val) ∧
    (
    let s₀ : State := withCore0 { pc := 0x20000 }
    let c : Core := 0
    let cause := 4
    let s := s₀.afterFetch c.val
    s₀.fetchTraps c.val cause ∧ s.trapsToM c.val cause) :=
  ⟨by decide,
    by decide⟩

/-- The hypotheses of `Obligations.TrapEntryToM` can hold. -/
theorem witness_TrapEntryToM :
    let s₀ : State := withCore0 { g := regs123 }
    let c : Core := 0
    let w : Word32 := 0
    let s := s₀.afterFetch c.val
    s₀.executes c.val ∧ s.trapsToM c.val 0x0C ∧ s.trapsToM c.val 0x0D ∧ s.trapsToM c.val 0x01 ∧ reservedWord w = true :=
  by decide

/-- The hypotheses of `Obligations.DelegatedTrapGoesToO` can hold. -/
theorem witness_DelegatedTrapGoesToO :
    let s₀ : State := withCore0 { oCore with odeleg := 0x2002 }
    let c : Core := 0
    let w : Word32 := 0
    let s := s₀.afterFetch c.val
    s₀.executes c.val ∧ (s.core c.val).priv = false ∧ (s.core c.val).ota = false ∧ (s.core c.val).odeleg.getLsbD 0x0D = true ∧ (s.core c.val).odeleg.getLsbD 0x01 = true ∧ reservedWord w = true :=
  by decide

/-- The hypotheses of `Obligations.DoubleTrapHaltsTheCore` can hold. -/
theorem witness_DoubleTrapHaltsTheCore :
    let s₀ : State := withCore0 { ta := true }
    let c : Core := 0
    let w : Word32 := 0
    let s := s₀.afterFetch c.val
    s₀.executes c.val ∧ (s.core c.val).priv = true ∧ (s.core c.val).ta = true ∧ reservedWord w = true :=
  by decide

/-- The hypotheses of `Obligations.IllFormedReservedOpcodeFaults` can hold. -/
theorem witness_IllFormedReservedOpcodeFaults :
    let w : Word32 := 1
    reservedWord w = false :=
  by decide

/-- The hypotheses of `Obligations.LoadsReadMemory` can hold. -/
theorem witness_LoadsReadMemory :
    (
    let s₀ : State := withCore0 { g := regs123 }
    let c : Core := 0
    s₀.executes c.val) ∧
    (
    let s₀ : State := withCore0 { g := [(1, 0x117FFFF8)] }
    let c : Core := 0
    let rs1 : GReg := 1
    let imm : BitVec 16 := 0
    let s := s₀.afterFetch c.val
    let ea := s.g c.val rs1.val + imm.signExtend 64
    (s.executes c.val ∧ ea.toNat % 8 = 0 ∧ ((s.core c.val).rights ea).getLsbD 0 = true ∧ s.plainMem ea.toNat 8)) :=
  ⟨by decide,
    by decide⟩

/-- The hypotheses of `Obligations.CachedLoadHits` can hold. -/
theorem witness_CachedLoadHits :
    (
    let s₀ : State := ((withCore0 { g := regs123 }).put LC_STAT_BYPASS false).setLine 0 { tag := 0x200, data := 0x55 }
    let c : Core := 0
    let rs1 : GReg := 1
    let imm : BitVec 16 := 0
    let w := 0
    let l := ({ tag := 0x200, data := 0x55 } : CacheLine)
    let s := s₀.afterFetch c.val
    let ea := s.g c.val rs1.val + imm.signExtend 64
    s₀.executes c.val ∧ ea.toNat % 8 = 0 ∧ ((s.core c.val).rights ea).getLsbD 0 = true ∧ s.on LC_STAT_BYPASS = false ∧ inMemRange ea.toNat = true ∧ s.isMem ea.toNat = true ∧ s.findWay ea.toNat = some w ∧ s.lineAt (cacheSet ea.toNat * 16 + w) = some l ∧ l.poison.getLsbD (ea.toNat % 64 / granSize ea.toNat) = false ∧ s.arrayErr = []) ∧
    (
    let s₀ : State := { (withCore0 { g := regs123 }).put LC_STAT_BYPASS false with l1d := [(0, 0x400000)] }
    let c : Core := 0
    let rs1 : GReg := 1
    let imm : BitVec 16 := 0
    let s := s₀.afterFetch c.val
    let ea := s.g c.val rs1.val + imm.signExtend 64
    let bad := (c.val, false, ea.toNat / 64) ∈ s.l1Err
    s₀.executes c.val ∧ ea.toNat % 8 = 0 ∧ ((s.core c.val).rights ea).getLsbD 0 = true ∧ s.on LC_STAT_BYPASS = false ∧ inMemRange ea.toNat = true ∧ s.l1Holds c.val ea.toNat = true ∧ (¬ bad)) :=
  ⟨by decide,
    by decide⟩

/-- The hypotheses of `Obligations.StoresWriteMemory` can hold. -/
theorem witness_StoresWriteMemory :
    (
    let s₀ : State := withCore0 { g := regs123 }
    let c : Core := 0
    s₀.executes c.val) ∧
    (
    let s₀ : State := withCore0 { g := [(1, 0x117FFFF8)] }
    let c : Core := 0
    let rs1 : GReg := 1
    let imm : BitVec 16 := 0
    let s := s₀.afterFetch c.val
    let ea := s.g c.val rs1.val + imm.signExtend 64
    (s.executes c.val ∧ ea.toNat % 8 = 0 ∧ ((s.core c.val).rights ea).getLsbD 1 = true ∧ s.plainMem ea.toNat 8)) :=
  ⟨by decide,
    by decide⟩

/-- The hypotheses of `Obligations.MisalignedAndDeniedAccessesTrap` can hold. -/
theorem witness_MisalignedAndDeniedAccessesTrap :
    (
    let s₀ : State := withCore0 { oCore with g := regs123 }
    let c : Core := 0
    s₀.executes c.val) ∧
    (
    let s₀ : State := withCore0 { g := regs123 }
    let c : Core := 0
    let rs1 : GReg := 1
    let imm : BitVec 16 := 1
    let s := s₀.afterFetch c.val
    let ea := s.g c.val rs1.val + imm.signExtend 64
    (s.executes c.val ∧ ea.toNat % 2 ≠ 0 ∧ s.trapsToM c.val 5 ∧ s.trapsToM c.val 6)) ∧
    (
    let s₀ : State := withCore0 { oCore with g := regs123, mpuLo := [(0, 9)] }
    let c : Core := 0
    let rs1 : GReg := 1
    let imm : BitVec 16 := 0
    let s := s₀.afterFetch c.val
    let ea := s.g c.val rs1.val + imm.signExtend 64
    (s.executes c.val ∧ ea.toNat % 8 = 0 ∧ ((s.core c.val).rights ea).getLsbD 0 = false ∧ ((s.core c.val).rights ea).getLsbD 1 = false ∧ s.trapsToM c.val 7 ∧ s.trapsToM c.val 8)) :=
  ⟨by decide,
    by decide,
    by decide⟩

/-- The hypotheses of `Obligations.AtomicsReadAndWriteMemory` can hold. -/
theorem witness_AtomicsReadAndWriteMemory :
    (
    let s₀ : State := withCore0 { g := regs123 }
    let c : Core := 0
    let rd : GReg := 0
    let rs1 : GReg := 1
    let dbl : Bool := true
    let s := s₀.afterFetch c.val
    let n := if dbl then 8 else 4
    let a := s.g c.val rs1.val
    let old := leNat ((List.range n).map fun i => s.byteAt (a.toNat + i))
    let back : Word := if dbl then BitVec.ofNat 64 old else (BitVec.ofNat 32 old).signExtend 64
    s₀.executes c.val ∧ (s.core c.val).postErr = none ∧ a.toNat % n = 0 ∧ ((s.core c.val).rights a).getLsbD 0 = true ∧ ((s.core c.val).rights a).getLsbD 1 = true ∧ s.plainMem a.toNat n ∧ s.g c.val rd.val = back) ∧
    (
    let s₀ : State := withCore0 { g := regs123 }
    let c : Core := 0
    let rd : GReg := 3
    let rs1 : GReg := 1
    let dbl : Bool := false
    let s := s₀.afterFetch c.val
    let n := if dbl then 8 else 4
    let a := s.g c.val rs1.val
    let old := leNat ((List.range n).map fun i => s.byteAt (a.toNat + i))
    let back : Word := if dbl then BitVec.ofNat 64 old else (BitVec.ofNat 32 old).signExtend 64
    s₀.executes c.val ∧ (s.core c.val).postErr = none ∧ a.toNat % n = 0 ∧ ((s.core c.val).rights a).getLsbD 0 = true ∧ ((s.core c.val).rights a).getLsbD 1 = true ∧ s.plainMem a.toNat n ∧ s.g c.val rd.val ≠ back) :=
  ⟨by decide,
    by decide⟩

/-- The hypotheses of `Obligations.LoadLinkedAndStoreConditional` can hold. -/
theorem witness_LoadLinkedAndStoreConditional :
    (
    let s₀ : State := { withCore0 { g := regs123, ll := some (0x10000000, 8) } with linked := [(0, 0x10000000)] }
    let c : Core := 0
    let rs1 : GReg := 1
    let dbl : Bool := true
    let s := s₀.afterFetch c.val
    let n := if dbl then 8 else 4
    let a := s.g c.val rs1.val
    let held : Prop := (s.core c.val).ll = some (a.toNat, n) ∧ ∃ l, (c.val, l) ∈ s.linked
    s₀.executes c.val ∧ (s.core c.val).postErr = none ∧ a.toNat % n = 0 ∧ ((s.core c.val).rights a).getLsbD 0 = true ∧ ((s.core c.val).rights a).getLsbD 1 = true ∧ s.plainMem a.toNat n ∧ held) ∧
    (
    let s₀ : State := { withCore0 { g := regs123, ll := some (0x10000000, 8) } with linked := [(0, 0x10000000)] }
    let c : Core := 0
    let rs1 : GReg := 1
    let dbl : Bool := true
    let s := s₀.afterFetch c.val
    let n := if dbl then 8 else 4
    let a := s.g c.val rs1.val
    s₀.executes c.val ∧ (s.core c.val).postErr = none ∧ a.toNat % n = 0 ∧ ((s.core c.val).rights a).getLsbD 0 = true ∧ ((s.core c.val).rights a).getLsbD 1 = true ∧ s.plainMem a.toNat n) ∧
    (
    let s₀ : State := withCore0 { g := regs123 }
    let c : Core := 0
    let rs1 : GReg := 1
    let dbl : Bool := true
    let s := s₀.afterFetch c.val
    let n := if dbl then 8 else 4
    let a := s.g c.val rs1.val
    let held : Prop := (s.core c.val).ll = some (a.toNat, n) ∧ ∃ l, (c.val, l) ∈ s.linked
    s₀.executes c.val ∧ (s.core c.val).postErr = none ∧ a.toNat % n = 0 ∧ ((s.core c.val).rights a).getLsbD 0 = true ∧ ((s.core c.val).rights a).getLsbD 1 = true ∧ s.plainMem a.toNat n ∧ (¬ held)) :=
  ⟨⟨by decide, by decide, by decide, by decide, by decide, by decide, ⟨by decide, 0x10000000, by decide⟩⟩,
    by decide,
    ⟨by decide, by decide, by decide, by decide, by decide, by decide, fun h => absurd h.1 (by decide)⟩⟩

/-- The hypotheses of `Obligations.FenceCacheInvalidateAndClocks` can hold. -/
theorem witness_FenceCacheInvalidateAndClocks :
    (
    let s₀ : State := withCore0 { ien := 8, fault := true }
    let c : Core := 0
    let s := s₀.afterFetch c.val
    let k := s.core c.val
    s₀.executes c.val ∧ k.priv = true ∧ (∃ i, (s.ipend c.val &&& k.ienBits).getLsbD i = true)) ∧
    (
    let s₀ : State := withCore0 { ien := 8, fault := true }
    let c : Core := 0
    let rs1 : GReg := 0
    let s := s₀.afterFetch c.val
    let k := s.core c.val
    let b := (s.g c.val rs1.val).toNat % 32
    s₀.executes c.val ∧ k.postErr = none ∧ b < s.bayCount) :=
  ⟨⟨by decide, by decide, ⟨4, by decide⟩⟩,
    by decide⟩

/-- The hypotheses of `Obligations.ControlRegisterInstructions` can hold. -/
theorem witness_ControlRegisterInstructions :
    (
    let s₀ : State := withCore0 { g := regs123 }
    let c : Core := 0
    let n : BitVec 7 := 5
    let v := 0
    let s := s₀.afterFetch c.val
    let k := s.core c.val
    s₀.executes c.val ∧ k.priv = true ∧ s.readCr c.val n.toNat = some v) ∧
    (
    let s₀ : State := withCore0 oCore
    let c : Core := 0
    let n : BitVec 7 := 1
    let s := s₀.afterFetch c.val
    let k := s.core c.val
    s₀.executes c.val ∧ k.priv = false ∧ (n = 1 ∨ n = 4 ∨ n = 5) ∧ s.trapsToM c.val 2) ∧
    (
    let s₀ : State := withCore0 { g := regs123 }
    let c : Core := 0
    let n : BitVec 7 := 127
    let s := s₀.afterFetch c.val
    s₀.executes c.val ∧ s.readCr c.val n.toNat = none ∧ s.trapsToM c.val 1) :=
  ⟨by decide,
    by decide,
    by decide⟩

/-- The hypotheses of `Obligations.TrapReturn` can hold. -/
theorem witness_TrapReturn :
    (
    let s₀ : State := withCore0 { tpc := 0x103, ta := true }
    let c : Core := 0
    let s := s₀.afterFetch c.val
    let k := s.core c.val
    s₀.executes c.val ∧ k.priv = true ∧ k.postErr = none) ∧
    (
    let s₀ : State := withCore0 { oCore with ota := true }
    let c : Core := 0
    let s := s₀.afterFetch c.val
    let k := s.core c.val
    s₀.executes c.val ∧ k.priv = false ∧ k.ota = true ∧ k.postErr = none) ∧
    (
    let s₀ : State := withCore0 { oCore with odeleg := 2 }
    let c : Core := 0
    let s := s₀.afterFetch c.val
    let k := s.core c.val
    s₀.executes c.val ∧ k.priv = false ∧ k.ota = false ∧ k.odeleg.getLsbD 1 = true) ∧
    (
    let s₀ : State := withCore0 oCore
    let c : Core := 0
    let s := s₀.afterFetch c.val
    let k := s.core c.val
    s₀.executes c.val ∧ k.priv = false ∧ k.ota = false ∧ s.trapsToM c.val 1) ∧
    (
    let s₀ : State := withCore0 { postErr := some 0x10000000 }
    let c : Core := 0
    let a := 0x10000000
    let s := s₀.afterFetch c.val
    let k := s.core c.val
    s₀.executes c.val ∧ (k.priv = true ∨ k.ota = true) ∧ k.postErr = some a ∧ (¬ (k.priv = true ∧ k.ta = true)) ∧ s.fetchBad { k with priv := true } k.tvec = none) ∧
    (
    let s₀ : State := withCore0 { postErr := some 0x10000000, ta := true }
    let c : Core := 0
    let a := 0x10000000
    let s := s₀.afterFetch c.val
    let k := s.core c.val
    s₀.executes c.val ∧ (k.priv = true ∨ k.ota = true) ∧ k.postErr = some a ∧ k.priv = true ∧ k.ta = true) :=
  ⟨by decide,
    by decide,
    by decide,
    by decide,
    by decide,
    by decide⟩

/-- The hypotheses of `Obligations.PrivilegeChangesOnlyByTrapsAndReturns` can hold. -/
theorem witness_PrivilegeChangesOnlyByTrapsAndReturns :
    let s : State := State.reset
    let c : Core := 0
    let rd : GReg := 0
    let rs1 : GReg := 0
    let rs2 : GReg := 0
    let n : BitVec 7 := 0
    let imm : BitVec 16 := 0
    let i : Instr := .fence 0
    let t : State := fence 0 State.reset
    (i = .crw c rd rs1 n ∨ i = .crs c rd rs1 n ∨ i = .crc c rd rs1 n ∨ i = .crr c rd n ∨ i = .add c rd rs1 rs2 ∨ i = .addi c rd rs1 imm
      ∨ i = .beq c rs1 rs2 imm ∨ i = .jlr c rd rs1 imm ∨ i = .fence c ∨ i = .icinv c rs1 true) ∧ exec i s = .next t :=
  ⟨by simp, rfl⟩

/-- The hypotheses of `Obligations.PushAndPopMoveEntries` can hold. -/
theorem witness_PushAndPopMoveEntries :
    (
    let s₀ : State := withLp 5 [] 1
    let c : Core := 0
    let r : GReg := 0
    let lp : Lp := 5
    let s := s₀.afterFetch c.val
    let k := s.core c.val
    let l := s.lp lp.val
    let e : Entry := { data := s.g c.val (r.val + 3) ++ s.g c.val (r.val + 2) ++ s.g c.val (r.val + 1) ++ s.g c.val r.val }
    s₀.executes c.val ∧ r.val % 4 = 0 ∧ s.lpMove c.val lp.val true = true ∧ badHead lp.val e = false ∧ k.postErr = none ∧ smGet 0 l.resv c.val = 0 ∧ 0 < l.free ∧ s.lpMove c.val lp.val false = true ∧ l.entries = []) ∧
    (
    let s₀ : State := withLp 5 [] 0
    let c : Core := 0
    let r : GReg := 0
    let lp : Lp := 5
    let s := s₀.afterFetch c.val
    let k := s.core c.val
    let l := s.lp lp.val
    let e : Entry := { data := s.g c.val (r.val + 3) ++ s.g c.val (r.val + 2) ++ s.g c.val (r.val + 1) ++ s.g c.val r.val }
    s₀.executes c.val ∧ r.val % 4 = 0 ∧ s.lpMove c.val lp.val true = true ∧ badHead lp.val e = false ∧ k.postErr = none ∧ smGet 0 l.resv c.val = 0 ∧ l.free = 0) ∧
    (
    let s₀ : State := withLp 700 [entry [(0, 8, 1)]] 1
    let c : Core := 0
    let r : GReg := 0
    let lp : Lp := 700
    let x := entry [(0, 8, 1)]
    let rest := []
    let s := s₀.afterFetch c.val
    let l := s.lp lp.val
    s₀.executes c.val ∧ r.val % 4 = 0 ∧ s.lpMove c.val lp.val false = true ∧ l.entries = x :: rest ∧ x.poison = false) ∧
    (
    let s₀ : State := (withCore0 { g := [(1, 0xc0000)] }).setLp 5 { free := 1 }
    let c : Core := 0
    let r : GReg := 0
    let lp : Lp := 5
    let s := s₀.afterFetch c.val
    let e : Entry := { data := s.g c.val (r.val + 3) ++ s.g c.val (r.val + 2) ++ s.g c.val (r.val + 1) ++ s.g c.val r.val }
    s₀.executes c.val ∧ r.val % 4 = 0 ∧ s.lpMove c.val lp.val true = true ∧ badHead lp.val e = true ∧ s.trapsToM c.val 0x0F) :=
  ⟨by decide,
    by decide,
    by decide,
    by decide⟩

/-- The hypotheses of `Obligations.CreditsCountsAndNotifications` can hold. -/
theorem witness_CreditsCountsAndNotifications :
    (
    let s₀ : State := withLp 300 [] 16
    let c : Core := 0
    let lp : Lp := 300
    let n : BitVec 8 := 16
    let s := s₀.afterFetch c.val
    let k := s.core c.val
    let l := s.lp lp.val
    s₀.executes c.val ∧ k.priv = true ∧ n ≠ 0 ∧ n.toNat ≤ l.free ∧ s.stalled = []) ∧
    (
    let s₀ : State := withCore0 oCore
    let c : Core := 0
    let lp : Lp := 6
    let s := s₀.afterFetch c.val
    let k := s.core c.val
    s₀.executes c.val ∧ k.priv = false ∧ lp.val < 640 ∧ k.lpOpen lp.val true = false ∧ k.lpOpen lp.val false = false ∧ s.trapsToM c.val 0x0E) :=
  ⟨by decide,
    by decide⟩

/-- The hypotheses of `Obligations.ActionInstructions` can hold. -/
theorem witness_ActionInstructions :
    (
    let s₀ : State := ((((withCore0 { g := [(1, 0x200000000000)] }).wr (BL_STAT_STATE 0) blUp).setBeam 0 { id := { heads0 := 12, heads1 := 12 } }).wr (ANG_STAT_SRC 0) 2)
    let c : Core := 0
    let rs1 : GReg := 1
    let rs2 : GReg := 0
    let s := s₀.afterFetch c.val
    let k := s.core c.val
    let x := s.g c.val rs1.val
    let b := x.toNat / 2 ^ 37 % 32
    s₀.executes c.val ∧ k.priv = true ∧ s.armInvalid x = false ∧ s.armReason b (armRecord c x (s.g c.val rs2.val) ((armClass (x.toNat / 2 ^ 42 % 8)).getD .readGate)) = none ∧ (∃ j, 16 ≤ j ∧ j < 64 ∧ (s.slot b j).armed = false)) ∧
    (
    let s₀ : State := ((((withCore0 { g := [(1, 0x0)] }).wr (BL_STAT_STATE 0) blUp).setBeam 0 { id := { heads0 := 12, heads1 := 12 } }).setAng 0 { slots := (List.range 48).map fun i => (16 + i, { armed := true }) })
    let c : Core := 0
    let rs1 : GReg := 1
    let s := s₀.afterFetch c.val
    let k := s.core c.val
    let x := s.g c.val rs1.val
    let b := x.toNat / 2 ^ 37 % 32
    let h := x.toNat / 64 % 32
    let i := x.toNat % 64
    s₀.executes c.val ∧ k.priv = true ∧ s.armInvalid x = false ∧ s.armedIn b 16 64 = 48 ∧ (2048 ≤ x.toNat ∨ i < 16 ∨ (s.slot h i).armed = false)) ∧
    (
    let s₀ : State := (((withCore0 { g := [(1, 0x0)] }).wr (BL_STAT_STATE 0) blUp).setBeam 0 { id := { heads0 := 12, heads1 := 12 } })
    let c : Core := 0
    let rs1 : GReg := 1
    let s := s₀.afterFetch c.val
    let k := s.core c.val
    let x := s.g c.val rs1.val
    let b := x.toNat / 2 ^ 37 % 32
    s₀.executes c.val ∧ k.priv = true ∧ s.armInvalid x = false ∧ s.armedIn b 16 64 < 48 ∧ s.armedIn b 0 64 < 64 ∧ s.rd (ANG_STAT_SRC b) = 0) ∧
    (
    let s₀ : State := ((withCore0 { g := [(1, 0x10)] }).setAng 0 { slots := [(16, { armed := true })] })
    let c : Core := 0
    let rs1 : GReg := 1
    let s := s₀.afterFetch c.val
    let k := s.core c.val
    let x := s.g c.val rs1.val
    let h := x.toNat / 64 % 32
    let i := x.toNat % 64
    s₀.executes c.val ∧ k.priv = true ∧ x.toNat < 2048 ∧ 16 ≤ i ∧ (s.slot h i).armed = true) ∧
    (
    let s₀ : State := (withCore0 oCore)
    let c : Core := 0
    let s := s₀.afterFetch c.val
    let k := s.core c.val
    s₀.executes c.val ∧ k.priv = false ∧ s.trapsToM c.val 2) :=
  ⟨⟨by decide, by decide, by decide, by decide, ⟨16, by decide⟩⟩,
    by decide,
    by decide,
    by decide,
    by decide⟩

/-- The hypotheses of `Obligations.LedgerInstructions` can hold. -/
theorem witness_LedgerInstructions :
    (
    let s₀ : State := ((((withCore0 { g := [(1, 0x100000001)] }).put APR_CTL_LEN true).wr APR_USABLE_MJ 100000000).wr APR_STAGE_LIMIT 1)
    let c : Core := 0
    let rs1 : GReg := 1
    let s := s₀.afterFetch c.val
    let x := s.g c.val rs1.val
    let nSect := x.toNat % 2 ^ 32
    let nSeg := x.toNat / 2 ^ 32 % 2 ^ 16
    let cost := (nSeg * s.rd APR_FLUSH_SEEK_MJ * 1000 + nSect * s.rd APR_FLUSH_SECT_UJ + 999) / 1000
    let fits := s.on APR_CTL_LEN = true ∧ s.on APR_STAT_FROZEN = false ∧ s.on APR_STAT_DEFICIT = false
          ∧ s.energy.outUj + (s.rd APR_RETR_MJ + s.rd APR_FIXED_MJ) * 1000 + cost * 1000 ≤ s.rd APR_USABLE_MJ * 1000
          ∧ s.energy.staged + nSect * 4096 ≤ s.rd APR_STAGE_LIMIT * 2 ^ 20
    s₀.executes c.val ∧ s.debitInvalid x = false ∧ s.energy.waiting = [] ∧ fits ∧ lowestFree s.energy.debits 0 < 65536 ∧ x.toNat % 256 = 1) ∧
    (
    let s₀ : State := ((withCore0 { g := [(1, 0x100000001)] }).wr APR_STAGE_LIMIT 1)
    let c : Core := 0
    let rs1 : GReg := 1
    let s := s₀.afterFetch c.val
    let x := s.g c.val rs1.val
    let nSect := x.toNat % 2 ^ 32
    let nSeg := x.toNat / 2 ^ 32 % 2 ^ 16
    let cost := (nSeg * s.rd APR_FLUSH_SEEK_MJ * 1000 + nSect * s.rd APR_FLUSH_SECT_UJ + 999) / 1000
    let fits := s.on APR_CTL_LEN = true ∧ s.on APR_STAT_FROZEN = false ∧ s.on APR_STAT_DEFICIT = false
          ∧ s.energy.outUj + (s.rd APR_RETR_MJ + s.rd APR_FIXED_MJ) * 1000 + cost * 1000 ≤ s.rd APR_USABLE_MJ * 1000
          ∧ s.energy.staged + nSect * 4096 ≤ s.rd APR_STAGE_LIMIT * 2 ^ 20
    s₀.executes c.val ∧ s.debitInvalid x = false ∧ (¬ fits)) ∧
    (
    let s₀ : State := State.reset
    let c : Core := 0
    let rs1 : GReg := 0
    let s := s₀.afterFetch c.val
    let x := s.g c.val rs1.val
    s₀.executes c.val ∧ (∀ d, (x.toNat, d) ∈ s.energy.debits → d.admitted = false)) ∧
    (
    let s₀ : State := State.reset
    let c : Core := 0
    let rs1 : GReg := 0
    let s := s₀.afterFetch c.val
    let x := s.g c.val rs1.val
    s₀.executes c.val ∧ (∀ d, (x.toNat, d) ∉ s.energy.debits)) ∧
    (
    let s₀ : State := { State.reset with energy := { debits := [(0, {})], waiting := [0] } }
    let c : Core := 0
    let rs1 : GReg := 0
    let d := {}
    let s := s₀.afterFetch c.val
    let x := s.g c.val rs1.val
    s₀.executes c.val ∧ s.debitOf x.toNat = some d ∧ d.admitted = false ∧ x.toNat % 256 = 0 ∧ x.toNat < 2 ^ 31 ∧ s.on APR_CTL_EN = false) ∧
    (
    let s₀ : State := ((withCore0 { g := [(1, 1)] }).put APR_CTL_EN true)
    let c : Core := 0
    let rs1 : GReg := 1
    let s := s₀.afterFetch c.val
    let k := s.core c.val
    let x := s.g c.val rs1.val
    s₀.executes c.val ∧ x.toNat < 2 ^ 31 ∧ s.on APR_CTL_EN = true ∧ k.priv = true) ∧
    (
    let s₀ : State := (withCore0 { g := [(1, 3)] })
    let c : Core := 0
    let rs1 : GReg := 1
    let s := s₀.afterFetch c.val
    let x := s.g c.val rs1.val
    s₀.executes c.val ∧ x.toNat % 256 = 3) ∧
    (
    let s₀ : State := (withCore0 { g := [(1, 4)] })
    let c : Core := 0
    let rs1 : GReg := 1
    let s := s₀.afterFetch c.val
    let x := s.g c.val rs1.val
    s₀.executes c.val ∧ x.toNat % 256 = 4) :=
  ⟨by decide,
    by decide,
    ⟨by decide, fun d h => nomatch h⟩,
    ⟨by decide, fun d h => nomatch h⟩,
    by decide,
    by decide,
    by decide,
    by decide⟩

/-- The hypotheses of `Obligations.InterruptsAndWaits` can hold. -/
theorem witness_InterruptsAndWaits :
    (
    let s : State := withCore0 { ie := true, ien := 0xF, fault := true, noteFired := true }
    let c : Core := 0
    let i := 3
    let k := s.core c.val
    s.coreUp c.val = true ∧ (s.core c.val).halted = false ∧ c.val ∉ s.sec.halted ∧ i < 5 ∧ k.wait = .none ∧ k.ta = false ∧ (k.ie = true ∨ i = 0) ∧ (s.ipend c.val &&& k.ienBits).getLsbD i = true ∧ (∀ j, j < i → (s.ipend c.val &&& k.ienBits).getLsbD j = false) ∧ s.fetchBad { k with priv := true } (k.tvec + 0x100) = none) ∧
    (
    let s : State := withCore0 { timecmp := 0, postErr := some 0x10000000 }
    let c : Core := 0
    let a := 0x10000000
    let k := s.core c.val
    s.coreUp c.val = true ∧ (s.core c.val).halted = false ∧ c.val ∉ s.sec.halted ∧ k.timecmp.toNat ≤ s.rd ANG_WT_NS ∧ k.wait = .none ∧ k.postErr = some a ∧ (¬ (k.priv = true ∧ k.ta = true)) ∧ s.fetchBad { k with priv := true } k.tvec = none) :=
  ⟨by decide,
    by decide⟩

/-- The hypotheses of `Obligations.CoreWaitsEnd` can hold. -/
theorem witness_CoreWaitsEnd :
    (
    let s : State := (withCore0 { wait := .resv 300 2 }).setLp 300 { free := 2 }
    let c : Core := 0
    let lp := 300
    let n := 2
    let k := s.core c.val
    s.waitRuns c.val = true ∧ k.wait = .resv lp n ∧ n ≤ (s.lp lp).free) ∧
    (
    let s : State := (withCore0 { wait := .push 4 300 0 }).setLp 300 { free := 1 }
    let c : Core := 0
    let r := 4
    let lp := 300
    let gs := 0
    let k := s.core c.val
    s.waitRuns c.val = true ∧ k.wait = .push r lp gs ∧ 0 < (s.lp lp).free) ∧
    (
    let s : State := (({ withCore0 { wait := .adebit 1 5 } with energy := { bucket := 5 } } : State).put APR_CTL_EN true)
    let c : Core := 0
    let r := 1
    let est := 5
    let k := s.core c.val
    s.waitRuns c.val = true ∧ k.wait = .adebit r est ∧ s.on APR_CTL_EN = true ∧ s.on APR_STAT_OVER = false ∧ (est : Int) ≤ s.energy.bucket) ∧
    (
    let s : State := withCore0 { wait := .interrupt, ta := true, ien := 0xF, fault := true }
    let c : Core := 0
    let k := s.core c.val
    s.waitRuns c.val = true ∧ k.wait = .interrupt ∧ k.ta = true ∧ (s.ipend c.val &&& k.ienBits) ≠ 0) ∧
    (
    let s : State := (withCore0 { noteLp := 300, noteArmed := true }).setLp 300 { entries := [{}] }
    let c : Core := 0
    let k := s.core c.val
    s.waitRuns c.val = true ∧ k.noteArmed = true ∧ k.noteKind = false ∧ k.noteThr < (s.lp k.noteLp).entries.length) :=
  ⟨by decide,
    by decide,
    by decide,
    by decide,
    by decide⟩

/-- The hypotheses of `Obligations.RegisterAccesses` can hold. -/
theorem witness_RegisterAccesses :
    (
    let s : State := State.reset
    let who : Agent := .core 0
    let addr : BitVec 40 := 0x20700000
    let b : Bay := 0
    let a := addr.toNat
    s.sysrefOk = true ∧ s.windowOk who (s.atO who) a false = true ∧ inStore a = false ∧ (regAt a).isNone ∧ s.domAnswers (64 + b.val) = true) ∧
    (
    let s : State := State.reset
    let who : Agent := .core 0
    let addr : BitVec 40 := 0x20000002
    let wide : Bool := false
    let a := addr.toNat
    s.sysrefOk = true ∧ s.windowOk who (s.atO who) a wide = false) :=
  ⟨by decide,
    by decide⟩

/-- The hypotheses of `Obligations.AngleMarksAndMisses` can hold. -/
theorem witness_AngleMarksAndMisses :
    (
    let s : State := ((State.reset.wr (ANG_STAT_SRC 0) 2).wr (ANG_CTL_COAST_MAX 0) 8)
    let b : Bay := 0
    let a : Act := 0
    let w : BitVec 10 := 0
    let n := b.val
    let src (s : State) : Nat := s.rd (ANG_STAT_SRC n)
    let wedge : Prop := (s.dom (64 + n) = 2 ∨ s.dom (64 + n) = 3) ∧ src s = 2
    let e := angleDiff ((s.markAngle n a.val w.toNat : Int) - ((s.rd (ANG_CNT_VALUE n) : Int) - s.uplatAu n (s.rd (ANG_PERIOD_NS n))))
    let drives : Prop := wedge ∧ s.driver n a.val = a.val ∧ e.natAbs ≤ s.markWindow n
    s.brefOk = true ∧ wedge ∧ s.rd (ANG_STAT_COAST n) ≤ s.rd (ANG_CTL_COAST_MAX n) ∧ s.rd (ANG_STAT_COAST n) < 63 ∧ drives ∧ e.natAbs ≤ (s.tol n).toNat ∧ s.rd (ANG_STAT_GOOD n) < 15) ∧
    (
    let s : State := (((State.reset.wr (ANG_STAT_SRC 0) 2).wr (ANG_CTL_COAST_MAX 0) 8).wr (ANG_STAT_COAST 0) 9)
    let b : Bay := 0
    let n := b.val
    let src (s : State) : Nat := s.rd (ANG_STAT_SRC n)
    let wedge : Prop := (s.dom (64 + n) = 2 ∨ s.dom (64 + n) = 3) ∧ src s = 2
    s.brefOk = true ∧ wedge ∧ s.rd (ANG_CTL_COAST_MAX n) < s.rd (ANG_STAT_COAST n) ∧ s.rd (ANG_STAT_COAST n) < 63) ∧
    (
    let s : State := State.reset
    let b : Bay := 0
    let n := b.val
    let src (s : State) : Nat := s.rd (ANG_STAT_SRC n)
    s.brefOk = true ∧ src s ≠ 2 ∧ (s.angS n).agree = []) ∧
    (
    let s : State := ((State.reset.wr (ANG_STAT_SRC 0) 2).setServo 0 { lock := true })
    let b : Bay := 0
    let a : Act := 1
    let n := b.val
    let src (s : State) : Nat := s.rd (ANG_STAT_SRC n)
    let wedge : Prop := (s.dom (64 + n) = 2 ∨ s.dom (64 + n) = 3) ∧ src s = 2
    s.brefOk = true ∧ wedge ∧ (s.servoS (2 * n)).lock = true ∧ a.val = 1) ∧
    (
    let s : State := (((State.reset.wr (ANG_STAT_SRC 0) 2).wr (ANG_CNT_VALUE 0) 600).wr (ANG_CTL_WIN 0) 4)
    let b : Bay := 0
    let a : Act := 0
    let w : BitVec 10 := 0
    let n := b.val
    let src (s : State) : Nat := s.rd (ANG_STAT_SRC n)
    let wedge : Prop := (s.dom (64 + n) = 2 ∨ s.dom (64 + n) = 3) ∧ src s = 2
    let e := angleDiff ((s.markAngle n a.val w.toNat : Int) - ((s.rd (ANG_CNT_VALUE n) : Int) - s.uplatAu n (s.rd (ANG_PERIOD_NS n))))
    s.brefOk = true ∧ wedge ∧ s.markWindow n < e.natAbs) ∧
    (
    let s : State := (((((State.reset.wr (ANG_STAT_SRC 0) 2).wr (ANG_CNT_VALUE 0) 40).wr (ANG_CTL_WIN 0) 50).wr (ANG_TOL_TOL 0) 8).wr (ANG_CTL_REACQ 0) 2)
    let b : Bay := 0
    let a : Act := 0
    let w : BitVec 10 := 0
    let n := b.val
    let src (s : State) : Nat := s.rd (ANG_STAT_SRC n)
    let wedge : Prop := (s.dom (64 + n) = 2 ∨ s.dom (64 + n) = 3) ∧ src s = 2
    let e := angleDiff ((s.markAngle n a.val w.toNat : Int) - ((s.rd (ANG_CNT_VALUE n) : Int) - s.uplatAu n (s.rd (ANG_PERIOD_NS n))))
    let drives : Prop := wedge ∧ s.driver n a.val = a.val ∧ e.natAbs ≤ s.markWindow n
    s.brefOk = true ∧ drives ∧ (s.tol n).toNat < e.natAbs ∧ (s.angS n).agree = []) ∧
    (
    let s : State := ((((((State.reset.wr (ANG_STAT_SRC 0) 2).wr (ANG_CNT_VALUE 0) 40).wr (ANG_CTL_WIN 0) 50).wr (ANG_TOL_TOL 0) 8).wr (ANG_CTL_REACQ 0) 2).setAng 0 { agree := [{ err := -40 }] })
    let b : Bay := 0
    let a : Act := 0
    let w : BitVec 10 := 0
    let m := ({ err := -40 } : SeenMark)
    let n := b.val
    let src (s : State) : Nat := s.rd (ANG_STAT_SRC n)
    let wedge : Prop := (s.dom (64 + n) = 2 ∨ s.dom (64 + n) = 3) ∧ src s = 2
    let e := angleDiff ((s.markAngle n a.val w.toNat : Int) - ((s.rd (ANG_CNT_VALUE n) : Int) - s.uplatAu n (s.rd (ANG_PERIOD_NS n))))
    let drives : Prop := wedge ∧ s.driver n a.val = a.val ∧ e.natAbs ≤ s.markWindow n
    s.brefOk = true ∧ drives ∧ (s.tol n).toNat < e.natAbs ∧ s.reacq n = 2 ∧ (s.angS n).agree = [m] ∧ (angleDiff (e - m.err)).natAbs ≤ (s.tol n).toNat) :=
  ⟨by decide,
    by decide,
    by decide,
    by decide,
    by decide,
    by decide,
    by decide⟩

/-- The hypotheses of `Obligations.ActionsFallDue` can hold. -/
theorem witness_ActionsFallDue :
    (
    let s : State := (((State.reset.wr (ANG_STAT_SRC 0) 2).put (ANG_STAT_SPD_OK 0) true).setAng 0 { slots := [(16, { armed := true })] })
    let b : Bay := 0
    let i : Fin 64 := 16
    let n := b.val
    let x := s.slot n i.val
    let due : Prop := (s.dom (64 + n) = 2 ∨ s.dom (64 + n) = 3) ∧ x.armed = true ∧ s.isDue n x.target x.cls = true
    let alone : Prop := due ∧ s.dueBefore n i.val = [] ∧ x.notify = false
    s.sysrefOk = true ∧ alone ∧ 16 ≤ i.val ∧ x.cls = .readGate ∧ s.actionAllowed n .readGate = true ∧ due ∧ (∀ j ∈ s.dueBefore n i.val, 16 ≤ j)) ∧
    (
    let s : State := (State.reset.setAng 0 { slots := [(16, { armed := true, cls := .laser })] })
    let b : Bay := 0
    let i : Fin 64 := 16
    let n := b.val
    let x := s.slot n i.val
    let due : Prop := (s.dom (64 + n) = 2 ∨ s.dom (64 + n) = 3) ∧ x.armed = true ∧ s.isDue n x.target x.cls = true
    let alone : Prop := due ∧ s.dueBefore n i.val = [] ∧ x.notify = false
    s.sysrefOk = true ∧ alone ∧ s.actionAllowed n x.cls = false) ∧
    (
    let s : State := State.reset
    let b : Bay := 0
    let i : Fin 64 := 16
    let n := b.val
    let x := s.slot n i.val
    s.sysrefOk = true ∧ (x.armed = false ∨ s.isDue n x.target x.cls = false)) ∧
    (
    let s : State := ((State.reset.wr (ANG_STAT_SRC 0) 2).setAng 0 { slots := [(16, { armed := true, cls := .heater })] })
    let b : Bay := 0
    let i : Fin 64 := 16
    let n := b.val
    let x := s.slot n i.val
    let due : Prop := (s.dom (64 + n) = 2 ∨ s.dom (64 + n) = 3) ∧ x.armed = true ∧ s.isDue n x.target x.cls = true
    let alone : Prop := due ∧ s.dueBefore n i.val = [] ∧ x.notify = false
    s.sysrefOk = true ∧ alone ∧ 16 ≤ i.val ∧ x.cls = .heater ∧ s.actionAllowed n .heater = true) :=
  ⟨by decide,
    by decide,
    by decide,
    by decide⟩

/-- The hypotheses of `Obligations.WallTimeAndClocks` can hold. -/
theorem witness_WallTimeAndClocks :
    (
    let s : State := State.reset
    let w : Nat := 780
    s.sysrefOk = true ∧ s.wall.expect = none ∧ s.wall.frame = [] ∧ 780 ≤ w ∧ w ≤ 820) ∧
    (
    let s : State := State.reset
    let w : Nat := 179
    s.sysrefOk = true ∧ s.wall.expect = none ∧ s.wall.frame.length < 47 ∧ (w < 180 ∨ 820 < w)) ∧
    (
    let s : State := { ((State.reset.put ANG_WT_STAT_EPOCH true).wr ANG_WT_NS 1000001000) with wall := { expect := some 1 } }
    let w : Nat := 200
    let n : Nat := 1
    let d : Int := (n * 1000000000 : Nat) - (s.wt : Int)
    let edge : Prop := s.sysrefOk = true ∧ s.wall.frame = [] ∧ s.wall.expect = some n ∧ 180 ≤ w ∧ w ≤ 220
    let data : Prop := edge ∧ s.on ANG_WT_STAT_EPOCH = true
    data ∧ d.natAbs ≤ 1000) ∧
    (
    let s : State := { ((State.reset.put ANG_WT_STAT_EPOCH true).wr ANG_WT_NS 999998999) with wall := { expect := some 1 } }
    let w : Nat := 180
    let n : Nat := 1
    let d : Int := (n * 1000000000 : Nat) - (s.wt : Int)
    let edge : Prop := s.sysrefOk = true ∧ s.wall.frame = [] ∧ s.wall.expect = some n ∧ 180 ≤ w ∧ w ≤ 220
    let data : Prop := edge ∧ s.on ANG_WT_STAT_EPOCH = true
    data ∧ 1000 < d ∧ n * 1000000000 < 2 ^ 64) ∧
    (
    let s : State := { ((State.reset.put ANG_WT_STAT_EPOCH true).wr ANG_WT_NS 1000001001) with wall := { expect := some 1 } }
    let w : Nat := 220
    let n : Nat := 1
    let d : Int := (n * 1000000000 : Nat) - (s.wt : Int)
    let edge : Prop := s.sysrefOk = true ∧ s.wall.frame = [] ∧ s.wall.expect = some n ∧ 180 ≤ w ∧ w ≤ 220
    let data : Prop := edge ∧ s.on ANG_WT_STAT_EPOCH = true
    data ∧ d < -1000) ∧
    (
    let s : State := { (State.reset.wr ANG_WT_NS 1) with wall := { expect := some 1 } }
    let w : Nat := 200
    let n : Nat := 1
    let edge : Prop := s.sysrefOk = true ∧ s.wall.frame = [] ∧ s.wall.expect = some n ∧ 180 ≤ w ∧ w ≤ 220
    edge ∧ s.on ANG_WT_STAT_EPOCH = false ∧ n * 1000000000 < 2 ^ 64) ∧
    (
    let s : State := { State.reset with sysrefOk := false }
    let i : Instr := .ledgerUpdate 0
    i.wf = true ∧ (ofSysref i = true ∧ s.sysrefOk = false) ∨ (ofBrefclk i = true ∧ s.brefOk = false) ∨ (ofHrefclk i = true ∧ s.hrefOk = false)) :=
  ⟨by decide,
    by decide,
    by decide,
    by decide,
    by decide,
    by decide,
    by decide⟩

/-- The hypotheses of `Obligations.BeamFramesAndWords` can hold. -/
theorem witness_BeamFramesAndWords :
    (
    let s : State := (((State.reset.wr (BL_STAT_STATE 0) blUp).setBeam 0 {  }).put (BL_CTL_ATTACHED 0) true)
    let b : Bay := 0
    let w : Word := 0x0000000000000080
    let tag : Fin 16 := 0
    let lane : Lane := .d
    let n := b.val
    let m := s.beamS n
    let runs : Prop := s.dom (64 + n) = 2 ∨ s.dom (64 + n) = 3
    let answering : Prop := s.dom (64 + n) = 1 ∨ s.dom (64 + n) = 2
    let on : Prop := runs ∧ s.operating n = true
    let fresh : Prop := m.mwOut.length < 4 ∧ (∀ p ∈ m.mwOut, p.1 ≠ ctlTag w) ∧ ∀ p ∈ m.mwLast, p.1 = ctlTag w → p.2 ≠ w
    let bad := match lane with | .u0 => m.bad0 | .u1 => m.bad1 | .d => m.badD
    let downN := max 8 (s.rd (BL_CTL_DOWNN n))
    s.brefOk = true ∧ on ∧ answering ∧ 8 ≤ ctlClass w ∧ fresh ∧ m.mwOut.find? (fun p => p.1 == tag.val) = none ∧ (s.operating n = false ∨ bad < downN)) ∧
    (
    let s : State := (State.reset.setBeam 0 { mwOut := [(0, {}), (1, {}), (2, {}), (3, {})] })
    let b : Bay := 0
    let w : Word := 0x0000000000000080
    let n := b.val
    let m := s.beamS n
    let runs : Prop := s.dom (64 + n) = 2 ∨ s.dom (64 + n) = 3
    let answering : Prop := s.dom (64 + n) = 1 ∨ s.dom (64 + n) = 2
    let st (s : State) : Nat := s.rd (BL_STAT_STATE n)
    let fresh : Prop := m.mwOut.length < 4 ∧ (∀ p ∈ m.mwOut, p.1 ≠ ctlTag w) ∧ ∀ p ∈ m.mwLast, p.1 = ctlTag w → p.2 ≠ w
    s.brefOk = true ∧ runs ∧ s.operating n = false ∧ st s ≠ blTrain ∧ st s ≠ blMeasure ∧ answering ∧ 8 ≤ ctlClass w ∧ (¬ fresh)) ∧
    (
    let s : State := (State.reset.setBeam 0 { mwOut := [(0, {})] })
    let b : Bay := 0
    let tag : Fin 16 := 0
    let o := {}
    let n := b.val
    let m := s.beamS n
    let runs : Prop := s.dom (64 + n) = 2 ∨ s.dom (64 + n) = 3
    s.brefOk = true ∧ runs ∧ m.mwOut.find? (fun p => p.1 == tag.val) = some (tag.val, o) ∧ (ctlClass o.word ≠ 10 ∨ ctlHead o.word ≠ 7) ∧ o.retries < max 1 (s.rd (BL_CTL_RETRY n))) ∧
    (
    let s : State := (State.reset.setBeam 0 { mwOut := [(0, { retries := 15 })] })
    let b : Bay := 0
    let tag : Fin 16 := 0
    let o := { retries := 15 }
    let n := b.val
    let m := s.beamS n
    let runs : Prop := s.dom (64 + n) = 2 ∨ s.dom (64 + n) = 3
    s.brefOk = true ∧ runs ∧ m.mwOut.find? (fun p => p.1 == tag.val) = some (tag.val, o) ∧ (ctlClass o.word ≠ 10 ∨ ctlHead o.word ≠ 7) ∧ max 1 (s.rd (BL_CTL_RETRY n)) ≤ o.retries) ∧
    (
    let s : State := (((State.reset.wr (BL_STAT_STATE 0) blUp).setBeam 0 {  }).put (BL_CTL_ATTACHED 0) true)
    let b : Bay := 0
    let n := b.val
    let m := s.beamS n
    let runs : Prop := s.dom (64 + n) = 2 ∨ s.dom (64 + n) = 3
    let on : Prop := runs ∧ s.operating n = true
    let att := s.on (BL_CTL_ATTACHED n)
    let all := m.safety ++ m.timed ++ m.resend ++ m.mwRetry ++ m.mwNew
    let timedOf (l : List (BitVec 64)) (a : Nat) : Nat := (l.filter fun x => decide (ctlClass x < 8) && ctlAct x == a).length
    s.brefOk = true ∧ on ∧ att = true ∧ (∀ a, timedOf all a ≤ 3) ∧ (s.sliceS (2 * n)).sratePend = none ∧ (s.sliceS (2 * n + 1)).sratePend = none) ∧
    (
    let s : State := (State.reset.wr (BL_STAT_STATE 0) blTrain)
    let b : Bay := 0
    let n := b.val
    let runs : Prop := s.dom (64 + n) = 2 ∨ s.dom (64 + n) = 3
    let st (s : State) : Nat := s.rd (BL_STAT_STATE n)
    s.brefOk = true ∧ runs ∧ (st s = blTrain ∨ st s = blMeasure)) ∧
    (
    let s : State := ((State.reset.wr (BL_STAT_STATE 0) blUp).setBeam 0 {  })
    let b : Bay := 0
    let f : UpFrame := { posOk := false }
    let n := b.val
    let m := s.beamS n
    let runs : Prop := s.dom (64 + n) = 2 ∨ s.dom (64 + n) = 3
    let on : Prop := runs ∧ s.operating n = true
    s.brefOk = true ∧ on ∧ upGood f = false ∧ f.slip = false ∧ m.upSeen = []) ∧
    (
    let s : State := ((State.reset.wr (BL_STAT_STATE 0) blUp).setBeam 0 {  })
    let b : Bay := 0
    let f : UpFrame := goodFrame
    let n := b.val
    let m := s.beamS n
    let runs : Prop := s.dom (64 + n) = 2 ∨ s.dom (64 + n) = 3
    let on : Prop := runs ∧ s.operating n = true
    let quiet : Prop := f.slip = false ∧ f.wsafe = false ∧ f.flt = false ∧ f.tlmValid = false ∧ f.responses = [] ∧ f.phase = [0, 0, 0, 0] ∧ m.upSeen = []
    s.brefOk = true ∧ on ∧ upGood f = true ∧ quiet) ∧
    (
    let s : State := ((State.reset.wr (BL_STAT_STATE 0) blUp).setBeam 0 {  })
    let b : Bay := 0
    let f : UpFrame := { slip := true }
    let n := b.val
    let runs : Prop := s.dom (64 + n) = 2 ∨ s.dom (64 + n) = 3
    let on : Prop := runs ∧ s.operating n = true
    s.brefOk = true ∧ on ∧ f.slip = true) ∧
    (
    let s : State := (((State.reset.wr (BL_STAT_STATE 0) blUp).setBeam 0 { bad0 := 8, bad1 := 8 }).wr (BL_CTL_DOWNN 0) 8)
    let b : Bay := 0
    let lane : Lane := .u1
    let n := b.val
    let m := s.beamS n
    let runs : Prop := s.dom (64 + n) = 2 ∨ s.dom (64 + n) = 3
    let on : Prop := runs ∧ s.operating n = true
    let bad := match lane with | .u0 => m.bad0 | .u1 => m.bad1 | .d => m.badD
    let downN := max 8 (s.rd (BL_CTL_DOWNN n))
    s.brefOk = true ∧ on ∧ downN ≤ bad ∧ lane = .u1) ∧
    (
    let s : State := (((State.reset.wr (BL_STAT_STATE 0) blUp).setBeam 0 { bad0 := 8, bad1 := 8 }).wr (BL_CTL_DOWNN 0) 8)
    let b : Bay := 0
    let lane : Lane := .u0
    let n := b.val
    let m := s.beamS n
    let runs : Prop := s.dom (64 + n) = 2 ∨ s.dom (64 + n) = 3
    let on : Prop := runs ∧ s.operating n = true
    let bad := match lane with | .u0 => m.bad0 | .u1 => m.bad1 | .d => m.badD
    let downN := max 8 (s.rd (BL_CTL_DOWNN n))
    s.brefOk = true ∧ on ∧ downN ≤ bad ∧ lane ≠ .u1) :=
  ⟨by decide,
    by decide,
    by decide,
    by decide,
    ⟨by decide, by decide, by decide, fun _ => Nat.zero_le 3, by decide, by decide⟩,
    by decide,
    by decide,
    ⟨by decide, by decide, goodFrame_good, by decide⟩,
    by decide,
    by decide,
    by decide⟩

/-- The hypotheses of `Obligations.LinkTrainingAndAttach` can hold. -/
theorem witness_LinkTrainingAndAttach :
    (
    let s : State := ((State.reset.wr (BL_STAT_STATE 0) blTrain).setBeam 0 {  })
    let b : Bay := 0
    let n := b.val
    let on : Prop := s.dom (64 + n) = 2
    let st := s.rd (BL_STAT_STATE n)
    s.brefOk = true ∧ on ∧ st = blTrain) ∧
    (
    let s : State := ((State.reset.wr (BL_STAT_STATE 0) blMeasure).setBeam 0 {  })
    let b : Bay := 0
    let k : List Int := List.replicate 16 (-3)
    let i : List Nat := List.replicate 16 4501
    let turn : Nat := 0
    let n := b.val
    let on : Prop := s.dom (64 + n) = 2
    let st := s.rd (BL_STAT_STATE n)
    let rtt := i.headD 0 - turn
    let ranged : Prop := agreeWithin1 (i.map Int.ofNat) = true ∧ agreeWithin1 k = true ∧ -3 ≤ k.headD 0 ∧ k.headD 0 ≤ 3
    s.brefOk = true ∧ on ∧ st = blMeasure ∧ ranged ∧ 2250 < (rtt + 1) / 2) ∧
    (
    let s : State := ((State.reset.wr (BL_STAT_STATE 0) blMeasure).setBeam 0 { padSet := true })
    let b : Bay := 0
    let k : List Int := []
    let i : List Nat := []
    let turn : Nat := 0
    let n := b.val
    let m := s.beamS n
    let on : Prop := s.dom (64 + n) = 2
    let st := s.rd (BL_STAT_STATE n)
    let rtt := i.headD 0 - turn
    let ranged : Prop := agreeWithin1 (i.map Int.ofNat) = true ∧ agreeWithin1 k = true ∧ -3 ≤ k.headD 0 ∧ k.headD 0 ≤ 3
    s.brefOk = true ∧ on ∧ n < s.bayCount ∧ st = blMeasure ∧ ranged ∧ (rtt + 1) / 2 ≤ 2250 ∧ m.padSet = true ∧ (m.verified = false ∨ st ≠ blIdent) ∧ m.challenge = none) ∧
    (
    let s : State := (((State.reset.wr (BL_STAT_STATE 0) blIdent).setBeam 0 { verified := true }).wr (ANG_CTL_NW 0) 512)
    let b : Bay := 0
    let n := b.val
    let m := s.beamS n
    let on : Prop := s.dom (64 + n) = 2
    let st := s.rd (BL_STAT_STATE n)
    let asks : Prop := on ∧ st = blIdent ∧ m.verified = true
    s.brefOk = true ∧ asks ∧ contractOk m.id = true ∧ s.geometryOk n m.id = false) ∧
    (
    let s : State := ((State.reset.wr (BL_STAT_STATE 0) blIdent).setBeam 0 { verified := true, id := { latAux := 201 } })
    let b : Bay := 0
    let n := b.val
    let m := s.beamS n
    let on : Prop := s.dom (64 + n) = 2
    let st := s.rd (BL_STAT_STATE n)
    let asks : Prop := on ∧ st = blIdent ∧ m.verified = true
    s.brefOk = true ∧ asks ∧ contractOk m.id = false) ∧
    (
    let s : State := ((State.reset.wr (BL_STAT_STATE 0) blUp).setBeam 0 { challenge := some 1 })
    let b : Bay := 0
    let n := b.val
    let m := s.beamS n
    let on : Prop := s.dom (64 + n) = 2
    let st := s.rd (BL_STAT_STATE n)
    s.brefOk = true ∧ on ∧ st ≠ blTrain ∧ st ≠ blMeasure ∧ st = blUp ∧ m.challenge.isSome ∧ m.chalFails = 0) ∧
    (
    let s : State := ((State.reset.wr (BL_STAT_STATE 0) blUp).setBeam 0 { challenge := some 1, chalFails := 1 })
    let b : Bay := 0
    let n := b.val
    let m := s.beamS n
    let on : Prop := s.dom (64 + n) = 2
    s.brefOk = true ∧ on ∧ m.challenge.isSome ∧ 0 < m.chalFails) ∧
    (
    let s : State := (((State.reset.wr (BL_STAT_STATE 0) blIdent).setBeam 0 { verified := true, id := { poles := 1 } }).wr (ANG_CTL_NW 0) 512)
    let b : Bay := 0
    let n := b.val
    let m := s.beamS n
    let on : Prop := s.dom (64 + n) = 2
    let st := s.rd (BL_STAT_STATE n)
    let parks : Prop := s.parkEnergy (2 * n) m.id.vcmMa ≤ 76800000 ∧ s.parkEnergy (2 * n + 1) m.id.vcmMa ≤ 76800000
    let asks : Prop := on ∧ st = blIdent ∧ m.verified = true
    s.brefOk = true ∧ asks ∧ contractOk m.id = true ∧ s.geometryOk n m.id = true ∧ parks) ∧
    (
    let s : State := (((((State.reset.wr (BL_STAT_STATE 0) blIdent).setBeam 0 { verified := true, id := { poles := 1, vcmMa := 1000000000 } }).wr (ANG_CTL_NW 0) 512).wr (SRV_PARK_DATA_I 0) 100).wr (SRV_PARK_DATA_T 0) 100)
    let b : Bay := 0
    let n := b.val
    let m := s.beamS n
    let on : Prop := s.dom (64 + n) = 2
    let st := s.rd (BL_STAT_STATE n)
    let parks : Prop := s.parkEnergy (2 * n) m.id.vcmMa ≤ 76800000 ∧ s.parkEnergy (2 * n + 1) m.id.vcmMa ≤ 76800000
    let asks : Prop := on ∧ st = blIdent ∧ m.verified = true
    s.brefOk = true ∧ asks ∧ contractOk m.id = true ∧ s.geometryOk n m.id = true ∧ (¬ parks)) :=
  ⟨by decide,
    by decide,
    by decide,
    by decide,
    by decide,
    by decide,
    by decide,
    by decide,
    by decide⟩

/-- The hypotheses of `Obligations.DescriptorsArePopped` can hold. -/
theorem witness_DescriptorsArePopped :
    (
    let s : State := (((State.reset.put MEM_BT_CTL_EN true).wr (CS_ZONE2_SPT 0 0 0) 500).setLp 0 { entries := [entry [(64, 4, 1), (68, 4, 0), (72, 3, 0), (75, 1, 0), (80, 10, 0), (96, 24, 0), (136, 12, 0), (152, 32, 0), (184, 32, 0)]] }).setLp 64 { free := 1 }
    let k : Slice := 0
    let e : Entry := entry [(64, 4, 1), (68, 4, 0), (72, 3, 0), (75, 1, 0), (80, 10, 0), (96, 24, 0), (136, 12, 0), (152, 32, 0), (184, 32, 0)]
    let rest : List Entry := []
    let i : Instr := .mediaRead 0
    let op : Nat := 1
    let q := s.schedS k.val
    let cmd : Prop := (i = .mediaRead k ∧ op = 1) ∨ (i = .mediaWrite k ∧ op = 2) ∨ (i = .mediaVerify k ∧ op = 3) ∨ (i = .mediaCancel k ∧ op = 4)
    let ready : Prop := s.dom k.val = 2 ∧ k.val < 2 * s.bayCount ∧ (∀ m ∈ q.queue, m.missing = false) ∧ (s.lp k.val).entries = e :: rest ∧ e.poison = false
          ∧ s.on MEM_BT_CTL_EN = true ∧ s.stalled = [] ∧ 0 < (s.lp (64 + k.val)).free
    s.sysrefOk = true ∧ s.energy.trimming = false ∧ ready ∧ cmd ∧ (Desc.op e = op ∨ Desc.op e = 0 ∨ 4 < Desc.op e) ∧ fieldsOk k.val e = false) ∧
    (
    let s : State := (((((State.reset.put MEM_BT_CTL_EN true).wr (CS_ZONE2_SPT 0 0 0) 500).setLp 0 { entries := [entry [(64, 4, 1), (68, 4, 0), (72, 3, 0), (75, 1, 1), (80, 10, 0), (96, 24, 32), (136, 12, 1), (152, 32, 2147483648), (184, 32, 0)]] }).setLp 64 { free := 1 }).wr (PRZ_ARM_STATE 0) 3)
    let k : Slice := 0
    let e : Entry := entry [(64, 4, 1), (68, 4, 0), (72, 3, 0), (75, 1, 1), (80, 10, 0), (96, 24, 32), (136, 12, 1), (152, 32, 2147483648), (184, 32, 0)]
    let rest : List Entry := []
    let i : Instr := .mediaRead 0
    let op : Nat := 1
    let q := s.schedS k.val
    let cmd : Prop := (i = .mediaRead k ∧ op = 1) ∨ (i = .mediaWrite k ∧ op = 2) ∨ (i = .mediaVerify k ∧ op = 3) ∨ (i = .mediaCancel k ∧ op = 4)
    let ready : Prop := s.dom k.val = 2 ∧ k.val < 2 * s.bayCount ∧ (∀ m ∈ q.queue, m.missing = false) ∧ (s.lp k.val).entries = e :: rest ∧ e.poison = false
          ∧ s.on MEM_BT_CTL_EN = true ∧ s.stalled = [] ∧ 0 < (s.lp (64 + k.val)).free
    s.sysrefOk = true ∧ s.energy.trimming = false ∧ ready ∧ cmd ∧ Desc.op e = op ∧ fieldsOk k.val e = true ∧ s.rd (PRZ_ARM_STATE k.val) = 3) ∧
    (
    let s : State := (((State.reset.put MEM_BT_CTL_EN true).wr (CS_ZONE2_SPT 0 0 0) 500).setLp 0 { entries := [entry [(64, 4, 1), (68, 4, 0), (72, 3, 0), (75, 1, 1), (80, 10, 0), (96, 24, 32), (136, 12, 1), (152, 32, 2147483648), (184, 32, 0)]] }).setLp 64 { free := 1 }
    let k : Slice := 0
    let e : Entry := entry [(64, 4, 1), (68, 4, 0), (72, 3, 0), (75, 1, 1), (80, 10, 0), (96, 24, 32), (136, 12, 1), (152, 32, 2147483648), (184, 32, 0)]
    let rest : List Entry := []
    let i : Instr := .mediaRead 0
    let op : Nat := 1
    let q := s.schedS k.val
    let cmd : Prop := (i = .mediaRead k ∧ op = 1) ∨ (i = .mediaWrite k ∧ op = 2) ∨ (i = .mediaVerify k ∧ op = 3) ∨ (i = .mediaCancel k ∧ op = 4)
    let ready : Prop := s.dom k.val = 2 ∧ k.val < 2 * s.bayCount ∧ (∀ m ∈ q.queue, m.missing = false) ∧ (s.lp k.val).entries = e :: rest ∧ e.poison = false
          ∧ s.on MEM_BT_CTL_EN = true ∧ s.stalled = [] ∧ 0 < (s.lp (64 + k.val)).free
    let sound : Prop := ready ∧ cmd ∧ Desc.op e = op ∧ fieldsOk k.val e = true ∧ s.rd (PRZ_ARM_STATE k.val) ≠ 3
    s.sysrefOk = true ∧ s.energy.trimming = false ∧ sound ∧ op ≠ 4 ∧ Desc.lz e = true ∧ s.lzPosition k.val e = true) ∧
    (
    let s : State := (((State.reset.put MEM_BT_CTL_EN true).wr (CS_ZONE2_SPT 0 0 0) 500).setLp 0 { entries := [entry [(64, 4, 2), (68, 4, 0), (72, 3, 0), (75, 1, 1), (80, 10, 0), (96, 24, 33), (136, 12, 1), (152, 32, 2147483648), (184, 32, 0)]] }).setLp 64 { free := 1 }
    let k : Slice := 0
    let e : Entry := entry [(64, 4, 2), (68, 4, 0), (72, 3, 0), (75, 1, 1), (80, 10, 0), (96, 24, 33), (136, 12, 1), (152, 32, 2147483648), (184, 32, 0)]
    let rest : List Entry := []
    let i : Instr := .mediaWrite 0
    let op : Nat := 2
    let q := s.schedS k.val
    let cmd : Prop := (i = .mediaRead k ∧ op = 1) ∨ (i = .mediaWrite k ∧ op = 2) ∨ (i = .mediaVerify k ∧ op = 3) ∨ (i = .mediaCancel k ∧ op = 4)
    let ready : Prop := s.dom k.val = 2 ∧ k.val < 2 * s.bayCount ∧ (∀ m ∈ q.queue, m.missing = false) ∧ (s.lp k.val).entries = e :: rest ∧ e.poison = false
          ∧ s.on MEM_BT_CTL_EN = true ∧ s.stalled = [] ∧ 0 < (s.lp (64 + k.val)).free
    let sound : Prop := ready ∧ cmd ∧ Desc.op e = op ∧ fieldsOk k.val e = true ∧ s.rd (PRZ_ARM_STATE k.val) ≠ 3
    s.sysrefOk = true ∧ s.energy.trimming = false ∧ sound ∧ op ≠ 4 ∧ Desc.lz e = true ∧ s.lzPosition k.val e = false) ∧
    (
    let s : State := (((State.reset.put MEM_BT_CTL_EN true).wr (CS_ZONE2_SPT 0 0 0) 500).setLp 0 { entries := [entry [(64, 4, 3), (68, 4, 0), (72, 3, 0), (75, 1, 0), (80, 10, 0), (96, 24, 0), (136, 12, 1), (152, 32, 0), (184, 32, 0)]] }).setLp 64 { free := 1 }
    let k : Slice := 0
    let e : Entry := entry [(64, 4, 3), (68, 4, 0), (72, 3, 0), (75, 1, 0), (80, 10, 0), (96, 24, 0), (136, 12, 1), (152, 32, 0), (184, 32, 0)]
    let rest : List Entry := []
    let i : Instr := .mediaVerify 0
    let op : Nat := 3
    let q := s.schedS k.val
    let cmd : Prop := (i = .mediaRead k ∧ op = 1) ∨ (i = .mediaWrite k ∧ op = 2) ∨ (i = .mediaVerify k ∧ op = 3) ∨ (i = .mediaCancel k ∧ op = 4)
    let ready : Prop := s.dom k.val = 2 ∧ k.val < 2 * s.bayCount ∧ (∀ m ∈ q.queue, m.missing = false) ∧ (s.lp k.val).entries = e :: rest ∧ e.poison = false
          ∧ s.on MEM_BT_CTL_EN = true ∧ s.stalled = [] ∧ 0 < (s.lp (64 + k.val)).free
    let sound : Prop := ready ∧ cmd ∧ Desc.op e = op ∧ fieldsOk k.val e = true ∧ s.rd (PRZ_ARM_STATE k.val) ≠ 3
    s.sysrefOk = true ∧ s.energy.trimming = false ∧ sound ∧ op ≠ 4 ∧ Desc.lz e = false ∧ s.btLine (Desc.band e) = none) ∧
    (
    let s : State := (((State.reset.put MEM_BT_CTL_EN true).wr (CS_ZONE2_SPT 0 0 0) 500).setLp 0 { entries := [entry [(64, 4, 4), (68, 4, 0), (72, 3, 0), (75, 1, 0), (80, 10, 0), (96, 24, 0), (136, 12, 1), (152, 32, 0), (184, 32, 0)]] }).setLp 64 { free := 1 }
    let k : Slice := 0
    let e : Entry := entry [(64, 4, 4), (68, 4, 0), (72, 3, 0), (75, 1, 0), (80, 10, 0), (96, 24, 0), (136, 12, 1), (152, 32, 0), (184, 32, 0)]
    let rest : List Entry := []
    let i : Instr := .mediaCancel 0
    let op : Nat := 4
    let q := s.schedS k.val
    let cmd : Prop := (i = .mediaRead k ∧ op = 1) ∨ (i = .mediaWrite k ∧ op = 2) ∨ (i = .mediaVerify k ∧ op = 3) ∨ (i = .mediaCancel k ∧ op = 4)
    let ready : Prop := s.dom k.val = 2 ∧ k.val < 2 * s.bayCount ∧ (∀ m ∈ q.queue, m.missing = false) ∧ (s.lp k.val).entries = e :: rest ∧ e.poison = false
          ∧ s.on MEM_BT_CTL_EN = true ∧ s.stalled = [] ∧ 0 < (s.lp (64 + k.val)).free
    let sound : Prop := ready ∧ cmd ∧ Desc.op e = op ∧ fieldsOk k.val e = true ∧ s.rd (PRZ_ARM_STATE k.val) ≠ 3
    s.sysrefOk = true ∧ s.energy.trimming = false ∧ sound ∧ op = 4 ∧ (∀ m ∈ q.queue, Desc.opid m.desc ≠ Desc.opid e) ∧ q.released = none) ∧
    (
    let s : State := (((State.reset.put MEM_BT_CTL_EN true).wr (CS_ZONE2_SPT 0 0 0) 500).setLp 0 { entries := [entry [(64, 4, 4), (68, 4, 0), (72, 3, 0), (75, 1, 0), (80, 10, 0), (96, 24, 0), (136, 12, 1), (152, 32, 0), (184, 32, 0)]] }).setLp 64 { free := 1 }
    let k : Slice := 0
    let e : Entry := entry [(64, 4, 4), (68, 4, 0), (72, 3, 0), (75, 1, 0), (80, 10, 0), (96, 24, 0), (136, 12, 1), (152, 32, 0), (184, 32, 0)]
    let rest : List Entry := []
    let i : Instr := .mediaRead 0
    let op : Nat := 1
    let q := s.schedS k.val
    let cmd : Prop := (i = .mediaRead k ∧ op = 1) ∨ (i = .mediaWrite k ∧ op = 2) ∨ (i = .mediaVerify k ∧ op = 3) ∨ (i = .mediaCancel k ∧ op = 4)
    let ready : Prop := s.dom k.val = 2 ∧ k.val < 2 * s.bayCount ∧ (∀ m ∈ q.queue, m.missing = false) ∧ (s.lp k.val).entries = e :: rest ∧ e.poison = false
          ∧ s.on MEM_BT_CTL_EN = true ∧ s.stalled = [] ∧ 0 < (s.lp (64 + k.val)).free
    s.sysrefOk = true ∧ s.energy.trimming = false ∧ ready ∧ cmd ∧ Desc.op e ≠ op ∧ 1 ≤ Desc.op e ∧ Desc.op e ≤ 4) ∧
    (
    let s : State := { (((State.reset.put MEM_BT_CTL_EN true).wr (CS_ZONE2_SPT 0 0 0) 500).setLp 0 { entries := [entry [(64, 4, 1), (68, 4, 0), (72, 3, 0), (75, 1, 0), (80, 10, 0), (96, 24, 0), (136, 12, 1), (152, 32, 0), (184, 32, 0)]] }).setLp 64 { free := 1 } with bt := [(0, { bytes := (btSeal (setBtQp (setBtWp (setBtState 0 2) 10) 10)) })] }
    let k : Slice := 0
    let e : Entry := entry [(64, 4, 1), (68, 4, 0), (72, 3, 0), (75, 1, 0), (80, 10, 0), (96, 24, 0), (136, 12, 1), (152, 32, 0), (184, 32, 0)]
    let rest : List Entry := []
    let i : Instr := .mediaRead 0
    let op : Nat := 1
    let l : BtLine := { bytes := (btSeal (setBtQp (setBtWp (setBtState 0 2) 10) 10)) }
    let q := s.schedS k.val
    let cmd : Prop := (i = .mediaRead k ∧ op = 1) ∨ (i = .mediaWrite k ∧ op = 2) ∨ (i = .mediaVerify k ∧ op = 3) ∨ (i = .mediaCancel k ∧ op = 4)
    let ready : Prop := s.dom k.val = 2 ∧ k.val < 2 * s.bayCount ∧ (∀ m ∈ q.queue, m.missing = false) ∧ (s.lp k.val).entries = e :: rest ∧ e.poison = false
          ∧ s.on MEM_BT_CTL_EN = true ∧ s.stalled = [] ∧ 0 < (s.lp (64 + k.val)).free
    let sound : Prop := ready ∧ cmd ∧ Desc.op e = op ∧ fieldsOk k.val e = true ∧ s.rd (PRZ_ARM_STATE k.val) ≠ 3
    s.sysrefOk = true ∧ s.energy.trimming = false ∧ sound ∧ op ≠ 4 ∧ Desc.lz e = false ∧ s.btLine (Desc.band e) = some l ∧ s.bandChecks k.val e l.bytes true = none) ∧
    (
    let s : State := { (((State.reset.put MEM_BT_CTL_EN true).wr (CS_ZONE2_SPT 0 0 0) 500).setLp 0 { entries := [entry [(64, 4, 2), (68, 4, 0), (72, 3, 0), (75, 1, 0), (80, 10, 0), (96, 24, 0), (136, 12, 1), (152, 32, 0), (184, 32, 0)]] }).setLp 64 { free := 1 } with bt := [(0, { bytes := (btSeal (setBtQp (setBtWp (setBtState 0 2) 10) 10)) })] }
    let k : Slice := 0
    let e : Entry := entry [(64, 4, 2), (68, 4, 0), (72, 3, 0), (75, 1, 0), (80, 10, 0), (96, 24, 0), (136, 12, 1), (152, 32, 0), (184, 32, 0)]
    let rest : List Entry := []
    let i : Instr := .mediaWrite 0
    let op : Nat := 2
    let l : BtLine := { bytes := (btSeal (setBtQp (setBtWp (setBtState 0 2) 10) 10)) }
    let c : Nat := 0x40
    let q := s.schedS k.val
    let cmd : Prop := (i = .mediaRead k ∧ op = 1) ∨ (i = .mediaWrite k ∧ op = 2) ∨ (i = .mediaVerify k ∧ op = 3) ∨ (i = .mediaCancel k ∧ op = 4)
    let ready : Prop := s.dom k.val = 2 ∧ k.val < 2 * s.bayCount ∧ (∀ m ∈ q.queue, m.missing = false) ∧ (s.lp k.val).entries = e :: rest ∧ e.poison = false
          ∧ s.on MEM_BT_CTL_EN = true ∧ s.stalled = [] ∧ 0 < (s.lp (64 + k.val)).free
    let sound : Prop := ready ∧ cmd ∧ Desc.op e = op ∧ fieldsOk k.val e = true ∧ s.rd (PRZ_ARM_STATE k.val) ≠ 3
    s.sysrefOk = true ∧ s.energy.trimming = false ∧ sound ∧ op ≠ 4 ∧ Desc.lz e = false ∧ s.btLine (Desc.band e) = some l ∧ s.bandChecks k.val e l.bytes true = some c ∧ c < 2 ^ 16) :=
  ⟨by decide,
    by decide,
    by decide,
    by decide,
    by decide,
    by decide,
    by decide,
    by decide,
    by decide⟩

/-- The hypotheses of `Obligations.OperationsAreSelectedAndHandedOver` can hold. -/
theorem witness_OperationsAreSelectedAndHandedOver :
    (
    let s : State := (((State.reset.wr (APR_PS_STATE 0) 0).wr (CS_ZONE2_SPT 0 0 0) 500).setSched 0 { queue := [{ desc := entry [(64, 4, 1), (68, 4, 0), (72, 3, 0), (75, 1, 1), (80, 10, 0), (96, 24, 32), (136, 12, 1), (152, 32, 2147483648), (184, 32, 0)] }] })
    let k : Slice := 0
    let m : MediaOp := { desc := entry [(64, 4, 1), (68, 4, 0), (72, 3, 0), (75, 1, 1), (80, 10, 0), (96, 24, 32), (136, 12, 1), (152, 32, 2147483648), (184, 32, 0)] }
    let n := k.val
    let q := s.schedS n
    let e := m.desc
    let one : Prop := s.dom n = 2 ∧ s.maySelect n = true ∧ q.queue = [m] ∧ s.eligible n m = true ∧ s.checkDesc n e false = .passes
    let granted := (s.aperture (Desc.op e - 1) (Desc.cls e) (Desc.count e)).1
    s.sysrefOk = true ∧ s.energy.trimming = false ∧ one ∧ granted = true ∧ (q.released = none ∨ (s.on (SRV_STAT_ONTRK n) = false)) ∧ s.missingOp n = none) ∧
    (
    let s : State := ((((State.reset.wr (APR_PS_STATE 0) 0).wr (CS_ZONE2_SPT 0 0 0) 500).setSched 0 { queue := [{ desc := entry [(64, 4, 1), (68, 4, 0), (72, 3, 0), (75, 1, 1), (80, 10, 0), (96, 24, 32), (136, 12, 1), (152, 32, 2147483648), (184, 32, 0)] }] }).put APR_STAT_FROZEN true)
    let k : Slice := 0
    let m : MediaOp := { desc := entry [(64, 4, 1), (68, 4, 0), (72, 3, 0), (75, 1, 1), (80, 10, 0), (96, 24, 32), (136, 12, 1), (152, 32, 2147483648), (184, 32, 0)] }
    let n := k.val
    let q := s.schedS n
    let e := m.desc
    let one : Prop := s.dom n = 2 ∧ s.maySelect n = true ∧ q.queue = [m] ∧ s.eligible n m = true ∧ s.checkDesc n e false = .passes
    let granted := (s.aperture (Desc.op e - 1) (Desc.cls e) (Desc.count e)).1
    s.sysrefOk = true ∧ s.energy.trimming = false ∧ one ∧ granted = false) ∧
    (
    let s : State := (((State.reset.setSched 0 { released := some { desc := entry [(64, 4, 1), (68, 4, 0), (72, 3, 0), (75, 1, 1), (80, 10, 0), (96, 24, 32), (136, 12, 1), (152, 32, 2147483648), (184, 32, 0)] } }).put (SRV_STAT_ONTRK 0) true).setServo 0 { target := 32 })
    let k : Slice := 0
    let m : MediaOp := { desc := entry [(64, 4, 1), (68, 4, 0), (72, 3, 0), (75, 1, 1), (80, 10, 0), (96, 24, 32), (136, 12, 1), (152, 32, 2147483648), (184, 32, 0)] }
    let n := k.val
    let q := s.schedS n
    let e := m.desc
    let onTrack : Prop := s.dom n = 2 ∧ q.released = some m ∧ s.on (SRV_STAT_ONTRK n) = true ∧ (s.servoS n).target = Desc.track e
          ∧ (s.servoS n).head = Desc.head e ∧ s.mediaIdle n = true
    s.sysrefOk = true ∧ s.energy.trimming = false ∧ s.maySelect n = false ∧ onTrack ∧ s.startStatus n e ≠ 0) ∧
    (
    let s : State := (((((State.reset.wr (CS_ZONE2_SPT 0 0 0) 500).setSched 0 { queue := [{ desc := entry [(64, 4, 3), (68, 4, 0), (72, 3, 0), (75, 1, 0), (80, 10, 0), (96, 24, 0), (136, 12, 1), (152, 32, 0), (184, 32, 0)], missing := true }] }).setLp 64 { free := 1 }).wr MEM_DRAM_SIZE 4).wr MEM_BT_BASE_ADDR 0x1000000000).wr MEM_BT_BASE_ADDR 0
    let k : Slice := 0
    let m : MediaOp := { desc := entry [(64, 4, 3), (68, 4, 0), (72, 3, 0), (75, 1, 0), (80, 10, 0), (96, 24, 0), (136, 12, 1), (152, 32, 0), (184, 32, 0)], missing := true }
    let n := k.val
    let q := s.schedS n
    let e := m.desc
    let r := s.btFetchEntry (Desc.band e)
    let arrives : Prop := (s.dom n = 2 ∨ s.dom n = 3) ∧ s.missingOp n = some m ∧ m.missing = true ∧ m ∈ q.queue
    s.sysrefOk = true ∧ s.energy.trimming = false ∧ arrives ∧ r.1 = .failed ∧ s.stalled = [] ∧ 0 < (s.lp (64 + n)).free) ∧
    (
    let s : State := (((((State.reset.wr (CS_ZONE2_SPT 0 0 0) 500).setSched 0 { queue := [{ desc := entry [(64, 4, 3), (68, 4, 0), (72, 3, 0), (75, 1, 0), (80, 10, 0), (96, 24, 0), (136, 12, 1), (152, 32, 0), (184, 32, 0)], missing := true }] }).setLp 64 { free := 1 }).wr MEM_DRAM_SIZE 4).wr MEM_BT_BASE_ADDR 0x1000000000).setMemBytes 0x1000000000 (btBytes (btSeal (setBtQp (setBtWp (setBtState 0 2) 10) 10)))
    let k : Slice := 0
    let m : MediaOp := { desc := entry [(64, 4, 3), (68, 4, 0), (72, 3, 0), (75, 1, 0), (80, 10, 0), (96, 24, 0), (136, 12, 1), (152, 32, 0), (184, 32, 0)], missing := true }
    let n := k.val
    let q := s.schedS n
    let e := m.desc
    let r := s.btFetchEntry (Desc.band e)
    let arrives : Prop := (s.dom n = 2 ∨ s.dom n = 3) ∧ s.missingOp n = some m ∧ m.missing = true ∧ m ∈ q.queue
    s.sysrefOk = true ∧ s.energy.trimming = false ∧ arrives ∧ r.1 = .cached ∧ r.2.checkDesc n e true = .passes) ∧
    (
    let s : State := ((((((((State.reset.setSched 0 { released := some { desc := entry [(64, 4, 1), (68, 4, 0), (72, 3, 0), (75, 1, 1), (80, 10, 0), (96, 24, 32), (136, 12, 1), (152, 32, 2147483648), (184, 32, 0)] } }).put (SRV_STAT_ONTRK 0) true).setServo 0 { target := 32 }).put (CS_CTL_EN 0) true).setBeam 0 { id := { heads0 := 12 } }).wr (CS_ZONE1_BPR 0 0 0) 100000).wr (CS_ZONE2_SPT 0 0 0) 1).wr (ANG_PERIOD_NS 0) 100000000)
    let k : Slice := 0
    let m : MediaOp := { desc := entry [(64, 4, 1), (68, 4, 0), (72, 3, 0), (75, 1, 1), (80, 10, 0), (96, 24, 32), (136, 12, 1), (152, 32, 2147483648), (184, 32, 0)] }
    let n := k.val
    let q := s.schedS n
    let e := m.desc
    let onTrack : Prop := s.dom n = 2 ∧ q.released = some m ∧ s.on (SRV_STAT_ONTRK n) = true ∧ (s.servoS n).target = Desc.track e
          ∧ (s.servoS n).head = Desc.head e ∧ s.mediaIdle n = true
    s.sysrefOk = true ∧ s.energy.trimming = false ∧ onTrack ∧ s.startStatus n e = 0 ∧ Desc.op e ≠ 2) :=
  ⟨by decide,
    by decide,
    by decide,
    by decide,
    by decide,
    by decide⟩

/-- The hypotheses of `Obligations.SlicesReadAndComplete` can hold. -/
theorem witness_SlicesReadAndComplete :
    (
    let s : State := ((State.reset.wr (ANG_STAT_SRC 0) 2).setSlice 0 { ops := [{ desc := entry [(64, 4, 3), (68, 4, 0), (72, 3, 0), (75, 1, 0), (80, 10, 0), (96, 24, 0), (136, 12, 1), (152, 32, 0), (184, 32, 0)], sectors := [.todo] }], samples := [(0, none)] })
    let k : Slice := 0
    let r : SectorRead := { word := codewordOf 0 (List.replicate 4160 0) }
    let i : Nat := 0
    let d : List Byte := List.replicate 4160 0
    let init : List SliceOp := []
    let o : SliceOp := { desc := entry [(64, 4, 3), (68, 4, 0), (72, 3, 0), (75, 1, 0), (80, 10, 0), (96, 24, 0), (136, 12, 1), (152, 32, 0), (184, 32, 0)], sectors := [.todo] }
    let n := k.val
    let ops := (s.sliceS n).ops
    let runs : Prop := s.dom n = 2 ∨ s.dom n = 3
    let lim := s.otfIters n
    let next : Prop := runs ∧ ops = init ++ [o] ∧ o.ended = false ∧ Desc.op o.desc = 3 ∧ o.cut = false ∧ s.rd (ANG_STAT_SRC (bayOf n)) = 2
          ∧ (s.sliceS n).samples ≠ [] ∧ o.sectors.findIdx? (· == .todo) = some i ∧ SectorSt.reread ∉ o.sectors ∧ i ∉ o.misdir
    let right : Prop := leNat ((d.drop 4112).take 4) = Desc.band o.desc ∧ leNat ((d.drop 4116).take 4) = (Desc.index o.desc + i) % 2 ^ 32
    s.sysrefOk = true ∧ next ∧ o.sectorBytes i lim r = some d ∧ right) ∧
    (
    let s : State := (((State.reset.wr (ANG_STAT_SRC 0) 2).setSlice 0 { ops := [{ desc := entry [(64, 4, 3), (68, 4, 0), (72, 3, 0), (75, 1, 0), (80, 10, 0), (96, 24, 0), (136, 12, 1), (152, 32, 0), (184, 32, 0)], sectors := [.todo] }], samples := [(0, none)] }).setAng 0 { slots := [(7, { armed := true })] })
    let k : Slice := 0
    let r : SectorRead := { word := codewordOf 0 (List.replicate 4160 1) }
    let i : Nat := 0
    let d : List Byte := List.replicate 4160 1
    let init : List SliceOp := []
    let o : SliceOp := { desc := entry [(64, 4, 3), (68, 4, 0), (72, 3, 0), (75, 1, 0), (80, 10, 0), (96, 24, 0), (136, 12, 1), (152, 32, 0), (184, 32, 0)], sectors := [.todo] }
    let n := k.val
    let ops := (s.sliceS n).ops
    let runs : Prop := s.dom n = 2 ∨ s.dom n = 3
    let lim := s.otfIters n
    let next : Prop := runs ∧ ops = init ++ [o] ∧ o.ended = false ∧ Desc.op o.desc = 3 ∧ o.cut = false ∧ s.rd (ANG_STAT_SRC (bayOf n)) = 2
          ∧ (s.sliceS n).samples ≠ [] ∧ o.sectors.findIdx? (· == .todo) = some i ∧ SectorSt.reread ∉ o.sectors ∧ i ∉ o.misdir
    let right : Prop := leNat ((d.drop 4112).take 4) = Desc.band o.desc ∧ leNat ((d.drop 4116).take 4) = (Desc.index o.desc + i) % 2 ^ 32
    s.sysrefOk = true ∧ next ∧ o.sectorBytes i lim r = some d ∧ (¬ right) ∧ (s.slot (bayOf n) (sliceSlot n 7)).armed = true) ∧
    (
    let s : State := ((State.reset.wr (ANG_STAT_SRC 0) 2).setSlice 0 { ops := [{ desc := entry [(64, 4, 3), (68, 4, 0), (72, 3, 0), (75, 1, 0), (80, 10, 0), (96, 24, 0), (136, 12, 1), (152, 32, 0), (184, 32, 0)], sectors := [.todo] }], samples := [(0, none)] })
    let k : Slice := 0
    let r : SectorRead := { iters := 1000000000 }
    let i : Nat := 0
    let init : List SliceOp := []
    let o : SliceOp := { desc := entry [(64, 4, 3), (68, 4, 0), (72, 3, 0), (75, 1, 0), (80, 10, 0), (96, 24, 0), (136, 12, 1), (152, 32, 0), (184, 32, 0)], sectors := [.todo] }
    let n := k.val
    let ops := (s.sliceS n).ops
    let runs : Prop := s.dom n = 2 ∨ s.dom n = 3
    let lim := s.otfIters n
    let next : Prop := runs ∧ ops = init ++ [o] ∧ o.ended = false ∧ Desc.op o.desc = 3 ∧ o.cut = false ∧ s.rd (ANG_STAT_SRC (bayOf n)) = 2
          ∧ (s.sliceS n).samples ≠ [] ∧ o.sectors.findIdx? (· == .todo) = some i ∧ SectorSt.reread ∉ o.sectors ∧ i ∉ o.misdir
    s.sysrefOk = true ∧ next ∧ o.sectorBytes i lim r = none ∧ s.maxStep n o = 0 ∧ o.stopped = false) ∧
    (
    let s : State := ((((State.reset.wr (ANG_STAT_SRC 0) 2).setSlice 0 { ops := [{ desc := entry [(64, 4, 3), (68, 4, 0), (72, 3, 7), (75, 1, 0), (80, 10, 0), (96, 24, 0), (136, 12, 1), (152, 32, 0), (184, 32, 0)], sectors := [.todo] }], samples := [(0, none)] }).wr (CS_RETRY_MAXSTEP 0) 7).wr (CS_DEFER_SLOTS 0) 8)
    let k : Slice := 0
    let r : SectorRead := { iters := 1000000000 }
    let i : Nat := 0
    let init : List SliceOp := []
    let o : SliceOp := { desc := entry [(64, 4, 3), (68, 4, 0), (72, 3, 7), (75, 1, 0), (80, 10, 0), (96, 24, 0), (136, 12, 1), (152, 32, 0), (184, 32, 0)], sectors := [.todo] }
    let n := k.val
    let ops := (s.sliceS n).ops
    let runs : Prop := s.dom n = 2 ∨ s.dom n = 3
    let lim := s.otfIters n
    let next : Prop := runs ∧ ops = init ++ [o] ∧ o.ended = false ∧ Desc.op o.desc = 3 ∧ o.cut = false ∧ s.rd (ANG_STAT_SRC (bayOf n)) = 2
          ∧ (s.sliceS n).samples ≠ [] ∧ o.sectors.findIdx? (· == .todo) = some i ∧ SectorSt.reread ∉ o.sectors ∧ i ∉ o.misdir
    let free : Prop := ∃ m, m < s.deferSlots n ∧ ∀ p ∈ s.deferLive n, p.1 ≠ m
    s.sysrefOk = true ∧ next ∧ o.sectorBytes i lim r = none ∧ s.maxStep n o ≠ 0 ∧ free) ∧
    (
    let s : State := (((State.reset.wr (ANG_STAT_SRC 0) 2).setSlice 0 { ops := [{ desc := entry [(64, 4, 3), (68, 4, 0), (72, 3, 0), (75, 1, 0), (80, 10, 0), (96, 24, 0), (136, 12, 1), (152, 32, 0), (184, 32, 0)], sectors := [.deferred] }] }).wr (CS_DEC_DEF_ITER 0) 8)
    let k : Slice := 0
    let r : SectorRead := { iters := 1000000000 }
    let i : Nat := 0
    let rest : List SliceOp := []
    let o : SliceOp := { desc := entry [(64, 4, 3), (68, 4, 0), (72, 3, 0), (75, 1, 0), (80, 10, 0), (96, 24, 0), (136, 12, 1), (152, 32, 0), (184, 32, 0)], sectors := [.deferred] }
    let n := k.val
    let ops := (s.sliceS n).ops
    let runs : Prop := s.dom n = 2 ∨ s.dom n = 3
    let defIter := s.rd (CS_DEC_DEF_ITER n)
    let deferred : Prop := runs ∧ ops = o :: rest ∧ Desc.op o.desc = 3 ∧ o.sectors.getD i .todo = .deferred
    s.sysrefOk = true ∧ deferred ∧ o.sectorBytes i defIter r = none) ∧
    (
    let s : State := (((State.reset.wr (ANG_STAT_SRC 0) 2).setSlice 0 { ops := [{ desc := entry [(64, 4, 3), (68, 4, 0), (72, 3, 0), (75, 1, 0), (80, 10, 0), (96, 24, 0), (136, 12, 1), (152, 32, 0), (184, 32, 0)], sectors := [.deferred] }] }).wr (CS_DEC_DEF_ITER 0) 8)
    let k : Slice := 0
    let r : SectorRead := { word := codewordOf 0 (List.replicate 4160 0) }
    let i : Nat := 0
    let d : List Byte := List.replicate 4160 0
    let rest : List SliceOp := []
    let o : SliceOp := { desc := entry [(64, 4, 3), (68, 4, 0), (72, 3, 0), (75, 1, 0), (80, 10, 0), (96, 24, 0), (136, 12, 1), (152, 32, 0), (184, 32, 0)], sectors := [.deferred] }
    let n := k.val
    let ops := (s.sliceS n).ops
    let runs : Prop := s.dom n = 2 ∨ s.dom n = 3
    let right : Prop := leNat ((d.drop 4112).take 4) = Desc.band o.desc ∧ leNat ((d.drop 4116).take 4) = (Desc.index o.desc + i) % 2 ^ 32
    let defIter := s.rd (CS_DEC_DEF_ITER n)
    let deferred : Prop := runs ∧ ops = o :: rest ∧ Desc.op o.desc = 3 ∧ o.sectors.getD i .todo = .deferred
    s.sysrefOk = true ∧ deferred ∧ o.sectorBytes i defIter r = some d ∧ right) ∧
    (
    let s : State := ((((State.reset.wr (ANG_STAT_SRC 0) 2).setSlice 0 { ops := [{ desc := entry [(64, 4, 3), (68, 4, 0), (72, 3, 7), (75, 1, 0), (80, 10, 0), (96, 24, 0), (136, 12, 1), (152, 32, 0), (184, 32, 0)], sectors := [.failing] }] }).wr (CS_RETRY_MAXSTEP 0) 6).wr (CS_RETRY_MAXREV 0) 200)
    let k : Slice := 0
    let rest : List SliceOp := []
    let o : SliceOp := { desc := entry [(64, 4, 3), (68, 4, 0), (72, 3, 7), (75, 1, 0), (80, 10, 0), (96, 24, 0), (136, 12, 1), (152, 32, 0), (184, 32, 0)], sectors := [.failing] }
    let n := k.val
    let ops := (s.sliceS n).ops
    let runs : Prop := s.dom n = 2 ∨ s.dom n = 3
    let step := max o.step 1 + 1
    let stepLeft : Prop := step ≤ s.maxStep n o ∧ o.revs + stepRevs step ≤ max 1 (s.rd (CS_RETRY_MAXREV n))
    s.sysrefOk = true ∧ runs ∧ s.retryOp n = some 0 ∧ ops = o :: rest ∧ o.cut = false ∧ o.stopped = false ∧ Desc.op o.desc = 3 ∧ stepLeft) ∧
    (
    let s : State := ((State.reset.wr (ANG_STAT_SRC 0) 2).setSlice 0 { ops := [{ desc := entry [(64, 4, 3), (68, 4, 0), (72, 3, 0), (75, 1, 0), (80, 10, 0), (96, 24, 0), (136, 12, 1), (152, 32, 0), (184, 32, 0)], sectors := [.failing] }] })
    let k : Slice := 0
    let rest : List SliceOp := []
    let o : SliceOp := { desc := entry [(64, 4, 3), (68, 4, 0), (72, 3, 0), (75, 1, 0), (80, 10, 0), (96, 24, 0), (136, 12, 1), (152, 32, 0), (184, 32, 0)], sectors := [.failing] }
    let n := k.val
    let ops := (s.sliceS n).ops
    let runs : Prop := s.dom n = 2 ∨ s.dom n = 3
    let step := max o.step 1 + 1
    let stepLeft : Prop := step ≤ s.maxStep n o ∧ o.revs + stepRevs step ≤ max 1 (s.rd (CS_RETRY_MAXREV n))
    s.sysrefOk = true ∧ runs ∧ s.retryOp n = some 0 ∧ ops = o :: rest ∧ o.cut = false ∧ o.stopped = false ∧ Desc.op o.desc = 3 ∧ (¬ stepLeft)) ∧
    (
    let s : State := (State.reset.setSlice 0 { ops := [{ desc := entry [(64, 4, 3), (68, 4, 0), (72, 3, 0), (75, 1, 0), (80, 10, 0), (96, 24, 0), (136, 12, 1), (152, 32, 0), (184, 32, 0)], sectors := [.todo], lostAt := some 0 }] })
    let k : Slice := 0
    let init : List SliceOp := []
    let o : SliceOp := { desc := entry [(64, 4, 3), (68, 4, 0), (72, 3, 0), (75, 1, 0), (80, 10, 0), (96, 24, 0), (136, 12, 1), (152, 32, 0), (184, 32, 0)], sectors := [.todo], lostAt := some 0 }
    let n := k.val
    let ops := (s.sliceS n).ops
    let runs : Prop := s.dom n = 2 ∨ s.dom n = 3
    s.sysrefOk = true ∧ runs ∧ ops = init ++ [o] ∧ o.ended = false ∧ Desc.op o.desc ≠ 2 ∧ o.lostAt.isSome ∧ s.rd (ANG_STAT_SRC (bayOf n)) ≠ 2) ∧
    (
    let s : State := (((State.reset.wr (ANG_STAT_SRC 0) 2).setSlice 0 { ops := [{ desc := entry [(64, 4, 3), (68, 4, 0), (72, 3, 0), (75, 1, 0), (80, 10, 0), (96, 24, 0), (136, 12, 1), (152, 32, 0), (184, 32, 0)], sectors := [.good 0], ended := true }] }).setLp 64 { free := 1 })
    let k : Slice := 0
    let i : Nat := 0
    let rest : List SliceOp := []
    let o : SliceOp := { desc := entry [(64, 4, 3), (68, 4, 0), (72, 3, 0), (75, 1, 0), (80, 10, 0), (96, 24, 0), (136, 12, 1), (152, 32, 0), (184, 32, 0)], sectors := [.good 0], ended := true }
    let n := k.val
    let ops := (s.sliceS n).ops
    let runs : Prop := s.dom n = 2 ∨ s.dom n = 3
    s.sysrefOk = true ∧ s.nextSector n = none ∧ s.curOp n = none ∧ s.deferredOp n i = none ∧ s.retryOp n = none ∧ runs ∧ ops = o :: rest ∧ (∀ x ∈ ops, x.cut = false) ∧ s.opReady n o = true ∧ Desc.op o.desc ≠ 2 ∧ s.stalled = [] ∧ 0 < (s.lp (64 + n)).free) ∧
    (
    let s : State := State.reset
    let k : Slice := 0
    let n := k.val
    let ops := (s.sliceS n).ops
    s.sysrefOk = true ∧ ops = []) ∧
    (
    let s : State := ((((State.reset.wr (ANG_STAT_SRC 0) 2).wr (CS_RETRY_MAXSTEP 0) 7).wr (CS_DEFER_SLOTS 0) 8).setSlice 0 { ops := [{ desc := entry [(64, 4, 3), (68, 4, 0), (72, 3, 7), (75, 1, 0), (80, 10, 0), (96, 24, 0), (136, 12, 1), (152, 32, 0), (184, 32, 0)], sectors := List.replicate 8 .deferred ++ [.todo] }], samples := [(0, none)], defer := (List.range 8).map fun m => (m, 0, m) })
    let k : Slice := 0
    let r : SectorRead := { iters := 1000000000 }
    let i : Nat := 8
    let init : List SliceOp := []
    let o : SliceOp := { desc := entry [(64, 4, 3), (68, 4, 0), (72, 3, 7), (75, 1, 0), (80, 10, 0), (96, 24, 0), (136, 12, 1), (152, 32, 0), (184, 32, 0)], sectors := List.replicate 8 .deferred ++ [.todo] }
    let n := k.val
    let ops := (s.sliceS n).ops
    let runs : Prop := s.dom n = 2 ∨ s.dom n = 3
    let lim := s.otfIters n
    let next : Prop := runs ∧ ops = init ++ [o] ∧ o.ended = false ∧ Desc.op o.desc = 3 ∧ o.cut = false ∧ s.rd (ANG_STAT_SRC (bayOf n)) = 2
          ∧ (s.sliceS n).samples ≠ [] ∧ o.sectors.findIdx? (· == .todo) = some i ∧ SectorSt.reread ∉ o.sectors ∧ i ∉ o.misdir
    let free : Prop := ∃ m, m < s.deferSlots n ∧ ∀ p ∈ s.deferLive n, p.1 ≠ m
    s.sysrefOk = true ∧ next ∧ o.sectorBytes i lim r = none ∧ s.maxStep n o ≠ 0 ∧ (¬ free)) :=
  ⟨⟨by decide, by decide, (if_pos (by decide)).trans (Laws.decodeWord_codewordOf 0 _ (by simp)), ⟨(congrArg leNat (flat_band 0)).trans (by decide), (congrArg leNat (flat_index 0)).trans (by decide)⟩⟩,
    ⟨by decide, by decide, (if_pos (by decide)).trans (Laws.decodeWord_codewordOf 0 _ (by simp)), fun h => absurd ((congrArg leNat (flat_band 1)).symm.trans h.1) (by decide), by decide⟩,
    by decide,
    ⟨by decide, by decide, by decide, by decide, ⟨0, by decide, by decide⟩⟩,
    by decide,
    ⟨by decide, by decide, (if_pos (by decide)).trans (Laws.decodeWord_codewordOf 0 _ (by simp)), ⟨(congrArg leNat (flat_band 0)).trans (by decide), (congrArg leNat (flat_index 0)).trans (by decide)⟩⟩,
    by decide,
    by decide,
    by decide,
    by decide,
    by decide,
    by decide⟩

/-- The hypotheses of `Obligations.FacetSequencing` can hold. -/
theorem witness_FacetSequencing :
    (
    let s : State := ((State.reset.setFacet 0 { bank0 := { lost := none, micro := [(0, 0x0)], nano := [], na := false } }).put (FCT_CTL_RUN 0x20008000) true)
    let f : FacetId := .slice 0
    let v := s.fct f
    let b := s.activeBank f
    let w := b.microAt v.upc.toNat
    let n := b.nanoAt (microNp w)
    let kind := seqKind b.na w
    let ready : Prop := (s.dom (facetDom f) = 2 ∨ s.dom (facetDom f) = 3) ∧ s.fctRuns f = true ∧ s.takeable f = none ∧ b.errAt v.upc.toNat = 0
          ∧ b.errAt (1024 + microNp w) = 0
    let plain : Prop := ready ∧ nanoMret n = false ∧ nanoSwp n = false ∧ nanoBrk n = false
    (ready ∧ plain ∧ kind = .next ∧ stackOk kind v.stack.length = true)) ∧
    (
    let s : State := ((State.reset.setFacet 0 { bank0 := { lost := none, micro := [(0, 0x100)], nano := [], na := false }, stack := [5] }).put (FCT_CTL_RUN 0x20008000) true)
    let f : FacetId := .slice 0
    let v := s.fct f
    let b := s.activeBank f
    let w := b.microAt v.upc.toNat
    let n := b.nanoAt (microNp w)
    let kind := seqKind b.na w
    let ready : Prop := (s.dom (facetDom f) = 2 ∨ s.dom (facetDom f) = 3) ∧ s.fctRuns f = true ∧ s.takeable f = none ∧ b.errAt v.upc.toNat = 0
          ∧ b.errAt (1024 + microNp w) = 0
    let plain : Prop := ready ∧ nanoMret n = false ∧ nanoSwp n = false ∧ nanoBrk n = false
    (ready ∧ plain ∧ kind = .ret ∧ stackOk kind v.stack.length = true)) ∧
    (
    let s : State := ((State.reset.setFacet 0 { bank0 := { lost := none, micro := [(0, 0x205)], nano := [], na := false }, lc := 1 }).put (FCT_CTL_RUN 0x20008000) true)
    let f : FacetId := .slice 0
    let v := s.fct f
    let b := s.activeBank f
    let w := b.microAt v.upc.toNat
    let n := b.nanoAt (microNp w)
    let kind := seqKind b.na w
    let ready : Prop := (s.dom (facetDom f) = 2 ∨ s.dom (facetDom f) = 3) ∧ s.fctRuns f = true ∧ s.takeable f = none ∧ b.errAt v.upc.toNat = 0
          ∧ b.errAt (1024 + microNp w) = 0
    let plain : Prop := ready ∧ nanoMret n = false ∧ nanoSwp n = false ∧ nanoBrk n = false
    (ready ∧ plain ∧ kind = .loop ∧ stackOk kind v.stack.length = true)) ∧
    (
    let s : State := ((State.reset.setFacet 0 { bank0 := { lost := none, micro := [(0, 0x400)], nano := [], na := false } }).put (FCT_CTL_RUN 0x20008000) true)
    let f : FacetId := .slice 0
    let v := s.fct f
    let b := s.activeBank f
    let w := b.microAt v.upc.toNat
    let n := b.nanoAt (microNp w)
    let kind := seqKind b.na w
    let ready : Prop := (s.dom (facetDom f) = 2 ∨ s.dom (facetDom f) = 3) ∧ s.fctRuns f = true ∧ s.takeable f = none ∧ b.errAt v.upc.toNat = 0
          ∧ b.errAt (1024 + microNp w) = 0
    let plain : Prop := ready ∧ nanoMret n = false ∧ nanoSwp n = false ∧ nanoBrk n = false
    (ready ∧ plain ∧ kind = .br ∧ stackOk kind v.stack.length = true)) ∧
    (
    let s : State := ((State.reset.setFacet 0 { bank0 := { lost := none, micro := [(0, 0x800)], nano := [], na := false } }).put (FCT_CTL_RUN 0x20008000) true)
    let f : FacetId := .slice 0
    let v := s.fct f
    let b := s.activeBank f
    let w := b.microAt v.upc.toNat
    let n := b.nanoAt (microNp w)
    let kind := seqKind b.na w
    let ready : Prop := (s.dom (facetDom f) = 2 ∨ s.dom (facetDom f) = 3) ∧ s.fctRuns f = true ∧ s.takeable f = none ∧ b.errAt v.upc.toNat = 0
          ∧ b.errAt (1024 + microNp w) = 0
    let plain : Prop := ready ∧ nanoMret n = false ∧ nanoSwp n = false ∧ nanoBrk n = false
    (ready ∧ plain ∧ kind = .jmp ∧ stackOk kind v.stack.length = true)) ∧
    (
    let s : State := ((State.reset.setFacet 0 { bank0 := { lost := none, micro := [(0, 0xc00)], nano := [], na := false }, stack := [1, 2, 3] }).put (FCT_CTL_RUN 0x20008000) true)
    let f : FacetId := .slice 0
    let v := s.fct f
    let b := s.activeBank f
    let w := b.microAt v.upc.toNat
    let n := b.nanoAt (microNp w)
    let kind := seqKind b.na w
    let ready : Prop := (s.dom (facetDom f) = 2 ∨ s.dom (facetDom f) = 3) ∧ s.fctRuns f = true ∧ s.takeable f = none ∧ b.errAt v.upc.toNat = 0
          ∧ b.errAt (1024 + microNp w) = 0
    let plain : Prop := ready ∧ nanoMret n = false ∧ nanoSwp n = false ∧ nanoBrk n = false
    (ready ∧ plain ∧ kind = .call ∧ stackOk kind v.stack.length = true)) ∧
    (
    let s : State := ((State.reset.setFacet 0 { bank0 := { lost := none, micro := [(0, 0x3ff)], nano := [], na := true } }).put (FCT_CTL_RUN 0x20008000) true)
    let f : FacetId := .slice 0
    let v := s.fct f
    let b := s.activeBank f
    let w := b.microAt v.upc.toNat
    let n := b.nanoAt (microNp w)
    let kind := seqKind b.na w
    let ready : Prop := (s.dom (facetDom f) = 2 ∨ s.dom (facetDom f) = 3) ∧ s.fctRuns f = true ∧ s.takeable f = none ∧ b.errAt v.upc.toNat = 0
          ∧ b.errAt (1024 + microNp w) = 0
    let plain : Prop := ready ∧ nanoMret n = false ∧ nanoSwp n = false ∧ nanoBrk n = false
    (ready ∧ plain ∧ kind = .goto ∧ stackOk kind v.stack.length = true)) ∧
    (
    let s : State := ((State.reset.setFacet 0 { bank0 := { lost := none, micro := [(0, 0x400)], nano := [], na := true } }).put (FCT_CTL_RUN 0x20008000) true)
    let f : FacetId := .slice 0
    let v := s.fct f
    let b := s.activeBank f
    let w := b.microAt v.upc.toNat
    let n := b.nanoAt (microNp w)
    let kind := seqKind b.na w
    let ready : Prop := (s.dom (facetDom f) = 2 ∨ s.dom (facetDom f) = 3) ∧ s.fctRuns f = true ∧ s.takeable f = none ∧ b.errAt v.upc.toNat = 0
          ∧ b.errAt (1024 + microNp w) = 0
    let plain : Prop := ready ∧ nanoMret n = false ∧ nanoSwp n = false ∧ nanoBrk n = false
    (ready ∧ plain ∧ kind = .brt ∧ stackOk kind v.stack.length = true)) ∧
    (
    let s : State := ((State.reset.setFacet 0 { bank0 := { lost := none, micro := [(0, 0x800)], nano := [], na := true } }).put (FCT_CTL_RUN 0x20008000) true)
    let f : FacetId := .slice 0
    let v := s.fct f
    let b := s.activeBank f
    let w := b.microAt v.upc.toNat
    let n := b.nanoAt (microNp w)
    let kind := seqKind b.na w
    let ready : Prop := (s.dom (facetDom f) = 2 ∨ s.dom (facetDom f) = 3) ∧ s.fctRuns f = true ∧ s.takeable f = none ∧ b.errAt v.upc.toNat = 0
          ∧ b.errAt (1024 + microNp w) = 0
    let plain : Prop := ready ∧ nanoMret n = false ∧ nanoSwp n = false ∧ nanoBrk n = false
    (ready ∧ plain ∧ kind = .naLoop ∧ stackOk kind v.stack.length = true)) ∧
    (
    let s : State := ((State.reset.setFacet 0 { bank0 := { lost := none, micro := [(0, 0xc00)], nano := [], na := true } }).put (FCT_CTL_RUN 0x20008000) true)
    let f : FacetId := .slice 0
    let v := s.fct f
    let b := s.activeBank f
    let w := b.microAt v.upc.toNat
    let n := b.nanoAt (microNp w)
    let kind := seqKind b.na w
    let ready : Prop := (s.dom (facetDom f) = 2 ∨ s.dom (facetDom f) = 3) ∧ s.fctRuns f = true ∧ s.takeable f = none ∧ b.errAt v.upc.toNat = 0
          ∧ b.errAt (1024 + microNp w) = 0
    let plain : Prop := ready ∧ nanoMret n = false ∧ nanoSwp n = false ∧ nanoBrk n = false
    (ready ∧ plain ∧ kind = .dispatch ∧ stackOk kind v.stack.length = true)) ∧
    (
    let s : State := ((State.reset.setFacet 0 { bank0 := { lost := none, micro := [(0, 0)], nano := [], na := false } }).put (FCT_CTL_RUN 0x20008000) true)
    let f : FacetId := .slice 0
    let env : FacetEnv := {}
    let p := (Instr.facetJmp f env, SeqKind.jmp)
    let v := s.fct f
    let b := s.activeBank f
    let w := b.microAt v.upc.toNat
    let n := b.nanoAt (microNp w)
    let kind := seqKind b.na w
    let ready : Prop := (s.dom (facetDom f) = 2 ∨ s.dom (facetDom f) = 3) ∧ s.fctRuns f = true ∧ s.takeable f = none ∧ b.errAt v.upc.toNat = 0
          ∧ b.errAt (1024 + microNp w) = 0
    let plain : Prop := ready ∧ nanoMret n = false ∧ nanoSwp n = false ∧ nanoBrk n = false
    let all : List (Instr × SeqKind) := [(.facetNext f env, .next), (.facetRet f env, .ret), (.facetLoop f env, .loop), (.facetBr f env, .br),
          (.facetJmp f env, .jmp), (.facetCall f env, .call), (.facetGoto f env, .goto), (.facetBrt f env, .brt), (.facetNaLoop f env, .naLoop),
          (.facetDispatch f env, .dispatch)]
    s.sysrefOk = true ∧ plain ∧ kind ≠ .illegal ∧ kind ≠ p.2 ∧ p ∈ all) ∧
    (
    let s : State := ((State.reset.setFacet 0 { bank0 := { lost := none, micro := [(0, 0x300)], nano := [], na := false } }).put (FCT_CTL_RUN 0x20008000) true)
    let f : FacetId := .slice 0
    let env : FacetEnv := {}
    let p := (Instr.facetJmp f env, SeqKind.jmp)
    let v := s.fct f
    let blk := facetBase f
    let b := s.activeBank f
    let w := b.microAt v.upc.toNat
    let n := b.nanoAt (microNp w)
    let kind := seqKind b.na w
    let ready : Prop := (s.dom (facetDom f) = 2 ∨ s.dom (facetDom f) = 3) ∧ s.fctRuns f = true ∧ s.takeable f = none ∧ b.errAt v.upc.toNat = 0
          ∧ b.errAt (1024 + microNp w) = 0
    let all : List (Instr × SeqKind) := [(.facetNext f env, .next), (.facetRet f env, .ret), (.facetLoop f env, .loop), (.facetBr f env, .br),
          (.facetJmp f env, .jmp), (.facetCall f env, .call), (.facetGoto f env, .goto), (.facetBrt f env, .brt), (.facetNaLoop f env, .naLoop),
          (.facetDispatch f env, .dispatch)]
    s.sysrefOk = true ∧ ready ∧ s.on (FCT_STAT_TRAPACT blk) = false ∧ (kind = .illegal ∨ nanoMret n = true) ∧ p ∈ all) ∧
    (
    let s : State := ((State.reset.setFacet 0 { bank0 := { lost := none, micro := [(0, 0xC00)], nano := [], na := false }, stack := [1, 2, 3, 4] }).put (FCT_CTL_RUN 0x20008000) true)
    let f : FacetId := .slice 0
    let env : FacetEnv := {}
    let p := (Instr.facetCall f env, SeqKind.call)
    let v := s.fct f
    let blk := facetBase f
    let b := s.activeBank f
    let w := b.microAt v.upc.toNat
    let n := b.nanoAt (microNp w)
    let kind := seqKind b.na w
    let ready : Prop := (s.dom (facetDom f) = 2 ∨ s.dom (facetDom f) = 3) ∧ s.fctRuns f = true ∧ s.takeable f = none ∧ b.errAt v.upc.toNat = 0
          ∧ b.errAt (1024 + microNp w) = 0
    let all : List (Instr × SeqKind) := [(.facetNext f env, .next), (.facetRet f env, .ret), (.facetLoop f env, .loop), (.facetBr f env, .br),
          (.facetJmp f env, .jmp), (.facetCall f env, .call), (.facetGoto f env, .goto), (.facetBrt f env, .brt), (.facetNaLoop f env, .naLoop),
          (.facetDispatch f env, .dispatch)]
    s.sysrefOk = true ∧ ready ∧ s.on (FCT_STAT_TRAPACT blk) = false ∧ nanoMret n = false ∧ kind = p.2 ∧ stackOk kind v.stack.length = false ∧ p ∈ all) ∧
    (
    let s : State := ((State.reset.setFacet 0 { bank0 := { lost := none, micro := [(0, 0)], nano := [(0, BitVec.ofNat 96 (2 ^ 90 + 2 ^ 91))], na := false } }).put (FCT_CTL_RUN 0x20008000) true)
    let f : FacetId := .slice 0
    let env : FacetEnv := {}
    let p := (Instr.facetNext f env, SeqKind.next)
    let v := s.fct f
    let b := s.activeBank f
    let w := b.microAt v.upc.toNat
    let n := b.nanoAt (microNp w)
    let kind := seqKind b.na w
    let ready : Prop := (s.dom (facetDom f) = 2 ∨ s.dom (facetDom f) = 3) ∧ s.fctRuns f = true ∧ s.takeable f = none ∧ b.errAt v.upc.toNat = 0
          ∧ b.errAt (1024 + microNp w) = 0
    let cond := s.condition f env (nanoTsel n) ^^ nanoTinv n
    let plain : Prop := ready ∧ nanoMret n = false ∧ nanoSwp n = false ∧ nanoBrk n = false
    let all : List (Instr × SeqKind) := [(.facetNext f env, .next), (.facetRet f env, .ret), (.facetLoop f env, .loop), (.facetBr f env, .br),
          (.facetJmp f env, .jmp), (.facetCall f env, .call), (.facetGoto f env, .goto), (.facetBrt f env, .brt), (.facetNaLoop f env, .naLoop),
          (.facetDispatch f env, .dispatch)]
    s.sysrefOk = true ∧ plain ∧ kind = p.2 ∧ stackOk kind v.stack.length = true ∧ nanoWait n = true ∧ cond = false ∧ p ∈ all) ∧
    (
    let s : State := (((State.reset.setFacet 0 { bank0 := { lost := none, micro := [(0, 0)], nano := [(0, BitVec.ofNat 96 (2 ^ 89))], na := false } }).put (FCT_CTL_RUN 0x20008000) true).put (FCT_STAT_TRAPACT 0x20008000) true)
    let f : FacetId := .slice 0
    let env : FacetEnv := {}
    let p := (Instr.facetNext f env, SeqKind.next)
    let v := s.fct f
    let blk := facetBase f
    let b := s.activeBank f
    let w := b.microAt v.upc.toNat
    let n := b.nanoAt (microNp w)
    let kind := seqKind b.na w
    let ready : Prop := (s.dom (facetDom f) = 2 ∨ s.dom (facetDom f) = 3) ∧ s.fctRuns f = true ∧ s.takeable f = none ∧ b.errAt v.upc.toNat = 0
          ∧ b.errAt (1024 + microNp w) = 0
    let all : List (Instr × SeqKind) := [(.facetNext f env, .next), (.facetRet f env, .ret), (.facetLoop f env, .loop), (.facetBr f env, .br),
          (.facetJmp f env, .jmp), (.facetCall f env, .call), (.facetGoto f env, .goto), (.facetBrt f env, .brt), (.facetNaLoop f env, .naLoop),
          (.facetDispatch f env, .dispatch)]
    s.sysrefOk = true ∧ ready ∧ kind = p.2 ∧ nanoMret n = true ∧ s.on (FCT_STAT_TRAPACT blk) = true ∧ nanoWait n = false ∧ nanoSwp n = false ∧ nanoBrk n = false ∧ kind ≠ .illegal ∧ p ∈ all) :=
  ⟨by decide,
    by decide,
    by decide,
    by decide,
    by decide,
    by decide,
    by decide,
    by decide,
    by decide,
    by decide,
    by decide,
    by decide,
    by decide,
    by decide,
    by decide⟩

/-- The hypotheses of `Obligations.FacetTrapsStoresAndSwitching` can hold. -/
theorem witness_FacetTrapsStoresAndSwitching :
    (
    let s : State := (((State.reset.setFacet 0 { bank0 := { lost := none, micro := [(0, 0)], nano := [], na := false } }).put (FCT_CTL_RUN 0x20008000) true).wr (FCT_TPEND_PEND 0x20008000) 1)
    let f : FacetId := .slice 0
    let i : Nat := 0
    let up : Prop := s.dom (facetDom f) = 2 ∧ s.facetOk f = true
    s.sysrefOk = true ∧ up ∧ s.fctRuns f = true ∧ s.takeable f = some i) ∧
    (
    let s : State := (((State.reset.setFacet 0 { bank0 := { lost := none, micro := [(0, 0)], nano := [], na := false }, sinceSafe := 100 }).put (FCT_CTL_RUN 0x20008000) true).wr (FCT_WDOG_LIMIT 0x20008000) 100)
    let f : FacetId := .slice 0
    let v := s.fct f
    let blk := facetBase f
    let up : Prop := s.dom (facetDom f) = 2 ∧ s.facetOk f = true
    s.sysrefOk = true ∧ up ∧ s.fctRuns f = true ∧ 0 < s.rd (FCT_WDOG_LIMIT blk) ∧ s.rd (FCT_WDOG_LIMIT blk) ≤ v.sinceSafe) ∧
    (
    let s : State := State.reset
    let f : FacetId := .slice 0
    let off : BitVec 14 := 0x1000
    let blk := facetBase f
    let up : Prop := s.dom (facetDom f) = 2 ∧ s.facetOk f = true
    let idle : Prop := s.on (FCT_STAT_BUSY blk) = false ∧ s.on (FCT_SWAP_ARM blk) = false
    s.sysrefOk = true ∧ up ∧ idle ∧ 0x1000 ≤ off.toNat ∧ off.toNat < 0x2000) ∧
    (
    let s : State := State.reset
    let f : FacetId := .slice 0
    let off : BitVec 14 := 0x2000
    let blk := facetBase f
    let up : Prop := s.dom (facetDom f) = 2 ∧ s.facetOk f = true
    let idle : Prop := s.on (FCT_STAT_BUSY blk) = false ∧ s.on (FCT_SWAP_ARM blk) = false
    s.sysrefOk = true ∧ up ∧ idle ∧ 0x2000 ≤ off.toNat ∧ off.toNat < 0x3000 ∧ off.toNat / 4 % 4 ≠ 3) ∧
    (
    let s : State := (State.reset.setFacet 0 { clearing := true, verifying := true })
    let f : FacetId := .slice 0
    let v := s.fct f
    let blk := facetBase f
    let up : Prop := s.dom (facetDom f) = 2 ∧ s.facetOk f = true
    s.sysrefOk = true ∧ up ∧ v.clearing = true ∧ v.verifying = true ∧ s.fctRuns f = false ∧ s.on (FCT_STAT_WAITING blk) = false ∧ s.on (FCT_CTL_RUN blk) = false) ∧
    (
    let s : State := ((((State.reset.setFacet 0 { bank0 := { lost := none, micro := [(0, 0)], nano := [(0, BitVec.ofNat 96 (2 ^ 90 + 2 ^ 88))], na := false } }).put (FCT_CTL_RUN 0x20008000) true).put (FCT_SWAP_ARM 0x20008000) true).put (FCT_STAT_WAITING 0x20008000) true)
    let f : FacetId := .slice 0
    let v := s.fct f
    let blk := facetBase f
    let b := s.activeBank f
    let n := b.nanoAt (microNp (b.microAt v.upc.toNat))
    let up : Prop := s.dom (facetDom f) = 2 ∧ s.facetOk f = true
    let idle : Prop := s.on (FCT_STAT_BUSY blk) = false ∧ s.on (FCT_SWAP_ARM blk) = false
    let key := v.scrubAt % 1280
    s.sysrefOk = true ∧ s.takeable f = none ∧ v.sinceSafe < s.rd (FCT_WDOG_LIMIT blk) ∧ up ∧ b.errAt key = 0 ∧ (b.errAt key = 0 ∨ b.errAt key = 1) ∧ (¬ idle) ∧ s.on (FCT_STAT_BUSY blk) = false ∧ s.fctRuns f = true ∧ s.on (FCT_STAT_WAITING blk) = true ∧ nanoWait n = true ∧ nanoSwp n = true ∧ s.on (FCT_SWAP_ARM blk) = true ∧ s.on (FCT_STAT_TRAPACT blk) = false ∧ s.on (FCT_CTL_RUN blk) = true ∧ s.on (FCT_STAT_HALT blk) = false) :=
  ⟨by decide,
    by decide,
    by decide,
    by decide,
    by decide,
    by decide⟩

/-- The hypotheses of `Obligations.ServoEntriesParksAndGains` can hold. -/
theorem witness_ServoEntriesParksAndGains :
    (
    let s : State := (((((State.reset.wr (SRV_MAXTRK_TRACK 0) 100).setBeam 0 { id := { heads0 := 12, heads1 := 12 } }).put (SRV_CTL_EN 0) true).wr (SRV_STAT_ST 0) 2).setLp 128 { entries := [entry [(64, 8, 1), (72, 4, 11), (96, 24, 100)]] })
    let k : Slice := 0
    let e : Entry := entry [(64, 8, 1), (72, 4, 11), (96, 24, 100)]
    let rest : List Entry := []
    let set : BitVec 6 := 0
    let n := k.val
    let v := s.servoS n
    let on : Prop := s.dom (64 + n / 2) = 2
    let st (s : State) : Nat := s.rd (SRV_STAT_ST n)
    let popped (op : Nat) : Prop := on ∧ s.on (SRV_CTL_EN n) = true ∧ v.entry = none ∧ v.results = [] ∧ (s.lp (128 + n)).entries = e :: rest ∧ e.poison = false
          ∧ e.at 64 8 = op ∧ s.badServoEntry n e = false
    s.sysrefOk = true ∧ popped 1 ∧ st s = 2 ∧ on ∧ v.reacqSince = none ∧ set.toNat < 48 ∧ s.on (SRV_CTL_EN n) = true) ∧
    (
    let s : State := (((((State.reset.wr (SRV_MAXTRK_TRACK 0) 100).setBeam 0 { id := { heads0 := 12, heads1 := 12 } }).put (SRV_CTL_EN 0) true).wr (SRV_STAT_ST 0) 0).setLp 128 { entries := [entry [(64, 8, 1), (72, 4, 11), (96, 24, 100)]] })
    let k : Slice := 0
    let e : Entry := entry [(64, 8, 1), (72, 4, 11), (96, 24, 100)]
    let rest : List Entry := []
    let n := k.val
    let v := s.servoS n
    let on : Prop := s.dom (64 + n / 2) = 2
    let st (s : State) : Nat := s.rd (SRV_STAT_ST n)
    let popped (op : Nat) : Prop := on ∧ s.on (SRV_CTL_EN n) = true ∧ v.entry = none ∧ v.results = [] ∧ (s.lp (128 + n)).entries = e :: rest ∧ e.poison = false
          ∧ e.at 64 8 = op ∧ s.badServoEntry n e = false
    s.sysrefOk = true ∧ popped 1 ∧ st s = 0 ∧ on ∧ s.on (SRV_CTL_EN n) = true) ∧
    (
    let s : State := (((((State.reset.wr (SRV_MAXTRK_TRACK 0) 100).setBeam 0 { id := { heads0 := 12, heads1 := 12 } }).put (SRV_CTL_EN 0) true).wr (SRV_STAT_ST 0) 2).setLp 128 { entries := [entry [(64, 8, 2), (72, 4, 11), (96, 24, 100)]] })
    let k : Slice := 0
    let e : Entry := entry [(64, 8, 2), (72, 4, 11), (96, 24, 100)]
    let rest : List Entry := []
    let n := k.val
    let v := s.servoS n
    let on : Prop := s.dom (64 + n / 2) = 2
    let st (s : State) : Nat := s.rd (SRV_STAT_ST n)
    let popped (op : Nat) : Prop := on ∧ s.on (SRV_CTL_EN n) = true ∧ v.entry = none ∧ v.results = [] ∧ (s.lp (128 + n)).entries = e :: rest ∧ e.poison = false
          ∧ e.at 64 8 = op ∧ s.badServoEntry n e = false
    s.sysrefOk = true ∧ popped 2 ∧ st s = 2) ∧
    (
    let s : State := (((((State.reset.wr (SRV_MAXTRK_TRACK 0) 100).setBeam 0 { id := { heads0 := 12, heads1 := 12 } }).put (SRV_CTL_EN 0) true).wr (SRV_STAT_ST 0) 2).setLp 128 { entries := [entry [(64, 8, 3), (72, 4, 11), (96, 24, 100)]] })
    let k : Slice := 0
    let e : Entry := entry [(64, 8, 3), (72, 4, 11), (96, 24, 100)]
    let rest : List Entry := []
    let n := k.val
    let v := s.servoS n
    let on : Prop := s.dom (64 + n / 2) = 2
    let st (s : State) : Nat := s.rd (SRV_STAT_ST n)
    let popped (op : Nat) : Prop := on ∧ s.on (SRV_CTL_EN n) = true ∧ v.entry = none ∧ v.results = [] ∧ (s.lp (128 + n)).entries = e :: rest ∧ e.poison = false
          ∧ e.at 64 8 = op ∧ s.badServoEntry n e = false
    s.sysrefOk = true ∧ popped 3 ∧ st s = 2) ∧
    (
    let s : State := ((((((State.reset.wr (SRV_MAXTRK_TRACK 0) 100).setBeam 0 { id := { heads0 := 12, heads1 := 12 } }).put (SRV_CTL_EN 0) true).wr (SRV_STAT_ST 0) 0).setLp 128 { entries := [entry [(64, 8, 4), (72, 4, 11), (96, 24, 100)]] }).put (SPN_STAT_INWIN 0) true)
    let k : Slice := 0
    let e : Entry := entry [(64, 8, 4), (72, 4, 11), (96, 24, 100)]
    let rest : List Entry := []
    let n := k.val
    let v := s.servoS n
    let on : Prop := s.dom (64 + n / 2) = 2
    let st (s : State) : Nat := s.rd (SRV_STAT_ST n)
    let popped (op : Nat) : Prop := on ∧ s.on (SRV_CTL_EN n) = true ∧ v.entry = none ∧ v.results = [] ∧ (s.lp (128 + n)).entries = e :: rest ∧ e.poison = false
          ∧ e.at 64 8 = op ∧ s.badServoEntry n e = false
    s.sysrefOk = true ∧ popped 4 ∧ st s = 0 ∧ s.on (SPN_STAT_INWIN (bayOf n)) = true) ∧
    (
    let s : State := (((State.reset.wr (SRV_STAT_ST 0) 0).setServo 0 { results := [entry []] }).setLp 224 { free := 1 })
    let k : Slice := 0
    let r : Entry := entry []
    let rs : List Entry := []
    let set : BitVec 6 := 0
    let n := k.val
    let v := s.servoS n
    let on : Prop := s.dom (64 + n / 2) = 2
    let st (s : State) : Nat := s.rd (SRV_STAT_ST n)
    let rising : Prop := s.rd (SRV_ZB_TRACK n 0) < s.rd (SRV_ZB_TRACK n 1) ∧ s.rd (SRV_ZB_TRACK n 1) < s.rd (SRV_ZB_TRACK n 2)
    s.sysrefOk = true ∧ s.servoFree n = false ∧ on ∧ v.results = r :: rs ∧ s.stalled = [] ∧ 0 < (s.lp (224 + bayOf n)).free ∧ st s = 0 ∧ set.toNat < 48 ∧ s.on (SRV_CTL_EN n) = false ∧ (¬ rising)) ∧
    (
    let s : State := ((State.reset.wr (SRV_STAT_ST 0) 2).setServo 0 { entry := some (entry [(64, 8, 1), (72, 4, 11), (96, 24, 100)]) })
    let k : Slice := 0
    let e : Entry := entry [(64, 8, 1), (72, 4, 11), (96, 24, 100)]
    let n := k.val
    let v := s.servoS n
    let on : Prop := s.dom (64 + n / 2) = 2
    s.sysrefOk = true ∧ on ∧ v.entry = some e ∧ (e.at 64 8 = 1 ∨ e.at 64 8 = 2) ∧ (s.schedS n).released = none) ∧
    (
    let s : State := ((State.reset.wr (SRV_STAT_ST 0) 1).setServo 0 { entry := some (entry [(64, 8, 4), (72, 4, 11), (96, 24, 100)]), fromPark := true })
    let k : Slice := 0
    let e : Entry := entry [(64, 8, 4), (72, 4, 11), (96, 24, 100)]
    let n := k.val
    let v := s.servoS n
    let on : Prop := s.dom (64 + n / 2) = 2
    let st (s : State) : Nat := s.rd (SRV_STAT_ST n)
    s.sysrefOk = true ∧ on ∧ v.entry = some e ∧ e.at 64 8 = 4 ∧ v.fromPark = true ∧ st s = 1) ∧
    (
    let s : State := ((State.reset.wr (SRV_STAT_ST 0) 2).setServo 0 { reacqSince := some 0 })
    let k : Slice := 0
    let n := k.val
    let v := s.servoS n
    let on : Prop := s.dom (64 + n / 2) = 2
    let st (s : State) : Nat := s.rd (SRV_STAT_ST n)
    s.sysrefOk = true ∧ on ∧ st s = 2 ∧ v.reacqSince.isSome) ∧
    (
    let s : State := ((State.reset.wr (SRV_STAT_ST 0) 0).setServo 0 { park := some .data })
    let k : Slice := 0
    let n := k.val
    let v := s.servoS n
    let on : Prop := s.dom (64 + n / 2) = 2
    s.sysrefOk = true ∧ on ∧ v.park = some .data) ∧
    (
    let s : State := ((State.reset.wr (SRV_STAT_ST 0) 0).setServo 0 { park := some .ramp })
    let k : Slice := 0
    let n := k.val
    let v := s.servoS n
    let on : Prop := s.dom (64 + n / 2) = 2
    s.sysrefOk = true ∧ on ∧ v.park = some .ramp ∧ v.parkReason ≠ 9) ∧
    (
    let s : State := ((State.reset.wr (SRV_ZB_TRACK 0 1) 1).wr (SRV_ZB_TRACK 0 2) 2)
    let k : Slice := 0
    let n := k.val
    let on : Prop := s.dom (64 + n / 2) = 2
    let rising : Prop := s.rd (SRV_ZB_TRACK n 0) < s.rd (SRV_ZB_TRACK n 1) ∧ s.rd (SRV_ZB_TRACK n 1) < s.rd (SRV_ZB_TRACK n 2)
    s.sysrefOk = true ∧ on ∧ s.on (SRV_CTL_EN n) = false ∧ rising) :=
  ⟨by decide,
    by decide,
    by decide,
    by decide,
    by decide,
    by decide,
    by decide,
    by decide,
    by decide,
    by decide,
    by decide,
    by decide⟩

/-- The hypotheses of `Obligations.ServoSamplesAndDeadlines` can hold. -/
theorem witness_ServoSamplesAndDeadlines :
    (
    let s : State := ((((State.reset.wr (SRV_STAT_ST 0) 2).put (SRV_CTL_EN 0) true).setServo 0 {  }).wr (SRV_POS_REGION 0) 0)
    let k : Slice := 0
    let x : ServoSmp := { found := true, parityOk := true }
    let n := k.val
    let v := s.servoS n
    let active : Prop := (s.dom (64 + n / 2) = 2 ∨ s.dom (64 + n / 2) = 3) ∧ s.on (SRV_CTL_EN n) = true ∧ s.rd (SRV_STAT_ST n) = 2
    s.sysrefOk = true ∧ active ∧ x.found = true ∧ x.parityOk = true ∧ s.rd (SRV_POS_REGION n) = 0 ∧ v.newHead = none ∧ v.reacqSince = none ∧ v.inPeriod = false ∧ v.feSince = none) ∧
    (
    let s : State := (((State.reset.wr (SRV_STAT_ST 0) 2).put (SRV_CTL_EN 0) true).setServo 0 {  })
    let k : Slice := 0
    let x : ServoSmp := { found := false }
    let n := k.val
    let active : Prop := (s.dom (64 + n / 2) = 2 ∨ s.dom (64 + n / 2) = 3) ∧ s.on (SRV_CTL_EN n) = true ∧ s.rd (SRV_STAT_ST n) = 2
    s.sysrefOk = true ∧ active ∧ x.found = false) ∧
    (
    let s : State := State.reset
    let k : Slice := 0
    let n := k.val
    s.sysrefOk = true ∧ s.on (SRV_CTL_EN n) = false) ∧
    (
    let s : State := (((State.reset.wr (SRV_STAT_ST 0) 2).put (SRV_CTL_EN 0) true).setServo 0 { inPeriod := true })
    let k : Slice := 0
    let n := k.val
    let v := s.servoS n
    let active : Prop := (s.dom (64 + n / 2) = 2 ∨ s.dom (64 + n / 2) = 3) ∧ s.on (SRV_CTL_EN n) = true ∧ s.rd (SRV_STAT_ST n) = 2
    let open_ : Prop := active ∧ v.inPeriod = true ∧ v.late = false
    s.sysrefOk = true ∧ open_ ∧ v.posted = false) ∧
    (
    let s : State := (((State.reset.wr (SRV_STAT_ST 0) 2).put (SRV_CTL_EN 0) true).setServo 0 { inPeriod := true, posted := true })
    let k : Slice := 0
    let n := k.val
    let v := s.servoS n
    let active : Prop := (s.dom (64 + n / 2) = 2 ∨ s.dom (64 + n / 2) = 3) ∧ s.on (SRV_CTL_EN n) = true ∧ s.rd (SRV_STAT_ST n) = 2
    let open_ : Prop := active ∧ v.inPeriod = true ∧ v.late = false
    s.sysrefOk = true ∧ open_ ∧ v.posted = true) ∧
    (
    let s : State := (((((State.reset.wr (SRV_STAT_ST 0) 2).put (SRV_CTL_EN 0) true).setServo 0 { feSince := some 0 }).put (SRV_SUP_MODE 0) true).wr (SRV_POS_REGION 0) 1)
    let k : Slice := 0
    let n := k.val
    let v := s.servoS n
    let active : Prop := (s.dom (64 + n / 2) = 2 ∨ s.dom (64 + n / 2) = 3) ∧ s.on (SRV_CTL_EN n) = true ∧ s.rd (SRV_STAT_ST n) = 2
    s.sysrefOk = true ∧ active ∧ s.on (SRV_SUP_MODE n) = true ∧ v.feSince.isSome ∧ (s.rd (SRV_POS_REGION n) = 1 ∨ s.rd (SRV_POS_REGION n) = 2)) :=
  ⟨by decide,
    by decide,
    by decide,
    by decide,
    by decide,
    by decide⟩

/-- The hypotheses of `Obligations.SpindleEntries` can hold. -/
theorem witness_SpindleEntries :
    (
    let s : State := ((((((State.reset.put (SPN_CTL_EN 0) true).wr (SPN_STAT_ST 0) 0).wr (CFG_PARAM_VALUE 64) 100).setLp 192 { entries := [entry [(64, 8, 1), (96, 16, 100)]] }).put (SPN_CTL_TOKEN 0) true).put (BL_CTL_ATTACHED 0) true)
    let b : Bay := 0
    let e : Entry := entry [(64, 8, 1), (96, 16, 100)]
    let rest : List Entry := []
    let n := b.val
    let v := s.spinS n
    let rpm := e.at 96 16
    let on : Prop := s.dom (64 + n) = 2
    let popped (op : Nat) : Prop := on ∧ s.on (SPN_CTL_EN n) = true ∧ v.entry = none ∧ s.stalled = [] ∧ (s.lp (192 + n)).entries = e :: rest
          ∧ e.poison = false ∧ e.at 64 8 = op
    s.sysrefOk = true ∧ popped 1 ∧ s.spin n = spStop ∧ s.rpmOk n rpm = true ∧ s.on (SPN_CTL_TOKEN n) = true ∧ s.on (BL_CTL_ATTACHED n) = true ∧ v.entry = none ∧ on) ∧
    (
    let s : State := ((((State.reset.put (SPN_CTL_EN 0) true).wr (SPN_STAT_ST 0) 0).wr (CFG_PARAM_VALUE 64) 100).setLp 192 { entries := [entry [(64, 8, 1), (96, 16, 100)]] })
    let b : Bay := 0
    let e : Entry := entry [(64, 8, 1), (96, 16, 100)]
    let rest : List Entry := []
    let n := b.val
    let v := s.spinS n
    let rpm := e.at 96 16
    let on : Prop := s.dom (64 + n) = 2
    let popped (op : Nat) : Prop := on ∧ s.on (SPN_CTL_EN n) = true ∧ v.entry = none ∧ s.stalled = [] ∧ (s.lp (192 + n)).entries = e :: rest
          ∧ e.poison = false ∧ e.at 64 8 = op
    s.sysrefOk = true ∧ popped 1 ∧ s.spin n = spStop ∧ s.rpmOk n rpm = true ∧ s.on (SPN_CTL_TOKEN n) = false) ∧
    (
    let s : State := (((((State.reset.put (SPN_CTL_EN 0) true).wr (SPN_STAT_ST 0) 3).wr (CFG_PARAM_VALUE 64) 100).setLp 192 { entries := [entry [(64, 8, 2), (96, 16, 100)]] }).wr (SPN_SPEED_TARGET 0) 100)
    let b : Bay := 0
    let e : Entry := entry [(64, 8, 2), (96, 16, 100)]
    let rest : List Entry := []
    let n := b.val
    let v := s.spinS n
    let rpm := e.at 96 16
    let on : Prop := s.dom (64 + n) = 2
    let popped (op : Nat) : Prop := on ∧ s.on (SPN_CTL_EN n) = true ∧ v.entry = none ∧ s.stalled = [] ∧ (s.lp (192 + n)).entries = e :: rest
          ∧ e.poison = false ∧ e.at 64 8 = op
    s.sysrefOk = true ∧ popped 2 ∧ s.spin n = spRun ∧ s.rpmOk n rpm = true ∧ rpm ≤ s.rd (SPN_SPEED_TARGET n)) ∧
    (
    let s : State := ((((State.reset.put (SPN_CTL_EN 0) true).wr (SPN_STAT_ST 0) 3).wr (CFG_PARAM_VALUE 64) 100).setLp 192 { entries := [entry [(64, 8, 3), (96, 16, 100)]] })
    let b : Bay := 0
    let e : Entry := entry [(64, 8, 3), (96, 16, 100)]
    let rest : List Entry := []
    let n := b.val
    let v := s.spinS n
    let on : Prop := s.dom (64 + n) = 2
    let popped (op : Nat) : Prop := on ∧ s.on (SPN_CTL_EN n) = true ∧ v.entry = none ∧ s.stalled = [] ∧ (s.lp (192 + n)).entries = e :: rest
          ∧ e.poison = false ∧ e.at 64 8 = op
    s.sysrefOk = true ∧ popped 3 ∧ s.spin n = spRun ∧ s.bothParked n = true) ∧
    (
    let s : State := ((((State.reset.put (SPN_CTL_EN 0) true).wr (SPN_STAT_ST 0) 0).wr (CFG_PARAM_VALUE 64) 100).setLp 192 { entries := [entry [(64, 8, 3), (96, 16, 100)]] })
    let b : Bay := 0
    let e : Entry := entry [(64, 8, 3), (96, 16, 100)]
    let rest : List Entry := []
    let n := b.val
    let v := s.spinS n
    let on : Prop := s.dom (64 + n) = 2
    let popped (op : Nat) : Prop := on ∧ s.on (SPN_CTL_EN n) = true ∧ v.entry = none ∧ s.stalled = [] ∧ (s.lp (192 + n)).entries = e :: rest
          ∧ e.poison = false ∧ e.at 64 8 = op
    s.sysrefOk = true ∧ popped 3 ∧ s.spin n = spStop) ∧
    (
    let s : State := ((((State.reset.put (SPN_CTL_EN 0) true).wr (SPN_STAT_ST 0) 3).wr (CFG_PARAM_VALUE 64) 100).setLp 192 { entries := [entry [(64, 8, 4), (96, 16, 100)]] })
    let b : Bay := 0
    let e : Entry := entry [(64, 8, 4), (96, 16, 100)]
    let rest : List Entry := []
    let n := b.val
    let v := s.spinS n
    let on : Prop := s.dom (64 + n) = 2
    let popped (op : Nat) : Prop := on ∧ s.on (SPN_CTL_EN n) = true ∧ v.entry = none ∧ s.stalled = [] ∧ (s.lp (192 + n)).entries = e :: rest
          ∧ e.poison = false ∧ e.at 64 8 = op
    s.sysrefOk = true ∧ popped 4 ∧ s.spin n = spRun) ∧
    (
    let s : State := ((((State.reset.put (SPN_CTL_EN 0) true).wr (SPN_STAT_ST 0) 4).wr (CFG_PARAM_VALUE 64) 100).setLp 192 { entries := [entry [(64, 8, 5), (96, 16, 100)]] })
    let b : Bay := 0
    let e : Entry := entry [(64, 8, 5), (96, 16, 100)]
    let rest : List Entry := []
    let n := b.val
    let v := s.spinS n
    let on : Prop := s.dom (64 + n) = 2
    let popped (op : Nat) : Prop := on ∧ s.on (SPN_CTL_EN n) = true ∧ v.entry = none ∧ s.stalled = [] ∧ (s.lp (192 + n)).entries = e :: rest
          ∧ e.poison = false ∧ e.at 64 8 = op
    s.sysrefOk = true ∧ popped 5 ∧ s.spin n = spRegen) ∧
    (
    let s : State := ((((State.reset.put (SPN_CTL_EN 0) true).wr (SPN_STAT_ST 0) 3).wr (CFG_PARAM_VALUE 64) 100).setLp 192 { entries := [entry [(64, 8, 6), (96, 16, 100)]] })
    let b : Bay := 0
    let e : Entry := entry [(64, 8, 6), (96, 16, 100)]
    let rest : List Entry := []
    let n := b.val
    let v := s.spinS n
    let on : Prop := s.dom (64 + n) = 2
    let popped (op : Nat) : Prop := on ∧ s.on (SPN_CTL_EN n) = true ∧ v.entry = none ∧ s.stalled = [] ∧ (s.lp (192 + n)).entries = e :: rest
          ∧ e.poison = false ∧ e.at 64 8 = op
    s.sysrefOk = true ∧ popped 6 ∧ s.spin n = spRun ∧ s.bothParked n = true) ∧
    (
    let s : State := ((State.reset.wr (SPN_STAT_ST 0) 0).setSpin 0 { entry := some (entry [(64, 8, 2), (96, 16, 100)]) })
    let b : Bay := 0
    let e : Entry := entry [(64, 8, 2), (96, 16, 100)]
    let n := b.val
    let v := s.spinS n
    let on : Prop := s.dom (64 + n) = 2
    s.sysrefOk = true ∧ on ∧ v.entry = some e ∧ (e.at 64 8 = 1 ∨ e.at 64 8 = 2) ∧ (s.rd (SPN_MOTOR_P n) = 0 ∨ s.rd (SPN_MOTOR_INERTIA n) = 0) ∧ s.on (SPN_CTL_EN n) = false) ∧
    (
    let s : State := ((State.reset.wr (SPN_MOTOR_P 0) 4).wr (SPN_MOTOR_INERTIA 0) 1)
    let b : Bay := 0
    let n := b.val
    let on : Prop := s.dom (64 + n) = 2
    s.sysrefOk = true ∧ on ∧ s.rd (SPN_MOTOR_P n) ≠ 0 ∧ s.rd (SPN_MOTOR_INERTIA n) ≠ 0) :=
  ⟨by decide,
    by decide,
    by decide,
    by decide,
    by decide,
    by decide,
    by decide,
    by decide,
    by decide,
    by decide⟩

/-- The hypotheses of `Obligations.SpindleStartLossAndBrake` can hold. -/
theorem witness_SpindleStartLossAndBrake :
    (
    let s : State := (((State.reset.wr (SPN_STAT_ST 0) 1).setSpin 0 { starting := true }).wr (CFG_PARAM_VALUE 64) 100)
    let b : Bay := 0
    let rpm : BitVec 14 := 8
    let n := b.val
    let v := s.spinS n
    let on : Prop := s.dom (64 + n) = 2 ∨ s.dom (64 + n) = 3
    let st := s.spin n
    let fast : Prop := 8 * s.nNom n ≤ 100 * rpm.toNat
    let begun : Prop := on ∧ v.starting = true
    s.sysrefOk = true ∧ begun ∧ st = spListen ∧ fast) ∧
    (
    let s : State := ((State.reset.wr (SPN_STAT_ST 0) 6).setSpin 0 { starting := true, brakeEnd := .start })
    let b : Bay := 0
    let n := b.val
    let v := s.spinS n
    let on : Prop := s.dom (64 + n) = 2 ∨ s.dom (64 + n) = 3
    let st := s.spin n
    let begun : Prop := on ∧ v.starting = true
    s.sysrefOk = true ∧ begun ∧ st = spBrake ∧ v.brakeEnd = .start ∧ on ∧ v.parkWait = false) ∧
    (
    let s : State := (((State.reset.wr (SPN_STAT_ST 0) 2).setSpin 0 { probeAt := some 0 }).wr (SPN_START_PMARGIN 0) 10)
    let b : Bay := 0
    let peaks : List Nat := [100, 99]
    let n := b.val
    let v := s.spinS n
    let on : Prop := s.dom (64 + n) = 2 ∨ s.dom (64 + n) = 3
    let st := s.spin n
    let p := largestPeak (peaks.take 6)
    let ambiguous : Prop := (p.2.1 - p.2.2) * 100 < s.rd (SPN_START_PMARGIN n) * p.2.2
    s.sysrefOk = true ∧ on ∧ st = spStart ∧ v.probeAt.isSome ∧ ambiguous ∧ v.ambiguous < 2) ∧
    (
    let s : State := (((State.reset.wr (SPN_STAT_ST 0) 2).setSpin 0 { probeAt := some 0, ambiguous := 2 }).wr (SPN_START_PMARGIN 0) 10)
    let b : Bay := 0
    let peaks : List Nat := [100, 99]
    let n := b.val
    let v := s.spinS n
    let on : Prop := s.dom (64 + n) = 2 ∨ s.dom (64 + n) = 3
    let st := s.spin n
    let p := largestPeak (peaks.take 6)
    let ambiguous : Prop := (p.2.1 - p.2.2) * 100 < s.rd (SPN_START_PMARGIN n) * p.2.2
    s.sysrefOk = true ∧ on ∧ st = spStart ∧ v.probeAt.isSome ∧ ambiguous ∧ 2 ≤ v.ambiguous) ∧
    (
    let s : State := (((State.reset.wr (SPN_STAT_ST 0) 2).setSpin 0 { probeAt := some 0 }).wr (SPN_START_PMARGIN 0) 10)
    let b : Bay := 0
    let peaks : List Nat := [110, 100]
    let n := b.val
    let v := s.spinS n
    let on : Prop := s.dom (64 + n) = 2 ∨ s.dom (64 + n) = 3
    let st := s.spin n
    let p := largestPeak (peaks.take 6)
    let ambiguous : Prop := (p.2.1 - p.2.2) * 100 < s.rd (SPN_START_PMARGIN n) * p.2.2
    s.sysrefOk = true ∧ on ∧ st = spStart ∧ v.probeAt.isSome ∧ (¬ ambiguous)) ∧
    (
    let s : State := (((State.reset.wr (SPN_STAT_ST 0) 2).setSpin 0 { starting := true, steps := 39 }).wr (CFG_PARAM_VALUE 64) 100)
    let b : Bay := 0
    let rpm : BitVec 14 := 1
    let n := b.val
    let v := s.spinS n
    let on : Prop := s.dom (64 + n) = 2 ∨ s.dom (64 + n) = 3
    let st := s.spin n
    let begun : Prop := on ∧ v.starting = true
    s.sysrefOk = true ∧ begun ∧ st = spStart ∧ v.probeAt = none ∧ 39 ≤ v.steps ∧ 100 * rpm.toNat < 2 * s.nNom n) ∧
    (
    let s : State := (((State.reset.wr (SPN_STAT_ST 0) 2).setSpin 0 { starting := true, inBand := 15 }).wr (CFG_PARAM_VALUE 64) 100)
    let b : Bay := 0
    let rpm : BitVec 14 := 8
    let resid : BitVec 16 := 0
    let n := b.val
    let v := s.spinS n
    let on : Prop := s.dom (64 + n) = 2 ∨ s.dom (64 + n) = 3
    let st := s.spin n
    let fast : Prop := 8 * s.nNom n ≤ 100 * rpm.toNat
    let begun : Prop := on ∧ v.starting = true
    s.sysrefOk = true ∧ begun ∧ st = spStart ∧ v.probeAt = none ∧ v.steps < 39 ∧ on ∧ v.parkWait = false ∧ v.starting = true ∧ (s.beamS n).phaseStale0 = false ∧ resid.toNat ≤ s.rd (SPN_OBS_RBAND n) ∧ 15 ≤ v.inBand ∧ fast) ∧
    (
    let s : State := ((State.reset.wr (SPN_STAT_ST 0) 6).setSpin 0 {  })
    let b : Bay := 0
    let f : Nat := 0
    let n := b.val
    let v := s.spinS n
    let on : Prop := s.dom (64 + n) = 2 ∨ s.dom (64 + n) = 3
    let st := s.spin n
    s.sysrefOk = true ∧ on ∧ st = spBrake ∧ v.brakeEnd = .stop f) ∧
    (
    let s : State := ((State.reset.wr (SPN_STAT_ST 0) 3).setSpin 0 { posted := true })
    let b : Bay := 0
    let n := b.val
    let v := s.spinS n
    let on : Prop := s.dom (64 + n) = 2 ∨ s.dom (64 + n) = 3
    let st := s.spin n
    s.sysrefOk = true ∧ on ∧ st = spRun ∧ v.late = false ∧ v.probeAt = none ∧ v.posted = true) ∧
    (
    let s : State := ((State.reset.wr (SPN_STAT_ST 0) 3).setSpin 0 { lateRun := 3 })
    let b : Bay := 0
    let n := b.val
    let v := s.spinS n
    let on : Prop := s.dom (64 + n) = 2 ∨ s.dom (64 + n) = 3
    let st := s.spin n
    s.sysrefOk = true ∧ on ∧ st = spRun ∧ v.late = false ∧ v.probeAt = none ∧ v.posted = false ∧ 3 ≤ v.lateRun) ∧
    (
    let s : State := ((State.reset.wr (SPN_STAT_ST 0) 5).setSpin 0 { coastAt := some 0, crossings := 5, before := spRun })
    let b : Bay := 0
    let n := b.val
    let v := s.spinS n
    let on : Prop := s.dom (64 + n) = 2 ∨ s.dom (64 + n) = 3
    let st := s.spin n
    s.sysrefOk = true ∧ v.starting = false ∧ on ∧ st = spCoast ∧ v.coastAt.isSome ∧ v.parkWait = false ∧ 5 ≤ v.crossings ∧ v.before = spRun ∧ s.bothParked n = true ∧ s.on (FCT_STAT_HALT (commFct n)) = false ∧ st ≠ spBrake) ∧
    (
    let s : State := (((State.reset.put (FCT_STAT_HALT (commFct 0)) true).wr (SRV_STAT_ST 0) 2).wr (SRV_STAT_ST 1) 2)
    let b : Bay := 0
    let n := b.val
    let on : Prop := s.dom (64 + n) = 2 ∨ s.dom (64 + n) = 3
    let st := s.spin n
    s.sysrefOk = true ∧ st = spStop ∧ on ∧ s.on (FCT_STAT_HALT (commFct n)) = true ∧ s.rd (SRV_STAT_ST (2 * n)) = 2 ∧ s.rd (SRV_STAT_ST (2 * n + 1)) = 2) ∧
    (
    let s : State := ((State.reset.wr (SPN_STAT_ST 0) 3).setSpin 0 { parkWait := true })
    let b : Bay := 0
    let n := b.val
    let v := s.spinS n
    let on : Prop := s.dom (64 + n) = 2 ∨ s.dom (64 + n) = 3
    s.sysrefOk = true ∧ on ∧ v.parkWait = true) :=
  ⟨by decide,
    by decide,
    by decide,
    by decide,
    by decide,
    by decide,
    by decide,
    by decide,
    by decide,
    by decide,
    by decide,
    by decide,
    by decide⟩

/-- The hypotheses of `Obligations.LifeRecordsAndCalibration` can hold. -/
theorem witness_LifeRecordsAndCalibration :
    (
    let s : State := ((State.reset.wr (CFG_PARAM_VALUE 11) 1).setBeam 0 { id := { heads0 := 12, heads1 := 12 } })
    let b : Bay := 0
    let k : Slice := 0
    let ty : CalType := .winding
    let h : Fin 12 := 11
    let n := k.val
    let c := s.calS n
    let may := s.calMayRun n (calNo ty) h.val
    let on : Prop := s.dom (64 + n / 2) = 2
    s.sysrefOk = true ∧ (∀ i, i < s.bayCount → s.on (BL_CTL_ATTACHED i) = false) ∧ (s.on APR_STAT_FLUSHING = true ∨ s.on (BL_CTL_ATTACHED b.val) = false) ∧ (s.beamS b.val).verified = false ∧ on ∧ may = true ∧ s.actIdle n = true ∧ s.curOp n = none ∧ c.running = none) ∧
    (
    let s : State := ((State.reset.wr (CFG_PARAM_VALUE 11) 1).setBeam 0 { id := { heads0 := 12, heads1 := 12 } })
    let k : Slice := 0
    let ty : CalType := .laser
    let h : Fin 12 := 11
    let n := k.val
    let may := s.calMayRun n (calNo ty) h.val
    s.sysrefOk = true ∧ may = false) ∧
    (
    let s : State := (State.reset.setCal 0 { running := some (8, 11) })
    let k : Slice := 0
    let r : CalResult := { agreed := false }
    let x : Nat := 8
    let y : Nat := 11
    let n := k.val
    let c := s.calS n
    let on : Prop := s.dom (64 + n / 2) = 2
    s.sysrefOk = true ∧ on ∧ c.running = some (x, y) ∧ r.agreed = false ∧ (16 * x + y) ∉ c.disagreed) ∧
    (
    let s : State := (State.reset.setCal 0 { running := some (1, 11) })
    let k : Slice := 0
    let r : CalResult := { agreed := true, values := [4096] }
    let x : Nat := 1
    let y : Nat := 11
    let n := k.val
    let c := s.calS n
    let on : Prop := s.dom (64 + n / 2) = 2
    s.sysrefOk = true ∧ on ∧ c.running = some (x, y) ∧ r.agreed = true ∧ s.plausible n x y r = true) ∧
    (
    let s : State := (State.reset.setCal 0 { running := some (1, 11), valid := [27] })
    let k : Slice := 0
    let r : CalResult := { agreed := true, values := [4097] }
    let x : Nat := 1
    let y : Nat := 11
    let n := k.val
    let c := s.calS n
    let on : Prop := s.dom (64 + n / 2) = 2
    s.sysrefOk = true ∧ on ∧ c.running = some (x, y) ∧ r.agreed = true ∧ s.plausible n x y r = false) ∧
    (
    let s : State := ((State.reset.put (BL_CTL_ATTACHED 0) true).setBeam 0 { verified := true, id := { heads0 := 12, heads1 := 12 } })
    let b : Bay := 0
    let h : Fin 12 := 11
    let heads := s.headCount b.val 0
    let counted : Prop := (∀ i a, s.headCount i a ≤ 12) ∧ h.val < heads
    s.sysrefOk = true ∧ b.val < s.bayCount ∧ s.on (BL_CTL_ATTACHED b.val) = true ∧ counted ∧ (s.sliceS (2 * b.val)).laser = 0) ∧
    (
    let s : State := ((State.reset.put (BL_CTL_ATTACHED 0) true).setBeam 0 { verified := true, id := { heads0 := 12, heads1 := 12 } })
    let b : Bay := 0
    let h : Fin 12 := 11
    let heads := s.headCount b.val 0
    let counted : Prop := (∀ i a, s.headCount i a ≤ 12) ∧ h.val < heads
    s.sysrefOk = true ∧ s.on APR_STAT_FLUSHING = false ∧ s.on (BL_CTL_ATTACHED b.val) = true ∧ counted) ∧
    (
    let s : State := ((State.reset.put (BL_CTL_ATTACHED 0) true).setBeam 0 { verified := true, id := { heads0 := 12, heads1 := 12 } })
    let b : Bay := 0
    let br : BridgeLife := {}
    let h : Fin 12 := 11
    let heads := s.headCount b.val 0
    let counted : Prop := (∀ i a, s.headCount i a ≤ 12) ∧ h.val < heads
    s.sysrefOk = true ∧ (s.beamS b.val).verified = true ∧ s.hdas = [] ∧ br.copyA = [] ∧ br.copyB = [] ∧ counted) :=
  ⟨by decide,
    by decide,
    by decide,
    by decide,
    by decide,
    ⟨by decide, by decide, by decide, ⟨counted_one _ _ rfl (by decide) (by decide), by decide⟩, by decide⟩,
    ⟨by decide, by decide, by decide, ⟨counted_one _ _ rfl (by decide) (by decide), by decide⟩⟩,
    ⟨by decide, by decide, by decide, by decide, by decide, ⟨counted_one _ _ rfl (by decide) (by decide), by decide⟩⟩⟩

/-- The hypotheses of `Obligations.BusChopperAndReference` can hold. -/
theorem witness_BusChopperAndReference :
    (
    let s : State := State.reset
    let v0 : Nat := 0
    let v1 : Nat := 0
    let avg : BitVec 16 := 0
    let regen : Prop := ∃ i, i < s.bayCount ∧ s.spin i = spRegen
    let a := avg.toNat
    let plausible : Prop := (12500 - a : Int).natAbs * 1000 ≤ 12500 * s.clamp THM_REF_CTL_PLAUS 5 100
    let near : Prop := v1 ≠ 0 ∧ 97 * v1 ≤ 100 * v0 ∧ 100 * v0 ≤ 103 * v1
    s.sysrefOk = true ∧ s.on APR_CHOP_TEST_BUSY = false ∧ (¬ regen) ∧ (¬ plausible) ∧ (¬ near)) ∧
    (
    let s : State := State.reset
    let code : BitVec 12 := 0xFFF
    let mv := s.senseMv code.toNat 20000
    s.ovMv < mv) ∧
    (
    let s : State := ((State.reset.put APR_CHOP_TEST_BUSY true).wr APR_CHOP_TEST_DIP 100)
    let v0 : Nat := 12100
    let v1 : Nat := 12000
    let v2 : Nat := 12080
    let avg : BitVec 16 := 12500
    let regen : Prop := ∃ i, i < s.bayCount ∧ s.spin i = spRegen
    let good : Prop := s.rd APR_CHOP_TEST_DIP ≤ v0 - v1 ∧ ((v0 : Int) - v2).natAbs ≤ 20
    let a := avg.toNat
    let plausible : Prop := (12500 - a : Int).natAbs * 1000 ≤ 12500 * s.clamp THM_REF_CTL_PLAUS 5 100
    let near : Prop := v1 ≠ 0 ∧ 97 * v1 ≤ 100 * v0 ∧ 100 * v0 ≤ 103 * v1
    s.sysrefOk = true ∧ (∀ i ∈ s.bus.regenAt, i < s.bayCount) ∧ (s.on APR_CHOP_TEST_BUSY = true ∨ regen) ∧ s.on APR_CHOP_TEST_BUSY = true ∧ good ∧ plausible ∧ near) ∧
    (
    let s : State := ((State.reset.put APR_CHOP_TEST_BUSY true).wr APR_CHOP_TEST_DIP 100)
    let v0 : Nat := 12099
    let v1 : Nat := 12000
    let v2 : Nat := 12080
    let good : Prop := s.rd APR_CHOP_TEST_DIP ≤ v0 - v1 ∧ ((v0 : Int) - v2).natAbs ≤ 20
    s.sysrefOk = true ∧ s.on APR_CHOP_TEST_BUSY = true ∧ (¬ good)) :=
  ⟨by decide,
    by decide,
    by decide,
    by decide⟩

/-- The hypotheses of `Obligations.BandTableCommands` can hold. -/
theorem witness_BandTableCommands :
    (
    let s : State := { State.reset with bt := [(0, { bytes := btSeal (setBtQp (setBtWp (setBtState 0 bandFree) 0) 0), dirty := false })] }
    let idx : BitVec 25 := 0
    let l : BtLine := { bytes := btSeal (setBtQp (setBtWp (setBtState 0 bandFree) 0) 0), dirty := false }
    let i := idx.toNat
    let idle : Prop := s.on MEM_BT_STAT_BUSY = false
    let named : Prop := hportNamesHead (i / 2 ^ 15) = true
    let held : Prop := idle ∧ named ∧ s.btLine i = some l
    let settled : Prop := btQp l.bytes = btWp l.bytes
    s.sysrefOk = true ∧ held ∧ settled ∧ btLegal (btState l.bytes) (btState s.btData) = true ∧ btState l.bytes = bandFree ∧ s.btPinnedIn (btSetOf i) i < 6 ∧ btState l.bytes ≠ bandOpen ∧ idle ∧ (∀ p ∈ s.bt, p.2.dirty = false) ∧ btBand (btSeal s.btData) = i) ∧
    (
    let s : State := { State.reset with bt := [(0, { bytes := btSeal (setBtQp (setBtWp (setBtState 0 bandOpen) 0) 0), dirty := false })] }
    let idx : BitVec 25 := 0
    let l : BtLine := { bytes := btSeal (setBtQp (setBtWp (setBtState 0 bandOpen) 0) 0), dirty := false }
    let i := idx.toNat
    let idle : Prop := s.on MEM_BT_STAT_BUSY = false
    let named : Prop := hportNamesHead (i / 2 ^ 15) = true
    let held : Prop := idle ∧ named ∧ s.btLine i = some l
    let settled : Prop := btQp l.bytes = btWp l.bytes
    s.sysrefOk = true ∧ held ∧ settled ∧ btLegal (btState l.bytes) (btState s.btData) = false ∧ btState l.bytes ≠ bandFree ∧ btState l.bytes = bandOpen) ∧
    (
    let s : State := { State.reset with bt := [(0, { bytes := btSeal (setBtQp (setBtWp (setBtState 0 bandOpen) 0) 1), dirty := false })] }
    let idx : BitVec 25 := 0
    let l : BtLine := { bytes := btSeal (setBtQp (setBtWp (setBtState 0 bandOpen) 0) 1), dirty := false }
    let i := idx.toNat
    let idle : Prop := s.on MEM_BT_STAT_BUSY = false
    let named : Prop := hportNamesHead (i / 2 ^ 15) = true
    let held : Prop := idle ∧ named ∧ s.btLine i = some l
    let settled : Prop := btQp l.bytes = btWp l.bytes
    s.sysrefOk = true ∧ held ∧ (¬ settled)) ∧
    (
    let s : State := State.reset
    let op : BitVec 4 := 8
    let idle : Prop := s.on MEM_BT_STAT_BUSY = false
    s.sysrefOk = true ∧ idle ∧ 8 ≤ op.toNat) ∧
    (
    let s : State := (State.reset.put MEM_BT_STAT_BUSY true)
    let idx : BitVec 25 := 0
    let op : BitVec 4 := 0
    let c := .btClean
    let i := idx.toNat
    let named : Prop := hportNamesHead (i / 2 ^ 15) = true
    let all : List Instr := [.btRead idx, .btWrite idx, .btOpen idx, .btClose idx, .btClean, .btInval, .btRestore idx, .btInvalidCommand op idx]
    s.sysrefOk = true ∧ named ∧ s.on MEM_BT_STAT_BUSY = true ∧ c ∈ all) ∧
    (
    let s : State := State.reset
    let idx : BitVec 25 := 393216
    let c := .btRead idx
    let i := idx.toNat
    let named : Prop := hportNamesHead (i / 2 ^ 15) = true
    s.sysrefOk = true ∧ (¬ named) ∧ c ∈ ([.btRead idx, .btWrite idx, .btOpen idx, .btClose idx, .btRestore idx] : List Instr)) :=
  ⟨by decide,
    by decide,
    by decide,
    by decide,
    by decide,
    by decide⟩

/-- The hypotheses of `Obligations.JournalCheckpointsAndMoves` can hold. -/
theorem witness_JournalCheckpointsAndMoves :
    (
    let s : State := { State.reset with red := { sets := [(0, { state := 1, next := 254 })], opened := [(0, {})] } }
    let bsid : BitVec 32 := 0
    let x : BandSet := { state := 1, next := 254 }
    let o : OpenStripe := {}
    let b := bsid.toNat
    let p := s.pollOps
    let sealing : Prop := p.bandSet b = some x ∧ p.red.opened.find? (fun z => z.1 == b) = some (b, o) ∧ x.state = 1 ∧ ∀ j ∈ p.red.stripes, j.bsid ≠ b
    let idle : Prop := (∀ z ∈ p.red.resync, z.1 ≠ b) ∧ p.bandSet b = some x
    s.sysrefOk = true ∧ sealing ∧ idle ∧ p.compacts b x = false ∧ p.anyMissing b x = false ∧ (∀ z ∈ p.red.moves, z.1 ≠ b) ∧ (∀ z ∈ p.red.relocate, z.1 ≠ b)) ∧
    (
    let s : State := { State.reset with red := { pairs := [(0, {})] } }
    let bsid : BitVec 32 := 0
    let pair : Fin 16 := 0
    let q : JPair := {}
    let l : List (BitVec 10) := []
    let ch : List ((Nat × Nat) × (Nat × Nat)) := []
    let dir : (Nat × Nat) × (Nat × Nat) := ((0, 0), (0, 0))
    let rc : RecoveryFound := {}
    let g : Nat := 0
    let f : Nat := 0
    let bands : List Nat := []
    let b := bsid.toNat
    let p := s.pollOps
    let c := s.checkRoles
    let d := s.red
    let held : Prop := c.red.pairs.find? (fun z => z.1 == pair.val) = some (pair.val, q)
    s.sysrefOk = true ∧ p.bandSet b = none ∧ (∀ j ∈ p.red.stripes, j.bsid ≠ b) ∧ held ∧ q.sector = [] ∧ d.open_ = [] ∧ d.resync = [] ∧ (d.running.isSome ∨ s.ckptDue = false) ∧ (distinctBays l).length < 4 ∨ (dir :: ch).all (chunkOk g) = false ∧ d.running = some (g, bands, f) ∧ bestRoot rc.roots = none) ∧
    (
    let s : State := { State.reset with red := { open_ := [(0, 0)], sets := [(0, { state := 1, k := 2, m := 1 })] } }
    let bsid : BitVec 32 := 0
    let region : BitVec 23 := 0
    let x : BandSet := { state := 1, k := 2, m := 1 }
    let i := 0
    let b := bsid.toNat
    let d := s.red
    let n := region.toNat
    s.sysrefOk = true ∧ d.open_ = [(b, i)] ∧ d.ready = [] ∧ s.bandSet b = some x ∧ n ∈ bsBits x b i) ∧
    (
    let s : State := ((({ State.reset with red := { sets := [(0, { state := 2, layout := 1, k := 2 }), (1, { state := 1 })] } }).wr (PRZ_LAYOUT0_STATE 0) 1).wr (PRZ_LAYOUT0_STATE 1) 2)
    let bsid : BitVec 32 := 0
    let x : BandSet := { state := 2, layout := 1, k := 2 }
    let z : BitVec 31 := 0
    let b := bsid.toNat
    let p := s.pollOps
    let idle : Prop := (∀ z ∈ p.red.resync, z.1 ≠ b) ∧ p.bandSet b = some x
    s.sysrefOk = true ∧ idle ∧ p.compacts b x = true ∧ (∀ z ∈ p.red.moves, z.1 ≠ b) ∧ z.toNat = b ∧ p.bandSet b = some x ∧ p.rd (PRZ_LAYOUT0_STATE x.layout) = 2 ∧ p.anyMissing b x = false) ∧
    (
    let s : State := ((((State.reset.wr (PRZ_LAYOUT0_STATE 0) 1).wr (PRZ_ARM_STATE 0) armActive).wr (PRZ_ARM_STATE 2) armActive).wr (PRZ_ARM_STATE 4) armActive)
    let old : Fin 8 := 0
    let new : Fin 8 := 7
    let k : Nat := 2
    let m : Nat := 1
    let u : Nat := 4
    let p := s.pollOps
    let free : Prop := p.role = roleStandalone ∨ p.hie.allowed = []
    s.sysrefOk = true ∧ free ∧ old ≠ new ∧ p.layoutActive old.val = true ∧ p.rd (PRZ_LAYOUT0_STATE new.val) = 0 ∧ p.layoutOk k m u = true ∧ k + m ≤ p.activeBays) ∧
    (
    let s : State := (State.reset.wr (PRZ_LAYOUT0_STATE 7) 2)
    let old : Fin 8 := 7
    let p := s.pollOps
    let free : Prop := p.role = roleStandalone ∨ p.hie.allowed = []
    s.sysrefOk = true ∧ free ∧ p.rd (PRZ_LAYOUT0_STATE old.val) = 2 ∧ (∀ z ∈ p.red.sets, z.2.layout ≠ old.val)) ∧
    (
    let s : State := { State.reset with red := { pairs := [(0, { sector := [{}] })] } }
    let pair : Fin 16 := 0
    let q : JPair := { sector := [{}] }
    let r : JRec := {}
    let rs : List JRec := []
    let c := s.checkRoles
    let held : Prop := c.red.pairs.find? (fun z => z.1 == pair.val) = some (pair.val, q)
    s.sysrefOk = true ∧ held ∧ q.sector = r :: rs) ∧
    (
    let s : State := (State.reset.wr (CFG_PARAM_VALUE 13) 0)
    let d := s.red
    s.sysrefOk = true ∧ d.running = none ∧ s.ckptDue = true) ∧
    (
    let s : State := { State.reset with red := { running := some (3, [], 0) } }
    let l : List (BitVec 10) := [0, 32, 64, 96]
    let ch : List ((Nat × Nat) × (Nat × Nat)) := []
    let dir : (Nat × Nat) × (Nat × Nat) := ((2147483648, 86544), (2148532224, 86544))
    let g : Nat := 3
    let f : Nat := 0
    let bands : List Nat := []
    let d := s.red
    let committing : Prop := d.running = some (g, bands, f) ∧ 4 ≤ (distinctBays l).length ∧ (dir :: ch).all (chunkOk g) = true
    s.sysrefOk = true ∧ committing) ∧
    (
    let s : State := State.reset
    let rc : RecoveryFound := { roots := [{ root := { gen := 5 }, crc := crc32c (Config.rootBody { gen := 5 }) }] }
    let root : Root := { gen := 5 }
    s.sysrefOk = true ∧ bestRoot rc.roots = some root) ∧
    (
    let s : State := { State.reset with red := { sets := [(0, { state := 3 })], moves := [(0, {})] } }
    let bsid : BitVec 32 := 0
    let x : BandSet := { state := 3 }
    let b := bsid.toNat
    let p := s.pollOps
    let idle : Prop := (∀ z ∈ p.red.resync, z.1 ≠ b) ∧ p.bandSet b = some x
    s.sysrefOk = true ∧ idle ∧ p.compacts b x = true ∧ x.state = 3 ∧ p.red.gone = [] ∧ p.red.moves.find? (fun z => z.1 == b) = some (b, { parts := [] })) :=
  ⟨by decide,
    by decide,
    by decide,
    by decide,
    by decide,
    by decide,
    by decide,
    by decide,
    by decide,
    ⟨by decide, by simp [bestRoot, rootValid]⟩,
    by decide⟩

/-- The hypotheses of `Obligations.MembersRebuildAndPrism` can hold. -/
theorem witness_MembersRebuildAndPrism :
    (
    let s : State := (((State.reset.put PRZ_GCTL_SLOWEN true).setSched 0 { released := some {} }).wr (PRZ_ARM_STATE 0) armActive)
    let k : Slice := 0
    let n := k.val
    let st (s : State) (i : Nat) : Nat := s.rd (PRZ_ARM_STATE i)
    let slow : Prop := s.on PRZ_GCTL_SLOWEN = true ∧ (s.schedS n).released.isSome ∧ (s.calS n).running = none ∧ st s n = armActive
    s.sysrefOk = true ∧ slow ∧ st s n ≠ armSuspect) ∧
    (
    let s : State := ((State.reset.wr (PRZ_ARM_STATE 0) armSuspect).put (BL_CTL_ATTACHED 0) true)
    let k : Slice := 0
    let b : Bay := 0
    let bsid : BitVec 32 := 0
    let j : Fin 32 := 0
    let x : BandSet := {}
    let e : Fin 8 := 0
    let n := k.val
    let p := s.pollOps
    let st (s : State) (i : Nat) : Nat := s.rd (PRZ_ARM_STATE i)
    s.sysrefOk = true ∧ (s.schedS n).released = none ∧ (s.sliceS n).ops = [] ∧ st s n = armSuspect ∧ s.on (BL_CTL_ATTACHED (bayOf n)) = true ∧ s.dom n = 2 ∧ s.dom (64 + bayOf n) = 2 ∧ p.red.probations.find? (fun z => z.1 == n) = none ∧ s.on (BL_CTL_ATTACHED b.val) = true ∧ (p.bandSet bsid.toNat = none ∨ (p.bandSet bsid.toNat = some x ∧ p.memberMissing bsid.toNat x j.val = false ∧ p.red.degraded = [])) ∧ s.on (PRZ_CTL_EN e.val) = false ∧ (s.prismS e.val).result = none) ∧
    (
    let s : State := ((State.reset.wr (PRZ_ARM_STATE 0) armSuspect).wr (PRZ_ARM_STATE 1) armSuspect)
    let b : Bay := 0
    let st (s : State) (i : Nat) : Nat := s.rd (PRZ_ARM_STATE i)
    s.sysrefOk = true ∧ s.on (BL_CTL_ATTACHED b.val) = false ∧ st s (2 * b.val) = armSuspect ∧ st s (2 * b.val + 1) = armSuspect) ∧
    (
    let s : State := (({ State.reset with red := { sets := [(0, { members := [0] })], replace := [(0, 5)] } }).wr (PRZ_ARM_STATE 0) armFailed)
    let bsid : BitVec 32 := 0
    let j : Fin 32 := 0
    let x : BandSet := { members := [0] }
    let band : Nat := 5
    let p := s.pollOps
    let st (s : State) (i : Nat) : Nat := s.rd (PRZ_ARM_STATE i)
    let key := bsid.toNat * 64 + j.val
    let missing : Prop := p.bandSet bsid.toNat = some x ∧ j.val < x.members.length ∧ p.memberMissing bsid.toNat x j.val = true
          ∧ p.othersFirst bsid.toNat x = false ∧ p.rebuiltByMove bsid.toNat x = false
    let onto : Prop := missing ∧ p.red.replace.find? (fun z => z.1 == key) = some (key, band)
    let failed : Prop := st p (hportSlice (band / 2 ^ 15)) = armFailed
    s.sysrefOk = true ∧ onto ∧ failed) ∧
    (
    let s : State := (State.reset.put (PRZ_CTL_EN 0) true).setLp 512 { entries := [entry [(64, 8, 1), (72, 8, 2), (80, 8, 1), (96, 16, 64), (128, 32, 0), (160, 32, 0)]] }
    let e : Fin 8 := 0
    let h : Entry := entry [(64, 8, 1), (72, 8, 2), (80, 8, 1), (96, 16, 64), (128, 32, 0), (160, 32, 0)]
    let rest : List Entry := []
    let engine : Prop := s.energy.trimming = false ∧ s.dom (118 + e.val) = 2 ∧ s.on (PRZ_CTL_EN e.val) = true ∧ (s.prismS e.val).result = none
    let fromEncode : Prop := (s.lp (512 + 4 * e.val)).entries = h :: rest ∧ (s.lp (513 + 4 * e.val)).entries = []
    s.sysrefOk = true ∧ engine ∧ fromEncode ∧ s.badJob true h = false) ∧
    (
    let s : State := (State.reset.put (PRZ_CTL_EN 0) true).setLp 512 { entries := [entry [(64, 8, 1), (72, 8, 29), (80, 8, 1), (96, 16, 64), (128, 32, 0), (160, 32, 0)]] }
    let e : Fin 8 := 0
    let h : Entry := entry [(64, 8, 1), (72, 8, 29), (80, 8, 1), (96, 16, 64), (128, 32, 0), (160, 32, 0)]
    let rest : List Entry := []
    let engine : Prop := s.energy.trimming = false ∧ s.dom (118 + e.val) = 2 ∧ s.on (PRZ_CTL_EN e.val) = true ∧ (s.prismS e.val).result = none
    let fromEncode : Prop := (s.lp (512 + 4 * e.val)).entries = h :: rest ∧ (s.lp (513 + 4 * e.val)).entries = []
    s.sysrefOk = true ∧ engine ∧ fromEncode ∧ s.badJob true h = true) ∧
    (
    let s : State := (State.reset.put (PRZ_CTL_EN 0) true).setLp 513 { entries := [entry [(64, 8, 2), (72, 8, 2), (80, 8, 1), (96, 16, 64), (128, 32, 1), (160, 32, 0)]] }
    let e : Fin 8 := 0
    let h : Entry := entry [(64, 8, 2), (72, 8, 2), (80, 8, 1), (96, 16, 64), (128, 32, 1), (160, 32, 0)]
    let rest : List Entry := []
    let engine : Prop := s.energy.trimming = false ∧ s.dom (118 + e.val) = 2 ∧ s.on (PRZ_CTL_EN e.val) = true ∧ (s.prismS e.val).result = none
    let fromOther (op : Nat) : Prop := (s.lp (513 + 4 * e.val)).entries = h :: rest ∧ (s.lp (512 + 4 * e.val)).entries = [] ∧ h.at 64 8 = op
    s.sysrefOk = true ∧ engine ∧ fromOther 2 ∧ s.badJob false h = false) ∧
    (
    let s : State := (State.reset.put (PRZ_CTL_EN 0) true).setLp 513 { entries := [entry [(64, 8, 2), (72, 8, 2), (80, 8, 1), (96, 16, 64), (128, 32, 0), (160, 32, 0)]] }
    let e : Fin 8 := 0
    let h : Entry := entry [(64, 8, 2), (72, 8, 2), (80, 8, 1), (96, 16, 64), (128, 32, 0), (160, 32, 0)]
    let rest : List Entry := []
    let engine : Prop := s.energy.trimming = false ∧ s.dom (118 + e.val) = 2 ∧ s.on (PRZ_CTL_EN e.val) = true ∧ (s.prismS e.val).result = none
    let fromOther (op : Nat) : Prop := (s.lp (513 + 4 * e.val)).entries = h :: rest ∧ (s.lp (512 + 4 * e.val)).entries = [] ∧ h.at 64 8 = op
    s.sysrefOk = true ∧ engine ∧ fromOther 2 ∧ s.badJob false h = true) ∧
    (
    let s : State := (State.reset.put (PRZ_CTL_EN 0) true).setLp 513 { entries := [entry [(64, 8, 3), (72, 8, 2), (80, 8, 1), (96, 16, 64), (128, 32, 0), (160, 32, 0)]] }
    let e : Fin 8 := 0
    let h : Entry := entry [(64, 8, 3), (72, 8, 2), (80, 8, 1), (96, 16, 64), (128, 32, 0), (160, 32, 0)]
    let rest : List Entry := []
    let engine : Prop := s.energy.trimming = false ∧ s.dom (118 + e.val) = 2 ∧ s.on (PRZ_CTL_EN e.val) = true ∧ (s.prismS e.val).result = none
    let fromOther (op : Nat) : Prop := (s.lp (513 + 4 * e.val)).entries = h :: rest ∧ (s.lp (512 + 4 * e.val)).entries = [] ∧ h.at 64 8 = op
    s.sysrefOk = true ∧ engine ∧ fromOther 3 ∧ s.badJob false h = false) ∧
    (
    let s : State := (State.reset.put (PRZ_CTL_EN 0) true).setLp 513 { entries := [entry [(64, 8, 3), (72, 8, 2), (80, 8, 0), (96, 16, 64), (128, 32, 0), (160, 32, 0)]] }
    let e : Fin 8 := 0
    let h : Entry := entry [(64, 8, 3), (72, 8, 2), (80, 8, 0), (96, 16, 64), (128, 32, 0), (160, 32, 0)]
    let rest : List Entry := []
    let engine : Prop := s.energy.trimming = false ∧ s.dom (118 + e.val) = 2 ∧ s.on (PRZ_CTL_EN e.val) = true ∧ (s.prismS e.val).result = none
    let fromOther (op : Nat) : Prop := (s.lp (513 + 4 * e.val)).entries = h :: rest ∧ (s.lp (512 + 4 * e.val)).entries = [] ∧ h.at 64 8 = op
    s.sysrefOk = true ∧ engine ∧ fromOther 3 ∧ s.badJob false h = true) ∧
    (
    let s : State := ({ State.reset with prisms := [(0, { result := some {} })] } : State).setLp 514 { free := 1 }
    let e : Fin 8 := 0
    let r : Entry := {}
    s.sysrefOk = true ∧ s.dom (118 + e.val) = 2 ∧ (s.prismS e.val).result = some r ∧ s.stalled = [] ∧ 0 < (s.lp (514 + 4 * e.val)).free) ∧
    (
    let s : State := { (({ State.reset with red := { probations := [(0, {})] } }).wr (PRZ_ARM_STATE 0) 2) with now := 1000000000000 }
    let k : Slice := 0
    let pr : Probation := {}
    let n := k.val
    let p := s.pollOps
    let st (s : State) (i : Nat) : Nat := s.rd (PRZ_ARM_STATE i)
    let testing : Prop := p.red.probations.find? (fun z => z.1 == n) = some (n, pr) ∧ st p n = armProbation
    let late : Prop := pr.since + p.rd PRZ_PROB_PTMO * 1000000 < p.now
    s.sysrefOk = true ∧ testing ∧ late) ∧
    (
    let s : State := (({ State.reset with red := { probations := [(0, { ops := [7] })], results := [(7, BitVec.ofNat 256 (2 ^ 66))] } }).wr (PRZ_ARM_STATE 0) 2)
    let k : Slice := 0
    let pr : Probation := { ops := [7] }
    let n := k.val
    let p := s.pollOps
    let st (s : State) (i : Nat) : Nat := s.rd (PRZ_ARM_STATE i)
    let testing : Prop := p.red.probations.find? (fun z => z.1 == n) = some (n, pr) ∧ st p n = armProbation
    let late : Prop := pr.since + p.rd PRZ_PROB_PTMO * 1000000 < p.now
    let back (good : Bool) : Prop := testing ∧ ¬ late ∧ p.allBack pr.ops = true ∧ p.allGood pr.ops (fun z => z == 0 || z == 1) = good
    s.sysrefOk = true ∧ back false) ∧
    (
    let s : State := (({ State.reset with red := { probations := [(0, { ops := [7] })] } }).wr (PRZ_ARM_STATE 0) 2)
    let k : Slice := 0
    let pr : Probation := { ops := [7] }
    let n := k.val
    let p := s.pollOps
    let st (s : State) (i : Nat) : Nat := s.rd (PRZ_ARM_STATE i)
    let testing : Prop := p.red.probations.find? (fun z => z.1 == n) = some (n, pr) ∧ st p n = armProbation
    let late : Prop := pr.since + p.rd PRZ_PROB_PTMO * 1000000 < p.now
    s.sysrefOk = true ∧ testing ∧ (¬ late) ∧ p.allBack pr.ops = false) ∧
    (
    let s : State := ((({ State.reset with red := { probations := [(0, { ops := [7], stage := 0 })], results := [(7, 0)] } }).wr (PRZ_ARM_STATE 0) 2).setBeam 0 { id := { heads0 := 12, heads1 := 12 } })
    let k : Slice := 0
    let pr : Probation := { ops := [7], stage := 0 }
    let hp : Nat := 0
    let n := k.val
    let p := s.pollOps
    let st (s : State) (i : Nat) : Nat := s.rd (PRZ_ARM_STATE i)
    let testing : Prop := p.red.probations.find? (fun z => z.1 == n) = some (n, pr) ∧ st p n = armProbation
    let late : Prop := pr.since + p.rd PRZ_PROB_PTMO * 1000000 < p.now
    let back (good : Bool) : Prop := testing ∧ ¬ late ∧ p.allBack pr.ops = true ∧ p.allGood pr.ops (fun z => z == 0 || z == 1) = good
    let found : Prop := (p.surfacesOf (bayOf n)).find? (fun z => hportSlice z == n) = some hp
    s.sysrefOk = true ∧ back true ∧ found ∧ pr.stage = 0) ∧
    (
    let s : State := ((({ State.reset with red := { probations := [(0, { ops := [7], stage := 1 })], results := [(7, 0)] } }).wr (PRZ_ARM_STATE 0) 2).setBeam 0 { id := { heads0 := 12, heads1 := 12 } })
    let k : Slice := 0
    let wrote : Bool := false
    let pr : Probation := { ops := [7], stage := 1 }
    let hp : Nat := 0
    let n := k.val
    let p := s.pollOps
    let st (s : State) (i : Nat) : Nat := s.rd (PRZ_ARM_STATE i)
    let testing : Prop := p.red.probations.find? (fun z => z.1 == n) = some (n, pr) ∧ st p n = armProbation
    let late : Prop := pr.since + p.rd PRZ_PROB_PTMO * 1000000 < p.now
    let back (good : Bool) : Prop := testing ∧ ¬ late ∧ p.allBack pr.ops = true ∧ p.allGood pr.ops (fun z => z == 0 || z == 1) = good
    let found : Prop := (p.surfacesOf (bayOf n)).find? (fun z => hportSlice z == n) = some hp
    s.sysrefOk = true ∧ back true ∧ found ∧ pr.stage = 1 ∧ wrote = false) ∧
    (
    let s : State := ((({ State.reset with red := { probations := [(0, { ops := [7], stage := 2 })], results := [(7, 0)] } }).wr (PRZ_ARM_STATE 0) 2).setBeam 0 { id := { heads0 := 12, heads1 := 12 } })
    let k : Slice := 0
    let pr : Probation := { ops := [7], stage := 2 }
    let hp : Nat := 0
    let n := k.val
    let p := s.pollOps
    let st (s : State) (i : Nat) : Nat := s.rd (PRZ_ARM_STATE i)
    let testing : Prop := p.red.probations.find? (fun z => z.1 == n) = some (n, pr) ∧ st p n = armProbation
    let late : Prop := pr.since + p.rd PRZ_PROB_PTMO * 1000000 < p.now
    let back (good : Bool) : Prop := testing ∧ ¬ late ∧ p.allBack pr.ops = true ∧ p.allGood pr.ops (fun z => z == 0 || z == 1) = good
    let found : Prop := (p.surfacesOf (bayOf n)).find? (fun z => hportSlice z == n) = some hp
    s.sysrefOk = true ∧ back true ∧ found ∧ pr.stage = 2) ∧
    (
    let s : State := (({ State.reset with red := { sets := [(0, { members := [0] })], replace := [(0, 2097152)] }, bt := [(2097152, { bytes := 0 })] }).wr (PRZ_ARM_STATE 0) armFailed)
    let bsid : BitVec 32 := 0
    let j : Fin 32 := 0
    let x : BandSet := { members := [0] }
    let band : Nat := 2097152
    let p := s.pollOps
    let st (s : State) (i : Nat) : Nat := s.rd (PRZ_ARM_STATE i)
    let key := bsid.toNat * 64 + j.val
    let missing : Prop := p.bandSet bsid.toNat = some x ∧ j.val < x.members.length ∧ p.memberMissing bsid.toNat x j.val = true
          ∧ p.othersFirst bsid.toNat x = false ∧ p.rebuiltByMove bsid.toNat x = false
    let onto : Prop := missing ∧ p.red.replace.find? (fun z => z.1 == key) = some (key, band)
    let failed : Prop := st p (hportSlice (band / 2 ^ 15)) = armFailed
    s.sysrefOk = true ∧ onto ∧ (¬ failed) ∧ x.next ≤ p.wpOf band / max 1 x.u) :=
  ⟨by decide,
    by decide,
    by decide,
    by decide,
    by decide,
    by decide,
    by decide,
    by decide,
    by decide,
    by decide,
    by decide,
    by decide,
    by decide,
    by decide,
    by decide,
    by decide,
    by decide,
    by decide⟩

/-- The hypotheses of `Obligations.SessionsAndPackets` can hold. -/
theorem witness_SessionsAndPackets :
    (
    let s : State := (((State.reset.put HPT_GCTL_EN true).put (HPT_PCTL_EN 0) true).put (HPT_PCTL_V4EN 0) true)
    let p : Port := 0
    let m : HelloMsg := { segs := [[0, 0]] }
    let b : List Byte := []
    let a4 : BitVec 32 := 0
    let a6 : BitVec 128 := 0
    let v6 : Bool := false
    let open_ : Prop := s.portOpen p.val = true ∧ s.frameOk p.val m.v6 m.vlan = true ∧ s.udpOk m.fragment m.udpOk m.udp = true
    let whole : Prop := open_ ∧ helloBody m.segs = some b ∧ helloPrefixOk m = true ∧ s.on SEC_STAT_ENTFLT = false
    let fresh : Prop := ∀ d ∈ s.host.hellos, d.body ≠ b
    s.sysrefOk = true ∧ s.hrefOk = true ∧ whole ∧ fresh ∧ s.portOpen p.val = true ∧ s.on (HPT_PCTL_V4EN p.val) = true ∧ a4.toNat = s.rd (HPT_IP4_ADDR p.val) ∧ s.on (HPT_PCTL_V6EN p.val) = true ∧ a6.toNat = s.ip6 p.val ∧ s.frameOk p.val v6 none = true) ∧
    (
    let s : State := (((({ State.reset with host := { hellos := [{}] } }).put HPT_GCTL_EN true).put (HPT_PCTL_EN 0) true).put (HPT_PCTL_V4EN 0) true)
    let p : Port := 0
    let m : HelloMsg := { segs := [[0, 0]] }
    let b : List Byte := []
    let h : HelloDone := {}
    let open_ : Prop := s.portOpen p.val = true ∧ s.frameOk p.val m.v6 m.vlan = true ∧ s.udpOk m.fragment m.udpOk m.udp = true
    let whole : Prop := open_ ∧ helloBody m.segs = some b ∧ helloPrefixOk m = true ∧ s.on SEC_STAT_ENTFLT = false
    s.sysrefOk = true ∧ s.hrefOk = true ∧ whole ∧ s.host.hellos = [h] ∧ h.body = b ∧ s.now ≤ h.at_ + 10 ^ 10) ∧
    (
    let s : State := (((State.reset.put HPT_GCTL_EN true).put (HPT_PCTL_EN 0) true).put (HPT_PCTL_V4EN 0) true)
    let p : Port := 0
    let m : HelloMsg := {}
    let open_ : Prop := s.portOpen p.val = true ∧ s.frameOk p.val m.v6 m.vlan = true ∧ s.udpOk m.fragment m.udpOk m.udp = true
    s.sysrefOk = true ∧ s.hrefOk = true ∧ open_ ∧ (s.on SEC_STAT_ENTFLT = true ∨ helloBody m.segs = none)) ∧
    (
    let s : State := (((({ State.reset with host := { sessions := [(0, { clim := 1, next := 2 })] } }).put HPT_GCTL_EN true).put (HPT_PCTL_EN 0) true).put (HPT_PCTL_V4EN 0) true)
    let k : Pkt := okPkt 1 (capsuleBytes { seq := 1 })
    let c : Capsule := { seq := 1 }
    let x : SessSt := { clim := 1, next := 2 }
    let acc (kind : Nat) (plain : List Byte) : Prop := s.networkOk k = true ∧ prefixOk k kind plain = true ∧ s.sess k.sid = some x ∧ k.epoch.toNat = x.epoch
          ∧ k.tag = packetTag x.prk k plain ∧ k.port.val = x.port ∧ x.member = none ∧ pnDuplicate x.seen k.pn.toNat = false
    let taken : Prop := acc 1 (capsuleBytes c) ∧ seqLater c.seq x.clim = false ∧ x.void = [] ∧ seqLater c.seq x.last = true ∧ x.cmds = [] ∧ ∀ d ∈ x.early, d.1 ≠ c.seq
    s.sysrefOk = true ∧ s.hrefOk = true ∧ taken ∧ x.next ≠ c.seq) ∧
    (
    let s : State := ((((({ State.reset with host := { sessions := [(0, { clim := 1 })] } }).put HPT_GCTL_EN true).put (HPT_PCTL_EN 0) true).put (HPT_PCTL_V4EN 0) true).setLp 256 { free := 1 })
    let k : Pkt := okPkt 1 (capsuleBytes { seq := 1 })
    let c : Capsule := { seq := 1 }
    let x : SessSt := { clim := 1 }
    let acc (kind : Nat) (plain : List Byte) : Prop := s.networkOk k = true ∧ prefixOk k kind plain = true ∧ s.sess k.sid = some x ∧ k.epoch.toNat = x.epoch
          ∧ k.tag = packetTag x.prk k plain ∧ k.port.val = x.port ∧ x.member = none ∧ pnDuplicate x.seen k.pn.toNat = false
    let taken : Prop := acc 1 (capsuleBytes c) ∧ seqLater c.seq x.clim = false ∧ x.void = [] ∧ seqLater c.seq x.last = true ∧ x.cmds = [] ∧ ∀ d ∈ x.early, d.1 ≠ c.seq
    let lp := lane 256 x.port k.sid
    s.sysrefOk = true ∧ s.hrefOk = true ∧ taken ∧ x.next = c.seq ∧ x.frozen = none ∧ s.stalled = [] ∧ 0 < (s.lp lp).free) ∧
    (
    let s : State := (((({ State.reset with host := { sessions := [(0, { clim := 1 })] } }).put HPT_GCTL_EN true).put (HPT_PCTL_EN 0) true).put (HPT_PCTL_V4EN 0) true)
    let k : Pkt := okPkt 1 (capsuleBytes { seq := 2 })
    let c : Capsule := { seq := 2 }
    let x : SessSt := { clim := 1 }
    let acc (kind : Nat) (plain : List Byte) : Prop := s.networkOk k = true ∧ prefixOk k kind plain = true ∧ s.sess k.sid = some x ∧ k.epoch.toNat = x.epoch
          ∧ k.tag = packetTag x.prk k plain ∧ k.port.val = x.port ∧ x.member = none ∧ pnDuplicate x.seen k.pn.toNat = false
    s.sysrefOk = true ∧ s.hrefOk = true ∧ acc 1 (capsuleBytes c) ∧ seqLater c.seq x.clim = true) ∧
    (
    let s : State := (((({ State.reset with host := { sessions := [(0, {  })] } }).put HPT_GCTL_EN true).put (HPT_PCTL_EN 0) true).put (HPT_PCTL_V4EN 0) true)
    let k : Pkt := okPkt 2 (dataBody 1 0 [])
    let x : SessSt := {  }
    let seq : BitVec 32 := 1
    let doff : BitVec 32 := 0
    let bytes : List Byte := []
    let acc (kind : Nat) (plain : List Byte) : Prop := s.networkOk k = true ∧ prefixOk k kind plain = true ∧ s.sess k.sid = some x ∧ k.epoch.toNat = x.epoch
          ∧ k.tag = packetTag x.prk k plain ∧ k.port.val = x.port ∧ x.member = none ∧ pnDuplicate x.seen k.pn.toNat = false
    s.sysrefOk = true ∧ s.hrefOk = true ∧ acc 2 (dataBody seq doff bytes) ∧ seqLater seq x.last = true ∧ (∀ d ∈ x.cmds, d.cap.seq ≠ seq)) ∧
    (
    let s : State := (((({ State.reset with host := { sessions := [(0, { cmds := [{}] })] } }).put HPT_GCTL_EN true).put (HPT_PCTL_EN 0) true).put (HPT_PCTL_V4EN 0) true)
    let k : Pkt := okPkt 2 (dataBody 1 0 [])
    let x : SessSt := { cmds := [{}] }
    let seq : BitVec 32 := 1
    let doff : BitVec 32 := 0
    let bytes : List Byte := []
    let acc (kind : Nat) (plain : List Byte) : Prop := s.networkOk k = true ∧ prefixOk k kind plain = true ∧ s.sess k.sid = some x ∧ k.epoch.toNat = x.epoch
          ∧ k.tag = packetTag x.prk k plain ∧ k.port.val = x.port ∧ x.member = none ∧ pnDuplicate x.seen k.pn.toNat = false
    s.sysrefOk = true ∧ s.hrefOk = true ∧ acc 2 (dataBody seq doff bytes) ∧ seqLater seq x.last = true ∧ (∃ d ∈ x.cmds, d.cap.seq = seq)) ∧
    (
    let s : State := (((({ State.reset with host := { sessions := [(0, {  })] } }).put HPT_GCTL_EN true).put (HPT_PCTL_EN 0) true).put (HPT_PCTL_V4EN 0) true)
    let k : Pkt := okPkt 4 (ackBody 0 0 0)
    let x : SessSt := {  }
    let win : BitVec 32 := 0
    let n : Word := 0
    let map : BitVec 256 := 0
    let acc (kind : Nat) (plain : List Byte) : Prop := s.networkOk k = true ∧ prefixOk k kind plain = true ∧ s.sess k.sid = some x ∧ k.epoch.toNat = x.epoch
          ∧ k.tag = packetTag x.prk k plain ∧ k.port.val = x.port ∧ x.member = none ∧ pnDuplicate x.seen k.pn.toNat = false
    s.sysrefOk = true ∧ s.hrefOk = true ∧ acc 4 (ackBody n.toNat map win.toNat) ∧ x.cmds = []) ∧
    (
    let s : State := (((({ State.reset with host := { sessions := [(0, {  })] } }).put HPT_GCTL_EN true).put (HPT_PCTL_EN 0) true).put (HPT_PCTL_V4EN 0) true)
    let k : Pkt := okPkt 5 (controlBytes 0 2 0 0)
    let x : SessSt := {  }
    let ctag : BitVec 16 := 0
    let close : Bool := false
    let acc (kind : Nat) (plain : List Byte) : Prop := s.networkOk k = true ∧ prefixOk k kind plain = true ∧ s.sess k.sid = some x ∧ k.epoch.toNat = x.epoch
          ∧ k.tag = packetTag x.prk k plain ∧ k.port.val = x.port ∧ x.member = none ∧ pnDuplicate x.seen k.pn.toNat = false
    let ctl (op arg : Nat) : Prop := acc 5 (controlBytes ctag.toNat op 0 arg) ∧ x.lastCtl = none
    s.sysrefOk = true ∧ s.hrefOk = true ∧ ctl 2 close.toNat ∧ isOldReset x k ctag (controlBytes ctag.toNat 2 0 close.toNat) = false ∧ close = false ∧ x.epoch < 65535) ∧
    (
    let s : State := (((({ State.reset with host := { sessions := [(0, {  })] } }).put HPT_GCTL_EN true).put (HPT_PCTL_EN 0) true).put (HPT_PCTL_V4EN 0) true)
    let k : Pkt := okPkt 5 (controlBytes 0 2 0 1)
    let x : SessSt := {  }
    let ctag : BitVec 16 := 0
    let close : Bool := true
    let acc (kind : Nat) (plain : List Byte) : Prop := s.networkOk k = true ∧ prefixOk k kind plain = true ∧ s.sess k.sid = some x ∧ k.epoch.toNat = x.epoch
          ∧ k.tag = packetTag x.prk k plain ∧ k.port.val = x.port ∧ x.member = none ∧ pnDuplicate x.seen k.pn.toNat = false
    let ctl (op arg : Nat) : Prop := acc 5 (controlBytes ctag.toNat op 0 arg) ∧ x.lastCtl = none
    s.sysrefOk = true ∧ s.hrefOk = true ∧ ctl 2 close.toNat ∧ isOldReset x k ctag (controlBytes ctag.toNat 2 0 close.toNat) = false ∧ close = true) ∧
    (
    let s : State := (((({ State.reset with host := { sessions := [(0, {  })] } }).put HPT_GCTL_EN true).put (HPT_PCTL_EN 0) true).put (HPT_PCTL_V4EN 0) true)
    let k : Pkt := okPkt 5 (controlBytes 0 3 0 4)
    let x : SessSt := {  }
    let ctag : BitVec 16 := 0
    let n : Word := 4
    let acc (kind : Nat) (plain : List Byte) : Prop := s.networkOk k = true ∧ prefixOk k kind plain = true ∧ s.sess k.sid = some x ∧ k.epoch.toNat = x.epoch
          ∧ k.tag = packetTag x.prk k plain ∧ k.port.val = x.port ∧ x.member = none ∧ pnDuplicate x.seen k.pn.toNat = false
    let ctl (op arg : Nat) : Prop := acc 5 (controlBytes ctag.toNat op 0 arg) ∧ x.lastCtl = none
    s.sysrefOk = true ∧ s.hrefOk = true ∧ ctl 3 n.toNat ∧ 4 ≤ n.toNat) ∧
    (
    let s : State := (((({ State.reset with host := { sessions := [(0, {  })] } }).put HPT_GCTL_EN true).put (HPT_PCTL_EN 0) true).put (HPT_PCTL_V4EN 0) true)
    let k : Pkt := okPkt 5 (controlBytes 0 3 0 3)
    let x : SessSt := {  }
    let ctag : BitVec 16 := 0
    let n : Word := 3
    let acc (kind : Nat) (plain : List Byte) : Prop := s.networkOk k = true ∧ prefixOk k kind plain = true ∧ s.sess k.sid = some x ∧ k.epoch.toNat = x.epoch
          ∧ k.tag = packetTag x.prk k plain ∧ k.port.val = x.port ∧ x.member = none ∧ pnDuplicate x.seen k.pn.toNat = false
    let ctl (op arg : Nat) : Prop := acc 5 (controlBytes ctag.toNat op 0 arg) ∧ x.lastCtl = none
    s.sysrefOk = true ∧ s.hrefOk = true ∧ ctl 3 n.toNat ∧ n.toNat < 4 ∧ x.log[n.toNat]? = none) ∧
    (
    let s : State := (((({ State.reset with host := { sessions := [(0, { log := [{}, {}, {}, {}] })] } }).put HPT_GCTL_EN true).put (HPT_PCTL_EN 0) true).put (HPT_PCTL_V4EN 0) true)
    let k : Pkt := okPkt 5 (controlBytes 0 3 0 3)
    let x : SessSt := { log := [{}, {}, {}, {}] }
    let ctag : BitVec 16 := 0
    let n : Word := 3
    let e : LogEntry := {}
    let acc (kind : Nat) (plain : List Byte) : Prop := s.networkOk k = true ∧ prefixOk k kind plain = true ∧ s.sess k.sid = some x ∧ k.epoch.toNat = x.epoch
          ∧ k.tag = packetTag x.prk k plain ∧ k.port.val = x.port ∧ x.member = none ∧ pnDuplicate x.seen k.pn.toNat = false
    let ctl (op arg : Nat) : Prop := acc 5 (controlBytes ctag.toNat op 0 arg) ∧ x.lastCtl = none
    s.sysrefOk = true ∧ s.hrefOk = true ∧ ctl 3 n.toNat ∧ n.toNat < 4 ∧ x.log[n.toNat]? = some e) ∧
    (
    let s : State := (((({ State.reset with host := { sessions := [(0, {  })] } }).put HPT_GCTL_EN true).put (HPT_PCTL_EN 0) true).put (HPT_PCTL_V4EN 0) true)
    let k : Pkt := okPkt 5 (controlBytes 0 4 0 0)
    let x : SessSt := {  }
    let ctag : BitVec 16 := 0
    let acc (kind : Nat) (plain : List Byte) : Prop := s.networkOk k = true ∧ prefixOk k kind plain = true ∧ s.sess k.sid = some x ∧ k.epoch.toNat = x.epoch
          ∧ k.tag = packetTag x.prk k plain ∧ k.port.val = x.port ∧ x.member = none ∧ pnDuplicate x.seen k.pn.toNat = false
    let ctl (op arg : Nat) : Prop := acc 5 (controlBytes ctag.toNat op 0 arg) ∧ x.lastCtl = none
    s.sysrefOk = true ∧ s.hrefOk = true ∧ ctl 4 0 ∧ x.frozen = none) ∧
    (
    let s : State := (((({ State.reset with host := { sessions := [(0, { frozen := some 1 })] } }).put HPT_GCTL_EN true).put (HPT_PCTL_EN 0) true).put (HPT_PCTL_V4EN 0) true)
    let k : Pkt := okPkt 5 (controlBytes 0 4 0 0)
    let x : SessSt := { frozen := some 1 }
    let ctag : BitVec 16 := 0
    let f : BitVec 32 := 1
    let acc (kind : Nat) (plain : List Byte) : Prop := s.networkOk k = true ∧ prefixOk k kind plain = true ∧ s.sess k.sid = some x ∧ k.epoch.toNat = x.epoch
          ∧ k.tag = packetTag x.prk k plain ∧ k.port.val = x.port ∧ x.member = none ∧ pnDuplicate x.seen k.pn.toNat = false
    let ctl (op arg : Nat) : Prop := acc 5 (controlBytes ctag.toNat op 0 arg) ∧ x.lastCtl = none
    s.sysrefOk = true ∧ s.hrefOk = true ∧ ctl 4 0 ∧ x.frozen = some f ∧ x.cmds = []) ∧
    (
    let s : State := (((({ State.reset with host := { sessions := [(0, {  })] } }).put HPT_GCTL_EN true).put (HPT_PCTL_EN 0) true).put (HPT_PCTL_V4EN 0) true)
    let k : Pkt := okPkt 5 (controlBytes 0 4 0 1)
    let x : SessSt := {  }
    let ctag : BitVec 16 := 0
    let acc (kind : Nat) (plain : List Byte) : Prop := s.networkOk k = true ∧ prefixOk k kind plain = true ∧ s.sess k.sid = some x ∧ k.epoch.toNat = x.epoch
          ∧ k.tag = packetTag x.prk k plain ∧ k.port.val = x.port ∧ x.member = none ∧ pnDuplicate x.seen k.pn.toNat = false
    let ctl (op arg : Nat) : Prop := acc 5 (controlBytes ctag.toNat op 0 arg) ∧ x.lastCtl = none
    s.sysrefOk = true ∧ s.hrefOk = true ∧ ctl 4 1 ∧ x.frozen = none) ∧
    (
    let s : State := (((({ State.reset with host := { sessions := [(0, { frozen := some 1 })] } }).put HPT_GCTL_EN true).put (HPT_PCTL_EN 0) true).put (HPT_PCTL_V4EN 0) true)
    let k : Pkt := okPkt 5 (controlBytes 0 4 0 1)
    let x : SessSt := { frozen := some 1 }
    let ctag : BitVec 16 := 0
    let f : BitVec 32 := 1
    let acc (kind : Nat) (plain : List Byte) : Prop := s.networkOk k = true ∧ prefixOk k kind plain = true ∧ s.sess k.sid = some x ∧ k.epoch.toNat = x.epoch
          ∧ k.tag = packetTag x.prk k plain ∧ k.port.val = x.port ∧ x.member = none ∧ pnDuplicate x.seen k.pn.toNat = false
    let ctl (op arg : Nat) : Prop := acc 5 (controlBytes ctag.toNat op 0 arg) ∧ x.lastCtl = none
    s.sysrefOk = true ∧ s.hrefOk = true ∧ ctl 4 1 ∧ x.frozen = some f) ∧
    (
    let s : State := State.reset
    let m : HelloMsg := {}
    let k : Pkt := {}
    let c : Capsule := {}
    let ctag : BitVec 16 := 0
    let seq : BitVec 32 := 0
    let doff : BitVec 32 := 0
    let win : BitVec 32 := 0
    let n : Word := 0
    let map : BitVec 256 := 0
    let bytes : List Byte := []
    let a4 : BitVec 32 := 0
    let a6 : BitVec 128 := 0
    let v6 : Bool := false
    let close : Bool := false
    let i := (.hello k.port m : Instr)
    s.sysrefOk = true ∧ s.hrefOk = true ∧ s.portOpen k.port.val = false ∧ i ∈ ([.hello k.port m, .hostCmd k c, .hostData k seq doff bytes, .hostAck k n map win, .sessionReset k ctag close,
        .logRead k ctag n, .restartResume k ctag, .restartDiscard k ctag, .arpRequest k.port a4, .neighbourDiscovery k.port a6,
        .echoRequest k.port v6 bytes] : List Instr)) ∧
    (
    let s : State := State.reset
    let k : Pkt := {}
    let seq : BitVec 32 := 0
    let n : Word := 0
    let i := (.ackDelay k.sid : Instr)
    s.sysrefOk = true ∧ s.hrefOk = true ∧ s.sess k.sid = none ∧ i ∈ ([.ackDelay k.sid, .retransmissionTimeout k.sid n, .dataTTimeout k.sid seq, .dataHoldExpiry k.sid seq, .idleTimeout k.sid,
        .oldEpochKeyExpiry k.sid] : List Instr)) ∧
    (
    let s : State := (((({ State.reset with host := { sessions := [(0, { ackDue := 1 })] } }).put HPT_GCTL_EN true).put (HPT_PCTL_EN 0) true).put (HPT_PCTL_V4EN 0) true)
    let k : Pkt := { kind := 0, epoch := 1, pn := 1 }
    let x : SessSt := { ackDue := 1 }
    let quiet : Prop := s.portUp x.port = true ∧ s.on APR_STAT_FROZEN = false
    s.sysrefOk = true ∧ s.hrefOk = true ∧ s.sess k.sid = some x ∧ x.ackDue ≠ 0 ∧ quiet) ∧
    (
    let s : State := ((((({ State.reset with host := { sessions := [(0, { unacked := [{}] })] } }).put HPT_GCTL_EN true).put (HPT_PCTL_EN 0) true).put (HPT_PCTL_V4EN 0) true).wr HPT_RTO_RETRIES 15)
    let k : Pkt := { kind := 0, epoch := 1, pn := 1 }
    let x : SessSt := { unacked := [{}] }
    let n : Word := 0
    let u : Unacked := {}
    s.sysrefOk = true ∧ s.hrefOk = true ∧ s.sess k.sid = some x ∧ x.ackDue = 0 ∧ x.unacked.find? (fun u => u.pkt.pn == n.toNat) = some u ∧ u.retries < s.clamp HPT_RTO_RETRIES 1 15 ∧ (∀ d ∈ x.cmds, d.fixed = none ∧ dataComplete d = false)) ∧
    (
    let s : State := ((((({ State.reset with host := { sessions := [(0, { unacked := [{ retries := 15 }] })] } }).put HPT_GCTL_EN true).put (HPT_PCTL_EN 0) true).put (HPT_PCTL_V4EN 0) true).wr HPT_RTO_RETRIES 15)
    let k : Pkt := { kind := 0, epoch := 1, pn := 1 }
    let x : SessSt := { unacked := [{ retries := 15 }] }
    let n : Word := 0
    let u : Unacked := { retries := 15 }
    s.sysrefOk = true ∧ s.hrefOk = true ∧ s.sess k.sid = some x ∧ x.unacked.find? (fun u => u.pkt.pn == n.toNat) = some u ∧ s.clamp HPT_RTO_RETRIES 1 15 ≤ u.retries) :=
  ⟨by decide,
    by decide,
    by decide,
    ⟨by decide, by decide, ⟨⟨by decide, by decide, by decide, by decide, rfl, by decide, by decide, by decide⟩, by decide, by decide, by decide, by decide, by decide⟩, by decide⟩,
    ⟨by decide, by decide, ⟨⟨by decide, by decide, by decide, by decide, rfl, by decide, by decide, by decide⟩, by decide, by decide, by decide, by decide, by decide⟩, by decide, by decide, by decide, by decide⟩,
    ⟨by decide, by decide, ⟨by decide, by decide, by decide, by decide, rfl, by decide, by decide, by decide⟩, by decide⟩,
    ⟨by decide, by decide, ⟨by decide, by decide, by decide, by decide, rfl, by decide, by decide, by decide⟩, by decide, by decide⟩,
    ⟨by decide, by decide, ⟨by decide, by decide, by decide, by decide, rfl, by decide, by decide, by decide⟩, by decide, by decide⟩,
    ⟨by decide, by decide, ⟨by decide, by decide, by decide, by decide, rfl, by decide, by decide, by decide⟩, by decide⟩,
    ⟨by decide, by decide, ⟨⟨by decide, by decide, by decide, by decide, rfl, by decide, by decide, by decide⟩, by decide⟩, by decide, by decide, by decide⟩,
    ⟨by decide, by decide, ⟨⟨by decide, by decide, by decide, by decide, rfl, by decide, by decide, by decide⟩, by decide⟩, by decide, by decide⟩,
    ⟨by decide, by decide, ⟨⟨by decide, by decide, by decide, by decide, rfl, by decide, by decide, by decide⟩, by decide⟩, by decide⟩,
    ⟨by decide, by decide, ⟨⟨by decide, by decide, by decide, by decide, rfl, by decide, by decide, by decide⟩, by decide⟩, by decide, by decide⟩,
    ⟨by decide, by decide, ⟨⟨by decide, by decide, by decide, by decide, rfl, by decide, by decide, by decide⟩, by decide⟩, by decide, by decide⟩,
    ⟨by decide, by decide, ⟨⟨by decide, by decide, by decide, by decide, rfl, by decide, by decide, by decide⟩, by decide⟩, by decide⟩,
    ⟨by decide, by decide, ⟨⟨by decide, by decide, by decide, by decide, rfl, by decide, by decide, by decide⟩, by decide⟩, by decide, by decide⟩,
    ⟨by decide, by decide, ⟨⟨by decide, by decide, by decide, by decide, rfl, by decide, by decide, by decide⟩, by decide⟩, by decide⟩,
    ⟨by decide, by decide, ⟨⟨by decide, by decide, by decide, by decide, rfl, by decide, by decide, by decide⟩, by decide⟩, by decide⟩,
    by decide,
    by decide,
    by decide,
    by decide,
    by decide⟩

/-- The hypotheses of `Obligations.ObjectAndManagementCommands` can hold. -/
theorem witness_ObjectAndManagementCommands :
    (
    let s : State := { State.reset with host := { sessions := [(0, { cmds := [{ cap := { opc := 0x20 }, resolved := true }] })] } }
    let sid : Sid := 0
    let seq : BitVec 32 := 1
    let x : SessSt := { cmds := [{ cap := { opc := 0x20 }, resolved := true }] }
    let c : CmdSt := { cap := { opc := 0x20 }, resolved := true }
    let obj : BitVec 128 := 0
    let id : Word := 0
    let taken : Prop := (s.lp (lane 256 0 sid)).entries = [] ∧ (s.lp (lane 256 1 sid)).entries = []
    s.sysrefOk = true ∧ taken ∧ s.cmd sid seq = some (x, c) ∧ c.resolved = true ∧ c.evaluated = false ∧ c.fixed = none ∧ x.frozen = none ∧ s.mayEvaluate x.tenant c = true ∧ s.evalChecks x.tenant c.cap = none ∧ (∀ q ∈ s.host.parts, ¬ (q.obj = obj ∧ q.id = id))) ∧
    (
    let s : State := { State.reset with host := { sessions := [(0, { cmds := [{ cap := { opc := 0x4 }, resolved := true }] })] } }
    let sid : Sid := 0
    let seq : BitVec 32 := 1
    let x : SessSt := { cmds := [{ cap := { opc := 0x4 }, resolved := true }] }
    let c : CmdSt := { cap := { opc := 0x4 }, resolved := true }
    let st : Nat := 0x2010
    let n : Nat := 0
    let taken : Prop := (s.lp (lane 256 0 sid)).entries = [] ∧ (s.lp (lane 256 1 sid)).entries = []
    s.sysrefOk = true ∧ taken ∧ s.cmd sid seq = some (x, c) ∧ c.resolved = true ∧ c.evaluated = false ∧ c.fixed = none ∧ x.frozen = none ∧ s.mayEvaluate x.tenant c = true ∧ s.evalChecks x.tenant c.cap = some (st, n)) ∧
    (
    let s : State := { State.reset with host := { sessions := [(0, { cmds := [{ cap := { opc := 0x1, seq := 2 }, evaluated := true, ready := true }] })] } }
    let sid : Sid := 0
    let seq : BitVec 32 := 2
    let x : SessSt := { cmds := [{ cap := { opc := 0x1, seq := 2 }, evaluated := true, ready := true }] }
    let c : CmdSt := { cap := { opc := 0x1, seq := 2 }, evaluated := true, ready := true }
    let taken : Prop := (s.lp (lane 256 0 sid)).entries = [] ∧ (s.lp (lane 256 1 sid)).entries = []
    s.sysrefOk = true ∧ taken ∧ s.cmd sid seq = some (x, c) ∧ isTurn x c = false) ∧
    (
    let s : State := { State.reset with host := { sessions := [(0, { cmds := [{ cap := { opc := 0x1, length := 1 }, evaluated := true }] })] } }
    let sid : Sid := 0
    let seq : BitVec 32 := 1
    let x : SessSt := { cmds := [{ cap := { opc := 0x1, length := 1 }, evaluated := true }] }
    let c : CmdSt := { cap := { opc := 0x1, length := 1 }, evaluated := true }
    let p := s.pollOps
    let is (u : State) (o : Nat) : Prop := u.cmd sid seq = some (x, c) ∧ c.cap.opc.toNat = o ∧ c.evaluated = true ∧ c.fixed = none
    s.sysrefOk = true ∧ c.ready = false ∧ dataComplete c = false ∧ is p opcPut) ∧
    (
    let s : State := { State.reset with host := { sessions := [(0, { cmds := [{ cap := { opc := 0x2, length := 1 }, evaluated := true }] })] } }
    let sid : Sid := 0
    let seq : BitVec 32 := 1
    let x : SessSt := { cmds := [{ cap := { opc := 0x2, length := 1 }, evaluated := true }] }
    let c : CmdSt := { cap := { opc := 0x2, length := 1 }, evaluated := true }
    let p := s.pollOps
    let is (u : State) (o : Nat) : Prop := u.cmd sid seq = some (x, c) ∧ c.cap.opc.toNat = o ∧ c.evaluated = true ∧ c.fixed = none
    s.sysrefOk = true ∧ c.ready = false ∧ dataComplete c = false ∧ is p opcWrite) ∧
    (
    let s : State := { State.reset with host := { sessions := [(0, { cmds := [{ cap := { opc := 0x3, length := 1 }, evaluated := true }] })] } }
    let sid : Sid := 0
    let seq : BitVec 32 := 1
    let x : SessSt := { cmds := [{ cap := { opc := 0x3, length := 1 }, evaluated := true }] }
    let c : CmdSt := { cap := { opc := 0x3, length := 1 }, evaluated := true }
    let p := s.pollOps
    let is (u : State) (o : Nat) : Prop := u.cmd sid seq = some (x, c) ∧ c.cap.opc.toNat = o ∧ c.evaluated = true ∧ c.fixed = none
    s.sysrefOk = true ∧ c.ready = false ∧ dataComplete c = false ∧ is p opcAppend) ∧
    (
    let s : State := { State.reset with host := { sessions := [(0, { cmds := [{ cap := { opc := 0x22, length := 1 }, evaluated := true }] })] } }
    let sid : Sid := 0
    let seq : BitVec 32 := 1
    let x : SessSt := { cmds := [{ cap := { opc := 0x22, length := 1 }, evaluated := true }] }
    let c : CmdSt := { cap := { opc := 0x22, length := 1 }, evaluated := true }
    let is (u : State) (o : Nat) : Prop := u.cmd sid seq = some (x, c) ∧ c.cap.opc.toNat = o ∧ c.evaluated = true ∧ c.fixed = none
    s.sysrefOk = true ∧ is s opcAttest ∧ dataComplete c = false) ∧
    (
    let s : State := (({ State.reset with host := { sessions := [(0, { cmds := [{ cap := { opc := 0x20 } }] })] } }).setLp 256 { entries := [hostEntry 0 1] })
    let sid : Sid := 0
    let seq : BitVec 32 := 1
    let x : SessSt := { cmds := [{ cap := { opc := 0x20 } }] }
    let c : CmdSt := { cap := { opc := 0x20 } }
    s.sysrefOk = true ∧ s.cmd sid seq = some (x, c) ∧ c.resolved = false ∧ (s.lp (lane 256 0 sid)).entries = [hostEntry sid.toNat seq] ∧ (s.lp (lane 256 1 sid)).entries = [] ∧ s.stalled = []) ∧
    (
    let s : State := (({ State.reset with host := { sessions := [(0, { cmds := [{ cap := { opc := 0x1 }, fixed := some (0x1101, 0, 0) }] })] } }).setLp 384 { free := 1 })
    let sid : Sid := 0
    let seq : BitVec 32 := 1
    let x : SessSt := { cmds := [{ cap := { opc := 0x1 }, fixed := some (0x1101, 0, 0) }] }
    let c : CmdSt := { cap := { opc := 0x1 }, fixed := some (0x1101, 0, 0) }
    let st : Nat := 0x1101
    let n : Nat := 0
    let r : Nat := 0
    let ln := lane 384 x.port sid
    let turn (u : State) : Prop := isTurn x c = true ∧ u.cfg.hold = false ∧ x.port < 2 ∧ u.portUp x.port = true ∧ u.on APR_STAT_FROZEN = false
          ∧ (u.lp ln).entries = [] ∧ 0 < (u.lp ln).free ∧ (∀ z ∈ u.stalled, z.1 ≠ ln) ∧ u.host.cpls = []
    let sent (u : State) : Prop := x.queued = [] ∧ ∀ j ∈ u.host.sealing, j.sid ≠ sid.toNat
    let taken : Prop := (s.lp (lane 256 0 sid)).entries = [] ∧ (s.lp (lane 256 1 sid)).entries = []
    s.sysrefOk = true ∧ taken ∧ s.cmd sid seq = some (x, c) ∧ turn s ∧ c.fixed = some (st, n, r) ∧ sent s ∧ c.toSend = []) ∧
    (
    let s : State := ((({ State.reset with host := { sessions := [(0, { cmds := [{ cap := { opc := 0x1 }, evaluated := true, ready := true }] })] } }).setLp 384 { free := 1 }).put HIE_STAT_FENCED true)
    let sid : Sid := 0
    let seq : BitVec 32 := 1
    let x : SessSt := { cmds := [{ cap := { opc := 0x1 }, evaluated := true, ready := true }] }
    let c : CmdSt := { cap := { opc := 0x1 }, evaluated := true, ready := true }
    let ln := lane 384 x.port sid
    let turn (u : State) : Prop := isTurn x c = true ∧ u.cfg.hold = false ∧ x.port < 2 ∧ u.portUp x.port = true ∧ u.on APR_STAT_FROZEN = false
          ∧ (u.lp ln).entries = [] ∧ 0 < (u.lp ln).free ∧ (∀ z ∈ u.stalled, z.1 ≠ ln) ∧ u.host.cpls = []
    let taken : Prop := (s.lp (lane 256 0 sid)).entries = [] ∧ (s.lp (lane 256 1 sid)).entries = []
    s.sysrefOk = true ∧ taken ∧ s.cmd sid seq = some (x, c) ∧ turn s ∧ c.fixed = none ∧ c.ready = true ∧ c.evaluated = true ∧ s.fenceStatus ≠ 0) ∧
    (
    let s : State := (({ State.reset with host := { sessions := [(0, { cmds := [{ cap := { opc := 0x1 }, evaluated := true, ready := true }] })] } }).setLp 384 { free := 1 })
    let sid : Sid := 0
    let seq : BitVec 32 := 1
    let x : SessSt := { cmds := [{ cap := { opc := 0x1 }, evaluated := true, ready := true }] }
    let c : CmdSt := { cap := { opc := 0x1 }, evaluated := true, ready := true }
    let p := s.pollOps
    let is (u : State) (o : Nat) : Prop := u.cmd sid seq = some (x, c) ∧ c.cap.opc.toNat = o ∧ c.evaluated = true ∧ c.fixed = none
    let ln := lane 384 x.port sid
    let turn (u : State) : Prop := isTurn x c = true ∧ u.cfg.hold = false ∧ x.port < 2 ∧ u.portUp x.port = true ∧ u.on APR_STAT_FROZEN = false
          ∧ (u.lp ln).entries = [] ∧ 0 < (u.lp ln).free ∧ (∀ z ∈ u.stalled, z.1 ≠ ln) ∧ u.host.cpls = []
    let ready (u : State) (o : Nat) : Prop := is u o ∧ turn u ∧ u.fenceStatus = 0
    s.sysrefOk = true ∧ c.ready = true ∧ ready p opcPut) ∧
    (
    let s : State := (({ State.reset with host := { sessions := [(0, { cmds := [{ cap := { opc := 0x2, length := 1 }, evaluated := true, ready := true, chunks := [(0, [7])] }] })], objects := [(0, {})] } }).setLp 384 { free := 1 })
    let sid : Sid := 0
    let seq : BitVec 32 := 1
    let x : SessSt := { cmds := [{ cap := { opc := 0x2, length := 1 }, evaluated := true, ready := true, chunks := [(0, [7])] }] }
    let c : CmdSt := { cap := { opc := 0x2, length := 1 }, evaluated := true, ready := true, chunks := [(0, [7])] }
    let y : ObjSt := {}
    let p := s.pollOps
    let is (u : State) (o : Nat) : Prop := u.cmd sid seq = some (x, c) ∧ c.cap.opc.toNat = o ∧ c.evaluated = true ∧ c.fixed = none
    let ln := lane 384 x.port sid
    let turn (u : State) : Prop := isTurn x c = true ∧ u.cfg.hold = false ∧ x.port < 2 ∧ u.portUp x.port = true ∧ u.on APR_STAT_FROZEN = false
          ∧ (u.lp ln).entries = [] ∧ 0 < (u.lp ln).free ∧ (∀ z ∈ u.stalled, z.1 ≠ ln) ∧ u.host.cpls = []
    let ready (u : State) (o : Nat) : Prop := is u o ∧ turn u ∧ u.fenceStatus = 0
    let d := dataBytes c
    let o := c.cap.obj
    let old := p.object x.tenant o
    s.sysrefOk = true ∧ c.ready = true ∧ ready p opcWrite ∧ capFlag c.cap flPart = false ∧ old = some y ∧ d ≠ []) ∧
    (
    let s : State := (({ State.reset with host := { sessions := [(0, { cmds := [{ cap := { opc := 0x2, flags := 8 }, evaluated := true, ready := true }] })] } }).setLp 384 { free := 1 })
    let sid : Sid := 0
    let seq : BitVec 32 := 1
    let x : SessSt := { cmds := [{ cap := { opc := 0x2, flags := 8 }, evaluated := true, ready := true }] }
    let c : CmdSt := { cap := { opc := 0x2, flags := 8 }, evaluated := true, ready := true }
    let p := s.pollOps
    let is (u : State) (o : Nat) : Prop := u.cmd sid seq = some (x, c) ∧ c.cap.opc.toNat = o ∧ c.evaluated = true ∧ c.fixed = none
    let ln := lane 384 x.port sid
    let turn (u : State) : Prop := isTurn x c = true ∧ u.cfg.hold = false ∧ x.port < 2 ∧ u.portUp x.port = true ∧ u.on APR_STAT_FROZEN = false
          ∧ (u.lp ln).entries = [] ∧ 0 < (u.lp ln).free ∧ (∀ z ∈ u.stalled, z.1 ≠ ln) ∧ u.host.cpls = []
    let ready (u : State) (o : Nat) : Prop := is u o ∧ turn u ∧ u.fenceStatus = 0
    s.sysrefOk = true ∧ c.ready = true ∧ ready p opcWrite ∧ capFlag c.cap flPart = true) ∧
    (
    let s : State := (({ State.reset with host := { sessions := [(0, { cmds := [{ cap := { opc := 0x3 }, evaluated := true, ready := true }] })] } }).setLp 384 { free := 1 })
    let sid : Sid := 0
    let seq : BitVec 32 := 1
    let x : SessSt := { cmds := [{ cap := { opc := 0x3 }, evaluated := true, ready := true }] }
    let c : CmdSt := { cap := { opc := 0x3 }, evaluated := true, ready := true }
    let p := s.pollOps
    let is (u : State) (o : Nat) : Prop := u.cmd sid seq = some (x, c) ∧ c.cap.opc.toNat = o ∧ c.evaluated = true ∧ c.fixed = none
    let ln := lane 384 x.port sid
    let turn (u : State) : Prop := isTurn x c = true ∧ u.cfg.hold = false ∧ x.port < 2 ∧ u.portUp x.port = true ∧ u.on APR_STAT_FROZEN = false
          ∧ (u.lp ln).entries = [] ∧ 0 < (u.lp ln).free ∧ (∀ z ∈ u.stalled, z.1 ≠ ln) ∧ u.host.cpls = []
    let ready (u : State) (o : Nat) : Prop := is u o ∧ turn u ∧ u.fenceStatus = 0
    s.sysrefOk = true ∧ c.ready = true ∧ ready p opcAppend) ∧
    (
    let s : State := (({ State.reset with host := { sessions := [(0, { cmds := [{ cap := { opc := 0x6 }, evaluated := true, ready := true }] })] } }).setLp 384 { free := 1 })
    let sid : Sid := 0
    let seq : BitVec 32 := 1
    let x : SessSt := { cmds := [{ cap := { opc := 0x6 }, evaluated := true, ready := true }] }
    let c : CmdSt := { cap := { opc := 0x6 }, evaluated := true, ready := true }
    let is (u : State) (o : Nat) : Prop := u.cmd sid seq = some (x, c) ∧ c.cap.opc.toNat = o ∧ c.evaluated = true ∧ c.fixed = none
    let ln := lane 384 x.port sid
    let turn (u : State) : Prop := isTurn x c = true ∧ u.cfg.hold = false ∧ x.port < 2 ∧ u.portUp x.port = true ∧ u.on APR_STAT_FROZEN = false
          ∧ (u.lp ln).entries = [] ∧ 0 < (u.lp ln).free ∧ (∀ z ∈ u.stalled, z.1 ≠ ln) ∧ u.host.cpls = []
    let ready (u : State) (o : Nat) : Prop := is u o ∧ turn u ∧ u.fenceStatus = 0
    s.sysrefOk = true ∧ ready s opcDelete) ∧
    (
    let s : State := (({ State.reset with host := { sessions := [(0, { cmds := [{ cap := { opc := 0x8 }, evaluated := true, ready := true }] })], parts := [{}] } }).setLp 384 { free := 1 })
    let sid : Sid := 0
    let seq : BitVec 32 := 1
    let x : SessSt := { cmds := [{ cap := { opc := 0x8 }, evaluated := true, ready := true }] }
    let c : CmdSt := { cap := { opc := 0x8 }, evaluated := true, ready := true }
    let ps : PartSet := {}
    let obj : BitVec 128 := 0
    let id : Word := 0
    let is (u : State) (o : Nat) : Prop := u.cmd sid seq = some (x, c) ∧ c.cap.opc.toNat = o ∧ c.evaluated = true ∧ c.fixed = none
    let ln := lane 384 x.port sid
    let turn (u : State) : Prop := isTurn x c = true ∧ u.cfg.hold = false ∧ x.port < 2 ∧ u.portUp x.port = true ∧ u.on APR_STAT_FROZEN = false
          ∧ (u.lp ln).entries = [] ∧ 0 < (u.lp ln).free ∧ (∀ z ∈ u.stalled, z.1 ≠ ln) ∧ u.host.cpls = []
    let ready (u : State) (o : Nat) : Prop := is u o ∧ turn u ∧ u.fenceStatus = 0
    let o := c.cap.obj
    s.sysrefOk = true ∧ ready s opcCommit ∧ s.partSet x.tenant o c.cap.arg = some ps ∧ (∃ q ∈ s.host.parts, q.obj = obj ∧ q.id = id)) ∧
    (
    let s : State := (({ State.reset with host := { sessions := [(0, { cmds := [{ cap := { opc := 0x4, length := 4 }, evaluated := true, snap := some { size := 4, lost := [(1, 2)] } }] })] } }).setLp 384 { free := 1 })
    let sid : Sid := 0
    let seq : BitVec 32 := 1
    let x : SessSt := { cmds := [{ cap := { opc := 0x4, length := 4 }, evaluated := true, snap := some { size := 4, lost := [(1, 2)] } }] }
    let c : CmdSt := { cap := { opc := 0x4, length := 4 }, evaluated := true, snap := some { size := 4, lost := [(1, 2)] } }
    let g : Snap := { size := 4, lost := [(1, 2)] }
    let l : Nat := 1
    let p := s.pollOps
    let is (u : State) (o : Nat) : Prop := u.cmd sid seq = some (x, c) ∧ c.cap.opc.toNat = o ∧ c.evaluated = true ∧ c.fixed = none
    let ln := lane 384 x.port sid
    let turn (u : State) : Prop := isTurn x c = true ∧ u.cfg.hold = false ∧ x.port < 2 ∧ u.portUp x.port = true ∧ u.on APR_STAT_FROZEN = false
          ∧ (u.lp ln).entries = [] ∧ 0 < (u.lp ln).free ∧ (∀ z ∈ u.stalled, z.1 ≠ ln) ∧ u.host.cpls = []
    let sent (u : State) : Prop := x.queued = [] ∧ ∀ j ∈ u.host.sealing, j.sid ≠ sid.toNat
    let reads (u : State) (o : Nat) : Prop := is u o ∧ turn u ∧ sent u ∧ readOutstanding x = 0
    let off := c.cap.offset.toNat
    let end_ := getEnd c.cap g.size
    s.sysrefOk = true ∧ reads p opcGet ∧ c.snap = some g ∧ firstLost g.lost off end_.1 = some l) ∧
    (
    let s : State := (({ State.reset with host := { sessions := [(0, { cmds := [{ cap := { opc := 0x4 }, evaluated := true, snap := some {} }] })] } }).setLp 384 { free := 1 })
    let sid : Sid := 0
    let seq : BitVec 32 := 1
    let plan : Plan := {}
    let x : SessSt := { cmds := [{ cap := { opc := 0x4 }, evaluated := true, snap := some {} }] }
    let c : CmdSt := { cap := { opc := 0x4 }, evaluated := true, snap := some {} }
    let g : Snap := {}
    let p := s.pollOps
    let is (u : State) (o : Nat) : Prop := u.cmd sid seq = some (x, c) ∧ c.cap.opc.toNat = o ∧ c.evaluated = true ∧ c.fixed = none
    let ln := lane 384 x.port sid
    let turn (u : State) : Prop := isTurn x c = true ∧ u.cfg.hold = false ∧ x.port < 2 ∧ u.portUp x.port = true ∧ u.on APR_STAT_FROZEN = false
          ∧ (u.lp ln).entries = [] ∧ 0 < (u.lp ln).free ∧ (∀ z ∈ u.stalled, z.1 ≠ ln) ∧ u.host.cpls = []
    let sent (u : State) : Prop := x.queued = [] ∧ ∀ j ∈ u.host.sealing, j.sid ≠ sid.toNat
    let reads (u : State) (o : Nat) : Prop := is u o ∧ turn u ∧ sent u ∧ readOutstanding x = 0
    let o := c.cap.obj
    let off := c.cap.offset.toNat
    let end_ := getEnd c.cap g.size
    s.sysrefOk = true ∧ reads p opcGet ∧ c.snap = some g ∧ firstLost g.lost off end_.1 = none ∧ p.firstAway o off end_.1 = none ∧ p.resyncIn g off end_.1 = none ∧ c.reads.getD (p.readsFor g off end_.1 plan.pool.toNat) = []) ∧
    (
    let s : State := (({ State.reset with host := { sessions := [(0, { cmds := [{ cap := { opc := 0x5 }, evaluated := true }] })], objects := [(0, {})] } }).setLp 384 { free := 1 })
    let sid : Sid := 0
    let seq : BitVec 32 := 1
    let x : SessSt := { cmds := [{ cap := { opc := 0x5 }, evaluated := true }] }
    let c : CmdSt := { cap := { opc := 0x5 }, evaluated := true }
    let y : ObjSt := {}
    let is (u : State) (o : Nat) : Prop := u.cmd sid seq = some (x, c) ∧ c.cap.opc.toNat = o ∧ c.evaluated = true ∧ c.fixed = none
    let ln := lane 384 x.port sid
    let turn (u : State) : Prop := isTurn x c = true ∧ u.cfg.hold = false ∧ x.port < 2 ∧ u.portUp x.port = true ∧ u.on APR_STAT_FROZEN = false
          ∧ (u.lp ln).entries = [] ∧ 0 < (u.lp ln).free ∧ (∀ z ∈ u.stalled, z.1 ≠ ln) ∧ u.host.cpls = []
    let sent (u : State) : Prop := x.queued = [] ∧ ∀ j ∈ u.host.sealing, j.sid ≠ sid.toNat
    let reads (u : State) (o : Nat) : Prop := is u o ∧ turn u ∧ sent u ∧ readOutstanding x = 0
    let o := c.cap.obj
    s.sysrefOk = true ∧ reads s opcStat ∧ s.object x.tenant o = some y) ∧
    (
    let s : State := (({ State.reset with host := { sessions := [(0, { cmds := [{ cap := { opc := 0x7, length := 64 }, evaluated := true }] })] } }).setLp 384 { free := 1 })
    let sid : Sid := 0
    let seq : BitVec 32 := 1
    let x : SessSt := { cmds := [{ cap := { opc := 0x7, length := 64 }, evaluated := true }] }
    let c : CmdSt := { cap := { opc := 0x7, length := 64 }, evaluated := true }
    let is (u : State) (o : Nat) : Prop := u.cmd sid seq = some (x, c) ∧ c.cap.opc.toNat = o ∧ c.evaluated = true ∧ c.fixed = none
    let ln := lane 384 x.port sid
    let turn (u : State) : Prop := isTurn x c = true ∧ u.cfg.hold = false ∧ x.port < 2 ∧ u.portUp x.port = true ∧ u.on APR_STAT_FROZEN = false
          ∧ (u.lp ln).entries = [] ∧ 0 < (u.lp ln).free ∧ (∀ z ∈ u.stalled, z.1 ≠ ln) ∧ u.host.cpls = []
    let sent (u : State) : Prop := x.queued = [] ∧ ∀ j ∈ u.host.sealing, j.sid ≠ sid.toNat
    let reads (u : State) (o : Nat) : Prop := is u o ∧ turn u ∧ sent u ∧ readOutstanding x = 0
    s.sysrefOk = true ∧ reads s opcList) ∧
    (
    let s : State := (({ State.reset with host := { sessions := [(0, { cmds := [{ cap := { opc := 0x20 }, evaluated := true }] })] } }).setLp 384 { free := 1 })
    let sid : Sid := 0
    let seq : BitVec 32 := 1
    let x : SessSt := { cmds := [{ cap := { opc := 0x20 }, evaluated := true }] }
    let c : CmdSt := { cap := { opc := 0x20 }, evaluated := true }
    let is (u : State) (o : Nat) : Prop := u.cmd sid seq = some (x, c) ∧ c.cap.opc.toNat = o ∧ c.evaluated = true ∧ c.fixed = none
    let ln := lane 384 x.port sid
    let turn (u : State) : Prop := isTurn x c = true ∧ u.cfg.hold = false ∧ x.port < 2 ∧ u.portUp x.port = true ∧ u.on APR_STAT_FROZEN = false
          ∧ (u.lp ln).entries = [] ∧ 0 < (u.lp ln).free ∧ (∀ z ∈ u.stalled, z.1 ≠ ln) ∧ u.host.cpls = []
    let sent (u : State) : Prop := x.queued = [] ∧ ∀ j ∈ u.host.sealing, j.sid ≠ sid.toNat
    let reads (u : State) (o : Nat) : Prop := is u o ∧ turn u ∧ sent u ∧ readOutstanding x = 0
    s.sysrefOk = true ∧ reads s opcDescribe) ∧
    (
    let s : State := (({ State.reset with host := { sessions := [(0, { cmds := [{ cap := { opc := 0x22 }, evaluated := true }] })] } }).setLp 384 { free := 1 })
    let sid : Sid := 0
    let seq : BitVec 32 := 1
    let x : SessSt := { cmds := [{ cap := { opc := 0x22 }, evaluated := true }] }
    let c : CmdSt := { cap := { opc := 0x22 }, evaluated := true }
    let is (u : State) (o : Nat) : Prop := u.cmd sid seq = some (x, c) ∧ c.cap.opc.toNat = o ∧ c.evaluated = true ∧ c.fixed = none
    let ln := lane 384 x.port sid
    let turn (u : State) : Prop := isTurn x c = true ∧ u.cfg.hold = false ∧ x.port < 2 ∧ u.portUp x.port = true ∧ u.on APR_STAT_FROZEN = false
          ∧ (u.lp ln).entries = [] ∧ 0 < (u.lp ln).free ∧ (∀ z ∈ u.stalled, z.1 ≠ ln) ∧ u.host.cpls = []
    let sent (u : State) : Prop := x.queued = [] ∧ ∀ j ∈ u.host.sealing, j.sid ≠ sid.toNat
    let reads (u : State) (o : Nat) : Prop := is u o ∧ turn u ∧ sent u ∧ readOutstanding x = 0
    s.sysrefOk = true ∧ reads s opcAttest ∧ dataComplete c = true) ∧
    (
    let s : State := (({ State.reset with host := { sessions := [(0, { cmds := [{ cap := { opc := 0x21 }, evaluated := true }] })] } }).setLp 384 { free := 1 })
    let sid : Sid := 0
    let seq : BitVec 32 := 1
    let x : SessSt := { cmds := [{ cap := { opc := 0x21 }, evaluated := true }] }
    let c : CmdSt := { cap := { opc := 0x21 }, evaluated := true }
    let is (u : State) (o : Nat) : Prop := u.cmd sid seq = some (x, c) ∧ c.cap.opc.toNat = o ∧ c.evaluated = true ∧ c.fixed = none
    let ln := lane 384 x.port sid
    let turn (u : State) : Prop := isTurn x c = true ∧ u.cfg.hold = false ∧ x.port < 2 ∧ u.portUp x.port = true ∧ u.on APR_STAT_FROZEN = false
          ∧ (u.lp ln).entries = [] ∧ 0 < (u.lp ln).free ∧ (∀ z ∈ u.stalled, z.1 ≠ ln) ∧ u.host.cpls = []
    let sent (u : State) : Prop := x.queued = [] ∧ ∀ j ∈ u.host.sealing, j.sid ≠ sid.toNat
    let o := c.cap.obj
    let plain (o : Nat) : Prop := is s o ∧ turn s ∧ sent s ∧ c.toSend = []
    s.sysrefOk = true ∧ plain opcPowerHint) ∧
    (
    let s : State := (({ State.reset with host := { sessions := [(0, { cmds := [{ cap := { opc := 0x23 }, evaluated := true }] })] } }).setLp 384 { free := 1 })
    let sid : Sid := 0
    let seq : BitVec 32 := 1
    let x : SessSt := { cmds := [{ cap := { opc := 0x23 }, evaluated := true }] }
    let c : CmdSt := { cap := { opc := 0x23 }, evaluated := true }
    let is (u : State) (o : Nat) : Prop := u.cmd sid seq = some (x, c) ∧ c.cap.opc.toNat = o ∧ c.evaluated = true ∧ c.fixed = none
    let ln := lane 384 x.port sid
    let turn (u : State) : Prop := isTurn x c = true ∧ u.cfg.hold = false ∧ x.port < 2 ∧ u.portUp x.port = true ∧ u.on APR_STAT_FROZEN = false
          ∧ (u.lp ln).entries = [] ∧ 0 < (u.lp ln).free ∧ (∀ z ∈ u.stalled, z.1 ≠ ln) ∧ u.host.cpls = []
    let sent (u : State) : Prop := x.queued = [] ∧ ∀ j ∈ u.host.sealing, j.sid ≠ sid.toNat
    let o := c.cap.obj
    let plain (o : Nat) : Prop := is s o ∧ turn s ∧ sent s ∧ c.toSend = []
    s.sysrefOk = true ∧ plain opcProfile) ∧
    (
    let s : State := (({ State.reset with host := { sessions := [(0, { cmds := [{ cap := { opc := 0x24, arg := 1, offset := 0x400000, length := 1 }, evaluated := true, chunks := [(0, [7])] }] })] } }).setLp 384 { free := 1 })
    let sid : Sid := 0
    let seq : BitVec 32 := 1
    let x : SessSt := { cmds := [{ cap := { opc := 0x24, arg := 1, offset := 0x400000, length := 1 }, evaluated := true, chunks := [(0, [7])] }] }
    let c : CmdSt := { cap := { opc := 0x24, arg := 1, offset := 0x400000, length := 1 }, evaluated := true, chunks := [(0, [7])] }
    let is (u : State) (o : Nat) : Prop := u.cmd sid seq = some (x, c) ∧ c.cap.opc.toNat = o ∧ c.evaluated = true ∧ c.fixed = none
    let ln := lane 384 x.port sid
    let turn (u : State) : Prop := isTurn x c = true ∧ u.cfg.hold = false ∧ x.port < 2 ∧ u.portUp x.port = true ∧ u.on APR_STAT_FROZEN = false
          ∧ (u.lp ln).entries = [] ∧ 0 < (u.lp ln).free ∧ (∀ z ∈ u.stalled, z.1 ≠ ln) ∧ u.host.cpls = []
    let sent (u : State) : Prop := x.queued = [] ∧ ∀ j ∈ u.host.sealing, j.sid ≠ sid.toNat
    let d := dataBytes c
    let o := c.cap.obj
    let off := c.cap.offset.toNat
    let chunks := (off, d) :: smGet [] s.cfg.staging (stageKey c.cap)
    let slot := slotSize ((stageSet c.cap chunks).getD (stageKey c.cap))
    let past : Prop := min slot ((stagedLength chunks).getD slot) < off + c.cap.length.toNat
    let plain (o : Nat) : Prop := is s o ∧ turn s ∧ sent s ∧ c.toSend = []
    s.sysrefOk = true ∧ plain opcImage ∧ dataComplete c = true ∧ past) ∧
    (
    let s : State := (({ State.reset with host := { sessions := [(0, { cmds := [{ cap := { opc := 0x24, arg := 1, offset := 15, length := 1 }, evaluated := true, chunks := [(0, [7])] }] })] } }).setLp 384 { free := 1 })
    let sid : Sid := 0
    let seq : BitVec 32 := 1
    let x : SessSt := { cmds := [{ cap := { opc := 0x24, arg := 1, offset := 15, length := 1 }, evaluated := true, chunks := [(0, [7])] }] }
    let c : CmdSt := { cap := { opc := 0x24, arg := 1, offset := 15, length := 1 }, evaluated := true, chunks := [(0, [7])] }
    let i : Nat := 0
    let is (u : State) (o : Nat) : Prop := u.cmd sid seq = some (x, c) ∧ c.cap.opc.toNat = o ∧ c.evaluated = true ∧ c.fixed = none
    let ln := lane 384 x.port sid
    let turn (u : State) : Prop := isTurn x c = true ∧ u.cfg.hold = false ∧ x.port < 2 ∧ u.portUp x.port = true ∧ u.on APR_STAT_FROZEN = false
          ∧ (u.lp ln).entries = [] ∧ 0 < (u.lp ln).free ∧ (∀ z ∈ u.stalled, z.1 ≠ ln) ∧ u.host.cpls = []
    let sent (u : State) : Prop := x.queued = [] ∧ ∀ j ∈ u.host.sealing, j.sid ≠ sid.toNat
    let d := dataBytes c
    let o := c.cap.obj
    let off := c.cap.offset.toNat
    let chunks := (off, d) :: smGet [] s.cfg.staging (stageKey c.cap)
    let slot := slotSize ((stageSet c.cap chunks).getD (stageKey c.cap))
    let past : Prop := min slot ((stagedLength chunks).getD slot) < off + c.cap.length.toNat
    let plain (o : Nat) : Prop := is s o ∧ turn s ∧ sent s ∧ c.toSend = []
    s.sysrefOk = true ∧ plain opcImage ∧ dataComplete c = true ∧ (¬ past) ∧ capFlag c.cap flLast = false ∧ stageSet c.cap chunks = some i) :=
  ⟨by decide,
    by decide,
    by decide,
    by decide,
    by decide,
    by decide,
    by decide,
    by decide,
    by decide,
    by decide,
    by decide,
    by decide,
    by decide,
    by decide,
    by decide,
    by decide,
    by decide,
    by decide,
    by decide,
    by decide,
    by decide,
    by decide,
    by decide,
    by decide,
    by decide,
    by decide⟩

/-- The hypotheses of `Obligations.CipherSecurityAndTap` can hold. -/
theorem witness_CipherSecurityAndTap :
    (
    let s : State := (State.reset.setLp 545 { entries := [entry [(64, 8, 1), (80, 16, 1025), (96, 16, 0), (128, 64, 0x10000000), (192, 64, 0x10000000)]] })
    let e : Fin 8 := 0
    let j : Entry := entry [(64, 8, 1), (80, 16, 1025), (96, 16, 0), (128, 64, 0x10000000), (192, 64, 0x10000000)]
    let rest : List Entry := []
    let r : OwnerRec := {}
    let kind : BitVec 4 := 0
    let ready (pipe : Nat) : Prop := s.energy.trimming = false ∧ (s.lp pipe).entries = j :: rest ∧ s.dom (126 + e.val / 2) = 2 ∧ s.stalled = []
    let job (op : Nat) : Prop := ready (545 + 4 * e.val) ∧ jobOp j = op
    let results (t : State) : List Entry := smGet [] t.sec.results e.val
    let free : Prop := s.sec.loupeFuse = false ∧ s.on SEC_STAT_ENTFLT = false
    s.sysrefOk = true ∧ job 1 ∧ jobBufBad j = true ∧ results s = [] ∧ s.on SEC_STAT_ENTFLT = false ∧ s.ownPending r 1 = false ∧ s.ownPending r 2 = false ∧ s.ownPending r 3 = false ∧ free ∧ s.ownState ≠ 1 ∧ s.on SEC_FUSE_STAT_BUSY = false ∧ s.on SEC_STAT_VFUSE = false ∧ (kind.toNat = 0 ∨ 4 < kind.toNat) ∧ s.sec.fuse = none ∧ s.sec.loupeFuse = false ∧ s.sec.unlocked = false) ∧
    (
    let s : State := (State.reset.setLp 545 { entries := [entry [(64, 8, 1), (80, 16, 1), (96, 16, 2), (128, 64, 0x10000000), (192, 64, 0x10000000)]] })
    let e : Fin 8 := 0
    let j : Entry := entry [(64, 8, 1), (80, 16, 1), (96, 16, 2), (128, 64, 0x10000000), (192, 64, 0x10000000)]
    let rest : List Entry := []
    let ready (pipe : Nat) : Prop := s.energy.trimming = false ∧ (s.lp pipe).entries = j :: rest ∧ s.dom (126 + e.val / 2) = 2 ∧ s.stalled = []
    let job (op : Nat) : Prop := ready (545 + 4 * e.val) ∧ jobOp j = op
    let slot := j.at 96 16
    s.sysrefOk = true ∧ job 1 ∧ jobBufBad j = false ∧ s.slotKey slot = none) ∧
    (
    let s : State := (({ State.reset with vital := [(26, { c0 := 1, c1 := 1, c2 := 1 })] }).setLp 545 { entries := [entry [(64, 8, 1), (80, 16, 1), (96, 16, 0), (128, 64, 0x10000000), (192, 64, 0x10000000)]] })
    let e : Fin 8 := 0
    let j : Entry := entry [(64, 8, 1), (80, 16, 1), (96, 16, 0), (128, 64, 0x10000000), (192, 64, 0x10000000)]
    let rest : List Entry := []
    let q := (((State.reset.setLp 545 {}).slotKey 0).getD 0)
    let ready (pipe : Nat) : Prop := s.energy.trimming = false ∧ (s.lp pipe).entries = j :: rest ∧ s.dom (126 + e.val / 2) = 2 ∧ s.stalled = []
    let job (op : Nat) : Prop := ready (545 + 4 * e.val) ∧ jobOp j = op
    let slot := j.at 96 16
    let buf (i : Nat) : Nat := jobBuf j i
    let count := j.at 80 16
    let bytes (u : State) (a n : Nat) : List Byte := (List.range n).map fun q => u.byteAt (a + q)
    let sec (i : Nat) : List Byte := bytes s (buf i) 4160
    let plain : Prop := ∀ i, i < count → s.plainMem (buf i) 4160
    s.sysrefOk = true ∧ job 1 ∧ jobBufBad j = false ∧ s.slotKey slot = some q ∧ plain ∧ (∀ i, i < count → sectorWseq (sec i) < s.vwNat 26)) ∧
    (
    let s : State := (State.reset.setLp 545 { entries := [entry [(64, 8, 1), (80, 16, 1), (96, 16, 0), (128, 64, 0x10000000), (192, 64, 0x10000000)]] })
    let e : Fin 8 := 0
    let j : Entry := entry [(64, 8, 1), (80, 16, 1), (96, 16, 0), (128, 64, 0x10000000), (192, 64, 0x10000000)]
    let rest : List Entry := []
    let ready (pipe : Nat) : Prop := s.energy.trimming = false ∧ (s.lp pipe).entries = j :: rest ∧ s.dom (126 + e.val / 2) = 2 ∧ s.stalled = []
    let job (op : Nat) : Prop := ready (545 + 4 * e.val) ∧ jobOp j = op
    let slot := j.at 96 16
    let buf (i : Nat) : Nat := jobBuf j i
    let count := j.at 80 16
    let bytes (u : State) (a n : Nat) : List Byte := (List.range n).map fun q => u.byteAt (a + q)
    let sec (i : Nat) : List Byte := bytes s (buf i) 4160
    let plain : Prop := ∀ i, i < count → s.plainMem (buf i) 4160
    s.sysrefOk = true ∧ job 1 ∧ jobBufBad j = false ∧ (s.slotKey slot).isSome ∧ plain ∧ (∃ i, i < count ∧ s.vwNat 26 ≤ sectorWseq (sec i))) ∧
    (
    let s : State := (State.reset.setLp 545 { entries := [entry [(64, 8, 2), (80, 16, 1), (96, 16, 0), (128, 64, 0x10000000), (192, 64, 0x10000000)]] })
    let e : Fin 8 := 0
    let j : Entry := entry [(64, 8, 2), (80, 16, 1), (96, 16, 0), (128, 64, 0x10000000), (192, 64, 0x10000000)]
    let rest : List Entry := []
    let q := (((State.reset.setLp 545 {}).slotKey 0).getD 0)
    let ready (pipe : Nat) : Prop := s.energy.trimming = false ∧ (s.lp pipe).entries = j :: rest ∧ s.dom (126 + e.val / 2) = 2 ∧ s.stalled = []
    let job (op : Nat) : Prop := ready (545 + 4 * e.val) ∧ jobOp j = op
    let slot := j.at 96 16
    let buf (i : Nat) : Nat := jobBuf j i
    let count := j.at 80 16
    let plain : Prop := ∀ i, i < count → s.plainMem (buf i) 4160
    s.sysrefOk = true ∧ job 2 ∧ jobBufBad j = false ∧ s.slotKey slot = some q ∧ plain) ∧
    (
    let s : State := (State.reset.setLp 545 { entries := [entry [(64, 8, 3), (80, 16, 1), (96, 16, 0), (128, 64, 0x10000000), (192, 64, 0x10000000)]] })
    let e : Fin 8 := 0
    let j : Entry := entry [(64, 8, 3), (80, 16, 1), (96, 16, 0), (128, 64, 0x10000000), (192, 64, 0x10000000)]
    let rest : List Entry := []
    let ready (pipe : Nat) : Prop := s.energy.trimming = false ∧ (s.lp pipe).entries = j :: rest ∧ s.dom (126 + e.val / 2) = 2 ∧ s.stalled = []
    let job (op : Nat) : Prop := ready (545 + 4 * e.val) ∧ jobOp j = op
    s.sysrefOk = true ∧ job 3 ∧ jobKeyBad j = true) ∧
    (
    let s : State := ((State.reset.setLp 545 { entries := [entry [(64, 8, 3), (80, 16, 1), (96, 16, 2), (128, 64, 0x10000000), (192, 64, 0x10000000)]] }).put SEC_STAT_KEYSOFF true)
    let e : Fin 8 := 0
    let j : Entry := entry [(64, 8, 3), (80, 16, 1), (96, 16, 2), (128, 64, 0x10000000), (192, 64, 0x10000000)]
    let rest : List Entry := []
    let ready (pipe : Nat) : Prop := s.energy.trimming = false ∧ (s.lp pipe).entries = j :: rest ∧ s.dom (126 + e.val / 2) = 2 ∧ s.stalled = []
    let job (op : Nat) : Prop := ready (545 + 4 * e.val) ∧ jobOp j = op
    s.sysrefOk = true ∧ job 3 ∧ jobKeyBad j = false ∧ s.on SEC_STAT_KEYSOFF = true) ∧
    (
    let s : State := ((State.reset.setLp 545 { entries := [entry [(64, 8, 3), (80, 16, 1), (96, 16, 2), (128, 64, 0x10000000), (192, 64, 0x10000000)]] }).put SEC_STAT_ENTFLT true)
    let e : Fin 8 := 0
    let j : Entry := entry [(64, 8, 3), (80, 16, 1), (96, 16, 2), (128, 64, 0x10000000), (192, 64, 0x10000000)]
    let rest : List Entry := []
    let ready (pipe : Nat) : Prop := s.energy.trimming = false ∧ (s.lp pipe).entries = j :: rest ∧ s.dom (126 + e.val / 2) = 2 ∧ s.stalled = []
    let job (op : Nat) : Prop := ready (545 + 4 * e.val) ∧ jobOp j = op
    let keyOk : Prop := jobKeyBad j = false ∧ s.on SEC_STAT_KEYSOFF = false
    let free : Prop := s.sec.loupeFuse = false ∧ s.on SEC_STAT_ENTFLT = false
    s.sysrefOk = true ∧ job 3 ∧ keyOk ∧ s.on SEC_STAT_ENTFLT = true ∧ (¬ free)) ∧
    (
    let s : State := (State.reset.setLp 545 { entries := [entry [(64, 8, 3), (80, 16, 1), (96, 16, 2), (128, 64, 0x10000000), (192, 64, 0x10000000)]] })
    let e : Fin 8 := 0
    let j : Entry := entry [(64, 8, 3), (80, 16, 1), (96, 16, 2), (128, 64, 0x10000000), (192, 64, 0x10000000)]
    let rest : List Entry := []
    let ready (pipe : Nat) : Prop := s.energy.trimming = false ∧ (s.lp pipe).entries = j :: rest ∧ s.dom (126 + e.val / 2) = 2 ∧ s.stalled = []
    let job (op : Nat) : Prop := ready (545 + 4 * e.val) ∧ jobOp j = op
    let wrap := j.at 192 64
    let keyOk : Prop := jobKeyBad j = false ∧ s.on SEC_STAT_KEYSOFF = false
    s.sysrefOk = true ∧ job 3 ∧ keyOk ∧ s.on SEC_STAT_ENTFLT = false ∧ s.plainMem wrap 40) ∧
    (
    let s : State := (State.reset.setLp 545 { entries := [entry [(64, 8, 4), (80, 16, 1), (96, 16, 2), (128, 64, 0x10000000), (192, 64, 0x10000000)]] })
    let e : Fin 8 := 0
    let j : Entry := entry [(64, 8, 4), (80, 16, 1), (96, 16, 2), (128, 64, 0x10000000), (192, 64, 0x10000000)]
    let rest : List Entry := []
    let ready (pipe : Nat) : Prop := s.energy.trimming = false ∧ (s.lp pipe).entries = j :: rest ∧ s.dom (126 + e.val / 2) = 2 ∧ s.stalled = []
    let job (op : Nat) : Prop := ready (545 + 4 * e.val) ∧ jobOp j = op
    let wrap := j.at 192 64
    let keyOk : Prop := jobKeyBad j = false ∧ s.on SEC_STAT_KEYSOFF = false
    s.sysrefOk = true ∧ job 4 ∧ keyOk ∧ s.plainMem wrap 40) ∧
    (
    let s : State := (State.reset.setLp 545 { entries := [entry [(64, 8, 5), (80, 16, 1), (96, 16, 1), (128, 64, 0x10000000), (192, 64, 0x10000000)]] })
    let e : Fin 8 := 0
    let j : Entry := entry [(64, 8, 5), (80, 16, 1), (96, 16, 1), (128, 64, 0x10000000), (192, 64, 0x10000000)]
    let rest : List Entry := []
    let ready (pipe : Nat) : Prop := s.energy.trimming = false ∧ (s.lp pipe).entries = j :: rest ∧ s.dom (126 + e.val / 2) = 2 ∧ s.stalled = []
    let job (op : Nat) : Prop := ready (545 + 4 * e.val) ∧ jobOp j = op
    let slot := j.at 96 16
    s.sysrefOk = true ∧ job 5 ∧ jobBad j = false ∧ slot < 2) ∧
    (
    let s : State := (State.reset.setLp 545 { entries := [entry [(64, 8, 5), (80, 16, 1), (96, 16, 2), (128, 64, 0x10000000), (192, 64, 0x10000000)]] })
    let e : Fin 8 := 0
    let j : Entry := entry [(64, 8, 5), (80, 16, 1), (96, 16, 2), (128, 64, 0x10000000), (192, 64, 0x10000000)]
    let rest : List Entry := []
    let ready (pipe : Nat) : Prop := s.energy.trimming = false ∧ (s.lp pipe).entries = j :: rest ∧ s.dom (126 + e.val / 2) = 2 ∧ s.stalled = []
    let job (op : Nat) : Prop := ready (545 + 4 * e.val) ∧ jobOp j = op
    let slot := j.at 96 16
    let held (t : State) : Option KeySlot := (t.sec.keys.find? fun q => q.1 == slot).map Prod.snd
    s.sysrefOk = true ∧ job 5 ∧ jobBad j = false ∧ 2 ≤ slot ∧ held s = none) ∧
    (
    let s : State := (({ State.reset with sec := { keys := [(2, {})] } }).setLp 545 { entries := [entry [(64, 8, 5), (80, 16, 1), (96, 16, 2), (128, 64, 0x10000000), (192, 64, 0x10000000)]] })
    let e : Fin 8 := 0
    let j : Entry := entry [(64, 8, 5), (80, 16, 1), (96, 16, 2), (128, 64, 0x10000000), (192, 64, 0x10000000)]
    let rest : List Entry := []
    let ready (pipe : Nat) : Prop := s.energy.trimming = false ∧ (s.lp pipe).entries = j :: rest ∧ s.dom (126 + e.val / 2) = 2 ∧ s.stalled = []
    let job (op : Nat) : Prop := ready (545 + 4 * e.val) ∧ jobOp j = op
    let slot := j.at 96 16
    let held (t : State) : Option KeySlot := (t.sec.keys.find? fun q => q.1 == slot).map Prod.snd
    s.sysrefOk = true ∧ job 5 ∧ jobBad j = false ∧ 2 ≤ slot ∧ (held s).isSome) ∧
    (
    let s : State := (State.reset.setLp 544 { entries := [entry [(64, 8, 0), (80, 16, 1), (96, 16, 0), (128, 64, 0x10000000), (192, 64, 0x10000000)]] })
    let e : Fin 8 := 0
    let j : Entry := entry [(64, 8, 0), (80, 16, 1), (96, 16, 0), (128, 64, 0x10000000), (192, 64, 0x10000000)]
    let rest : List Entry := []
    let ready (pipe : Nat) : Prop := s.energy.trimming = false ∧ (s.lp pipe).entries = j :: rest ∧ s.dom (126 + e.val / 2) = 2 ∧ s.stalled = []
    s.sysrefOk = true ∧ ready (544 + 4 * e.val)) ∧
    (
    let s : State := (State.reset.wr (PWR_DOM_STATE 126) 0)
    let e : Fin 8 := 0
    let i := .cipherSeal e
    s.sysrefOk = true ∧ s.dom (126 + e.val / 2) ≠ 2 ∧ i ∈ ([.cipherSeal e, .cipherOpen e, .cipherGenkey e, .cipherLoadkey e, .cipherEvict e, .sessionJob e] : List Instr)) ∧
    (
    let s : State := (({ State.reset with sec := { results := [(0, [{}])] } }).setLp 546 { free := 1 })
    let e : Fin 8 := 0
    let j : Entry := {}
    let rest : List Entry := []
    let results (t : State) : List Entry := smGet [] t.sec.results e.val
    let out := 546 + 4 * e.val
    s.sysrefOk = true ∧ results s = j :: rest ∧ s.stalled = [] ∧ 0 < (s.lp out).free ∧ s.host.sealing = []) ∧
    (
    let s : State := State.reset
    let i := .drbgReseed
    s.sysrefOk = true ∧ i ∈ ([.drbgReseed, .reseed] : List Instr)) ∧
    (
    let s : State := (({ State.reset with cfg := { owner := some { action := 1 } } }).put CFG_STATUS_BUSY true)
    let r : OwnerRec := { action := 1 }
    s.sysrefOk = true ∧ s.ownPending r 1 = true) ∧
    (
    let s : State := (({ State.reset with cfg := { owner := some { action := 2 } } }).put CFG_STATUS_BUSY true)
    let r : OwnerRec := { action := 2 }
    s.sysrefOk = true ∧ s.ownPending r 2 = true) ∧
    (
    let s : State := (({ State.reset with cfg := { owner := some { action := 3 } } }).put CFG_STATUS_BUSY true)
    let r : OwnerRec := { action := 3 }
    s.sysrefOk = true ∧ s.ownPending r 3 = true) ∧
    (
    let s : State := { State.reset with sec := { slots := [(0, { valid := true })], policy := { debugAllow := true } } }
    let free : Prop := s.sec.loupeFuse = false ∧ s.on SEC_STAT_ENTFLT = false
    s.sysrefOk = true ∧ free ∧ s.ownState = 1) ∧
    (
    let s : State := { State.reset with sec := { loupeFuse := true } }
    s.sysrefOk = true ∧ s.sec.loupeFuse = true) ∧
    (
    let s : State := ((State.reset.put SEC_FUSE_STAT_BUSY true).put SEC_STAT_VFUSE true)
    s.sysrefOk = true ∧ s.on SEC_FUSE_STAT_BUSY = true) ∧
    (
    let s : State := (State.reset.put SEC_STAT_VFUSE true)
    let kind : BitVec 4 := 4
    s.sysrefOk = true ∧ s.on SEC_FUSE_STAT_BUSY = false ∧ s.on SEC_STAT_VFUSE = true ∧ 1 ≤ kind.toNat ∧ kind.toNat ≤ 4) ∧
    (
    let s : State := { State.reset with sec := { fuse := some .loupeKill } }
    let f := .loupeKill
    s.sysrefOk = true ∧ s.sec.fuse = some f ∧ s.sec.fuse = some .loupeKill) ∧
    (
    let s : State := { State.reset with sec := { fuse := some (.svn 4 32) } }
    let k : Nat := 4
    let v : Nat := 32
    s.sysrefOk = true ∧ s.sec.fuse = some (.svn k v) ∧ 1 ≤ k ∧ k ≤ s.sec.svn.length) ∧
    (
    let s : State := { State.reset with sec := { unlocked := true } }
    s.sysrefOk = true ∧ s.sec.loupeFuse = false ∧ s.sec.unlocked = true) ∧
    (
    let s : State := (({ State.reset with sec := { results := [(0, [cipherEntry (entry [(0, 64, 5)]) 0 0 0xFFFF])] }, host := { sealing := [{ opid := 5 }], sessions := [(0, {})] } }).setLp 546 { free := 1 })
    let e : Fin 8 := 0
    let j : Entry := cipherEntry (entry [(0, 64, 5)]) 0 0 0xFFFF
    let rest : List Entry := []
    let sj : SealJob := { opid := 5 }
    let x : SessSt := {}
    let results (t : State) : List Entry := smGet [] t.sec.results e.val
    let out := 546 + 4 * e.val
    s.sysrefOk = true ∧ results s = j :: rest ∧ s.stalled = [] ∧ 0 < (s.lp out).free ∧ j = cipherEntry (mkEntry [(0, 64, sj.opid)]) 0 0 0xFFFF ∧ sj.opid < 2 ^ 63 ∧ s.host.sealing = [sj] ∧ (s.lp out).entries = [] ∧ s.portUp sj.pkt.port = true ∧ s.on APR_STAT_FROZEN = false ∧ s.sess (BitVec.ofNat 14 sj.sid) = some x) :=
  ⟨by decide,
    by decide,
    ⟨by decide, by decide, by decide, rfl, plain_one _ _ (by decide) (by decide) (by decide) (by decide), by decide⟩,
    ⟨by decide, by decide, by decide, by decide, plain_one _ _ (by decide) (by decide) (by decide) (by decide), by decide⟩,
    ⟨by decide, by decide, by decide, rfl, plain_one _ _ (by decide) (by decide) (by decide) (by decide)⟩,
    by decide,
    by decide,
    by decide,
    by decide,
    by decide,
    by decide,
    by decide,
    by decide,
    by decide,
    by decide,
    by decide,
    by decide,
    by decide,
    by decide,
    by decide,
    by decide,
    by decide,
    by decide,
    by decide,
    by decide,
    by decide,
    by decide,
    by decide⟩

/-- The hypotheses of `Obligations.EnergyFlushAndThermal` can hold. -/
theorem witness_EnergyFlushAndThermal :
    (
    let s : State := (((({ State.reset with energy := { waiting := [5], debits := [(5, {})] } }).put APR_CTL_LEN true).wr APR_USABLE_MJ 100000000).wr APR_STAGE_LIMIT 1)
    let h : Nat := 5
    let r : List Nat := []
    let d : Debit := {}
    let e := s.energy
    s.sysrefOk = true ∧ e.waiting = h :: r ∧ s.debitOf h = some d ∧ s.debitFits d = true) ∧
    (
    let s : State := { State.reset with energy := { waiting := [5], debits := [(5, { cost := 1 })] } }
    let handle : BitVec 16 := 5
    let b : Bay := 0
    let n : Fin 4 := 0
    let h : Nat := 5
    let r : List Nat := []
    let d : Debit := { cost := 1 }
    let e := s.energy
    let st := s.rd (APR_PS_STATE b.val)
    let idle : Prop := s.on (BL_CTL_ATTACHED b.val) = true ∧ s.bayIdle b.val = true ∧ s.rd (APR_IDLE_MS n.val) ≠ 0 ∧ st < n.val + 1
    let parked : Prop := e.flush = .parking ∧ s.allParked = true
    s.sysrefOk = true ∧ e.heldState = [] ∧ e.deficit = none ∧ e.waiting = h :: r ∧ s.debitOf h = some d ∧ s.debitFits d = false ∧ s.debitOf handle.toNat = some d ∧ d.admitted = false ∧ d.noted = false ∧ s.on APR_CTL_EN = false ∧ s.pwr.porLow = false ∧ s.cfg.step ≤ 1 ∧ e.flush ≠ .writing ∧ (¬ parked) ∧ (s.on APR_STAT_PFAIL = false ∨ s.on THM_STAT_SHUT = true) ∧ (¬ idle) ∧ (st = 0 ∨ s.bayIdle b.val = true) ∧ s.on THM_CTL_EN = true ∧ (e.hot < 100 ∨ s.on THM_STAT_SHUT = true) ∧ e.caseValid = false ∧ e.trimming = false) ∧
    (
    let s : State := { State.reset with energy := { debits := [(5, { admitted := true })] } }
    let handle : BitVec 16 := 5
    let d : Debit := { admitted := true }
    s.sysrefOk = true ∧ s.debitOf handle.toNat = some d ∧ (d.admitted = true ∨ d.noted = true)) ∧
    (
    let s : State := (State.reset.put APR_CTL_EN true)
    s.sysrefOk = true ∧ s.on APR_CTL_EN = true) ∧
    (
    let s : State := { State.reset with energy := { flush := .writing, returned := true } }
    let timedOut : Bool := false
    let e := s.energy
    let ending : Prop := e.flush = .writing ∧ (timedOut = true ∨ e.plan = [])
    s.sysrefOk = true ∧ ending ∧ e.returned = true ∧ s.on THM_STAT_SHUT = false) ∧
    (
    let s : State := (({ State.reset with energy := { flush := .parking } }).put THM_STAT_SHUT false)
    let e := s.energy
    let parked : Prop := e.flush = .parking ∧ s.allParked = true
    s.sysrefOk = true ∧ parked ∧ s.on THM_STAT_SHUT = false ∧ s.pwr.forced = none) ∧
    (
    let s : State := (({ State.reset with energy := { flush := .writing } }).put APR_STAT_PFAIL true)
    s.sysrefOk = true ∧ s.on APR_STAT_PFAIL = true ∧ s.on THM_STAT_SHUT = false ∧ s.cfg.step ≤ 1) ∧
    (
    let s : State := (((State.reset.put (BL_CTL_ATTACHED 0) true).wr (APR_IDLE_MS 1) 1).wr (APR_PS_STATE 0) 0)
    let b : Bay := 0
    let n : Fin 4 := 1
    let st := s.rd (APR_PS_STATE b.val)
    let idle : Prop := s.on (BL_CTL_ATTACHED b.val) = true ∧ s.bayIdle b.val = true ∧ s.rd (APR_IDLE_MS n.val) ≠ 0 ∧ st < n.val + 1
    s.sysrefOk = true ∧ idle ∧ s.roleBay b.val = false ∧ n.val = 1) ∧
    (
    let s : State := (((({ State.reset with red := { homes := [0] } }).put (BL_CTL_ATTACHED 0) true).wr (APR_IDLE_MS 3) 1).wr (APR_PS_STATE 0) 2)
    let b : Bay := 0
    let n : Fin 4 := 3
    let st := s.rd (APR_PS_STATE b.val)
    let idle : Prop := s.on (BL_CTL_ATTACHED b.val) = true ∧ s.bayIdle b.val = true ∧ s.rd (APR_IDLE_MS n.val) ≠ 0 ∧ st < n.val + 1
    s.sysrefOk = true ∧ idle ∧ n.val ≠ 0 ∧ (s.vacate b.val).roleBay b.val = true) ∧
    (
    let s : State := ((State.reset.wr (APR_PS_STATE 0) 1).setSched 0 { released := some {} })
    let b : Bay := 0
    let st := s.rd (APR_PS_STATE b.val)
    s.sysrefOk = true ∧ st = 1 ∧ s.bayIdle b.val = false) ∧
    (
    let s : State := (State.reset.put THM_CTL_EN false)
    s.sysrefOk = true ∧ s.on THM_CTL_EN = false) ∧
    (
    let s : State := { State.reset with energy := { hot := 100 } }
    let e := s.energy
    s.sysrefOk = true ∧ 100 ≤ e.hot ∧ s.on THM_STAT_SHUT = false) ∧
    (
    let s : State := { State.reset with energy := { caseValid := true } }
    let e := s.energy
    s.sysrefOk = true ∧ e.caseValid = true) ∧
    (
    let s : State := { State.reset with energy := { trimming := true } }
    let m : BitVec 16 := 70
    let p : BitVec 16 := 100
    let e := s.energy
    let good : Prop := p.toNat ≠ 0 ∧ 70 * p.toNat ≤ 100 * m.toNat ∧ 100 * m.toNat ≤ 150 * p.toNat
    s.sysrefOk = true ∧ e.trimming = true ∧ good) ∧
    (
    let s : State := { State.reset with energy := { trimming := true } }
    let m : BitVec 16 := 69
    let p : BitVec 16 := 100
    let e := s.energy
    let good : Prop := p.toNat ≠ 0 ∧ 70 * p.toNat ≤ 100 * m.toNat ∧ 100 * m.toNat ≤ 150 * p.toNat
    s.sysrefOk = true ∧ e.trimming = true ∧ (¬ good)) ∧
    (
    let s : State := { State.reset with pwr := { porLow := true } }
    s.sysrefOk = true ∧ s.pwr.porLow = true) ∧
    (
    let s : State := { State.reset with cfg := { step := 2 } }
    let e := s.energy
    s.sysrefOk = true ∧ s.pwr.porLow = false ∧ 1 < s.cfg.step ∧ e.flush = .none) ∧
    (
    let s : State := (({ State.reset with energy := { flush := .parking } }).put THM_STAT_SHUT true)
    let e := s.energy
    let parked : Prop := e.flush = .parking ∧ s.allParked = true
    s.sysrefOk = true ∧ parked ∧ s.on THM_STAT_SHUT = true) ∧
    (
    let s : State := (({ State.reset with cfg := { step := 2 }, energy := { flush := .writing } }).put APR_STAT_PFAIL true)
    let timedOut : Bool := false
    let e := s.energy
    let ending : Prop := e.flush = .writing ∧ (timedOut = true ∨ e.plan = [])
    s.sysrefOk = true ∧ s.pwr.porLow = false ∧ 1 < s.cfg.step ∧ e.flush ≠ .none ∧ ending ∧ (e.returned = false ∨ s.on THM_STAT_SHUT = true) ∧ s.on APR_STAT_PFAIL = true ∧ s.on THM_STAT_SHUT = false ∧ e.flush = .writing) ∧
    (
    let s : State := (({ State.reset with cfg := { step := 2 }, energy := { flush := .done } }).put APR_STAT_PFAIL true)
    let e := s.energy
    s.sysrefOk = true ∧ s.on APR_STAT_PFAIL = true ∧ s.on THM_STAT_SHUT = false ∧ 1 < s.cfg.step ∧ e.flush = .done) ∧
    (
    let s : State := (((State.reset.put (BL_CTL_ATTACHED 0) true).wr (APR_IDLE_MS 0) 1).wr (APR_PS_STATE 0) 0)
    let b : Bay := 0
    let n : Fin 4 := 0
    let st := s.rd (APR_PS_STATE b.val)
    let idle : Prop := s.on (BL_CTL_ATTACHED b.val) = true ∧ s.bayIdle b.val = true ∧ s.rd (APR_IDLE_MS n.val) ≠ 0 ∧ st < n.val + 1
    s.sysrefOk = true ∧ idle ∧ n.val = 0) ∧
    (
    let s : State := (((State.reset.put (BL_CTL_ATTACHED 0) true).wr (APR_IDLE_MS 3) 1).wr (APR_PS_STATE 0) 2)
    let b : Bay := 0
    let n : Fin 4 := 3
    let st := s.rd (APR_PS_STATE b.val)
    let idle : Prop := s.on (BL_CTL_ATTACHED b.val) = true ∧ s.bayIdle b.val = true ∧ s.rd (APR_IDLE_MS n.val) ≠ 0 ∧ st < n.val + 1
    s.sysrefOk = true ∧ idle ∧ s.roleBay b.val = false ∧ 2 ≤ n.val) :=
  ⟨by decide,
    by decide,
    by decide,
    by decide,
    by decide,
    by decide,
    by decide,
    by decide,
    by decide,
    by decide,
    by decide,
    by decide,
    by decide,
    by decide,
    by decide,
    by decide,
    by decide,
    by decide,
    by decide,
    by decide,
    by decide,
    by decide⟩

/-- The hypotheses of `Obligations.CacheScrubVitalWordsAndReservations` can hold. -/
theorem witness_CacheScrubVitalWordsAndReservations :
    (
    let s : State := ((State.reset.put LC_STAT_BYPASS false).put LC_CTL_EN true)
    let a : BitVec 40 := 0x10000000
    let err (t : State) : Nat := smGet 0 t.memErr (granBase a.toNat)
    let scrubs : Prop := s.on MEM_SCRUB_EN = true ∧ s.isMem a.toNat = true
    s.sysrefOk = true ∧ s.isMem a.toNat = true ∧ s.on LC_STAT_BYPASS = false ∧ s.findWay a.toNat = none ∧ s.cacheAllocates = true ∧ (∃ x, x < 16 ∧ s.allocable x = true) ∧ s.on LC_STAT_BUSY = false ∧ s.on LC_CTL_EN = true ∧ scrubs ∧ err s = 0) ∧
    (
    let s : State := State.reset
    let a : BitVec 40 := 0x20000000
    let mask : BitVec 16 := 0
    let g : Fin 4 := 0
    let i : Fin 64 := 0
    let w : Word := 0
    let v : Word := 0
    let c : Core := 0
    let rs1 : GReg := 0
    let m := mask.toNat
    let locked := countTrue ((List.range 16).map m.testBit)
    let lockOk : Prop := locked ≤ 12 ∧ (∀ x, x < 16 → m.testBit x = true → s.groupOff (x / 4) = false) ∧ 4 ≤ allocableCount m s.groupOff ∧ s.on LC_STAT_BUSY = false
    let isOff := (s.rd LC_PWR_OFF).testBit g.val
    let scrubs : Prop := s.on MEM_SCRUB_EN = true ∧ s.isMem a.toNat = true
    let idle : Prop := ∀ x, x < 16 → (s.core x).wait = .none
    let u := s.afterFetch c.val
    let next := u.vwNat 26
    let image := (u.g c.val rs1.val).toNat
    s.sysrefOk = true ∧ (s.isMem a.toNat = false ∨ s.on LC_STAT_BYPASS = true ∨ (s.findWay a.toNat).isSome) ∧ lockOk ∧ s.on LC_RANGE_BUSY = false ∧ isOff = false ∧ s.on LC_PWR_PBUSY = false ∧ s.on LC_CTL_EN = false ∧ s.cacheBusy ≠ .disabling ∧ s.on LC_STAT_BUSY = false ∧ s.on LC_STAT_BYPASS = true ∧ s.cacheBusy ≠ .enabling ∧ (¬ scrubs) ∧ (s.vw i.val).lost = false ∧ (s.vw i.val).majority = some w ∧ v.toNat ≤ s.vwNat 27 ∧ idle ∧ s.va.writingW = true ∧ s.va.writingJ = true ∧ s.jseqHeld = [] ∧ s.executes (c.val) ∧ next + 1 < 2 ^ 64 ∧ u.va.resvW ≤ next + 1 ∧ (u.core c.val).priv = true ∧ image % 64 = 0) ∧
    (
    let s : State := State.reset
    let mask : BitVec 16 := 0x1FFF
    let m := mask.toNat
    let locked := countTrue ((List.range 16).map m.testBit)
    s.sysrefOk = true ∧ 12 < locked) ∧
    (
    let s : State := (State.reset.put LC_RANGE_BUSY true)
    s.sysrefOk = true ∧ s.on LC_RANGE_BUSY = true) ∧
    (
    let s : State := ((State.reset.wr LC_PWR_OFF 8).put LC_PWR_PBUSY true)
    let g : Fin 4 := 3
    let isOff := (s.rd LC_PWR_OFF).testBit g.val
    s.sysrefOk = true ∧ isOff = true ∧ s.on LC_PWR_PBUSY = true) ∧
    (
    let s : State := { State.reset with cacheBusy := .disabling }
    s.sysrefOk = true ∧ s.cacheBusy = .disabling) ∧
    (
    let s : State := { State.reset with cacheBusy := .enabling }
    s.sysrefOk = true ∧ s.cacheBusy = .enabling) ∧
    (
    let s : State := (State.reset.put LC_STAT_BUSY true)
    s.sysrefOk = true ∧ s.on LC_STAT_BUSY = true) ∧
    (
    let s : State := { State.reset with vital := [(63, { c0 := 5, c1 := 6, c2 := 7 })] }
    let i : Fin 64 := 63
    s.sysrefOk = true ∧ (s.vw i.val).lost = false ∧ (s.vw i.val).majority = none) ∧
    (
    let s : State := { State.reset with vital := (List.range 64).map fun i => (i, { lost := true }) }
    s.sysrefOk = true ∧ (∀ x, x < 64 → (s.vw x).lost = true)) ∧
    (
    let s : State := { State.reset with va := { State.reset.va with resvJ := 10 } }
    let v : Word := 9
    s.sysrefOk = true ∧ s.vwNat 27 < v.toNat ∧ v.toNat < s.va.resvJ) ∧
    (
    let s : State := { State.reset with va := { State.reset.va with resvJ := 10 } }
    let v : Word := 10
    s.sysrefOk = true ∧ s.vwNat 27 < v.toNat ∧ s.va.resvJ ≤ v.toNat) ∧
    (
    let s : State := { State.reset with va := { State.reset.va with resvW := 2 } }
    let c : Core := 0
    let u := s.afterFetch c.val
    let next := u.vwNat 26
    s.sysrefOk = true ∧ s.executes (c.val) ∧ next + 1 < 2 ^ 64 ∧ next + 1 < u.va.resvW) ∧
    (
    let s : State := ((State.reset.wr PWR_RELEASE_CORE 1).wr (PWR_DOM_STATE 97) 2)
    let mask : BitVec 16 := 2
    (mask.getLsbD 1 = true ∧ (s.rd PWR_RELEASE_CORE).testBit 1 = false ∧ s.dom 97 = 2)) ∧
    (
    let s : State := { State.reset with va := { State.reset.va with writingW := false } }
    let idle : Prop := ∀ x, x < 16 → (s.core x).wait = .none
    s.sysrefOk = true ∧ idle ∧ s.va.writingW = false) :=
  ⟨by decide,
    by decide,
    by decide,
    by decide,
    by decide,
    by decide,
    by decide,
    by decide,
    by decide,
    by decide,
    by decide,
    by decide,
    by decide,
    by decide,
    by decide⟩

/-- The hypotheses of `Obligations.DmaTransfers` can hold. -/
theorem witness_DmaTransfers :
    (
    let s : State := (State.reset.wr (DMA_CH_STAT_SHV 3 15) 1)
    let ch : DmaCh := ⟨3, 15⟩
    let d := ch.d.val
    let i := ch.i.val
    let cfg := s.rd (DMA_CFG_CFG d i)
    let n := s.rd (DMA_CNT_BYTES d i)
    let active := s.dmaActive d i
    let failed (t : State) : Bool := t.on (DMA_CH_STAT_ERR d i)
    let loads : Prop := s.dmaOn d i = true ∧ active = false ∧ (s.dmaS d i).wait = none ∧ s.on (DMA_CH_STAT_SHV d i) = true ∧ failed s = false
    s.sysrefOk = true ∧ (s.on (DMA_CH_STAT_SHV d i) = true ∨ s.on (DMA_CH_CTL_LPQ d i) = true) ∧ (s.on (DMA_CH_STAT_SHV d i) = true ∨ failed s = true) ∧ (¬ loads) ∧ cfgOp cfg ≠ 2 ∧ cfgOp cfg ≠ 1 ∧ (active = false ∨ failed s = true) ∧ (active = false ∨ n ≠ 0) ∧ (s.dmaS d i).wait = none) ∧
    (
    let s : State := ((((State.reset.wr (DMA_CH_CTL_LPQ 3 15) 1).put (DMA_ENG_CTL_EN 3) true).put (DMA_CH_CTL_EN 3 15) true).setLp 639 { entries := [entry [(128, 32, 4), (160, 32, 16386)]] })
    let ch : DmaCh := ⟨3, 15⟩
    let e : Entry := entry [(128, 32, 4), (160, 32, 16386)]
    let rest : List Entry := []
    let d := ch.d.val
    let i := ch.i.val
    let failed (t : State) : Bool := t.on (DMA_CH_STAT_ERR d i)
    s.sysrefOk = true ∧ s.dmaOn d i = true ∧ s.on (DMA_CH_CTL_LPQ d i) = true ∧ s.on (DMA_CH_STAT_SHV d i) = false ∧ failed s = false ∧ (s.lp (576 + 16 * d + i)).entries = e :: rest ∧ s.stalled = []) ∧
    (
    let s : State := (((((State.reset.wr (DMA_CH_STAT_SHV 3 15) 1).wr (DMA_SH_CNT_BYTES 3 15) 4).wr (DMA_SH_CFG_CFG 3 15) 0x4002).put (DMA_ENG_CTL_EN 3) true).put (DMA_CH_CTL_EN 3 15) true)
    let ch : DmaCh := ⟨3, 15⟩
    let d := ch.d.val
    let i := ch.i.val
    let active := s.dmaActive d i
    let failed (t : State) : Bool := t.on (DMA_CH_STAT_ERR d i)
    let bad := (s.dmaS d i).poison || dmaBad (s.reg (DMA_SH_SRC d i)) (s.reg (DMA_SH_DST d i)) (s.rd (DMA_SH_CNT_BYTES d i)) (s.rd (DMA_SH_CFG_CFG d i))
    let loads : Prop := s.dmaOn d i = true ∧ active = false ∧ (s.dmaS d i).wait = none ∧ s.on (DMA_CH_STAT_SHV d i) = true ∧ failed s = false
    s.sysrefOk = true ∧ loads ∧ bad = false) ∧
    (
    let s : State := (((((State.reset.wr (DMA_CH_STAT_SHV 3 15) 1).wr (DMA_SH_CNT_BYTES 3 15) 0).wr (DMA_SH_CFG_CFG 3 15) 0x4002).put (DMA_ENG_CTL_EN 3) true).put (DMA_CH_CTL_EN 3 15) true)
    let ch : DmaCh := ⟨3, 15⟩
    let d := ch.d.val
    let i := ch.i.val
    let active := s.dmaActive d i
    let failed (t : State) : Bool := t.on (DMA_CH_STAT_ERR d i)
    let bad := (s.dmaS d i).poison || dmaBad (s.reg (DMA_SH_SRC d i)) (s.reg (DMA_SH_DST d i)) (s.rd (DMA_SH_CNT_BYTES d i)) (s.rd (DMA_SH_CFG_CFG d i))
    let loads : Prop := s.dmaOn d i = true ∧ active = false ∧ (s.dmaS d i).wait = none ∧ s.on (DMA_CH_STAT_SHV d i) = true ∧ failed s = false
    s.sysrefOk = true ∧ loads ∧ bad = true) ∧
    (
    let s : State := ((((((State.reset.wr (DMA_CNT_BYTES 3 15) 4).wr (DMA_CFG_CFG 3 15) 0x4002).wr (DMA_DST_ADDR 3 15) 0x10000010).put (DMA_ENG_CTL_EN 3) true).put (DMA_CH_CTL_EN 3 15) true).wr (DMA_ENG_STAT_ACTIVE 3) 0x8000)
    let ch : DmaCh := ⟨3, 15⟩
    let d := ch.d.val
    let i := ch.i.val
    let cfg := s.rd (DMA_CFG_CFG d i)
    let n := s.rd (DMA_CNT_BYTES d i)
    let dst := s.rd (DMA_DST_ADDR d i)
    let active := s.dmaActive d i
    let failed (t : State) : Bool := t.on (DMA_CH_STAT_ERR d i)
    let moves (op : Nat) : Prop := s.dmaOn d i = true ∧ active = true ∧ failed s = false ∧ n ≠ 0 ∧ cfgOp cfg = op ∧ cfgReq cfg = 0 ∧ cfgDinc cfg = true
          ∧ cfgDwrap cfg = 0 ∧ cfgBurst cfg ≤ 6 ∧ s.plainMem dst n
    let alone : Prop := ∀ j, j < 16 → j ≠ i → s.dmaActive d j = false
    s.sysrefOk = true ∧ s.on (DMA_CH_STAT_SHV d i) = false ∧ s.on (DMA_CH_CTL_LPQ d i) = false ∧ moves 2 ∧ alone ∧ s.rd (DMA_ENG_STAT_OUTST d) < 8 ∧ active = true ∧ failed s = false) ∧
    (
    let s : State := (((((((State.reset.wr (DMA_CNT_BYTES 3 15) 4).wr (DMA_CFG_CFG 3 15) 0x6001).wr (DMA_DST_ADDR 3 15) 0x10000010).put (DMA_ENG_CTL_EN 3) true).put (DMA_CH_CTL_EN 3 15) true).wr (DMA_ENG_STAT_ACTIVE 3) 0x8000).setReg (DMA_SRC 3 15) 0x10000000)
    let ch : DmaCh := ⟨3, 15⟩
    let d := ch.d.val
    let i := ch.i.val
    let cfg := s.rd (DMA_CFG_CFG d i)
    let n := s.rd (DMA_CNT_BYTES d i)
    let dst := s.rd (DMA_DST_ADDR d i)
    let src := (s.reg (DMA_SRC d i)).toNat
    let active := s.dmaActive d i
    let failed (t : State) : Bool := t.on (DMA_CH_STAT_ERR d i)
    let moves (op : Nat) : Prop := s.dmaOn d i = true ∧ active = true ∧ failed s = false ∧ n ≠ 0 ∧ cfgOp cfg = op ∧ cfgReq cfg = 0 ∧ cfgDinc cfg = true
          ∧ cfgDwrap cfg = 0 ∧ cfgBurst cfg ≤ 6 ∧ s.plainMem dst n
    let fromMem : Prop := cfgSinc cfg = true ∧ cfgSwrap cfg = 0 ∧ s.plainMem src n ∧ (src + n ≤ dst ∨ dst + n ≤ src)
    s.sysrefOk = true ∧ moves 1 ∧ fromMem) ∧
    (
    let s : State := ((((((State.reset.wr (DMA_CNT_BYTES 3 15) 4).wr (DMA_CFG_CFG 3 15) 0x4002).wr (DMA_DST_ADDR 3 15) 0x10000010).put (DMA_ENG_CTL_EN 3) true).put (DMA_CH_CTL_EN 3 15) true).wr (DMA_ENG_STAT_OUTST 3) 8)
    let ch : DmaCh := ⟨3, 15⟩
    let d := ch.d.val
    s.sysrefOk = true ∧ 8 ≤ s.rd (DMA_ENG_STAT_OUTST d)) ∧
    (
    let s : State := (((State.reset.put (DMA_ENG_CTL_EN 3) true).put (DMA_CH_CTL_EN 3 15) true).wr (DMA_ENG_STAT_ACTIVE 3) 0x8000)
    let ch : DmaCh := ⟨3, 15⟩
    let d := ch.d.val
    let i := ch.i.val
    let n := s.rd (DMA_CNT_BYTES d i)
    let active := s.dmaActive d i
    let failed (t : State) : Bool := t.on (DMA_CH_STAT_ERR d i)
    s.sysrefOk = true ∧ active = true ∧ n = 0 ∧ failed s = false) ∧
    (
    let s : State := ((State.reset.setDma 3 15 { wait := some {} }).setLp 672 { free := 1 })
    let ch : DmaCh := ⟨3, 15⟩
    let e : Entry := {}
    let d := ch.d.val
    let i := ch.i.val
    let cfg := s.rd (DMA_CFG_CFG d i)
    let inbox := 672 + cfgCore cfg
    s.sysrefOk = true ∧ (s.dmaS d i).wait = some e ∧ s.hasCredit inbox = true) :=
  ⟨by decide,
    by decide,
    by decide,
    by decide,
    by decide,
    by decide,
    by decide,
    by decide,
    by decide⟩

/-- The hypotheses of `Obligations.FlashEnableCheckAndBoot` can hold. -/
theorem witness_FlashEnableCheckAndBoot :
    (
    let s : State := (State.reset.put CFG_FL_STAT_BUSY true)
    let busy := s.on CFG_FL_STAT_BUSY
    s.sysrefOk = true ∧ busy = true) ∧
    (
    let s : State := { State.reset with cfg := { flOp := some { failed := 3 } } }
    let o : FlashOp := { failed := 3 }
    s.sysrefOk = true ∧ s.cfg.flOp = some o ∧ o.failed ≠ 0 ∧ o.failed < 4) ∧
    (
    let s : State := { State.reset with cfg := { flOp := some { op := 3 } } }
    let o : FlashOp := { op := 3 }
    let turn (k : Nat) : Prop := s.cfg.step + 1 = k ∧ s.cfg.stopped = false ∧ s.pwr.porLow = false ∧ (k = 2 → s.on APR_STAT_PFAIL = false)
    s.sysrefOk = true ∧ s.cfg.flOp = some o ∧ o.failed = 0 ∧ o.op = 3 ∧ turn 1 ∧ s.rd PWR_STAT_CAUSE = 0) ∧
    (
    let s : State := { State.reset with cfg := { flOp := some { op := 2, len := 1 }, txf := [7] } }
    let o : FlashOp := { op := 2, len := 1 }
    s.sysrefOk = true ∧ s.cfg.flOp = some o ∧ o.failed = 0 ∧ o.op = 2 ∧ min 256 o.len ≤ s.cfg.txf.length) ∧
    (
    let s : State := { State.reset with cfg := { check := some { reason := 513 } } }
    let c : CheckRun := { reason := 513 }
    s.sysrefOk = true ∧ (s.on CFG_ENABLE_EN = true ∨ s.cfg.check.isSome ∨ s.cfg.owner.isSome) ∧ s.cfg.check = some c ∧ c.reason ≠ 0) ∧
    (
    let s : State := { State.reset with cfg := { check := some {} } }
    let c : CheckRun := {}
    s.sysrefOk = true ∧ s.cfg.check = some c ∧ c.reason = 0 ∧ c.profile.policy.ownRec.action = 0) ∧
    (
    let s : State := (State.reset.put HPT_GCTL_EN true)
    s.sysrefOk = true ∧ (s.on HPT_GCTL_EN = true ∨ ∃ b, b < 32 ∧ s.on (BL_CTL_ATTACHED b) = true)) ∧
    (
    let s : State := State.reset
    let x : BootStep := .open_
    s.sysrefOk = true ∧ s.cfg.step + 1 ≠ bootNumber x ∧ bootNumber x ≠ 10) ∧
    (
    let s : State := { State.reset with cfg := { stopped := true } }
    s.sysrefOk = true ∧ (s.cfg.stopped = true ∨ s.pwr.porLow = true)) ∧
    (
    let s : State := { State.reset with cfg := { step := 11 } }
    let x : BootStep := .open_
    let turn (k : Nat) : Prop := s.cfg.step + 1 = k ∧ s.cfg.stopped = false ∧ s.pwr.porLow = false ∧ (k = 2 → s.on APR_STAT_PFAIL = false)
    s.sysrefOk = true ∧ turn (bootNumber x) ∧ x ≠ .profile ∧ turn 12) ∧
    (
    let s : State := { State.reset with cfg := { step := 1 } }
    let turn (k : Nat) : Prop := s.cfg.step + 1 = k ∧ s.cfg.stopped = false ∧ s.pwr.porLow = false ∧ (k = 2 → s.on APR_STAT_PFAIL = false)
    s.sysrefOk = true ∧ turn 2) ∧
    (
    let s : State := { State.reset with cfg := { step := 2 } }
    let ok : Bool := false
    let mbit : Nat := 0
    let turn (k : Nat) : Prop := s.cfg.step + 1 = k ∧ s.cfg.stopped = false ∧ s.pwr.porLow = false ∧ (k = 2 → s.on APR_STAT_PFAIL = false)
    s.sysrefOk = true ∧ turn 3 ∧ (ok = false ∨ mbit < 256)) ∧
    (
    let s : State := { State.reset with cfg := { step := 2 } }
    let ok : Bool := true
    let mbit : Nat := 256
    let tg : Fin 3 := 0
    let busy := s.on CFG_FL_STAT_BUSY
    let turn (k : Nat) : Prop := s.cfg.step + 1 = k ∧ s.cfg.stopped = false ∧ s.pwr.porLow = false ∧ (k = 2 → s.on APR_STAT_PFAIL = false)
    let e (j : Nat) := s.bootEntry j
    let staged (j : Nat) : Prop := (e j).other = slotStaged
    s.sysrefOk = true ∧ busy = false ∧ s.cfg.flOp = none ∧ s.on CFG_ENABLE_EN = false ∧ s.cfg.check = none ∧ s.cfg.owner = none ∧ s.on HPT_GCTL_EN = false ∧ (∀ b, b < 32 → s.on (BL_CTL_ATTACHED b) = false) ∧ turn 3 ∧ ok = true ∧ 256 ≤ mbit ∧ s.cfg.flash = [] ∧ (¬ staged (2 + tg.val)) ∧ (¬ staged 0) ∧ (¬ staged 1)) ∧
    (
    let s : State := { State.reset with cfg := { step := 3 } }
    let turn (k : Nat) : Prop := s.cfg.step + 1 = k ∧ s.cfg.stopped = false ∧ s.pwr.porLow = false ∧ (k = 2 → s.on APR_STAT_PFAIL = false)
    let e (j : Nat) := s.bootEntry j
    s.sysrefOk = true ∧ turn 4 ∧ (e 0).other = slotEmpty) ∧
    (
    let s : State := { State.reset with cfg := { sets := [(4, { other := slotStaged })] } }
    let tg : Fin 3 := 2
    let e (j : Nat) := s.bootEntry j
    let staged (j : Nat) : Prop := (e j).other = slotStaged
    s.sysrefOk = true ∧ staged (2 + tg.val)) ∧
    (
    let s : State := (State.reset.put APR_STAT_PFAIL true)
    s.sysrefOk = true ∧ s.on APR_STAT_PFAIL = true) ∧
    (
    let s : State := { State.reset with cfg := { step := 4 } }
    let turn (k : Nat) : Prop := s.cfg.step + 1 = k ∧ s.cfg.stopped = false ∧ s.pwr.porLow = false ∧ (k = 2 → s.on APR_STAT_PFAIL = false)
    let e (j : Nat) := s.bootEntry j
    s.sysrefOk = true ∧ turn 5 ∧ (∀ j, 1 ≤ j → j < 9 → (e j).other = slotEmpty) ∧ (e 1).active = none) ∧
    (
    let s : State := { State.reset with cfg := { step := 4 } }
    let turn (k : Nat) : Prop := s.cfg.step + 1 = k ∧ s.cfg.stopped = false ∧ s.pwr.porLow = false ∧ (k = 2 → s.on APR_STAT_PFAIL = false)
    let e (j : Nat) := s.bootEntry j
    s.sysrefOk = true ∧ turn 5 ∧ (∀ j, 1 ≤ j → j < 9 → (e j).other = slotEmpty) ∧ (s.activeProfile s.bootProfile) = none) ∧
    (
    let s : State := { State.reset with cfg := { sets := [(0, { other := slotStaged })] } }
    let e (j : Nat) := s.bootEntry j
    let staged (j : Nat) : Prop := (e j).other = slotStaged
    s.sysrefOk = true ∧ staged 0) ∧
    (
    let s : State := { State.reset with cfg := { sets := [(1, { other := slotStaged })] } }
    let e (j : Nat) := s.bootEntry j
    let staged (j : Nat) : Prop := (e j).other = slotStaged
    s.sysrefOk = true ∧ staged 1) :=
  ⟨by decide,
    by decide,
    by decide,
    by decide,
    by decide,
    by decide,
    by decide,
    by decide,
    by decide,
    by decide,
    by decide,
    by decide,
    by decide,
    by decide,
    by decide,
    by decide,
    ⟨by decide, by decide, fun _ _ _ => rfl, by decide⟩,
    ⟨by decide, by decide, fun _ _ _ => rfl, by decide⟩,
    by decide,
    by decide⟩

/-- The hypotheses of `Obligations.HierarchyAndEventRecorder` can hold. -/
theorem witness_HierarchyAndEventRecorder :
    (
    let s : State := (State.reset.wr CFG_STRAP_ROLE 3)
    s.sysrefOk = true ∧ s.role = roleStandalone) ∧
    (
    let s : State := (State.reset.put CFG_ENABLE_EN true)
    let term : BitVec 32 := 0
    let ds : List (BitVec 384) := []
    let m : Fin 64 := 0
    let id : BitVec 8 := 0
    let ch : Fin 32 := 0
    let member : Prop := s.role ≠ roleStandalone
    let known : Prop := max 1 (s.rd HIE_TERM_TERM) ≤ term.toNat
    let set_ : Prop := ds ≠ [] ∧ ds.length ≤ 4
    let pipe := 640 + ch.val
    s.sysrefOk = true ∧ member ∧ s.enabled = true ∧ (s.role = roleStandalone ∨ ¬ known ∨ ¬ set_) ∧ s.role ≠ roleManager ∧ s.role ≠ roleStandby ∧ (s.role = roleStandalone ∨ ¬ known) ∧ s.acting = false ∧ s.tokenHolder id.toNat ≠ some m.val ∧ s.on HIE_STAT_EXPIRED = false ∧ (s.lp pipe).entries = [] ∧ s.evr.supp = [] ∧ smGet 0 s.evr.drops ch.val = 0 ∧ s.on EVR_CTL_FREEZE = false ∧ s.evr.held = [] ∧ s.on APR_STAT_PFAIL = false ∧ s.on THM_STAT_SHUT = false ∧ s.evr.flush = none) ∧
    (
    let s : State := State.reset
    let term : BitVec 32 := 1
    let ds : List (BitVec 384) := [0, 0, 0, 0]
    let member : Prop := s.role ≠ roleStandalone
    let known : Prop := max 1 (s.rd HIE_TERM_TERM) ≤ term.toNat
    let set_ : Prop := ds ≠ [] ∧ ds.length ≤ 4
    s.sysrefOk = true ∧ member ∧ known ∧ set_ ∧ s.acting = false ∧ (s.hie.gseqSeen = none ∨ s.rd HIE_TERM_TERM < term.toNat)) ∧
    (
    let s : State := (State.reset.wr CFG_STRAP_ROLE 2)
    s.sysrefOk = true ∧ s.role = roleStandby ∧ s.acting = false) ∧
    (
    let s : State := ((State.reset.put HIE_STAT_ACTING true).wr HIE_TERM_TERM 7)
    let term : BitVec 32 := 7
    let member : Prop := s.role ≠ roleStandalone
    let known : Prop := max 1 (s.rd HIE_TERM_TERM) ≤ term.toNat
    s.sysrefOk = true ∧ member ∧ known ∧ s.acting = true ∧ term.toNat = s.rd HIE_TERM_TERM) ∧
    (
    let s : State := ((State.reset.put HIE_STAT_ACTING true).wr (CFG_PARAM_VALUE 19) 0)
    s.sysrefOk = true ∧ s.acting = true ∧ s.rd (CFG_PARAM_VALUE 19) ≤ s.hie.tokens.length) ∧
    (
    let s : State := (({ State.reset with hie := { tokens := [(255, { member := 63 })] } }).put HIE_STAT_ACTING true)
    let m : Fin 64 := 63
    let id : BitVec 8 := 255
    s.sysrefOk = true ∧ s.acting = true ∧ s.hie.requests = [] ∧ s.tokenHolder id.toNat = some m.val) ∧
    (
    let s : State := ((State.reset.wr CFG_STRAP_ROLE 2).put HIE_STAT_ACTING true)
    let member : Prop := s.role ≠ roleStandalone
    s.sysrefOk = true ∧ (s.role = roleManager ∨ s.role = roleStandby) ∧ s.role = roleStandby ∧ s.acting = true ∧ (s.acting = true ∨ s.on HIE_STAT_EXPIRED = true) ∧ member) ∧
    (
    let s : State := (((({ State.reset with evr := { chainDue := [] } }).setLp 671 { entries := [entry [(0, 10, 1023)]] }).put (EVR_CODE_UNLIM 1023) true).wr EVR_RING_BASE_ADDR 0x10000000)
    let ch : Fin 32 := 31
    let e : Entry := entry [(0, 10, 1023)]
    let rest : List Entry := []
    let pipe := 640 + ch.val
    let entry : Prop := (s.lp pipe).entries = e :: rest ∧ s.stalled = [] ∧ e.poison = false
    let code := e.at 0 10
    let codeOk : Prop := code / 32 = ch.val ∧ 2 < code % 32 ∧ e.at 10 6 = 0
    let plainEntry : Prop := entry ∧ codeOk ∧ ch.val ≠ 3 ∧ s.on (EVR_CODE_UNLIM code) = true ∧ s.evr.chainDue = []
    s.sysrefOk = true ∧ plainEntry ∧ s.ringLive = false ∧ s.evr.held.length < 256) ∧
    (
    let s : State := ((((((({ State.reset with evr := { chainDue := [] } }).setLp 671 { entries := [entry [(0, 10, 1023)]] }).put (EVR_CODE_UNLIM 1023) true).wr EVR_RING_BASE_ADDR 0x10000000).put EVR_CTL_EN true).wr EVR_HEAD_SEQ 32768).wr EVR_DRAIN_SEQ 0)
    let ch : Fin 32 := 31
    let e : Entry := entry [(0, 10, 1023)]
    let rest : List Entry := []
    let pipe := 640 + ch.val
    let entry : Prop := (s.lp pipe).entries = e :: rest ∧ s.stalled = [] ∧ e.poison = false
    let code := e.at 0 10
    let codeOk : Prop := code / 32 = ch.val ∧ 2 < code % 32 ∧ e.at 10 6 = 0
    let plainEntry : Prop := entry ∧ codeOk ∧ ch.val ≠ 3 ∧ s.on (EVR_CODE_UNLIM code) = true ∧ s.evr.chainDue = []
    s.sysrefOk = true ∧ plainEntry ∧ s.ringLive = true ∧ s.ringTakes ch.val = false) ∧
    (
    let s : State := (((({ State.reset with evr := { chainDue := [] } }).setLp 671 { entries := [entry [(0, 10, 994)]] }).put (EVR_CODE_UNLIM 994) true).wr EVR_RING_BASE_ADDR 0x10000000)
    let ch : Fin 32 := 31
    let e : Entry := entry [(0, 10, 994)]
    let rest : List Entry := []
    let pipe := 640 + ch.val
    let entry : Prop := (s.lp pipe).entries = e :: rest ∧ s.stalled = [] ∧ e.poison = false
    let code := e.at 0 10
    let codeOk : Prop := code / 32 = ch.val ∧ 2 < code % 32 ∧ e.at 10 6 = 0
    s.sysrefOk = true ∧ entry ∧ (¬ codeOk) ∧ ch.val ≠ 3 ∧ s.evr.chainDue = [] ∧ s.ringLive = false ∧ s.evr.held.length < 256) ∧
    (
    let s : State := ((((({ State.reset with evr := { chainDue := [], drops := [(31, 1)] } }).setLp 671 { entries := [entry [(0, 10, 1023)]] }).put (EVR_CODE_UNLIM 1023) true).wr EVR_RING_BASE_ADDR 0x10000000).put EVR_CTL_EN true)
    let ch : Fin 32 := 31
    let e : Entry := entry [(0, 10, 1023)]
    let rest : List Entry := []
    let pipe := 640 + ch.val
    let entry : Prop := (s.lp pipe).entries = e :: rest ∧ s.stalled = [] ∧ e.poison = false
    let code := e.at 0 10
    let codeOk : Prop := code / 32 = ch.val ∧ 2 < code % 32 ∧ e.at 10 6 = 0
    let plainEntry : Prop := entry ∧ codeOk ∧ ch.val ≠ 3 ∧ s.on (EVR_CODE_UNLIM code) = true ∧ s.evr.chainDue = []
    let slot := s.rd EVR_RING_BASE_ADDR / 2 ^ 20 * 2 ^ 20 + s.rd EVR_HEAD_SEQ % 32768 * 32
    s.sysrefOk = true ∧ plainEntry ∧ s.ringLive = true ∧ s.ringTakes ch.val = true ∧ s.plainMem slot 32 ∧ smGet 0 s.evr.drops ch.val ≠ 0 ∧ s.evr.chainDue = [] ∧ ch.val ≠ 3) ∧
    (
    let s : State := (State.reset.put EVR_CTL_FREEZE true)
    s.sysrefOk = true ∧ s.on EVR_CTL_FREEZE = true) ∧
    (
    let s : State := (({ State.reset with red := { pairs := [(0, {})] } }).wr EVR_HEAD_SEQ 128)
    let p : Nat × JPair := (0, {})
    let ps : List (Nat × JPair) := []
    let good : Bool := true
    s.sysrefOk = true ∧ s.red.pairs = p :: ps ∧ 128 ≤ s.undrained ∧ good = true) ∧
    (
    let s : State := (({ State.reset with red := { pairs := [(0, {})] } }).wr EVR_HEAD_SEQ 127)
    let p : Nat × JPair := (0, {})
    let ps : List (Nat × JPair) := []
    let good : Bool := true
    s.sysrefOk = true ∧ s.red.pairs = p :: ps ∧ (s.undrained < 128 ∨ good = false)) ∧
    (
    let s : State := (State.reset.put APR_STAT_PFAIL true)
    s.sysrefOk = true ∧ s.evr.held = [] ∧ s.on APR_STAT_PFAIL = true) ∧
    (
    let s : State := { State.reset with evr := { flush := some (0, none) } }
    let fl : Nat × Option Nat := (0, none)
    s.sysrefOk = true ∧ s.evr.flush = some fl) ∧
    (
    let s : State := (State.reset.put THM_STAT_SHUT true)
    s.sysrefOk = true ∧ s.evr.held = [] ∧ s.on THM_STAT_SHUT = true) :=
  ⟨by decide,
    by decide,
    by decide,
    by decide,
    by decide,
    by decide,
    by decide,
    by decide,
    by decide,
    by decide,
    by decide,
    by decide,
    by decide,
    by decide,
    by decide,
    by decide,
    by decide,
    by decide⟩

/-- The hypotheses of `Obligations.PowerDomainsResetsAndSideband` can hold. -/
theorem witness_PowerDomainsResetsAndSideband :
    (
    let s : State := (State.reset.wr (PWR_DOM_STATE 131) 0)
    let who : Agent := .loupe
    let dom : BitVec 8 := 131
    let n := dom.toNat
    let runs (op : Nat) : Prop := s.cmdError who n op = none
    runs 4) ∧
    (
    let s : State := (State.reset.wr (PWR_DOM_STATE 131) 0)
    let who : Agent := .loupe
    let dom : BitVec 8 := 131
    let n := dom.toNat
    s.cmdError who n 1 = some 2) ∧
    (
    let s : State := (State.reset.wr (PWR_DOM_STATE 131) 4)
    let who : Agent := .loupe
    let dom : BitVec 8 := 131
    let off : BitVec 8 := 0
    let n := dom.toNat
    let st (t : State) : Nat := t.dom n
    let runs (op : Nat) : Prop := s.cmdError who n op = none
    let settled : Prop := ∀ c, s.currentSlot = some c → s.sec.sealedSlot = some c
    let free : Prop := s.on THM_STAT_SHUT = false ∧ s.pwr.forced = none
    let mailbox : Prop := 0x40 ≤ off.toNat ∧ off.toNat < 0x80
    let up : Prop := s.pwr.porLow = false
    runs 2 ∧ runs 3 ∧ runs 5 ∧ s.on PWR_CMDSTAT_BUSY = false ∧ n ≤ 131 ∧ s.pwr.barred = false ∧ st s ≠ 0 ∧ (s.pwr.drain ≠ some n ∨ s.drained n = false) ∧ settled ∧ free ∧ s.pwr.warm = none ∧ s.rd PWR_WDOG_LIMIT = 0 ∧ up ∧ (¬ mailbox) ∧ s.alerting = false) ∧
    (
    let s : State := (State.reset.put PWR_CMDSTAT_BUSY true)
    s.on PWR_CMDSTAT_BUSY = true) ∧
    (
    let s : State := State.reset
    let dom : BitVec 8 := 132
    let n := dom.toNat
    s.on PWR_CMDSTAT_BUSY = false ∧ 131 < n) ∧
    (
    let s : State := { State.reset with pwr := { barred := true } }
    let dom : BitVec 8 := 131
    let n := dom.toNat
    s.on PWR_CMDSTAT_BUSY = false ∧ n ≤ 131 ∧ s.pwr.barred = true) ∧
    (
    let s : State := { State.reset with pwr := { drain := some 131 } }
    let who : Agent := .loupe
    let dom : BitVec 8 := 131
    let n := dom.toNat
    let runs (op : Nat) : Prop := s.cmdError who n op = none
    runs 1 ∧ s.pwr.drain = some n ∧ n < 132 ∧ s.drained n = true ∧ (n < 112 ∨ 116 ≤ n)) ∧
    (
    let dom : BitVec 8 := 115
    let n := dom.toNat
    112 ≤ n ∧ n < 116) ∧
    (
    let s : State := { State.reset with pwr := { warm := some 2 } }
    let settled : Prop := ∀ c, s.currentSlot = some c → s.sec.sealedSlot = some c
    let free : Prop := s.on THM_STAT_SHUT = false ∧ s.pwr.forced = none
    free ∧ settled ∧ s.pwr.warm.isSome ∧ s.deviceDrained = true ∧ s.arrayErr = [] ∧ (∀ p ∈ s.cache, p.2.dirty = false)) ∧
    (
    let s : State := (({ State.reset with pwr := { warm := some 2 } }).setSched 0 { released := some {} })
    let free : Prop := s.on THM_STAT_SHUT = false ∧ s.pwr.forced = none
    free ∧ s.pwr.warm.isSome ∧ s.deviceDrained = false ∧ s.allParked = true) ∧
    (
    let s : State := (State.reset.wr (SRV_STAT_ST 0) 2)
    let free : Prop := s.on THM_STAT_SHUT = false ∧ s.pwr.forced = none
    free ∧ s.pwr.warm = none ∧ s.allParked = false) ∧
    (
    let s : State := (State.reset.wr PWR_WDOG_LIMIT 1)
    let free : Prop := s.on THM_STAT_SHUT = false ∧ s.pwr.forced = none
    free ∧ s.rd PWR_WDOG_LIMIT ≠ 0) ∧
    (
    let s : State := { State.reset with pwr := { outbound := [5] } }
    let off : BitVec 8 := 0x7F
    let bt : Byte := 5
    let r : List Byte := []
    let mailbox : Prop := 0x40 ≤ off.toNat ∧ off.toNat < 0x80
    let up : Prop := s.pwr.porLow = false
    up ∧ mailbox ∧ s.pwr.outbound = bt :: r ∧ s.pwr.inbound.length < 128) ∧
    (
    let s : State := { State.reset with pwr := { inbound := List.replicate 128 0 } }
    let off : BitVec 8 := 0x40
    let mailbox : Prop := 0x40 ≤ off.toNat ∧ off.toNat < 0x80
    let up : Prop := s.pwr.porLow = false
    up ∧ mailbox ∧ s.pwr.outbound = [] ∧ 128 ≤ s.pwr.inbound.length) ∧
    (
    let s : State := (State.reset.put THM_STAT_SHUT true)
    let free : Prop := s.on THM_STAT_SHUT = false ∧ s.pwr.forced = none
    let up : Prop := s.pwr.porLow = false
    (¬ free) ∧ up ∧ s.alerting = true) ∧
    (
    let s : State := { State.reset with pwr := { porLow := true } }
    s.pwr.porLow = true) :=
  ⟨by decide,
    by decide,
    by decide,
    by decide,
    by decide,
    by decide,
    by decide,
    by decide,
    by decide,
    by decide,
    by decide,
    by decide,
    by decide,
    by decide,
    by decide,
    by decide⟩

end Sys2Proof.Tests
end

section
/-! Commands complete and the queue drains (R1): what `step` does to the waiting commands. -/
namespace Sys2Proof.Machine
open Sys2Proof

/-! ### A command that is taken -/

/-- A reserved opcode that the outside can send raises its trap (R433). -/
theorem exec_reservedOpcode_of_wf {c : Core} {w : Word32} (s : State) (h : (Instr.reservedOpcode c w).wf = true) :
    exec (.reservedOpcode c w) s = done s (s.instr c.val fun s => s.trapWord c tcIllegal (w.zeroExtend 64)) := by
  change (if reservedWord w then _ else _) = _
  rw [if_pos (show reservedWord w = true from h)]

/-- Every command ends by `done`, whichever clock it waits for; only a reserved opcode looks at its word first. -/
theorem exec_eq_done {i : Instr} (s : State) (h : i.wf = true) : ∃ t, exec i s = done s t := by
  cases i with
  | reservedOpcode c w => exact ⟨_, exec_reservedOpcode_of_wf s h⟩
  | _ => exact ⟨_, rfl⟩

/-- Settles O3: every command ends by `done`, which puts the waiting commands back as they were. -/
theorem everyWellFormedCommandCompletes : Obligations.EveryWellFormedCommandCompletes := by
  intro i s h
  obtain ⟨t, ht⟩ := exec_eq_done s h
  exact ⟨{ t with pending := s.pending }, ht, rfl⟩

/-! ### A nanosecond with no command waiting -/

/-- A choice between two updates that leave the queue leaves it. -/
theorem pending_ite {p : Prop} [Decidable p] {s t u : State} (ht : t.pending = s.pending) (hu : u.pending = s.pending) :
    (if p then t else u).pending = s.pending := by
  split
  · exact ht
  · exact hu

/-- What every update of a chain keeps, the chain keeps. -/
theorem forUpTo_keeps {P : State → Prop} {n : Nat} {f : Nat → State → State} (hf : ∀ i u, P u → P (f i u)) {s : State} (h : P s) :
    P (forUpTo n f s) := by
  unfold forUpTo
  induction List.range n generalizing s with
  | nil => exact h
  | cons i l ih => exact ih (hf i s h)

/-- A chain of updates each of which leaves the queue. -/
theorem forUpTo_pending (n : Nat) (f : Nat → State → State) (hf : ∀ i u, (f i u).pending = u.pending) (s : State) :
    (forUpTo n f s).pending = s.pending :=
  forUpTo_keeps (P := fun u => u.pending = s.pending) (fun i u h => (hf i u).trans h) rfl

@[simp] theorem State.tickWall_pending (s : State) : s.tickWall.pending = s.pending :=
  pending_ite rfl (pending_ite rfl rfl)

@[simp] theorem State.wrInt_pending (s : State) (f : Fld) (v : Int) : (s.wrInt f v).pending = s.pending := rfl

@[simp] theorem State.tickAngle_pending (s : State) (b : Nat) : (s.tickAngle b).pending = s.pending := by
  unfold State.tickAngle
  exact pending_ite rfl ((State.wrInt_pending _ _ _).trans (State.setAng_pending _ _ _))

@[simp] theorem State.tick_pending (s : State) : s.tick.pending = s.pending := by
  have hw : (if s.sysrefOk then { s with now := s.now + 1 }.tickWall else { s with now := s.now + 1 }).pending = s.pending :=
    pending_ite (State.tickWall_pending _) rfl
  unfold State.tick
  exact pending_ite ((forUpTo_pending _ _ (fun b u => u.tickAngle_pending b) _).trans hw) hw

@[simp] theorem State.strike_pending (s : State) (x : Upset) : (s.strike x).pending = s.pending := by
  cases x with
  | none | level1 => rfl
  | lightpipe n i w double =>
    dsimp only [State.strike]
    split <;> rfl
  | facet | cacheData | cacheTag | granule | vital => exact pending_ite rfl rfl

@[simp] theorem State.holdPacket_pending (s : State) (j : SealJob) : (s.holdPacket j).pending = s.pending := by
  unfold State.holdPacket
  split <;> rfl

@[simp] theorem State.sendSealed_pending (s : State) (j : SealJob) : (s.sendSealed j).pending = s.pending := by
  unfold State.sendSealed
  split
  · simp
  · split <;> rfl

@[simp] theorem State.pushSeal_pending (s : State) (j : SealJob) : (s.pushSeal j).pending = s.pending := by
  unfold State.pushSeal
  dsimp only
  rw [State.hwPush_frame]
  rfl

theorem State.hwPop_pending {s t : State} {n : Nat} {e : Entry} (h : s.hwPop n = some (e, t)) : t.pending = s.pending := by
  rw [State.hwPop_frame h]

@[simp] theorem State.portTake_pending (s : State) (c fuel : Nat) : (s.portTake c fuel).pending = s.pending := by
  induction fuel generalizing s with
  | zero => rfl
  | succ k ih =>
    unfold State.portTake
    split
    next => rfl
    next e _ _ =>
      split
      next => rfl
      next j _ =>
        split
        next => rfl
        next t hpop =>
          have ht := State.hwPop_pending hpop
          split
          · rw [ih, State.sendSealed_pending]; exact ht
          · rw [ih, State.pushSeal_pending]; exact ht

/-- No command appears or disappears while a nanosecond passes. -/
@[simp] theorem State.idle_pending (s : State) : s.idle.pending = s.pending := by
  unfold State.idle State.portTakeAll
  rw [forUpTo_pending _ _ fun c u => State.portTake_pending u c _]
  simp

/-! ### The step -/

theorem step_of_empty {s : State} (h : s.pending = []) : step s = .next s.idle := by
  unfold step
  rw [h]

theorem step_of_cons {s : State} {c : Instr} {l : List Instr} (h : s.pending = c :: l) :
    step s = exec c { s with pending := l } := by
  unfold step
  rw [h]

/-- Settles O1: the two equations of `step`. -/
theorem stepRunsTheFrontCommand : Obligations.StepRunsTheFrontCommand :=
  fun _ _ _ => ⟨step_of_cons rfl, step_of_empty rfl⟩

/-- With well-formed commands waiting, a step goes on and takes the front one alone from the queue. -/
theorem step_takes_front {s : State} (h : s.queueWf) : ∃ t, step s = .next t ∧ t.pending = s.pending.tail := by
  cases hq : s.pending with
  | nil => exact ⟨s.idle, step_of_empty hq, by rw [State.idle_pending, hq]; rfl⟩
  | cons c l =>
    have hc : c.wf = true := h c (by rw [hq]; exact List.mem_cons_self)
    obtain ⟨t, ht, hp⟩ := everyWellFormedCommandCompletes c { s with pending := l } hc
    exact ⟨t, (step_of_cons hq).trans ht, hp⟩

theorem queueWf_of_tail {s t : State} (h : s.queueWf) (ht : t.pending = s.pending.tail) : t.queueWf := by
  intro c hc
  rw [ht] at hc
  exact h c (List.mem_of_mem_tail hc)

theorem stepMany_succ_of_next {s t : State} (n : Nat) (h : step s = .next t) : stepMany (n + 1) s = stepMany n t := by
  rw [stepMany, h]

/-- As many steps as well-formed commands wait leave the queue empty. -/
theorem stepMany_drains {n : Nat} {s : State} (hn : s.pending.length = n) (h : s.queueWf) :
    ∃ t, stepMany n s = .next t ∧ t.pending = [] := by
  induction n generalizing s with
  | zero => exact ⟨s, rfl, List.length_eq_zero_iff.mp hn⟩
  | succ n ih =>
    obtain ⟨t, hs, ht⟩ := step_takes_front h
    have hlen : t.pending.length = n := by rw [ht, List.length_tail, hn]; rfl
    obtain ⟨u, hu, he⟩ := ih hlen (queueWf_of_tail h ht)
    exact ⟨u, (stepMany_succ_of_next n hs).trans hu, he⟩

/-- Settles O4: each step takes the front command and leaves the well-formed rest, so the queue's length counts the steps. -/
theorem queueOfWellFormedCommandsRunsOn : Obligations.QueueOfWellFormedCommandsRunsOn := by
  intro s h
  obtain ⟨t, hs, ht⟩ := step_takes_front h
  exact ⟨⟨t, hs, queueWf_of_tail h ht, ht⟩, stepMany_drains rfl h⟩

end Sys2Proof.Machine
end

section
/-! Register accesses over the bus (R12 to R15, R38, R40): the bits that a write leaves in a field by its access code, and what
an access does that meets a bus error, names no register, or names one. -/
namespace Sys2Proof.Machine
open Sys2Proof

/-! ### A command that completes -/

/-- While SYSREF is present a command clocked by it completes with its effect, the queue as it was. -/
theorem answers_of_clocked {i : Instr} {s t : State} {p : State → Prop} (h : exec i s = clocked s t) (hs : s.sysrefOk = true)
    (hp : p { t with pending := s.pending }) : answers i s p := by
  refine ⟨_, h.trans ?_, hp⟩
  unfold clocked
  rw [if_pos hs, done_eq]

/-! ### Bits of a word -/

theorem fldMask_getLsbD (f : FldRow) {i : Nat} (hi : i < 64) : (fldMask f).getLsbD i = decide (f.lo ≤ i ∧ i < f.lo + f.width) := by
  simp only [fldMask, BitVec.getLsbD_shiftLeft, BitVec.getLsbD_ofNat, Nat.testBit_two_pow_sub_one, hi, decide_true, Bool.true_and]
  by_cases h1 : f.lo ≤ i
  · have h2 : ¬ i < f.lo := by omega
    have h3 : i - f.lo < 64 := by omega
    have h4 : i - f.lo < f.width ↔ i < f.lo + f.width := by omega
    simp [h1, h2, h3, h4]
  · have h2 : i < f.lo := by omega
    simp [h1, h2]

/-- A plain field takes the written bits of its lane (R13). -/
theorem writeFld_rw_getLsbD (en : Bool) (lane v old : Word) (lo n : Nat) {i : Nat} (hi : i < 64) :
    (writeFld en lane v old ⟨lo, n, .rw⟩).getLsbD i
      = if (lo ≤ i ∧ i < lo + n) ∧ lane.getLsbD i = true then v.getLsbD i else old.getLsbD i := by
  simp only [writeFld, BitVec.getLsbD_or, BitVec.getLsbD_and, BitVec.getLsbD_not, fldMask_getLsbD _ hi, hi, decide_true, Bool.true_and]
  by_cases h1 : lo ≤ i ∧ i < lo + n <;> cases lane.getLsbD i <;> simp [h1]

/-- A field that is cleared by ones keeps the bits over which no one is written (R13). -/
theorem writeFld_w1c_getLsbD (en : Bool) (lane v old : Word) (lo n : Nat) {i : Nat} (hi : i < 64) :
    (writeFld en lane v old ⟨lo, n, .w1c⟩).getLsbD i
      = (old.getLsbD i && ! (v.getLsbD i && (decide (lo ≤ i ∧ i < lo + n) && lane.getLsbD i))) := by
  simp only [writeFld, BitVec.getLsbD_and, BitVec.getLsbD_not, fldMask_getLsbD _ hi, hi, decide_true, Bool.true_and]

/-- A read-only field ignores a write (R13). -/
theorem writeFld_ro (en : Bool) (lane v old : Word) (lo n : Nat) : writeFld en lane v old ⟨lo, n, .ro⟩ = old := rfl

/-- A field's value is decided by its bits. -/
theorem bitsOf_congr {w w' : Word} {lo lo' n : Nat} (h : ∀ i, i < n → w.getLsbD (lo + i) = w'.getLsbD (lo' + i)) :
    bitsOf w lo n = bitsOf w' lo' n := by
  unfold bitsOf
  congr 1
  apply BitVec.eq_of_getLsbD_eq
  intro i hi
  simp only [BitVec.getLsbD_extractLsb', hi, decide_true, Bool.true_and, h i hi]

theorem bitsOf_zero_eq_mod (w : Word) (n : Nat) : bitsOf w 0 n = w.toNat % 2 ^ n := by
  simp [bitsOf]

/-- The low bits of a word under their mask are the field that begins at bit 0. -/
theorem and_mask_eq_bitsOf (w : Word) {n : Nat} (hn : n < 64) :
    w &&& BitVec.ofNat 64 (2 ^ n - 1) = BitVec.ofNat 64 (bitsOf w 0 n) := by
  apply BitVec.eq_of_toNat_eq
  have h : 2 ^ n - 1 < 2 ^ 64 := Nat.lt_of_le_of_lt (Nat.sub_le _ _) (Nat.pow_lt_pow_right (by omega) hn)
  have h2 : w.toNat % 2 ^ n < 2 ^ 64 := Nat.lt_of_le_of_lt (Nat.mod_le _ _) w.isLt
  rw [BitVec.toNat_and, BitVec.toNat_ofNat, Nat.mod_eq_of_lt h, Nat.and_two_pow_sub_one_eq_mod, bitsOf_zero_eq_mod,
    BitVec.toNat_ofNat, Nat.mod_eq_of_lt h2]

/-! ### The bus -/

/-- An access that meets no bus error is a read of 32 bits (R12, R40). -/
theorem State.regRead_of_windowOk {s : State} {who : Agent} {o : Bool} {a : Nat} (h : s.windowOk who o a false = true) :
    s.regRead who o a false = s.read32 who a := by
  unfold State.regRead
  rw [h]
  rfl

theorem State.regRead_of_not_windowOk {s : State} {who : Agent} {o wide : Bool} {a : Nat} (h : s.windowOk who o a wide = false) :
    s.regRead who o a wide = (none, s) := by
  unfold State.regRead
  rw [h]
  rfl

theorem State.regWrite_of_windowOk {s : State} {who : Agent} {o : Bool} {a : Nat} (v : Word) (h : s.windowOk who o a false = true) :
    s.regWrite who o a false v = (true, s.write32 who a v) := by
  unfold State.regWrite
  rw [h]
  rfl

theorem State.regWrite_of_not_windowOk {s : State} {who : Agent} {o wide : Bool} {a : Nat} (v : Word)
    (h : s.windowOk who o a wide = false) : s.regWrite who o a wide v = (false, s) := by
  unfold State.regWrite
  rw [h]
  rfl

/-- What a read of an answering address does. -/
theorem registerRead_answers {s t : State} {who : Agent} {addr : BitVec 40} {a : Nat} {r : Option Word} {p : State → Prop}
    (hs : s.sysrefOk = true) (ha : addr.toNat = a) (h : s.windowOk who (s.atO who) a false = true) (hr : s.read32 who a = (r, t))
    (hp : p { t.emit (.regAnswer who r) with pending := s.pending }) : answers (.registerRead who addr false) s p := by
  refine answers_of_clocked (t := registerRead who addr false s) rfl hs ?_
  unfold registerRead
  rw [ha, State.regRead_of_windowOk h, hr]
  exact hp

/-- What a write of an answering address does. -/
theorem registerWrite_answers {s : State} {who : Agent} {addr : BitVec 40} {a : Nat} {v : Word} {p : State → Prop}
    (hs : s.sysrefOk = true) (ha : addr.toNat = a) (h : s.windowOk who (s.atO who) a false = true)
    (hp : p { s.write32 who a v with pending := s.pending }) : answers (.registerWrite who addr false v) s p := by
  refine answers_of_clocked (t := registerWrite who addr false v s) rfl hs ?_
  unfold registerWrite
  rw [ha, State.regWrite_of_windowOk v h]
  exact hp

/-- An address that names no register reads 0 and ignores a write (R15). -/
theorem State.read32_of_reserved (s : State) (who : Agent) {a : Nat} (hi : inStore a = false) (hr : (regAt a).isNone) :
    s.read32 who a = (some 0, s) := by
  unfold State.read32
  rw [hi, Option.isNone_iff_eq_none.mp hr]
  rfl

theorem State.write32_of_reserved (s : State) (who : Agent) {a : Nat} (v : Word) (hi : inStore a = false) (hr : (regAt a).isNone) :
    s.write32 who a v = s := by
  unfold State.write32
  rw [hi, Option.isNone_iff_eq_none.mp hr]
  rfl

theorem State.write32_of_hit (s : State) (who : Agent) {a : Nat} {h : RegHit} (v : Word) (hi : inStore a = false) (hr : regAt a = some h) :
    s.write32 who a v = s.writeReg who h (laneOf false h.high) (if h.high then v <<< 32 else v &&& 0xFFFFFFFF) := by
  unfold State.write32
  rw [hi, hr]
  rfl

end Sys2Proof.Machine
end

section
/-! The angle window (R72): its bay and wall-time registers as the bus reads and writes them. -/
namespace Sys2Proof.Machine
open Sys2Proof

/-! ### The angle window -/

/-- An address of the angle window (R38). -/
abbrev inAngWindow (a : Nat) : Prop := 0x20F00000 ≤ a ∧ a < 0x20F10000

theorem windowRows_ang {a : Nat} (h : inAngWindow a) : windowRows a = some angRows := by
  unfold windowRows
  repeat rw [if_neg (by omega)]
  rw [if_pos h.2]

theorem regAt_ang {a : Nat} (h : inAngWindow a) : regAt a = findHit angRows a := by
  unfold regAt
  rw [windowRows_ang h]
  rfl

theorem inFacetBlock_ang {a : Nat} (h : inAngWindow a) : inFacetBlock a = false := by
  simp [inFacetBlock]
  omega

theorem inStore_ang {a : Nat} (h : inAngWindow a) : inStore a = false := by
  simp [inStore, inFacetBlock_ang h]

theorem agentMay_ang (who : Agent) (o : Bool) {a : Nat} (h : inAngWindow a) : agentMay who o a = true := by
  have hm : mOnly a = false := by
    simp [mOnly, inFacetBlock_ang h]
    omega
  unfold agentMay
  split
  · simp [hm]
  · rfl
  · simp
    omega

/-- The window of a bay's angle registers answers while the bay does (R40). -/
theorem State.windowOk_bayAng {s : State} (who : Agent) (o : Bool) {a : Nat} (b : Nat) (hb : s.domAnswers (64 + b) = true)
    (h : 0x20F00000 + b * 0x200 ≤ a ∧ a < 0x20F00000 + b * 0x200 + 0x200) (hw : a < 0x20F04000) (h4 : a % 4 = 0) :
    s.windowOk who o a false = true := by
  have ha : inAngWindow a := by unfold inAngWindow; omega
  have hd : windowDomain a = some (64 + b) := by
    unfold windowDomain
    repeat rw [if_neg (by omega)]
    rw [if_pos (by omega)]
    congr 1
    omega
  unfold State.windowOk
  simp [windowRows_ang ha, agentMay_ang who o ha, hd, h4, hb]

/-- The registers of wall time are in no switched domain (R40). -/
theorem State.windowOk_wallTime (s : State) (who : Agent) (o : Bool) {a : Nat} (h : 0x20F04000 ≤ a ∧ a < 0x20F10000) (h4 : a % 4 = 0) :
    s.windowOk who o a false = true := by
  have ha : inAngWindow a := by unfold inAngWindow; omega
  have hd : windowDomain a = none := by
    unfold windowDomain
    repeat rw [if_neg (by omega)]
  unfold State.windowOk
  simp [windowRows_ang ha, agentMay_ang who o ha, hd, h4]

/-- No register of the angle window has a read with an effect: it is read as it stands (R13, R15). -/
theorem State.readReg_ang (s : State) {h : RegHit} (ha : inAngWindow h.reg.addr) :
    s.readReg h = (some (s.reg h.reg &&& readMask h.flds), s) := by
  have h1 : ¬ h.reg.addr = CFG_FL_RXF.addr := by simp only [CFG_FL_RXF]; omega
  have h2 : ¬ h.reg.addr = PWR_SMB_RXF.addr := by simp only [PWR_SMB_RXF]; omega
  have h3 : hieHidden h.reg.addr = false := by simp [hieHidden]; omega
  have h4 : laserCount h.reg.addr = false := by simp [laserCount]; omega
  unfold State.readReg
  rw [if_neg h1, if_neg h2, if_neg (by omega), if_neg (by simp [h3]), if_neg (by omega), if_neg (by simp [h4])]

/-- A register of the angle window other than ANG_SNAP is written by the access codes of its fields (R13). -/
theorem State.writeReg_ang (s : State) (who : Agent) {h : RegHit} (lane v : Word) (ha : inAngWindow h.reg.addr)
    (hn : h.reg.addr ≠ ANG_SNAP.addr) : s.writeReg who h lane v = s.writeCodes h lane v := by
  have hf : ¬ inFacetBlock h.reg.addr = true := by simp [inFacetBlock_ang ha]
  unfold State.writeReg
  dsimp only
  rw [if_neg hf]
  repeat rw [if_neg (by omega)]
  rw [if_pos (by omega), if_neg hn]

/-- A 32-bit register of the angle window is read as it stands (R12). -/
theorem State.read32_ang (s : State) (who : Agent) {a : Nat} {h : RegHit} (ha : inAngWindow a) (hr : regAt a = some h)
    (hh : h.high = false) (hw : h.wide = false) (he : h.reg.addr = a) :
    s.read32 who a = (some ((s.reg h.reg &&& readMask h.flds) &&& 0xFFFFFFFF), s) := by
  unfold State.read32
  rw [inStore_ang ha, hr]
  dsimp only
  rw [hh, State.readReg_ang s (he ▸ ha), hw]
  rfl

theorem State.write32_ang (s : State) (who : Agent) {a : Nat} {h : RegHit} (v : Word) (ha : inAngWindow a) (hr : regAt a = some h)
    (hh : h.high = false) (he : h.reg.addr = a) (hn : a ≠ ANG_SNAP.addr) :
    s.write32 who a v = s.writeCodes h 0xFFFFFFFF (v &&& 0xFFFFFFFF) := by
  rw [State.write32_of_hit s who v (inStore_ang ha) hr, hh, State.writeReg_ang s who _ _ (he ▸ ha) (he ▸ hn)]
  rfl

/-- A requester holds the high word of a 64-bit register whose low word it has read (R12). -/
def State.latchHigh (s : State) (who : Agent) (a : Nat) (v : Word) : State :=
  { s.unlatch who a with latches := (who, a, v.extractLsb' 32 32) :: (s.unlatch who a).latches }

/-- The low word of a 64-bit register of the angle window is read as it stands and latches the high word (R12). -/
theorem State.read32_ang_low (s : State) (who : Agent) {a : Nat} {h : RegHit} (ha : inAngWindow a) (hr : regAt a = some h)
    (hh : h.high = false) (hw : h.wide = true) (he : h.reg.addr = a) :
    s.read32 who a = (some ((s.reg h.reg &&& readMask h.flds) &&& 0xFFFFFFFF), s.latchHigh who a (s.reg h.reg &&& readMask h.flds)) := by
  unfold State.read32
  rw [inStore_ang ha, hr]
  dsimp only
  rw [hh, State.readReg_ang s (he ▸ ha), hw]
  rfl

/-- A high word that the requester holds is returned to it (R12). -/
theorem State.read32_ang_high (s : State) (who : Agent) {a : Nat} {h : RegHit} {v : BitVec 32} (ha : inAngWindow a)
    (hr : regAt a = some h) (hh : h.high = true) (hl : s.latched who h.reg.addr = some v) :
    s.read32 who a = (some (v.zeroExtend 64), s.unlatch who h.reg.addr) := by
  unfold State.read32
  rw [inStore_ang ha, hr]
  dsimp only
  rw [hh, hl]
  rfl

theorem State.latched_latchHigh (s : State) (who : Agent) (a : Nat) (v : Word) :
    (s.latchHigh who a v).latched who a = some (v.extractLsb' 32 32) := by
  simp [State.latched, State.latchHigh]

theorem zeroExtend_highWord (w : Word) : (w.extractLsb' 32 32).zeroExtend 64 = w >>> 32 := by
  apply BitVec.eq_of_toNat_eq
  have := w.isLt
  simp [Nat.shiftRight_eq_div_pow]
  omega

theorem toNat_ofNat_addr {a : Nat} (h : a < 2 ^ 40) : (BitVec.ofNat 40 a).toNat = a := by
  rw [BitVec.toNat_ofNat, Nat.mod_eq_of_lt h]

/-! ### ANG_TOL and ANG_STAT -/

def angTolHit (b : Nat) : RegHit := ⟨ANG_TOL b, false, [⟨0, 11, .rw⟩], false⟩

def angStatHit (b : Nat) : RegHit :=
  ⟨ANG_STAT b, false, [⟨19, 1, .w1c⟩, ⟨18, 1, .w1c⟩, ⟨17, 1, .w1c⟩, ⟨16, 1, .w1c⟩, ⟨10, 4, .ro⟩, ⟨4, 6, .ro⟩, ⟨3, 1, .ro⟩,
    ⟨2, 1, .ro⟩, ⟨0, 2, .ro⟩], false⟩

/-- A row of one 32-bit register per bay holds that of bay `b` at its place (R72). -/
theorem rowHit_bay (base : Nat) (f : List Nat → Nat) (flds : List FldRow) (b : Bay) :
    rowHit ⟨base, [(0x200, 32)], false, f, flds⟩ (base + b.val * 0x200)
      = some ⟨⟨base + b.val * 0x200, BitVec.ofNat 64 (f [b.val])⟩, false, flds, false⟩ := by
  have hb := b.isLt
  have hd : (base + b.val * 0x200 - base) / 0x200 = b.val := by omega
  have hm : (base + b.val * 0x200 - base) % 0x200 = 0 := by omega
  unfold rowHit
  dsimp only
  rw [if_neg (by omega), matchIx, hd, hm, if_pos hb]
  rfl

/-- Such a row holds nothing at an address that is not a whole number of bays above its base. -/
theorem rowHit_bay_none {base a : Nat} (f : List Nat → Nat) (flds : List FldRow) (ha : base ≤ a) (h : (a - base) % 0x200 ≠ 0) :
    rowHit ⟨base, [(0x200, 32)], false, f, flds⟩ a = none := by
  have hix : matchIx [(0x200, 32)] (a - base) = none := by
    rw [matchIx, matchIx, if_neg h]
    split <;> rfl
  unfold rowHit
  dsimp only
  rw [if_neg (by omega), hix]
  rfl

theorem findHit_skip {r : RegRow} {a : Nat} (rs : List RegRow) (h : rowHit r a = none) : findHit (r :: rs) a = findHit rs a := by
  rw [findHit, h]

theorem findHit_take {r : RegRow} {a : Nat} {x : RegHit} (rs : List RegRow) (h : rowHit r a = some x) :
    findHit (r :: rs) a = some x := by
  rw [findHit, h]

theorem regAt_angTol (b : Bay) : regAt (ANG_TOL b.val).addr = some (angTolHit b.val) := by
  have hb := b.isLt
  have ha : (ANG_TOL b.val).addr = 0x20f0001c + b.val * 0x200 := rfl
  rw [regAt_ang (by unfold inAngWindow; omega), ha, angRows]
  iterate 7 rw [findHit_skip _ (rowHit_bay_none _ _ (by omega) (by omega))]
  exact findHit_take _ (rowHit_bay _ _ _ b)

theorem regAt_angStat (b : Bay) : regAt (ANG_STAT b.val).addr = some (angStatHit b.val) := by
  have hb := b.isLt
  have ha : (ANG_STAT b.val).addr = 0x20f00004 + b.val * 0x200 := rfl
  rw [regAt_ang (by unfold inAngWindow; omega), ha, angRows,
    findHit_skip _ (rowHit_bay_none _ _ (by omega) (by omega))]
  exact findHit_take _ (rowHit_bay _ _ _ b)

theorem getLsbD_lowWord {i : Nat} (hi : i < 32) : (0xFFFFFFFF : Word).getLsbD i = true := by
  show (BitVec.ofNat 64 (2 ^ 32 - 1)).getLsbD i = true
  rw [BitVec.getLsbD_ofNat, Nat.testBit_two_pow_sub_one]
  simp
  omega

/-- A 32-bit write of a register that is one plain field from bit 0 up is what the field then reads (R13). -/
theorem bitsOf_writeFld_rw (en : Bool) (v old : Word) {n : Nat} (hn : n ≤ 32) :
    bitsOf (writeFld en 0xFFFFFFFF (v &&& 0xFFFFFFFF) old ⟨0, n, .rw⟩) 0 n = v.toNat % 2 ^ n := by
  rw [← bitsOf_zero_eq_mod]
  refine bitsOf_congr fun i hi => ?_
  have hl : (0xFFFFFFFF : Word).getLsbD i = true := getLsbD_lowWord (by omega)
  rw [Nat.zero_add, writeFld_rw_getLsbD _ _ _ _ _ _ (by omega), if_pos ⟨by omega, hl⟩, BitVec.getLsbD_and, hl, Bool.and_true]

/-- Ones written over ANG_STAT clear its bits 16 to 19 and leave those below. -/
theorem writeFlds_angStat_getLsbD (en : Bool) (old : Word) (b : Nat) {i : Nat} (hi : i ≤ 16) :
    (writeFlds en 0xFFFFFFFF (0xFFFFFFFF &&& 0xFFFFFFFF) old (angStatHit b).flds).getLsbD i
      = (old.getLsbD i && decide (i < 16)) := by
  have h64 : i < 64 := by omega
  simp only [writeFlds, angStatHit, List.foldl, writeFld_ro, writeFld_w1c_getLsbD _ _ _ _ _ _ h64, BitVec.and_self,
    getLsbD_lowWord (show i < 32 by omega), Bool.and_true, Bool.true_and, ← decide_not, Bool.and_assoc, ← Bool.decide_and]
  congr 2
  rw [eq_iff_iff]
  omega

theorem State.reg_writeCodes (s : State) (h : RegHit) (lane v : Word) :
    (s.writeCodes h lane v).reg h.reg = writeFlds s.enabled lane v (s.reg h.reg) h.flds := by
  unfold State.writeCodes
  exact State.reg_setReg _ _ _

/-- A write of ANG_TOL while its bay answers stores its low 11 bits and leaves every other register and memory. -/
theorem write_angTol {s : State} (who : Agent) (b : Bay) (v : Word) (hs : s.sysrefOk = true)
    (hb : s.domAnswers (64 + b.val) = true) :
    answers (.registerWrite who (BitVec.ofNat 40 (ANG_TOL b.val).addr) false v) s fun t =>
      t.rd (ANG_TOL_TOL b.val) = v.toNat % 2 ^ 11 ∧ t.mem = s.mem
        ∧ ∀ r : Reg, r.addr ≠ (ANG_TOL b.val).addr → t.reg r = s.reg r := by
  have hlt := b.isLt
  have ha : (ANG_TOL b.val).addr = 0x20f0001c + b.val * 0x200 := rfl
  refine registerWrite_answers hs (a := (ANG_TOL b.val).addr) (toNat_ofNat_addr (by omega))
    (State.windowOk_bayAng who _ b.val hb (by omega) (by omega) (by omega)) ?_
  rw [State.write32_ang s who v (by unfold inAngWindow; omega) (regAt_angTol b) rfl rfl (by simp only [ANG_SNAP]; omega)]
  refine ⟨?_, rfl, fun r hr => State.reg_setReg_ne s _ hr⟩
  show bitsOf ((s.writeCodes (angTolHit b.val) _ _).reg (angTolHit b.val).reg) 0 11 = _
  rw [State.reg_writeCodes]
  exact bitsOf_writeFld_rw s.enabled v (s.reg (ANG_TOL b.val)) (by omega)

/-- A write of ones over ANG_STAT while its bay answers clears LOST and leaves SRC. -/
theorem write_angStat {s : State} (who : Agent) (b : Bay) (hs : s.sysrefOk = true) (hb : s.domAnswers (64 + b.val) = true) :
    answers (.registerWrite who (BitVec.ofNat 40 (ANG_STAT b.val).addr) false 0xFFFFFFFF) s fun t =>
      t.on (ANG_STAT_LOST b.val) = false ∧ t.rd (ANG_STAT_SRC b.val) = s.rd (ANG_STAT_SRC b.val) := by
  have hlt := b.isLt
  have ha : (ANG_STAT b.val).addr = 0x20f00004 + b.val * 0x200 := rfl
  refine registerWrite_answers hs (a := (ANG_STAT b.val).addr) (toNat_ofNat_addr (by omega))
    (State.windowOk_bayAng who _ b.val hb (by omega) (by omega) (by omega)) ?_
  rw [State.write32_ang s who _ (by unfold inAngWindow; omega) (regAt_angStat b) rfl rfl (by simp only [ANG_SNAP]; omega)]
  have hw := State.reg_writeCodes s (angStatHit b.val) 0xFFFFFFFF (0xFFFFFFFF &&& 0xFFFFFFFF)
  constructor
  · show (bitsOf ((s.writeCodes (angStatHit b.val) _ _).reg (angStatHit b.val).reg) 16 1 == 1) = false
    rw [hw, bitsOf_congr (w' := 0) (lo' := 0) fun i hi => ?_]
    · rfl
    · rw [writeFlds_angStat_getLsbD _ _ _ (by omega), decide_eq_false (by omega), Bool.and_false]
      simp
  · show bitsOf ((s.writeCodes (angStatHit b.val) _ _).reg (angStatHit b.val).reg) 0 2 = bitsOf (s.reg (ANG_STAT b.val)) 0 2
    rw [hw]
    refine bitsOf_congr fun i hi => ?_
    rw [writeFlds_angStat_getLsbD _ _ _ (by omega), decide_eq_true (by omega), Bool.and_true]
    rfl

/-- A read of ANG_TOL while its bay answers returns the field. -/
theorem read_angTol {s : State} (who : Agent) (b : Bay) {p : State → Prop} (hs : s.sysrefOk = true)
    (hb : s.domAnswers (64 + b.val) = true)
    (hp : p (s.emit (.regAnswer who (some (BitVec.ofNat 64 (s.rd (ANG_TOL_TOL b.val))))))) :
    answers (.registerRead who (BitVec.ofNat 40 (ANG_TOL b.val).addr) false) s p := by
  have hlt := b.isLt
  have ha : (ANG_TOL b.val).addr = 0x20f0001c + b.val * 0x200 := rfl
  refine registerRead_answers hs (a := (ANG_TOL b.val).addr) (toNat_ofNat_addr (by omega))
    (State.windowOk_bayAng who _ b.val hb (by omega) (by omega) (by omega))
    (State.read32_ang s who (by unfold inAngWindow; omega) (regAt_angTol b) rfl rfl rfl) ?_
  have hm : readMask [⟨0, 11, .rw⟩] &&& 0xFFFFFFFF = BitVec.ofNat 64 (2 ^ 11 - 1) := by decide
  rw [BitVec.and_assoc, show (angTolHit b.val).flds = [⟨0, 11, .rw⟩] from rfl, hm, and_mask_eq_bitsOf _ (by omega)]
  exact hp

/-! ### ANG_WT -/

def angWtHit (high : Bool) : RegHit := ⟨ANG_WT, true, [⟨0, 64, .ro⟩], high⟩

theorem regAt_angWt : regAt ANG_WT.addr = some (angWtHit false) := rfl

theorem regAt_angWt_high : regAt (ANG_WT.addr + 4) = some (angWtHit true) := rfl

theorem readMask_angWt (high : Bool) (w : Word) : w &&& readMask (angWtHit high).flds = w :=
  BitVec.and_allOnes

/-- A read of the low word of ANG_WT returns it and latches the high word for the requester (R12). -/
theorem read_angWt_low {s : State} (who : Agent) {p : State → Prop} (hs : s.sysrefOk = true)
    (hp : p ((s.latchHigh who ANG_WT.addr (s.reg ANG_WT)).emit (.regAnswer who (some (s.reg ANG_WT &&& 0xFFFFFFFF))))) :
    answers (.registerRead who (BitVec.ofNat 40 ANG_WT.addr) false) s p := by
  have hr := State.read32_ang_low s who (by decide) regAt_angWt rfl rfl rfl
  rw [readMask_angWt] at hr
  exact registerRead_answers hs (toNat_ofNat_addr (by decide)) (s.windowOk_wallTime who _ (by decide) (by decide)) hr hp

/-- A read of the high word of ANG_WT returns what the requester's read of the low word latched (R12). -/
theorem read_angWt_high {s : State} {who : Agent} {v : BitVec 32} {p : State → Prop} (hs : s.sysrefOk = true)
    (hl : s.latched who ANG_WT.addr = some v)
    (hp : p ((s.unlatch who ANG_WT.addr).emit (.regAnswer who (some (v.zeroExtend 64))))) :
    answers (.registerRead who (BitVec.ofNat 40 (ANG_WT.addr + 4)) false) s p :=
  registerRead_answers hs (toNat_ofNat_addr (by decide)) (s.windowOk_wallTime who _ (by decide) (by decide))
    (s.read32_ang_high who (by decide) regAt_angWt_high rfl hl) hp

/-! ### The statement -/

/-- Settles O32, by what the bus does with an address that names no register, with one that meets a bus error, and with three
registers of the angle window. -/
theorem registerAccesses : Obligations.RegisterAccesses := by
  unfold Obligations.RegisterAccesses
  intro s who addr wide v b hs
  refine ⟨fun hw hi hr => ⟨?_, ?_⟩, fun hw => ⟨?_, ?_⟩, fun hb => ⟨?_, ?_, ?_⟩, ?_⟩
  · exact registerRead_answers hs rfl hw (s.read32_of_reserved who hi hr) rfl
  · refine registerWrite_answers hs rfl hw ?_
    rw [s.write32_of_reserved who v hi hr]
  · refine answers_of_clocked (t := registerRead who addr wide s) rfl hs ?_
    unfold registerRead
    rw [State.regRead_of_not_windowOk hw]
    rfl
  · refine answers_of_clocked (t := registerWrite who addr wide v s) rfl hs ?_
    unfold registerWrite
    rw [State.regWrite_of_not_windowOk v hw]
    rfl
  · exact write_angTol who b v hs hb
  · exact read_angTol who b hs hb ⟨rfl, rfl, rfl⟩
  · exact write_angStat who b hs hb
  · refine read_angWt_low who hs ⟨rfl, rfl, read_angWt_high hs (State.latched_latchHigh s who _ _) ?_⟩
    rw [zeroExtend_highWord]
    rfl

end Sys2Proof.Machine
end

section
/-! The Band Table's entries and their store (R261, R262): reading back a field, the data registers and a cached line. -/
namespace Sys2Proof.Machine
open Sys2Proof

/-! ### Fields of an entry -/

/-- One bit of an entry with a field replaced. -/
theorem getLsbD_btSet (x : BitVec 256) (lo n v : Nat) {i : Nat} (hi : i < 256) :
    (btSet x lo n v).getLsbD i = if lo ≤ i ∧ i < lo + n then v.testBit (i - lo) else x.getLsbD i := by
  simp only [btSet, BitVec.getLsbD_or, BitVec.getLsbD_and, BitVec.getLsbD_not, BitVec.getLsbD_shiftLeft, BitVec.getLsbD_ofNat,
    Nat.testBit_two_pow_sub_one, Nat.testBit_mod_two_pow, hi, decide_true, Bool.true_and]
  by_cases h1 : lo ≤ i
  · have h2 : i - lo < 256 := by omega
    have h3 : i - lo < n ↔ i < lo + n := by omega
    have h5 : ¬ i < lo := by omega
    by_cases h4 : i < lo + n <;> simp [h1, h2, h3, h4, h5]
  · simp [h1, Nat.lt_of_not_le h1]

theorem btGet_btSet_same (x : BitVec 256) {lo n : Nat} (v : Nat) (h : lo + n ≤ 256) : btGet (btSet x lo n v) lo n = v % 2 ^ n := by
  have he : (btSet x lo n v).extractLsb' lo n = BitVec.ofNat n v := by
    apply BitVec.eq_of_getLsbD_eq
    intro i hi
    have h1 : lo ≤ lo + i ∧ lo + i < lo + n := by omega
    rw [BitVec.getLsbD_extractLsb', getLsbD_btSet _ _ _ _ (by omega), if_pos h1, BitVec.getLsbD_ofNat, Nat.add_sub_cancel_left]
  rw [btGet, he, BitVec.toNat_ofNat]

theorem btGet_btSet_disjoint (x : BitVec 256) {lo n lo' n' : Nat} (v : Nat) (h : lo' + n' ≤ lo ∨ lo + n ≤ lo')
    (h' : lo' + n' ≤ 256) :
    btGet (btSet x lo n v) lo' n' = btGet x lo' n' := by
  have he : (btSet x lo n v).extractLsb' lo' n' = x.extractLsb' lo' n' := by
    apply BitVec.eq_of_getLsbD_eq
    intro i hi
    rw [BitVec.getLsbD_extractLsb', BitVec.getLsbD_extractLsb', getLsbD_btSet _ _ _ _ (by omega), if_neg (by omega)]
  rw [btGet, he, btGet]

/-- What OPEN makes of an entry (R263). -/
def btOpened (x : BitVec 256) : BitVec 256 := setBtAdj (setBtQp (setBtWp (setBtState x bandOpen) 0) 0) false

theorem btState_btOpened (x : BitVec 256) : btState (btOpened x) = bandOpen := by
  unfold btOpened setBtAdj setBtQp setBtWp setBtState btState
  rw [btGet_btSet_disjoint _ _ (by omega) (by omega), btGet_btSet_disjoint _ _ (by omega) (by omega),
    btGet_btSet_disjoint _ _ (by omega) (by omega)]
  exact btGet_btSet_same _ bandOpen (by omega)

theorem btWp_btOpened (x : BitVec 256) : btWp (btOpened x) = 0 := by
  unfold btOpened setBtAdj setBtQp setBtWp btWp
  rw [btGet_btSet_disjoint _ _ (by omega) (by omega), btGet_btSet_disjoint _ _ (by omega) (by omega)]
  exact btGet_btSet_same _ 0 (by omega)

theorem btQp_btOpened (x : BitVec 256) : btQp (btOpened x) = 0 := by
  unfold btOpened setBtAdj setBtQp btQp
  rw [btGet_btSet_disjoint _ _ (by omega) (by omega)]
  exact btGet_btSet_same _ 0 (by omega)

theorem btAdj_btOpened (x : BitVec 256) : btAdj (btOpened x) = false := by
  unfold btOpened setBtAdj btAdj
  rw [btGet_btSet_same _ _ (by omega)]
  rfl

theorem btState_setBtState_full (x : BitVec 256) : btState (setBtState x bandFull) = bandFull := btGet_btSet_same x bandFull (by omega)

theorem btWp_setBtState (x : BitVec 256) (v : Nat) : btWp (setBtState x v) = btWp x :=
  btGet_btSet_disjoint x v (by omega) (by omega)

/-! ### The data registers -/

theorem btGet_word (x : BitVec 256) (w : Nat) : btGet x (32 * w) 32 = x.toNat / 2 ^ (32 * w) % 2 ^ 32 := by
  simp [btGet, Nat.shiftRight_eq_div_pow]

/-- Words of 32 bits put together again. -/
theorem foldl_words {x n : Nat} {g : Nat → Nat} (hg : ∀ w, w < n → g w = x / 2 ^ (32 * w) % 2 ^ 32) :
    (List.range n).foldl (fun a w => a + g w * 2 ^ (32 * w)) 0 = x % 2 ^ (32 * n) := by
  induction n with
  | zero => simp [Nat.mod_one]
  | succ n ih =>
    rw [List.range_succ, List.foldl_append, ih fun w hw => hg w (by omega)]
    simp only [List.foldl]
    rw [hg n (by omega), Nat.mul_succ, Nat.pow_add, Nat.mod_mul, Nat.mul_comm (2 ^ (32 * n))]

/-- The data registers hold the entry whose words they hold. -/
theorem State.btData_of_words {s : State} {x : BitVec 256} (h : ∀ w, w < 8 → s.rd (MEM_BT_DATA_WORD w) = btGet x (32 * w) 32) :
    s.btData = x := by
  unfold State.btData
  rw [foldl_words fun w hw => (h w hw).trans (btGet_word x w)]
  apply BitVec.eq_of_toNat_eq
  have := x.isLt
  rw [BitVec.toNat_ofNat]
  omega

theorem State.rd_forUpTo_words (s : State) (x : BitVec 256) {n w : Nat} (hw : w < n) :
    (forUpTo n (fun w s => s.wr (MEM_BT_DATA_WORD w) (btGet x (32 * w) 32)) s).rd (MEM_BT_DATA_WORD w) = btGet x (32 * w) 32 := by
  induction n with
  | zero => omega
  | succ n ih =>
    unfold forUpTo at ih ⊢
    rw [List.range_succ, List.foldl_append]
    simp only [List.foldl]
    by_cases h : w = n
    · subst h
      rw [State.rd_wr _ _ _ (by simp [MEM_BT_DATA_WORD])]
      exact Nat.mod_eq_of_lt (x.extractLsb' (32 * w) 32).isLt
    · rw [State.rd_wr_ne_reg _ _ (by simp only [MEM_BT_DATA_WORD, MEM_BT_DATA]; omega)]
      exact ih (by omega)

/-- The data registers read back the entry placed in them (R263). -/
theorem State.btData_setBtData (s : State) (x : BitVec 256) : (s.setBtData x).btData = x :=
  State.btData_of_words fun _ hw => s.rd_forUpTo_words x hw

theorem State.btData_congr {s t : State} (h : ∀ w, t.rd (MEM_BT_DATA_WORD w) = s.rd (MEM_BT_DATA_WORD w)) : t.btData = s.btData := by
  unfold State.btData
  simp only [h]

theorem State.rd_setBtData_ne (s : State) (x : BitVec 256) {f : Fld} (h : ∀ w, f.reg.addr ≠ (MEM_BT_DATA w).addr) :
    (s.setBtData x).rd f = s.rd f :=
  forUpTo_keeps (P := fun u => u.rd f = s.rd f) (fun w u hu => (u.rd_wr_ne_reg (f := MEM_BT_DATA_WORD w) _ (h w)).trans hu) rfl

theorem State.accessed_setBtData {s t : State} (h : s.accessed t) (x : BitVec 256) : s.accessed (t.setBtData x) :=
  State.accessed_forUpTo _ _ (fun _ _ hu => State.accessed_wr hu _ _) h

/-! ### Cached lines -/

theorem find_smPut {α : Type} (m : SMap α) (k : Nat) (v : α) : (smPut m k v).find? (fun p => p.1 == k) = some (k, v) := by
  induction m with
  | nil => simp [smPut]
  | cons p r ih =>
    obtain ⟨k', v'⟩ := p
    unfold smPut
    split
    · simp
    · split
      · simp
      next h => simpa [h] using ih

@[simp] theorem State.btLine_setBtLine (s : State) (i : Nat) (l : BtLine) :
    (s.setBtLine i l).btLine i = some { l with used := s.btClock + 1 } := by
  unfold State.btLine State.setBtLine
  rw [find_smPut]
  rfl

theorem State.updBt_of_cached {s : State} {i : Nat} {l : BtLine} (f : BitVec 256 → BitVec 256) (h : s.btLine i = some l) :
    s.updBt i f = s.setBtLine i { l with bytes := f l.bytes, dirty := true } := by
  unfold State.updBt
  rw [h]

theorem State.mem_bt_of_btLine {s : State} {i : Nat} {l : BtLine} (h : s.btLine i = some l) : ∃ k, (k, l) ∈ s.bt := by
  obtain ⟨⟨k, l'⟩, hf, rfl⟩ := Option.map_eq_some_iff.mp h
  exact ⟨k, List.mem_of_find?_eq_some hf⟩

/-- With nothing dirty there is nothing to write back (R262). -/
theorem State.btWriteBack_of_clean {s : State} (i : Nat) (h : ∀ p ∈ s.bt, p.2.dirty = false) : s.btWriteBack i = s := by
  unfold State.btWriteBack
  split
  next => rfl
  next l hl =>
    obtain ⟨k, hk⟩ := State.mem_bt_of_btLine hl
    exact if_pos (by simpa using h _ hk)

/-- With nothing dirty a pass over any entries writes nothing back. -/
theorem State.foldl_btWriteBack_of_clean {s : State} (h : ∀ p ∈ s.bt, p.2.dirty = false) (l : List (Nat × BtLine)) :
    l.foldl (fun s p => s.btWriteBack p.1) s = s := by
  induction l with
  | nil => rfl
  | cons p l ih => rw [List.foldl, State.btWriteBack_of_clean p.1 h, ih]

end Sys2Proof.Machine
end

section
/-! The commands of the Band Table (R263, R265): how each starts, and what it leaves on a cached entry. -/
namespace Sys2Proof.Machine
open Sys2Proof

/-! ### Starting and ending -/

/-- `t` differs from `s` only in what a Band Table command may touch. -/
def State.btKeeps (s t : State) : Prop :=
  t = { s with
    regs := t.regs, lps := t.lps, stalled := t.stalled, mem := t.mem, memErr := t.memErr,
    cache := t.cache, plru := t.plru, arrayErr := t.arrayErr, l1d := t.l1d, l1Err := t.l1Err, linked := t.linked,
    bt := t.bt, btClock := t.btClock, btErr := t.btErr, free := t.free }

theorem State.btKeeps_of_accessed {s t : State} (h : s.accessed t) : s.btKeeps t := by
  unfold State.btKeeps
  rw [h]

/-- The cached entries and their clock replaced. -/
def State.withBt (s : State) (b : SMap BtLine) (c : Nat) : State := { s with bt := b, btClock := c }

theorem State.btKeeps_withBt {s t : State} (h : s.btKeeps t) (b : SMap BtLine) (c : Nat) : s.btKeeps (t.withBt b c) := by
  unfold State.btKeeps State.withBt
  rw [h]

/-- The command register and BUSY as a command that starts leaves them (R263). -/
def State.btBegun (s : State) (op idx : Nat) : State := ((s.wr MEM_BT_CMD_INDEX idx).wr MEM_BT_CMD_OP op).put MEM_BT_STAT_BUSY true

@[simp] theorem State.btBegun_busy (s : State) (op idx : Nat) : (s.btBegun op idx).on MEM_BT_STAT_BUSY = true :=
  State.on_put _ _ _ (by decide) rfl

@[simp] theorem State.btBegun_btPinnedIn (s : State) (op idx k i : Nat) : (s.btBegun op idx).btPinnedIn k i = s.btPinnedIn k i := rfl

theorem State.accessed_btBegun (s : State) (op idx : Nat) : s.accessed (s.btBegun op idx) :=
  State.accessed_put (State.accessed_wr (State.accessed_wr s.accessed_refl _ _) _ _) _ _

@[simp] theorem State.btBegun_btData (s : State) (op idx : Nat) : (s.btBegun op idx).btData = s.btData := by
  refine State.btData_congr fun w => ?_
  unfold State.btBegun State.put
  rw [State.rd_wr_ne_reg _ _ ?_, State.rd_wr_ne_reg _ _ ?_, State.rd_wr_ne_reg _ _ ?_] <;>
    simp only [MEM_BT_DATA_WORD, MEM_BT_DATA, MEM_BT_STAT_BUSY, MEM_BT_STAT, MEM_BT_CMD_OP, MEM_BT_CMD_INDEX, MEM_BT_CMD] <;> omega

theorem State.btStart_of_idle {s : State} (op idx : Nat) (run : State → State) (h : s.on MEM_BT_STAT_BUSY = false) :
    s.btStart op idx run = run (s.btBegun op idx) := by
  unfold State.btStart
  rw [h]
  rfl

theorem State.btStart_of_busy {s : State} (op idx : Nat) (run : State → State) (h : s.on MEM_BT_STAT_BUSY = true) :
    s.btStart op idx run = s.wr MEM_BT_STAT_ERR 4 := by
  unfold State.btStart
  rw [if_pos h]

theorem State.btStartOn_of_named {s : State} (op : Nat) {idx : Nat} (run : State → State) (h : hportNamesHead (idx / 2 ^ 15) = true) :
    s.btStartOn op idx run = s.btStart op idx run := by
  unfold State.btStartOn
  rw [if_pos h]

/-- A command whose INDEX names no head is ignored (R11). -/
theorem State.btStartOn_of_unnamed {s : State} (op : Nat) {idx : Nat} (run : State → State)
    (h : ¬ hportNamesHead (idx / 2 ^ 15) = true) : s.btStartOn op idx run = s := by
  unfold State.btStartOn
  rw [if_neg h]

theorem State.btNeed_of_cached {s : State} {idx : Nat} {l : BtLine} (h : s.btLine idx = some l) : s.btNeed idx = (.cached, s) := by
  unfold State.btNeed
  rw [h]

theorem State.btOn_of_cached {s : State} {idx : Nat} {l : BtLine} (run : State → BtLine → State) (h : s.btLine idx = some l) :
    s.btOn idx run = run s l := by
  unfold State.btOn
  rw [State.btNeed_of_cached h]
  dsimp only
  rw [h]

/-- No command runs, and the entry a command names is that of a head and is cached. -/
structure State.btHeld (s : State) (idx : Nat) (l : BtLine) : Prop where
  idle : s.on MEM_BT_STAT_BUSY = false
  named : hportNamesHead (idx / 2 ^ 15) = true
  cached : s.btLine idx = some l

theorem State.btBegun_cached {s : State} {idx : Nat} {l : BtLine} (op n : Nat) (h : s.btHeld idx l) :
    (s.btBegun op n).btLine idx = some l := h.cached

/-- A command on a cached entry starts and runs on that entry. -/
theorem State.btStartOn_btOn_of_held {s : State} {idx : Nat} {l : BtLine} (op : Nat) (run : State → BtLine → State)
    (h : s.btHeld idx l) : (s.btStartOn op idx fun s => s.btOn idx run) = run (s.btBegun op idx) l := by
  rw [State.btStartOn_of_named _ _ h.named, State.btStart_of_idle _ _ _ h.idle, State.btOn_of_cached run (State.btBegun_cached op idx h)]

/-- A command runs, and its result is to be `err`. -/
abbrev State.btRuns (t : State) (err : Nat) : Prop := t.on MEM_BT_STAT_BUSY = true ∧ t.btErr = err

/-- Entry `i` is cached with the bytes `x`, dirty. -/
abbrev State.btBecomes (t : State) (i : Nat) (x : BitVec 256) : Prop :=
  (t.btLine i).map BtLine.bytes = some x ∧ (t.btLine i).map BtLine.dirty = some true

/-- A command whose effect leaves `u` completes so, with its result to be shown. -/
theorem answers_bt_ended {i : Instr} {s : State} (u : State) {err : Nat} (hs : s.sysrefOk = true)
    (h : exec i s = clocked s (u.btResult err)) (hk : s.btKeeps u) (hb : u.on MEM_BT_STAT_BUSY = true) :
    answers i s fun t => s.btKeeps t ∧ t.btRuns err ∧ t.bt = u.bt ∧ t.mem = u.mem ∧ t.btData = u.btData := by
  refine answers_of_clocked h hs ⟨?_, ⟨hb, rfl⟩, rfl, rfl, rfl⟩
  unfold State.btKeeps State.btResult
  rw [hk]

/-- A command that ends with a result and changes no entry. -/
theorem answers_bt_result {i : Instr} {s : State} {op idx err : Nat} (hs : s.sysrefOk = true)
    (h : exec i s = clocked s ((s.btBegun op idx).btResult err)) :
    answers i s fun t => s.btKeeps t ∧ t.btRuns err ∧ t.bt = s.bt := by
  obtain ⟨t, ht, hk, hr, hb, -⟩ :=
    answers_bt_ended _ hs h (State.btKeeps_of_accessed (s.accessed_btBegun op idx)) (s.btBegun_busy op idx)
  exact ⟨t, ht, hk, hr, hb⟩

/-- A command that ends well and leaves the entry it names dirty. -/
theorem answers_bt_changed {i : Instr} {s : State} {op idx n : Nat} {l : BtLine} (hs : s.sysrefOk = true)
    (h : exec i s = clocked s (((s.btBegun op idx).setBtLine n l).btResult 0)) (hd : l.dirty = true) :
    answers i s fun t => s.btKeeps t ∧ t.btRuns 0 ∧ t.btBecomes n l.bytes := by
  obtain ⟨t, ht, hk, hr, hb, -⟩ := answers_bt_ended ((s.btBegun op idx).setBtLine n l) hs h
    (State.btKeeps_withBt (State.btKeeps_of_accessed (s.accessed_btBegun op idx)) _ _) (s.btBegun_busy op idx)
  have hl : t.btLine n = some { l with used := (s.btBegun op idx).btClock + 1 } := by
    rw [← State.btLine_setBtLine, State.btLine, hb, State.btLine]
  exact ⟨t, ht, hk, hr, by rw [hl]; rfl, by rw [hl]; exact congrArg some hd⟩

/-! ### The commands on a cached entry -/

section
variable {s : State} {idx : BitVec 25} {l : BtLine} (hs : s.sysrefOk = true) (hl : s.btHeld idx.toNat l)
include hs hl

theorem btRead_held : answers (.btRead idx) s fun t => s.btKeeps t ∧ t.btRuns 0 ∧ t.btData = btSeal l.bytes ∧ t.bt = s.bt := by
  have he : btRead idx s = ((s.btBegun 1 idx.toNat).setBtData (btSeal l.bytes)).btResult 0 := by
    unfold btRead
    rw [State.btStartOn_of_named _ _ hl.named, State.btStart_of_idle _ _ _ hl.idle, State.btNeed_of_cached (State.btBegun_cached _ _ hl)]
    dsimp only
    rw [State.btBegun_cached _ _ hl]
  have ha := State.accessed_setBtData (s.accessed_btBegun 1 idx.toNat) (btSeal l.bytes)
  have hb : ((s.btBegun 1 idx.toNat).setBtData (btSeal l.bytes)).on MEM_BT_STAT_BUSY = true := by
    unfold State.on
    rw [State.rd_setBtData_ne _ _ fun w => by simp only [MEM_BT_STAT_BUSY, MEM_BT_STAT, MEM_BT_DATA]; omega]
    exact s.btBegun_busy 1 idx.toNat
  have hbt : ((s.btBegun 1 idx.toNat).setBtData (btSeal l.bytes)).bt = s.bt := by rw [ha]
  obtain ⟨t, ht, hk, hr, hbt', -, hd⟩ := answers_bt_ended (i := .btRead idx) _ hs (congrArg (clocked s) he)
    (State.btKeeps_of_accessed ha) hb
  exact ⟨t, ht, hk, hr, hd.trans (State.btData_setBtData _ _), hbt'.trans hbt⟩

theorem btWrite_legal (hq : btQp l.bytes = btWp l.bytes) (hg : btLegal (btState l.bytes) (btState s.btData) = true) :
    answers (.btWrite idx) s fun t => s.btKeeps t ∧ t.btRuns 0 ∧ t.btBecomes idx.toNat (btMerge l.bytes s.btData) := by
  refine answers_bt_changed (op := 2) (idx := idx.toNat) (l := { l with bytes := btMerge l.bytes s.btData, dirty := true }) hs
    (congrArg (clocked s) ?_) rfl
  unfold btWrite
  rw [State.btStartOn_btOn_of_held _ _ hl, if_neg (fun h => h hq), State.btBegun_btData, if_neg (fun h => h hg),
    State.updBt_of_cached _ (State.btBegun_cached _ _ hl)]

theorem btWrite_illegal (hq : btQp l.bytes = btWp l.bytes) (hg : btLegal (btState l.bytes) (btState s.btData) = false) :
    answers (.btWrite idx) s fun t => s.btKeeps t ∧ t.btRuns 3 ∧ t.bt = s.bt := by
  refine answers_bt_result (op := 2) (idx := idx.toNat) hs (congrArg (clocked s) ?_)
  unfold btWrite
  rw [State.btStartOn_btOn_of_held _ _ hl, if_neg (fun h => h hq), State.btBegun_btData, if_pos (by simp [hg])]

theorem btWrite_unsettled (hq : ¬ btQp l.bytes = btWp l.bytes) :
    answers (.btWrite idx) s fun t => s.btKeeps t ∧ t.btRuns 1 ∧ t.bt = s.bt := by
  refine answers_bt_result (op := 2) (idx := idx.toNat) hs (congrArg (clocked s) ?_)
  unfold btWrite
  rw [State.btStartOn_btOn_of_held _ _ hl, if_pos hq]

theorem btOpen_free (hf : btState l.bytes = bandFree) (hp : s.btPinnedIn (btSetOf idx.toNat) idx.toNat < 6) :
    answers (.btOpen idx) s fun t => s.btKeeps t ∧ t.btRuns 0 ∧ t.btBecomes idx.toNat (btOpened l.bytes) := by
  refine answers_bt_changed (op := 3) (idx := idx.toNat) (l := { l with bytes := btOpened l.bytes, dirty := true }) hs
    (congrArg (clocked s) ?_) rfl
  unfold btOpen
  rw [State.btStartOn_btOn_of_held _ _ hl, if_neg (fun h => h hf), State.btBegun_btPinnedIn, if_neg (Nat.not_le.mpr hp),
    State.updBt_of_cached _ (State.btBegun_cached _ _ hl)]
  rfl

theorem btOpen_not_free (hf : btState l.bytes ≠ bandFree) :
    answers (.btOpen idx) s fun t => s.btKeeps t ∧ t.btRuns 3 ∧ t.bt = s.bt := by
  refine answers_bt_result (op := 3) (idx := idx.toNat) hs (congrArg (clocked s) ?_)
  unfold btOpen
  rw [State.btStartOn_btOn_of_held _ _ hl, if_pos hf]

theorem btClose_open (hf : btState l.bytes = bandOpen) (hq : btQp l.bytes = btWp l.bytes) :
    answers (.btClose idx) s fun t => s.btKeeps t ∧ t.btRuns 0 ∧ t.btBecomes idx.toNat (setBtState l.bytes bandFull) := by
  refine answers_bt_changed (op := 4) (idx := idx.toNat) (l := { l with bytes := setBtState l.bytes bandFull, dirty := true }) hs
    (congrArg (clocked s) ?_) rfl
  unfold btClose
  rw [State.btStartOn_btOn_of_held _ _ hl, if_neg (fun h => h hf), if_neg (fun h => h hq),
    State.updBt_of_cached _ (State.btBegun_cached _ _ hl)]

theorem btClose_not_open (hf : btState l.bytes ≠ bandOpen) :
    answers (.btClose idx) s fun t => s.btKeeps t ∧ t.btRuns 3 ∧ t.bt = s.bt := by
  refine answers_bt_result (op := 4) (idx := idx.toNat) hs (congrArg (clocked s) ?_)
  unfold btClose
  rw [State.btStartOn_btOn_of_held _ _ hl, if_pos hf]

theorem btRestore_held (hq : btQp l.bytes = btWp l.bytes) (hb : btBand (btSeal s.btData) = idx.toNat)
    (hp : s.btPinnedIn (btSetOf idx.toNat) idx.toNat < 6) :
    answers (.btRestore idx) s fun t => s.btKeeps t ∧ t.btRuns 0 ∧ t.btBecomes idx.toNat (btSeal s.btData) := by
  refine answers_bt_changed (op := 7) (idx := idx.toNat) (l := { bytes := btSeal s.btData, dirty := true }) hs
    (congrArg (clocked s) ?_) rfl
  have hpl : ∀ x, (s.btBegun 7 idx.toNat).btPlace idx.toNat x
      = (true, (s.btBegun 7 idx.toNat).setBtLine idx.toNat { bytes := x, dirty := true }) := by
    intro x
    unfold State.btPlace
    rw [State.btBegun_cached _ _ hl]
  unfold btRestore
  rw [State.btStartOn_of_named _ _ hl.named, State.btStart_of_idle _ _ _ hl.idle]
  dsimp only
  rw [State.btBegun_cached _ _ hl, State.btBegun_btData, hpl]
  dsimp only
  rw [if_neg (by simp [hq]), State.btBegun_btPinnedIn, if_neg (fun h => Nat.not_le.mpr hp h.2), if_neg (fun h => h hb)]
  rfl

end

/-! ### The other commands -/

/-- CLEAN with nothing dirty writes nothing back. -/
theorem btClean_of_clean {s : State} (hs : s.sysrefOk = true) (hi : s.on MEM_BT_STAT_BUSY = false)
    (hc : ∀ p ∈ s.bt, p.2.dirty = false) :
    answers .btClean s fun t => s.btKeeps t ∧ t.btRuns 0 ∧ t.bt = s.bt ∧ t.mem = s.mem := by
  have he : btClean s = (s.btBegun 5 (s.rd MEM_BT_CMD_INDEX)).btResult 0 := by
    unfold btClean
    rw [State.btStart_of_idle _ _ _ hi, State.foldl_btWriteBack_of_clean (s := s.btBegun 5 (s.rd MEM_BT_CMD_INDEX)) hc]
  obtain ⟨t, ht, hk, hr, hb, hm, -⟩ :=
    answers_bt_ended (i := .btClean) _ hs (congrArg (clocked s) he) (State.btKeeps_of_accessed (s.accessed_btBegun _ _))
      (s.btBegun_busy _ _)
  exact ⟨t, ht, hk, hr, hb, hm⟩

/-- INVAL keeps the dirty and the pinned entries. -/
theorem btInval_of_idle {s : State} (hs : s.sysrefOk = true) (hi : s.on MEM_BT_STAT_BUSY = false) :
    answers .btInval s fun t => s.btKeeps t ∧ t.btRuns 0 ∧ t.bt = s.bt.filter (fun p => p.2.dirty || btPinned p.2) := by
  have he : btInval s = ((s.btBegun 6 (s.rd MEM_BT_CMD_INDEX)).withBt
      (s.bt.filter fun p => p.2.dirty || btPinned p.2) s.btClock).btResult 0 := by
    unfold btInval
    rw [State.btStart_of_idle _ _ _ hi]
    rfl
  obtain ⟨t, ht, hk, hr, hb, -⟩ :=
    answers_bt_ended (i := .btInval) _ hs (congrArg (clocked s) he)
      (State.btKeeps_withBt (State.btKeeps_of_accessed (s.accessed_btBegun _ _)) _ _) (s.btBegun_busy 6 (s.rd MEM_BT_CMD_INDEX))
  exact ⟨t, ht, hk, hr, hb⟩

/-- The commands that name an entry. -/
def btNaming (idx : BitVec 25) : List Instr := [.btRead idx, .btWrite idx, .btOpen idx, .btClose idx, .btRestore idx]

/-- The commands that name an entry start by looking at INDEX. -/
theorem exec_btNaming {c : Instr} {idx : BitVec 25} (s : State) (h : c ∈ btNaming idx) :
    ∃ op run, exec c s = clocked s (s.btStartOn op idx.toNat run) := by
  simp only [btNaming, List.mem_cons, List.not_mem_nil, or_false] at h
  rcases h with rfl | rfl | rfl | rfl | rfl
  · exact ⟨1, _, rfl⟩
  · exact ⟨2, _, rfl⟩
  · exact ⟨3, _, rfl⟩
  · exact ⟨4, _, rfl⟩
  · exact ⟨7, _, rfl⟩

/-- A command whose INDEX names no head changes nothing (R11). -/
theorem btNaming_unnamed {c : Instr} {s : State} {idx : BitVec 25} (hs : s.sysrefOk = true) (h : c ∈ btNaming idx)
    (hn : ¬ hportNamesHead (idx.toNat / 2 ^ 15) = true) : answers c s fun t => t = s := by
  obtain ⟨op, run, he⟩ := exec_btNaming s h
  rw [State.btStartOn_of_unnamed op run hn] at he
  exact answers_of_clocked he hs rfl

/-- The commands of the Band Table. -/
def btCommands (op : BitVec 4) (idx : BitVec 25) : List Instr :=
  [.btRead idx, .btWrite idx, .btOpen idx, .btClose idx, .btClean, .btInval, .btRestore idx, .btInvalidCommand op idx]

/-- While BUSY every command sets ERR to 4 and does nothing else (R263). -/
theorem exec_btCommands_busy {c : Instr} {s : State} {op : BitVec 4} {idx : BitVec 25} (h : c ∈ btCommands op idx)
    (hn : hportNamesHead (idx.toNat / 2 ^ 15) = true) (hb : s.on MEM_BT_STAT_BUSY = true) :
    exec c s = clocked s (s.wr MEM_BT_STAT_ERR 4) := by
  have hc : c ∈ btNaming idx ∨ c = .btClean ∨ c = .btInval ∨ c = .btInvalidCommand op idx := by
    simp only [btCommands, btNaming, List.mem_cons, List.not_mem_nil, or_false] at h ⊢
    rcases h with h | h | h | h | h | h | h | h <;> simp [h]
  rcases hc with hc | rfl | rfl | rfl
  · obtain ⟨op, run, he⟩ := exec_btNaming s hc
    rw [he, State.btStartOn_of_named op run hn, State.btStart_of_busy _ _ _ hb]
  · exact congrArg (clocked s) (State.btStart_of_busy _ _ _ hb)
  · exact congrArg (clocked s) (State.btStart_of_busy _ _ _ hb)
  · exact congrArg (clocked s) (if_pos hb)

theorem State.on_wr_btErr (s : State) (v : Nat) : (s.wr MEM_BT_STAT_ERR v).on MEM_BT_STAT_BUSY = s.on MEM_BT_STAT_BUSY := by
  unfold State.on
  rw [State.rd_wr_disjoint (f := MEM_BT_STAT_ERR) (g := MEM_BT_STAT_BUSY) s v rfl (by decide)]

theorem btCommands_busy {c : Instr} {s : State} {op : BitVec 4} {idx : BitVec 25} (hs : s.sysrefOk = true) (h : c ∈ btCommands op idx)
    (hn : hportNamesHead (idx.toNat / 2 ^ 15) = true) (hb : s.on MEM_BT_STAT_BUSY = true) :
    answers c s fun t => t.rd MEM_BT_STAT_ERR = 4 ∧ t.bt = s.bt ∧ t.mem = s.mem ∧ t.on MEM_BT_STAT_BUSY = true :=
  answers_of_clocked (exec_btCommands_busy h hn hb) hs
    ⟨State.rd_wr s MEM_BT_STAT_ERR 4 (by decide), rfl, rfl, (s.on_wr_btErr 4).trans hb⟩

/-- An OP of 8 to 15 starts nothing and sets ERR to 5 (R263). -/
theorem btInvalidCommand_of_idle {s : State} {op : BitVec 4} (idx : BitVec 25) (hs : s.sysrefOk = true)
    (hi : s.on MEM_BT_STAT_BUSY = false) (ho : 8 ≤ op.toNat) :
    answers (.btInvalidCommand op idx) s fun t =>
      s.btKeeps t ∧ t.rd MEM_BT_STAT_ERR = 5 ∧ t.on MEM_BT_STAT_BUSY = false ∧ t.bt = s.bt := by
  have he : btInvalidCommand op idx s = ((s.wr MEM_BT_CMD_INDEX idx.toNat).wr MEM_BT_CMD_OP op.toNat).wr MEM_BT_STAT_ERR 5 := by
    unfold btInvalidCommand
    rw [if_neg (by simp [hi]), if_neg (by omega)]
    exact if_neg (by omega)
  have hk := State.accessed_wr (State.accessed_wr (State.accessed_wr s.accessed_refl MEM_BT_CMD_INDEX idx.toNat) MEM_BT_CMD_OP op.toNat)
    MEM_BT_STAT_ERR 5
  have hr := State.rd_wr ((s.wr MEM_BT_CMD_INDEX idx.toNat).wr MEM_BT_CMD_OP op.toNat) MEM_BT_STAT_ERR 5 (by decide)
  have hb : (((s.wr MEM_BT_CMD_INDEX idx.toNat).wr MEM_BT_CMD_OP op.toNat).wr MEM_BT_STAT_ERR 5).on MEM_BT_STAT_BUSY = false := by
    rw [State.on_wr_btErr, State.on, State.rd_wr_ne_reg _ _ (by decide), State.rd_wr_ne_reg _ _ (by decide)]
    exact hi
  exact answers_of_clocked (congrArg (clocked s) he) hs ⟨State.btKeeps_of_accessed hk, hr, hb, rfl⟩

/-- A running command finishes: BUSY clears and ERR shows its result (R263). -/
theorem btCommandDone_of_busy {s : State} (hs : s.sysrefOk = true) (hb : s.on MEM_BT_STAT_BUSY = true) :
    answers .btCommandDone s fun t =>
      s.btKeeps t ∧ t.on MEM_BT_STAT_BUSY = false ∧ t.rd MEM_BT_STAT_ERR = s.btErr % 8 ∧ t.bt = s.bt := by
  have hk := State.accessed_wr (State.accessed_put s.accessed_refl MEM_BT_STAT_BUSY false) MEM_BT_STAT_ERR s.btErr
  have hr := State.rd_wr (s.put MEM_BT_STAT_BUSY false) MEM_BT_STAT_ERR s.btErr (by decide)
  have hb' : ((s.put MEM_BT_STAT_BUSY false).wr MEM_BT_STAT_ERR s.btErr).on MEM_BT_STAT_BUSY = false :=
    (State.on_wr_btErr _ _).trans (State.on_put s MEM_BT_STAT_BUSY false (by decide) rfl)
  exact answers_of_clocked (congrArg (clocked s) (if_pos hb)) hs ⟨State.btKeeps_of_accessed hk, hb', hr, rfl⟩

theorem btCommandDone_of_idle {s : State} (hs : s.sysrefOk = true) (hi : s.on MEM_BT_STAT_BUSY = false) :
    answers .btCommandDone s fun t => s.btKeeps t ∧ t = s := by
  have he : btCommandDone s = s := if_neg (by simp [hi])
  exact answers_of_clocked (congrArg (clocked s) he) hs ⟨rfl, rfl⟩

/-- Settles O49, command by command. -/
theorem bandTableCommands : Obligations.BandTableCommands := by
  unfold Obligations.BandTableCommands
  intro s idx op l hs
  have held {p : Prop} (f : s.btHeld idx.toNat l → p) :
      (s.on MEM_BT_STAT_BUSY = false ∧ hportNamesHead (idx.toNat / 2 ^ 15) = true ∧ s.btLine idx.toNat = some l) → p :=
    fun ⟨hi, hn, hc⟩ => f ⟨hi, hn, hc⟩
  refine ⟨held fun h => ?_, held fun h => ⟨?_, ?_, ?_⟩, held fun h => ⟨?_, ?_⟩, held fun h => ⟨?_, ?_⟩, ?_, ?_,
    held fun h => ?_, ?_, ?_, ?_, ?_, ?_⟩
  · exact btRead_held hs h
  · exact btWrite_legal hs h
  · exact btWrite_illegal hs h
  · exact btWrite_unsettled hs h
  · intro hf hp
    obtain ⟨t, ht, hk, hr, hb⟩ := btOpen_free hs h hf hp
    exact ⟨t, ht, hk, hr, _, hb, btState_btOpened _, btWp_btOpened _, btQp_btOpened _, btAdj_btOpened _⟩
  · exact btOpen_not_free hs h
  · intro hf hq
    obtain ⟨t, ht, hk, hr, hb⟩ := btClose_open hs h hf hq
    exact ⟨t, ht, hk, hr, _, hb, btState_setBtState_full _, btWp_setBtState _ _⟩
  · exact btClose_not_open hs h
  · exact btClean_of_clean hs
  · exact btInval_of_idle hs
  · exact btRestore_held hs h
  · exact fun hn c hc => btNaming_unnamed hs hc hn
  · exact btInvalidCommand_of_idle idx hs
  · exact fun hn hb c hc => btCommands_busy hs hc hn hb
  · exact btCommandDone_of_busy hs
  · exact btCommandDone_of_idle hs

end Sys2Proof.Machine
end
